-- ==== Sys2Proof/Word.lean ====
section
/-! DEFINITION. The words of the block: the 40-bit native word, ticks, and sparse tables. -/

namespace Sys2Proof

/-- The native 40-bit word (R9, R102). -/
abbrev W40 := BitVec 40

/-- A TICK value: an unsigned 40-bit count of CK1 periods (R54). -/
abbrev Tick := BitVec 40

/-- A byte of Granary, NVM or host memory. -/
abbrev Byte := BitVec 8

/-- A sparse table from numbers to values: the entries that differ from the table's default, keys rising. -/
abbrev Tab (α : Type) := List (Nat × α)

end Sys2Proof
end

