-- ==== Sys2Proof/Syntax.lean ====
section
/-! DEFINITION. The commands of the block: one constructor per row of spec/opcode_table.json, with its operands.
A letter `m` is the PCIe function that acts, which is its domain (R412); `g` a global sequencer; `t` a tile;
`v` a value written; `off` a BAR0 offset. What the analogue world, the cables or the twin bring into a step stands
as an operand of it. -/

namespace Sys2Proof

/-- What the error-correcting code of Granary memory finds on an access (R267). -/
inductive Ecc where
  | clean          -- no error
  | corrected      -- a single-bit error
  | uncorrectable (block : Nat)  -- an error the code cannot correct, in that block of 32 bytes from the first of the access on
  deriving DecidableEq, Repr

/-- A stretch of a load whose words act as they are written (R98, R293): what the code finds in the words read, and how many are read. -/
structure LoadTurn where
  ecc : Ecc
  words : Nat
  deriving DecidableEq, Repr

/-- An entry of the power-up schedule (Table 19.2). -/
inductive PwrStep where
  | bias (t : Nat)
  | flux (t : Nat)
  | rf (t : Nat)
  | adc (t : Nat)
  | stack (n : Nat)
  deriving DecidableEq, Repr

/-- The five stream flags of a sample (Table 8.2). -/
structure Flags where
  ovr : Bool
  cal : Bool
  deg : Bool
  mp : Bool
  trn : Bool
  deriving DecidableEq, Repr

/-- What the ADC of a feedline takes in one ball tick: the voltages of its 16 samples in µV, one not listed being 0 (R165); and whether the
die-link transfer that carries what is stamped with that tick failed (R15).
[log: 13 DESIGN CHOICE] -/
structure AdcTick where
  uv : List Int
  crcBad : Bool
  deriving DecidableEq, Repr

/-- The result of self-calibration for one slice (R168): feedline, slice, and the corrections it needs in units of their fields. -/
structure SliceCal where
  f : Nat
  j : Nat
  offset : Int
  skew : Int
  gain : Int
  deriving DecidableEq, Repr

/-- A slice that comes back from background calibration (R169, R170): feedline, slice, corrections. -/
structure SliceBack where
  f : Nat
  j : Nat
  offset : BitVec 12
  skew : BitVec 10
  gain : BitVec 16
  deriving DecidableEq, Repr

/-- What the receiver of a port decodes from one frame (R317, R324): lane 0..4 and symbol 0..15, a data byte as its value, a control
symbol as 256 more than its byte, none where the symbol has a code or running-disparity error; the lanes that have no signal (R328);
and the tick at which the frame arrived.
[log: 71 DESIGN CHOICE] -/
structure RxFrame where
  lanes : List (List (Option Nat))
  noSignal : List Nat
  arrival : Tick
  deriving DecidableEq, Repr

/-- A complete time message (Table 16.4), its own arrival stamp, and the stamps as numbers of 1/256 ns. -/
structure TimeMsg where
  dev : Nat
  hops : Nat
  holdover : Bool
  acquired : Bool
  master : Bool
  timeErr : Bool
  mseq : Nat
  tx : Int
  rxMseq : Nat
  rx : Int
  arrival : Int
  deriving DecidableEq, Repr

/-- What the lead checks and the converter report with one conversion (R349, R354, R361-R364): `raw` is the integral, in resistance
mode that of the half under positive excitation, and `neg` that of the half under negative excitation. -/
structure Conv where
  raw : Int
  neg : Int
  openV : Bool
  leadShort : Bool
  deriving DecidableEq, Repr

/-- The outcome of a Gleaner measurement (Table 20.3). -/
structure GleanResult where
  word2 : W40
  before : BitVec 20
  after : BitVec 20
  deriving DecidableEq, Repr

/-- The fields of PCIe configuration space a write may change (R280, R413, R416, R65): single bits, and Max Payload Size and Max Read Request
Size as 128 x 2^k bytes (R411). -/
inductive PcieBit where
  | busMaster
  | msixEnable
  | functionMask
  | vfEnable
  | ptmEnable
  | payload (k : Nat)
  | readRequest (k : Nat)
  deriving DecidableEq, Repr

/-- The twin's half of the pair-start checks (Table 17.2), with bytes 0..3 of its serial number. -/
structure PairHalf where
  part : Nat
  role : Bool
  tmaster : Bool
  rot : List W40
  loaded : Bool
  devnum : Nat
  portFree : Bool
  serial : BitVec 32
  deriving DecidableEq, Repr

/-- A message of the data stream that takes one place: its word and bits 15:0 of its field (Table 17.3). -/
structure WireMsg where
  word : W40
  field : BitVec 16
  deriving DecidableEq, Repr

/-- What the triggers of an engine see: samples from ball tick `base` on, of which the `n` ball ticks from `t0` on are new. -/
structure TrigFeed where
  base : Tick
  t0 : Tick
  n : Nat
  xs : List AdcTick
  deriving DecidableEq, Repr

/-- A trim set of Table 20.1: of a tone and a band, an RF DAC and a band, an ADC slice, a fast flux DAC, a bias DAC and a span, a temperature
sensor, an overload comparator, a window monitor, and a data lane of a port and a band. -/
inductive TrimSet where
  | tone (probe : Bool) (g band : Nat)
  | cell (o band : Nat)
  | slice (a j : Nat)
  | flux (g : Nat)
  | bias (g span : Nat)
  | sensor (u : Nat)
  | overload (a : Nat)
  | monitor (g : Nat)
  | lane (p l band : Nat)
  deriving DecidableEq, Repr

/-- The commands: one constructor per row of the opcode table.
[log: 13 DESIGN CHOICE] -/
inductive Instr where
  | powerOnResetRelease | powerLoss | resetNCycle | perstN | functionLevelReset (m : Nat)
  | pllLock | pllNoLock (refValid : Bool) | pllUnlock | refLost | refRestored | epochAdvance
  | powerupStep (p : PwrStep) | nvmLoadDone (badTrims : List TrimSet) | adcSelfCalDone (t : Nat) (res : List SliceCal)
  | granaryZeroDone | secureBoot | stagingComplete | altImageCheck
  | devEnterReady | devEnterSafe | devEnterSafeTimeout | microTrapFatal
  | dieLinkCrc (t : Nat) (down : Bool) | tileLinkTimeout (t : Nat) | dieLinkLost (t : Nat)
  | modeSequence (m : Nat) (b : Bool) | modeHold (m : Nat) (b : Bool) | modeLoopback (m : Nat) (b : Bool)
  | modeWitness (m : Nat) (b : Bool) | modeFederated (m : Nat) (b : Bool) | modePaired (m : Nat) (b : Bool)
  | loopbackSwitch | loopbackWait | loopbackResume | pairModeMessage (bits : Nat)
  | shotBoundary (g : Nat) | armedStart (g : Nat) | sequencerResume (g : Nat)
  | tickNowRead (m : Nat) | timeSet | timeStep | timeStepResume | timeStepWait | timeReacquire
  | syncInEdge (off : Nat) | loadArm (m : Nat) | syncInStampRead (m : Nat)
  | syncOutFire | syncOutCtlWrite (m : Nat) (v : W40) | syncOutPeriodWrite (m : Nat) (v : W40)
  | ptmDialog | ptmNow (m : Nat) | ptmResponse (turn : BitVec 32) (hi : BitVec 32) (lo : BitVec 32) | ptmFail
  | ptmTickRead (m : Nat)
  | nop (g : Nat) | halt (g : Nat) | shot (g : Nat) | wait (g : Nat) | atCursor (g : Nat) | fence (g : Nat)
  | fenceComplete (g : Nat) | sync (g : Nat) | evwait (g : Nat) | evwaitDeadline (g : Nat)
  | play (g : Nat) | playf (g : Nat) | acq (g : Nat) | setf (g : Nat) | setp (g : Nat) | vz (g : Nat) | seta (g : Nat)
  | bias (g : Nat) | strobe (g : Nat) | brFlags (g : Nat) | brVerdict (g : Nat) | brDeadline (g : Nat)
  | jmp (g : Nat) | call (g : Nat) | ret (g : Nat) | loopBegin (g : Nat) | loopEnd (g : Nat)
  | ldi (g : Nat) | add (g : Nat) | sub (g : Nat) | and (g : Nat) | xor (g : Nat) | cmp (g : Nat) | mark (g : Nat)
  | timelineDispatch (g : Nat) | tileAction (g : Nat)
  | start (m : Nat) (g : Nat) | stop (m : Nat) (g : Nat) | abort (m : Nat) (g : Nat)
  | resumeSkip (m : Nat) (g : Nat) | resumeRetime (m : Nat) (g : Nat) | seqCommit (m : Nat) (g : Nat)
  | seqGregWrite (m : Nat) (g : Nat) (i : Nat) (v : W40)
  | barrierCfgWrite (m : Nat) (b : Nat) (v : W40) | barrierNotice (b : Nat) (dev : Nat) (ad : Tick)
  | barrierRelease (b : Nat)
  | waveCommit (m : Nat) (t : Nat) | drvCommit (m : Nat) (g : Nat) | prbCommit (m : Nat) (g : Nat)
  | fluxCommit (m : Nat) (g : Nat) | xyCfgWrite (m : Nat) (t : Nat) (x : Nat) (v : W40)
  | biasCodeWrite (m : Nat) (c : Nat) (v : W40) | biasStrobe (m : Nat) (t : Nat) (v : W40)
  | biasSlewStep (c : Nat) | spanDwellEnd (c : Nat) | biasIlimit (c : Nat)
  | biasLoadMeasure (c : Nat) (iload : Int) (retDiff : Int) (inl : Nat)
  | adcSelfCal | adcRotationStep (t : Nat) (back : List SliceBack) | adcCtlWrite (m : Nat) (t : Nat) (f : Nat) (v : W40)
  | adcSettled (t : Nat) (f : Nat) | adcRotCtlWrite (m : Nat) (t : Nat) (v : W40)
  | adcOverrange (t : Nat) (f : Nat) (uv : List Int)
  | slotCommit (m : Nat) (g : Nat) | detectorUpdate (g : Nat) (xs : List AdcTick)
  | winnowStep (g : Nat) (k : Nat) (xs : List AdcTick) | finalVerdictPost (g : Nat) (xs : List AdcTick)
  | absentVerdictPost (g : Nat) | resultFlush (p : Nat) | thrKernelLoad (e : Ecc)
  | verdictBusArrival (i : Nat) | bndArmSet (m : Nat) (j : Nat) | bndArmAll (m : Nat) | binderDeadline (j : Nat)
  | bndCommit (m : Nat) | binderCommitWait | bndTableLoad (e : Ecc)
  | coreStart (m : Nat) (k : Nat) | coreStop (m : Nat) (k : Nat)
  | coreNop (k : Nat) | coreMac (k : Nat) | coreAlu (k : Nat) | coreAcc (k : Nat) | coreNorm (k : Nat)
  | coreExp (k : Nat) | coreLdi (k : Nat) | setag (k : Nat) | coreBr (k : Nat) | coreLoop (k : Nat)
  | waitt (k : Nat) | waittTimeout (k : Nat) | rdtap (k : Nat) | post (k : Nat) | coreEvent (k : Nat)
  | coreHalt (k : Nat)
  | tapWrite (k : Nat) (i : Nat) (xs : List AdcTick) (stamp : Tick) | tapCfgWrite (m : Nat) (k : Nat) (i : Nat) (v : W40)
  | witnessEnable (m : Nat) (e : Nat) (v : W40) | witForce (m : Nat) (e : Nat)
  | witnessTriggerCommit (e : Nat) (x : TrigFeed)
  | baleClose (e : Nat) (xs : List AdcTick)
  | witnessRearm (e : Nat) | witStop
  | bar2Read (m : Nat) (a : Nat) (n : Nat) (e : Ecc) | bar2Write (m : Nat) (a : Nat) (bs : List Byte)
  | grRegionWrite (m : Nat) (r : Nat) (v : W40) | scrubDone | ringHeadAdv (m : Nat) (v : W40)
  | msixUnmask (m : Nat) (v : Nat) | drainCopy (h : Nat) (e : Ecc)
  | ringAssign | ringConfig | ringResize (e : Ecc) | ringClear | ringQuery
  | grEvlogWrite (m : Nat) (d : Nat) (v : W40) | evlogFlush (d : Nat)
  | cmdDoorbell (m : Nat) (v : W40) | packetStart (e : Ecc) | replyWrite (e : Ecc) | routineResume (i : Nat)
  | echo | devInfo | seqLoad (e : Ecc) | seqRead | waveLoad (x : LoadTurn) | waveRead | coreLoad (e : Ecc) | coreRead
  | fedLoad (e : Ecc) | fedClear | pairStart | pairHandover | handoverAgreedTick | pairHandoverTimeout | portRetrain
  | attest | loftLoad (e : Ecc) | rollbackAdvance | identityRead | nvmRead | nvmWrite (e : Ecc) | fwInstall (e : Ecc)
  | restSet | linSet (e : Ecc) | monUrgent | monSelftest (wmon : List Nat) (ovl : List Nat)
  | evFire (m : Nat) (v : W40) | eventChannelFire (v : Nat) | evRouteWrite (m : Nat) (u : Nat) (v : W40)
  | evChanCfgWrite (m : Nat) (c : Nat) (v : W40)
  | frameTransmit (p : Nat) | frameReceive (p : Nat) (x : RxFrame) | itemRelease (p : Nat)
  | timeMessageReceive (p : Nat) (x : TimeMsg) | heartbeatMiss (p : Nat) | clockLaneLoss (p : Nat)
  | portCtlWrite (m : Nat) (p : Nat) (v : W40) | trainAutostart (p : Nat)
  | trainPhaseComplete (p : Nat) (unaligned : List Nat) (eyes : List Nat) | trainTimeout (p : Nat)
  | linkEyeLow (p : Nat) (eyes : List Nat) | reachMessage (p : Nat) (x : WireMsg) | reachTimeout (d : Nat)
  | outputCrcMessage (w : W40) (field : BitVec 16) | pairVerdictMessage (w : W40) (field : BitVec 16)
  | compareTimeout (i : Nat) | handoverMessage (n : W40) (recv : Tick)
  | mirrorHeader (p : Nat) (w : W40) (slot : List W40)
  | monConversionDone (x : Conv) | urgentRequest (src : Nat) | senseCfgWrite (m : Nat) (n : Nat) (v : W40)
  | monScanWrite (m : Nat) (e : Nat) (v : W40) | senseComplianceCheck (n : Nat) (ok : Bool) | senseOvervolt (n : Nat)
  | wmonTick (t : Nat) (uv : List Int) | rfOverload (t : Nat) (f : Nat) (uv : Nat)
  | railFault (r : Nat) | thermalSensorUpdate (u : Nat) (reading : Int)
  | thermalThrottle | thermalThrottleClear | thermalShutdown | thermalGraceExpired | shutdownPowerOff
  | thermalTrip (die : Nat) | lifeLedgerWrite (cut : Bool) | thermThrWrite (m : Nat) (v : W40)
  | gleanStart (t : Nat) (task : Nat) (unit : Nat) | gleanComplete (t : Nat) (r : GleanResult)
  | nvmSectorRewrite | trngFail | ownerFieldWrite (m : Nat) (off : Nat) (v : W40) | secDomainsWrite (m : Nat) (v : W40)
  | scanExtest
  | bar0LowWrite (m : Nat) (off : Nat) (v : BitVec 32) | bar0HighWrite (m : Nat) (off : Nat) (v : BitVec 32)
  | bar0LowRead (m : Nat) (off : Nat) | bar0HighRead (m : Nat) (off : Nat)
  | regPartial (m : Nat) (write : Bool) (off : Nat) (size : Nat)
  | vecAllocWrite (m : Nat) (d : Nat) (v : W40) | registerWrite (m : Nat) (off : Nat) (v : W40)
  | mgmtIdentity | mgmtState | mgmtHaltCode | mgmtTmax | mgmtRailOk | mgmtPwrTiles | mgmtInputPower (q : BitVec 16)
  | mgmtSensor (u : Nat) | mgmtWriteNak (code : Nat)
  | vauxPowerUp (straps : Nat) | railToleranceChange (r : Nat) (ok : Bool) | pcieConfigWrite (m : Nat) (b : PcieBit) (on : Bool)
  | pairStartChecksMessage (h : PairHalf) | pairStartTimeout | nvmRewriteDone (weak : Bool) | rollbackBurstDone
  | undefinedOpcode (g : Nat) | coreUndefinedOpcode (k : Nat)
  deriving DecidableEq, Repr

end Sys2Proof
end

