-- ==== Sys2Proof/WellFormed.lean ====
section
/-! DEFINITION. Well-formed commands: every number of a unit lies in the range the larger part gives it (Table 0.1, R5);
a unit that the smaller part lacks is for the meanings to see. -/

namespace Sys2Proof

/-- The operands of a command name units that some part has (R1, R5). -/
def Instr.wf (i : Instr) : Bool :=
  match i with
  | .powerOnResetRelease => true
  | .powerLoss => true
  | .resetNCycle => true
  | .perstN => true
  | .functionLevelReset m => decide (m < 16)
  | .pllLock => true
  | .pllNoLock _ => true
  | .pllUnlock => true
  | .refLost => true
  | .refRestored => true
  | .epochAdvance => true
  | .powerupStep _ => true
  | .nvmLoadDone _ => true
  | .adcSelfCalDone t _ => decide (t < 8)
  | .granaryZeroDone => true
  | .secureBoot => true
  | .stagingComplete => true
  | .altImageCheck => true
  | .devEnterReady => true
  | .devEnterSafe => true
  | .devEnterSafeTimeout => true
  | .microTrapFatal => true
  | .dieLinkCrc t _ => decide (t < 8)
  | .tileLinkTimeout t => decide (t < 8)
  | .dieLinkLost t => decide (t < 8)
  | .modeSequence m _ => decide (m < 16)
  | .modeHold m _ => decide (m < 16)
  | .modeLoopback m _ => decide (m < 16)
  | .modeWitness m _ => decide (m < 16)
  | .modeFederated m _ => decide (m < 16)
  | .modePaired m _ => decide (m < 16)
  | .loopbackSwitch => true
  | .loopbackWait => true
  | .loopbackResume => true
  | .pairModeMessage bits => decide (bits < 0x10000)
  | .shotBoundary g => decide (g < 768)
  | .armedStart g => decide (g < 768)
  | .sequencerResume g => decide (g < 768)
  | .tickNowRead m => decide (m < 16)
  | .timeSet => true
  | .timeStep => true
  | .timeStepResume => true
  | .timeStepWait => true
  | .timeReacquire => true
  | .syncInEdge off => decide (off < 16)
  | .loadArm m => decide (m < 16)
  | .syncInStampRead m => decide (m < 16)
  | .syncOutFire => true
  | .syncOutCtlWrite m _ => decide (m < 16)
  | .syncOutPeriodWrite m _ => decide (m < 16)
  | .ptmDialog => true
  | .ptmNow m => decide (m < 16)
  | .ptmResponse _ _ _ => true
  | .ptmFail => true
  | .ptmTickRead m => decide (m < 16)
  | .nop g => decide (g < 768)
  | .halt g => decide (g < 768)
  | .shot g => decide (g < 768)
  | .wait g => decide (g < 768)
  | .atCursor g => decide (g < 768)
  | .fence g => decide (g < 768)
  | .fenceComplete g => decide (g < 768)
  | .sync g => decide (g < 768)
  | .evwait g => decide (g < 768)
  | .evwaitDeadline g => decide (g < 768)
  | .play g => decide (g < 768)
  | .playf g => decide (g < 768)
  | .acq g => decide (g < 768)
  | .setf g => decide (g < 768)
  | .setp g => decide (g < 768)
  | .vz g => decide (g < 768)
  | .seta g => decide (g < 768)
  | .bias g => decide (g < 768)
  | .strobe g => decide (g < 768)
  | .brFlags g => decide (g < 768)
  | .brVerdict g => decide (g < 768)
  | .brDeadline g => decide (g < 768)
  | .jmp g => decide (g < 768)
  | .call g => decide (g < 768)
  | .ret g => decide (g < 768)
  | .loopBegin g => decide (g < 768)
  | .loopEnd g => decide (g < 768)
  | .ldi g => decide (g < 768)
  | .add g => decide (g < 768)
  | .sub g => decide (g < 768)
  | .and g => decide (g < 768)
  | .xor g => decide (g < 768)
  | .cmp g => decide (g < 768)
  | .mark g => decide (g < 768)
  | .timelineDispatch g => decide (g < 768)
  | .tileAction g => decide (g < 768)
  | .start m g => decide (m < 16) && decide (g < 768)
  | .stop m g => decide (m < 16) && decide (g < 768)
  | .abort m g => decide (m < 16) && decide (g < 768)
  | .resumeSkip m g => decide (m < 16) && decide (g < 768)
  | .resumeRetime m g => decide (m < 16) && decide (g < 768)
  | .seqCommit m g => decide (m < 16) && decide (g < 768)
  | .seqGregWrite m g i _ => decide (m < 16) && decide (g < 768) && decide (i < 16)
  | .barrierCfgWrite m b _ => decide (m < 16) && decide (b < 256)
  | .barrierNotice b dev _ => decide (b < 256) && decide (dev < 16)
  | .barrierRelease b => decide (b < 256)
  | .waveCommit m t => decide (m < 16) && decide (t < 8)
  | .drvCommit m g => decide (m < 16) && decide (g < 768) && decide (g % 96 < 64)
  | .prbCommit m g => decide (m < 16) && decide (g < 768)
  | .fluxCommit m g => decide (m < 16) && decide (g < 768)
  | .xyCfgWrite m t x _ => decide (m < 16) && decide (t < 8) && decide (x < 16)
  | .biasCodeWrite m c _ => decide (m < 16) && decide (c < 768)
  | .biasStrobe m t _ => decide (m < 16) && decide (t < 8)
  | .biasSlewStep c => decide (c < 768)
  | .spanDwellEnd c => decide (c < 768)
  | .biasIlimit c => decide (c < 768)
  | .biasLoadMeasure c _ _ _ => decide (c < 768)
  | .adcSelfCal => true
  | .adcRotationStep t _ => decide (t < 8)
  | .adcCtlWrite m t f _ => decide (m < 16) && decide (t < 8) && decide (f < 8)
  | .adcSettled t f => decide (t < 8) && decide (f < 8)
  | .adcRotCtlWrite m t _ => decide (m < 16) && decide (t < 8)
  | .adcOverrange t f uv => decide (t < 8) && decide (f < 8) && decide (uv.length = 16)
  | .slotCommit m g => decide (m < 16) && decide (g < 768)
  | .detectorUpdate g _ => decide (g < 768)
  | .winnowStep g _ _ => decide (g < 768)
  | .finalVerdictPost g _ => decide (g < 768)
  | .absentVerdictPost g => decide (g < 768)
  | .resultFlush p => decide (p < 0x3002)
  | .thrKernelLoad _ => true
  | .verdictBusArrival _ => true
  | .bndArmSet m j => decide (m < 16) && decide (j < 256)
  | .bndArmAll m => decide (m < 16)
  | .binderDeadline j => decide (j < 256)
  | .bndCommit m => decide (m < 16)
  | .binderCommitWait => true
  | .bndTableLoad _ => true
  | .coreStart m k => decide (m < 16) && decide (k < 128)
  | .coreStop m k => decide (m < 16) && decide (k < 128)
  | .coreNop k => decide (k < 128)
  | .coreMac k => decide (k < 128)
  | .coreAlu k => decide (k < 128)
  | .coreAcc k => decide (k < 128)
  | .coreNorm k => decide (k < 128)
  | .coreExp k => decide (k < 128)
  | .coreLdi k => decide (k < 128)
  | .setag k => decide (k < 128)
  | .coreBr k => decide (k < 128)
  | .coreLoop k => decide (k < 128)
  | .waitt k => decide (k < 128)
  | .waittTimeout k => decide (k < 128)
  | .rdtap k => decide (k < 128)
  | .post k => decide (k < 128)
  | .coreEvent k => decide (k < 128)
  | .coreHalt k => decide (k < 128)
  | .tapWrite k i _ _ => decide (k < 128) && decide (i < 4)
  | .tapCfgWrite m k i _ => decide (m < 16) && decide (k < 128) && decide (i < 5)
  | .witnessEnable m e _ => decide (m < 16) && decide (e < 64)
  | .witForce m e => decide (m < 16) && decide (e < 64)
  | .witnessTriggerCommit e _ => decide (e < 64)
  | .baleClose e _ => decide (e < 64)
  | .witnessRearm e => decide (e < 64)
  | .witStop => true
  | .bar2Read m a n _ => decide (m < 16) && decide (a < 2 ^ 40) && decide (1 ≤ n)
  | .bar2Write m a _ => decide (m < 16) && decide (a < 2 ^ 40)
  | .grRegionWrite m r _ => decide (m < 16) && decide (r < 64)
  | .scrubDone => true
  | .ringHeadAdv m _ => decide (m < 16)
  | .msixUnmask m v => decide (m < 16) && decide (v < 2048)
  | .drainCopy h _ => decide (h < 0x100000)
  | .ringAssign => true
  | .ringConfig => true
  | .ringResize _ => true
  | .ringClear => true
  | .ringQuery => true
  | .grEvlogWrite m d _ => decide (m < 16) && decide (d < 16)
  | .evlogFlush d => decide (d < 16)
  | .cmdDoorbell m _ => decide (m < 16)
  | .packetStart _ => true
  | .replyWrite _ => true
  | .routineResume i => decide (1 ≤ i) && decide (i ≤ 4)
  | .echo => true
  | .devInfo => true
  | .seqLoad _ => true
  | .seqRead => true
  | .waveLoad x => decide (0 < x.words)
  | .waveRead => true
  | .coreLoad _ => true
  | .coreRead => true
  | .fedLoad _ => true
  | .fedClear => true
  | .pairStart => true
  | .pairHandover => true
  | .handoverAgreedTick => true
  | .pairHandoverTimeout => true
  | .portRetrain => true
  | .attest => true
  | .loftLoad _ => true
  | .rollbackAdvance => true
  | .identityRead => true
  | .nvmRead => true
  | .nvmWrite _ => true
  | .fwInstall _ => true
  | .restSet => true
  | .linSet _ => true
  | .monUrgent => true
  | .monSelftest _ _ => true
  | .evFire m _ => decide (m < 16)
  | .eventChannelFire v => decide (v < 512)
  | .evRouteWrite m u _ => decide (m < 16) && decide (u < 5121)
  | .evChanCfgWrite m c _ => decide (m < 16) && decide (c < 512)
  | .frameTransmit p => decide (p < 6)
  | .frameReceive p _ => decide (p < 6)
  | .itemRelease p => decide (p < 6)
  | .timeMessageReceive p _ => decide (p < 6)
  | .heartbeatMiss p => decide (p < 6)
  | .clockLaneLoss p => decide (p < 6)
  | .portCtlWrite m p _ => decide (m < 16) && decide (p < 6)
  | .trainAutostart p => decide (p < 6)
  | .trainPhaseComplete p _ _ => decide (p < 6)
  | .trainTimeout p => decide (p < 6)
  | .linkEyeLow p _ => decide (p < 6)
  | .reachMessage p _ => decide (p < 6)
  | .reachTimeout d => decide (d < 16)
  | .outputCrcMessage _ _ => true
  | .pairVerdictMessage _ _ => true
  | .compareTimeout _ => true
  | .handoverMessage _ _ => true
  | .mirrorHeader p _ _ => decide (p < 6)
  | .monConversionDone _ => true
  | .urgentRequest src => decide (src < 130)
  | .senseCfgWrite m n _ => decide (m < 16) && decide (n < 16)
  | .monScanWrite m e _ => decide (m < 16) && decide (e < 32)
  | .senseComplianceCheck n _ => decide (n < 16)
  | .senseOvervolt n => decide (n < 16)
  | .wmonTick t _ => decide (t < 8)
  | .rfOverload t f _ => decide (t < 8) && decide (f < 8)
  | .railFault r => decide (r < 16)
  | .thermalSensorUpdate u _ => decide (u < 42)
  | .thermalThrottle => true
  | .thermalThrottleClear => true
  | .thermalShutdown => true
  | .thermalGraceExpired => true
  | .shutdownPowerOff => true
  | .thermalTrip die => decide (die < 16)
  | .lifeLedgerWrite _ => true
  | .thermThrWrite m _ => decide (m < 16)
  | .gleanStart t task _ => decide (t < 8) && decide (task < 16)
  | .gleanComplete t _ => decide (t < 8)
  | .nvmSectorRewrite => true
  | .trngFail => true
  | .ownerFieldWrite m off _ => decide (m < 16) && decide (off < 0x4000000) && decide (off % 8 = 0)
  | .secDomainsWrite m _ => decide (m < 16)
  | .scanExtest => true
  | .bar0LowWrite m off _ => decide (m < 16) && decide (off < 0x4000000) && decide (off % 8 = 0)
  | .bar0HighWrite m off _ => decide (m < 16) && decide (off < 0x4000000) && decide (off % 8 = 0)
  | .bar0LowRead m off => decide (m < 16) && decide (off < 0x4000000) && decide (off % 8 = 0)
  | .bar0HighRead m off => decide (m < 16) && decide (off < 0x4000000) && decide (off % 8 = 0)
  | .regPartial m _ off _ => decide (m < 16) && decide (off < 0x4000000)
  | .vecAllocWrite m d _ => decide (m < 16) && decide (d < 16)
  | .registerWrite m off _ => decide (m < 16) && decide (off < 0x4000000) && decide (off % 8 = 0)
  | .mgmtIdentity => true
  | .mgmtState => true
  | .mgmtHaltCode => true
  | .mgmtTmax => true
  | .mgmtRailOk => true
  | .mgmtPwrTiles => true
  | .mgmtInputPower _ => true
  | .mgmtSensor u => decide (u < 256)
  | .mgmtWriteNak code => decide (code < 256)
  | .vauxPowerUp straps => decide (straps < 64)
  | .railToleranceChange r _ => decide (r < 16)
  | .pcieConfigWrite m _ _ => decide (m < 16)
  | .pairStartChecksMessage _ => true
  | .pairStartTimeout => true
  | .nvmRewriteDone _ => true
  | .rollbackBurstDone => true
  | .undefinedOpcode g => decide (g < 768)
  | .coreUndefinedOpcode k => decide (k < 128)

end Sys2Proof
end

