-- ==== Sys2Proof/Decode.lean ====
section
/-! DEFINITION. The decoder of the table's words: no row of the table has bits, so no word spells a command. -/

namespace Sys2Proof

/-- The command that a word of the table spells: none, for the rows of this table have no encoding. -/
def decodeTableWord (_nbits _w : Nat) : Option Instr := none

end Sys2Proof
end

