-- ==== Sys2Proof/Config.lean ====
section
/-! DEFINITION. What an implementation fixes and the specification leaves open: constants without a body, so that no
statement can rest on their values. -/

namespace Sys2Proof.Config

/-- A value the specification leaves open, one for each use: the `n`-th free word of the run.
[log: 3 DESIGN CHOICE] -/
opaque freeWord : Nat → BitVec 40

/-- What a byte of Granary memory reads as while its stacks are not powered or not zeroed: use of the run, address (R266, R383).
[log: 3 DESIGN CHOICE] -/
opaque memByte : Nat → Nat → BitVec 8

/-- The factory figure IMAGE of RF output 24t + o in a band, in 0.25 dB (Table 20.4).
[log: 32 DESIGN CHOICE] -/
opaque factoryImage : Nat → Nat → BitVec 10

/-- SHA-512 of a list of bytes (R395, R397).
[log: 14 DESIGN CHOICE] -/
opaque sha512 : List (BitVec 8) → BitVec 512

/-- Whether an Ed25519 signature over a digest verifies with a public key (RFC 8032, R395): the digest, the 32 bytes of the key, the 64 of the
signature.
[log: 14 DESIGN CHOICE] -/
opaque verifiesEd25519 : BitVec 512 → List (BitVec 8) → List (BitVec 8) → Bool

/-- Whether an ML-DSA-65 signature over a digest verifies with a public key (FIPS 204, R395): the digest, the 1,952 bytes of the key, the 3,309
of the signature. -/
opaque verifiesMlDsa65 : BitVec 512 → List (BitVec 8) → List (BitVec 8) → Bool

/-- The SHA-512 fused in key slot `n` (R397). -/
opaque keySlot : Nat → BitVec 512

/-- Byte `i` of the 64 of the Ed25519 signature of the device over a digest (RFC 8032, R395, R403). -/
opaque ed25519Byte : BitVec 512 → Nat → BitVec 8

/-- Byte `i` of the 3,309 of the ML-DSA-65 signature of the device over a digest, hedged with the use of the TRNG that the second argument
numbers (FIPS 204, R395, R403). -/
opaque mlDsa65Byte : BitVec 512 → Nat → Nat → BitVec 8

/-- Byte `i` of the identity public keys: Ed25519, 32 bytes, then ML-DSA-65, 1,952 bytes (R401, Table 21.4). -/
opaque identityKey : Nat → BitVec 8

/-- The DER bytes of the two certificates of the identity keys: `false` Ed25519, `true` ML-DSA-65 (R401, Table 21.4). -/
opaque certificate : Bool → List (BitVec 8)

/-- A byte of the NVM region of the boot selector, the factory trims, the rest codes, the linearisation sets, the life ledger and the write
journal (Table 21.1): the contents that the device keeps there, in a list of numbers, and the NVM address. The spec gives no layout. -/
opaque regionByte : List Int → Nat → BitVec 8

/-- SHA-512 of the boot ROM (Table 21.5). -/
opaque romDigest : BitVec 512

/-- The impulse response of the envelope interpolator in units of 2^-19, at a distance in 1/256 ns (R130): one response for
every polyphase branch. Its coefficients are not in the specification.
[log: 105 DESIGN CHOICE] -/
opaque interpKernel : Int → Int

/-- The impulse response of the fractional-delay filter of the flux path in units of 2^-19, at a distance in 1/256 ns (R139).
[log: 105 DESIGN CHOICE] -/
opaque delayKernel : Int → Int

/-- A factory quality figure that the NVM holds for a unit: FACTORY_SNDR of ADC `a` at `a`, FACTORY_INL of bias channel `g`
in span `k` at 1,000 + 4g + k (R386; the registers reset from NVM).
[log: 32 DESIGN CHOICE] -/
opaque factoryFigure : Nat → BitVec 16

/-- The initial corrections of slice `j` of ADC `a` that the factory wrote, laid out as in ADC_SLICE (Table 20.1). The spec gives no value.
[log: 163 DEDUCED] -/
opaque factorySlice : Nat → Nat → BitVec 40

/-- A coefficient c[k / 3][k mod 3] of the factory set of a monitor source, an s40 value of code / 2^24 (Linearisation). The spec gives the
form of the set and its FRAC of 16, and no coefficient. -/
opaque factoryCoef : Nat → Nat → BitVec 40

/-- The factory trims of a tone at one of the 64 frequencies of a band's table (R137): PTRIM in bits 39:20 and GAIN in bits 19:0.
Arguments: tone number (a probe tone counts from 1,000), band, entry 0..63.
[log: 32 DESIGN CHOICE] -/
opaque toneTrim : Nat → Nat → Nat → BitVec 40

/-- The factory carrier trims of a tone at one of the 64 frequencies of a band's table: CAR_I in bits 39:20, CAR_Q in bits 19:0 (R137).
[log: 32 DESIGN CHOICE] -/
opaque toneCarrier : Nat → Nat → Nat → BitVec 40

/-- The cosine of a 24-bit phase as the NCO gives it, s20 (R129).
[log: 105 DESIGN CHOICE] -/
opaque cosine : BitVec 24 → BitVec 20

/-- The sine of a 24-bit phase as the NCO gives it, s20 (R129).
[log: 105 DESIGN CHOICE] -/
opaque sine : BitVec 24 → BitVec 20

/-- The response of the channelizer for a band at a distance in samples of 1/16 ns: real part in bits 39:20, imaginary part in bits 19:0,
s20 each (R174). Its coefficients are not in the specification.
[log: 105 DESIGN CHOICE] -/
opaque bandTap : Nat → Nat → BitVec 40

/-- Tap of the linear-phase set of the slot FIR for a bandwidth, s20; taps 0..15 give the symmetric filter (R178).
[log: 105 DESIGN CHOICE] -/
opaque linTap : Nat → Nat → BitVec 20

/-- Tap 0..31 of the minimum-phase set of the slot FIR for a bandwidth, s20 (R178).
[log: 105 DESIGN CHOICE] -/
opaque minTap : Nat → Nat → BitVec 20

/-- Whether REF_IN is valid while the root PLL is not locked to it (R52, R53): REF_LOSS_COUNT, FULLTIME. -/
opaque refIn : Nat → BitVec 64 → Bool

/-- The PRBS-31 sequence that a port sends on a data lane in EQUALIZE: port, lane, symbol of FULLTIME (Table 16.6); its seed is not in the
specification.
[log: 148 DESIGN CHOICE] -/
opaque prbsByte : Nat → Nat → Nat → BitVec 8

/-- Whether no sequencer of the twin is inside a shot at a FULLTIME, as the pair port shows it (R46).
[log: 106 DESIGN CHOICE] -/
opaque twinQuiet : BitVec 64 → Bool

end Sys2Proof.Config
end

