-- ==== Sys2Proof/Machine/State.lean ====
section
/-! DEFINITION. The state of the block as plain data, the reasons a step can stop, and the state after reset. -/

namespace Sys2Proof.Machine

/-- Reasons a step of the machine stops. No command of this block raises one: a unit reports its faults by records,
status codes and its own stop states (R438, R444, R447). The constructor is raised by nobody; it is safe. -/
inductive Fault where
  | noCommandFaults
  deriving DecidableEq, Repr

/-- Reasons a command has no meaning. -/
inductive Refusal where
  /-- Raised by `exec` for a row that has no meaning yet; safe. -/
  | notModelled (mnemonic : String)
  deriving DecidableEq, Repr

/-- The orderable parts (R1). -/
inductive Part where
  | q512
  | q256
  deriving DecidableEq, Repr

/-- Lifecycle states (R28). -/
inductive Life where
  | off | staging | safe | ready | stopping | halted
  deriving DecidableEq, Repr

/-- What manufacture fixes (R1, DEV_ID, DEV_SERIAL, DEV_CAPS).
[log: 5 DESIGN CHOICE] -/
structure Fuses where
  part : Part := .q512
  stepping : Nat := 1
  serial : BitVec 80 := 0
  romVer : BitVec 8 := 0
  deriving DecidableEq, Repr

/-- An error record (Table 24.1) with the domains whose logs take it besides domain 0 (R283), whether its unit is
secure (R409), and its place among the records of one tick (R441, R48). -/
structure Rec where
  tick : Tick
  epoch : BitVec 24
  source : BitVec 16
  code : BitVec 16
  sev : BitVec 4
  detail : BitVec 20 := 0
  word3 : W40 := 0
  doms : List Nat := []
  secure : Bool := false
  key : Nat := 0
  deriving DecidableEq, Repr

/-- A half-filled two-record slot (R205, R441): its first four words and the tick at which it is written alone. -/
structure Half where
  words : List W40
  flushAt : Tick
  ring : Nat
  deriving DecidableEq, Repr

/-- Error-record delivery (R441, R442). -/
structure Log where
  pool : List Rec := []
  early : List Rec := []
  earlyOn : Bool := true
  half : Tab Half := []
  deriving DecidableEq, Repr

/-- A requested time step (R58, R63, R68): a FULLTIME to load, or a whole number of ticks to add. -/
inductive StepKind where
  | load (full : BitVec 64)
  | shift (n : Int)
  | acquire (n : Int)
  deriving DecidableEq, Repr

/-- A pending time step: what it does, the phase residue in 1/1024 ns, the tick of the request, and Q once it is known. -/
structure StepReq where
  kind : StepKind
  phase : Int := 0
  at_ : Tick
  quiet : Option Tick := none
  waited : Bool := false
  sync : Bool := false
  deriving DecidableEq, Repr

/-- A stamped SYNC_IN edge (R62). -/
structure Edge where
  tick : Tick
  epoch : BitVec 24
  off : Nat
  deriving DecidableEq, Repr

/-- A correlated pair of FULLTIME and PTM master time (R65). -/
structure PtmPair where
  tick : Tick := 0
  epoch : BitVec 24 := 0
  seq : Nat := 0
  host : BitVec 64 := 0
  deriving DecidableEq, Repr

/-- Clocks and shared time. The status words stand in the register file. `phase` is the phase of the clock tree reached, in 1/1024 ns,
and `slew` the shift under way (R59, R63): the tick at which it began and its whole extent. `stepAcq` says that the step that
the device resumes from is an acquisition's (R68). `shifts` holds the time steps made, newest first: the tick from which TICK counts anew,
and by how much it counts more. `refAt` is the tick of the last REF_LOST while it is not long past (R53). -/
structure TimeS where
  locked : Bool := false
  counting : Bool := false
  everLocked : Bool := false
  refValid : Bool := false
  refAt : Option Tick := none
  tick : Tick := 0
  epoch : BitVec 24 := 0
  req : Option StepReq := none
  resume : Option Tick := none
  fifo : List Edge := []
  lastEdge : Option (BitVec 64) := none
  overflowed : Bool := false
  fireNext : Option Tick := none
  pulseEnd : Option Tick := none
  ptmOut : Option Tick := none
  ptmNext : Option Tick := none
  ptmCount : Nat := 0
  ptm : PtmPair := {}
  phase : Int := 0
  slew : Option (Tick × Int) := none
  shifts : List (Tick × Int) := []
  acquiring : Bool := false
  stepAcq : Bool := false
  deriving DecidableEq, Repr

/-- States of a sequencer (Table 4.1). -/
inductive SeqSt where
  | idle | armed | running | waiting | stopped | stalled | done | faulted
  deriving DecidableEq, Repr

/-- A loop-stack entry (R123). -/
structure LoopE where
  first : Nat
  left : W40
  deriving DecidableEq, Repr

/-- What a timeline entry does at its launch tick (R111-R115). -/
inductive Act where
  | play (probe : Bool) (o u wid : Nat)
  | playf (o u wid : Nat)
  | acq (window : Nat) (shot : W40)
  | setf (probe : Bool) (bank : Nat) (freq : Option W40)
  | setp (probe : Bool) (val : BitVec 20)
  | vz (probe : Bool) (val : BitVec 20)
  | seta (probe : Bool) (val : BitVec 20)
  | bias (code : BitVec 20)
  | strobe
  deriving DecidableEq, Repr

/-- A timeline entry: its launch tick, its action, and its end tick as fixed at issue (R77, R96). -/
structure QEntry where
  launch : Tick
  act : Act
  fin : Tick
  deriving DecidableEq, Repr

/-- A two-word BR that waits (R84, R116). -/
structure BrWait where
  src : Nat
  index : Nat
  bit : Nat
  final : Bool
  test : Nat
  cond : Nat
  conf : Nat
  neg : Bool
  abs : Bool
  target : Nat
  next : Nat
  dl : Option Tick
  deriving DecidableEq, Repr

/-- What a sequencer in WAITING waits for; `hold` is a SYNC that has been fetched and is held until its cursor tick (R121). -/
inductive Wait where
  | none
  | br (w : BrWait)
  | ev (input : Nat) (dl : Option Tick)
  | hold (b : Nat) (x : Tick)
  | sync (b : Nat)
  | fence (x : Tick)
  deriving DecidableEq, Repr

/-- The latch of an event input (R120, R313). -/
structure EvLatch where
  set : Bool := false
  depth : Nat := 0
  deriving DecidableEq, Repr

/-- A declared boundary (R87): B, the gap, and whether HALT declared it. -/
structure Bound where
  b : Tick
  gap : Nat
  halt : Bool
  deriving DecidableEq, Repr

/-- One sequencer (R73, R74). `roomAt` is the tick after an entry was dispatched from a full queue (R78). -/
structure Seq where
  st : SeqSt := .idle
  stopReason : Nat := 0
  imem : Tab W40 := []
  g : Tab W40 := []
  loops : List LoopE := []
  calls : List Nat := []
  queue : List QEntry := []
  cursor : Tick := 0
  shot : W40 := 0
  hzn : Tick := 0
  start : Tick := 0
  pc : Nat := 0
  z : Bool := false
  lt : Bool := false
  ltu : Bool := false
  later : Bool := false
  tO : Bool := false
  orphan : Bool := false
  unbHeld : Bool := false
  unbDev : Nat := 0
  latch0 : EvLatch := {}
  latch1 : EvLatch := {}
  depth : Nat := 0
  wait : Wait := .none
  bound : Option Bound := none
  ends : Option Tick := none
  lateSeen : Bool := false
  stalled : Option QEntry := none
  stopReq : Bool := false
  issueAt : Tick := 0
  roomAt : Option Tick := none
  commits : List Nat := []
  modePend : Bool := false
  effSeq : Bool := false
  effHold : Bool := false
  effPair : Bool := false
  bandPend : Bool := false
  quietTo : Option Tick := none
  quietAt : Tick := 0
  resumeB : Tick := 0
  deriving DecidableEq, Repr

/-- A barrier (R92): arrivals of the present and the next use, notices held with their A_d, the completion tick A_d
of the local part, and the release tick. `solo` holds the arrivals at a barrier of LOCAL_COUNT 0 without other devices, each
with its own release tick, and those that have failed at their own arrival, marked true (R94, R336). `nextFirst` is the A_d of the first notice of the next use that another device of the mask has
sent, and `lastRel` the release tick of the previous use with its EPOCH. -/
structure Barrier where
  nextFirst : Option Tick := none
  lastRel : Option (Tick × BitVec 24) := none
  solo : List (Nat × Tick × Bool) := []
  now : List Nat := []
  next : List Nat := []
  notices : Tab Tick := []
  nextNotices : Tab Tick := []
  localAt : Option Tick := none
  release : Option Tick := none
  sent : Bool := false
  failed : Bool := false
  deriving DecidableEq, Repr

/-- The settings of a tone that its samples are computed with (R129): enable, frequency word, POFS and VZ added up, amplitude, and
the trims of the calibration set. -/
structure ToneSet where
  en : Bool := false
  freq : W40 := 0
  pofs : BitVec 20 := 0
  amp : BitVec 20 := 0
  gain : BitVec 20 := 0x80000
  ptrim : BitVec 20 := 0
  carI : Int := 0
  carQ : Int := 0
  deriving DecidableEq, Repr

/-- An envelope under way on a tone or a flux channel (R96, R130, R139), with the settings of its tone at its launch (R77, R100). -/
structure Env where
  start : Tick
  fin : Tick
  o : Nat
  u : Nat
  desc : W40
  kindOk : Bool
  set : ToneSet := {}
  deriving DecidableEq, Repr

/-- A drive or probe tone: what its registers do not hold (R129-R137, R392). -/
structure Tone where
  vz : BitVec 20 := 0
  band : Nat := 0
  stale : Bool := false
  gain : BitVec 20 := 0x80000
  ptrim : BitVec 20 := 0
  carI : BitVec 20 := 0
  carQ : BitVec 20 := 0
  di : BitVec 20 := 0
  dq : BitVec 20 := 0
  comm : Tab W40 := []
  trimmed : Bool := false
  figure : Nat := 0
  glean : Option (W40 × BitVec 20 × BitVec 20) := none
  env : Option Env := none
  deriving DecidableEq, Repr

/-- A fast flux channel: filter state of the four IIR terms (s40, the sample's 20 bits above 20 bits of fraction), past samples of v
(newest first), past samples of the stream before its fractional delay with that delay in 1/256 ns, which run on after an action, the envelope under way, and the set of registers that an action
still under way goes on with after a commit, until its end tick (R100, R138-R140). -/
structure Flux where
  iir : List Int := [0, 0, 0, 0]
  past : List Int := []
  line : List Int := []
  delay : Nat := 0
  env : Option Env := none
  hold : Option (Tick × Tab W40) := none
  deriving DecidableEq, Repr

/-- An RF or flux output: whether it has switched in the present handover, CRC of the program stream, mute by the Gleaner, cell trim
(R135, R344, R389); the codes computed in the last 11 ticks and the DAC input of the last 6, newest tick first, a tick not listed
having carried zeros (Table 6.5, R143); and whether its ball lets the DAC through, with the tick at which that began. -/
structure Output where
  pipe : List (List Int) := []
  dac : List (List Int) := []
  ball : Option (Bool × Tick) := none
  switched : Bool := false
  crc : BitVec 32 := 0xFFFFFFFF
  crcAt : Tick := 0
  cmpOn : Bool := false
  gleanMute : Bool := false
  cell : W40 := 0
  cellPend : Option (W40 × W40) := none
  deriving DecidableEq, Repr

/-- Phases of a bias output's movement (R155, R158). -/
inductive BiasPhase where
  | idle
  | slew
  | toZero
  | dwellA (fin : Tick)
  | dwellB (fin : Tick)
  | final
  deriving DecidableEq, Repr

/-- A bias channel (R149-R164). `aim` is where the output moves, `target` the target in force behind it; `loaded`
says that a strobe has loaded it since the output last went to rest for a lifecycle state. `seen` is the code at the last tick, and
`held` the ticks for which it has stood, up to 1 ms. -/
structure Bias where
  out : Int := 0
  span : Nat := 0
  target : Int := 0
  aim : Int := 0
  aimSpan : Nat := 0
  phase : BiasPhase := .idle
  nextAt : Option Tick := none
  rest : Bool := false
  connected : Bool := false
  restCode : Int := 0
  restSpan : Nat := 0
  loaded : Bool := false
  openCnt : Nat := 0
  retCnt : Nat := 0
  seen : Int := 0
  held : Nat := 0
  deriving DecidableEq, Repr

/-- What marks the samples of an ADC at a ball tick (R167, R168, R172): CAL, DEG, and `off` where the stream carries zeros. -/
structure AdcMark where
  cal : Bool
  deg : Bool
  off : Bool
  deriving DecidableEq, Repr

/-- A readout ADC: ends of settling and of self-calibration, the spare index, the tick from which its tile rotates with the settings in
force while it is not long past (R167-R172); `whole` says that it has rotated on since r last wrapped to 0; the marks of its samples with the ball ticks
from which they hold, newest first, the last for all ticks before. -/
structure Adc where
  settle : Option Tick := none
  cal : Option Tick := none
  rot : Nat := 32
  rotFrom : Option Tick := none
  whole : Bool := false
  marks : List (Tick × AdcMark) := [(0, ⟨true, false, true⟩)]
  deriving DecidableEq, Repr

/-- A window of a tone slot (R190): launch, length, shot, the settings in force at its launch, its decimation, kernel
page, filter set, what it has posted early, and whether a transfer of it failed. -/
structure Win where
  t : Tick
  w : Nat
  shot : W40
  snap : Tab W40
  kern : Tab W40
  minPh : Bool
  steps : Nat := 0
  early : Option Nat := none
  crcBad : Bool := false
  deriving DecidableEq, Repr

/-- The settings of the readout chain of a slot (R186): SLOT_CFG, SLOT_GAIN and SLOT_DET. -/
structure ChainSet where
  cfg : W40
  gain : W40
  det : W40
  deriving DecidableEq, Repr

/-- A tone slot: windows that have not posted, kernel pages, commit held by a kernel load (R191, R299); `trn` holds the changes
whose samples carry TRN (R185, R186), each with its kind: 0 a change of the chain at a ball tick, 1 a relay switch. `probes` (FREQ, POFS
and VZ added up), `chain` and `sets` (the filter set) hold past settings with the ball ticks from which they apply, newest first, the
last for all ticks before; where one lists nothing, the settings in force have always applied (R175, R182, R186). `detAt` is the stamp of
the last detector interval, `counted` that of the last sample seen for SAT_COUNT, and `lastPost` the
posting tick of the last verdict (R198). -/
structure Slot where
  wins : List Win := []
  page0 : Tab W40 := []
  page1 : Tab W40 := []
  loading : Bool := false
  held : Bool := false
  trn : List (Nat × Tick) := []
  probes : List (Tick × (W40 × BitVec 20)) := []
  chain : List (Tick × ChainSet) := []
  sets : List (Tick × Bool) := []
  counted : Option Tick := none
  lastPost : Option Tick := none
  detAt : Option Tick := none
  fsetAt : Option Tick := none
  deriving DecidableEq, Repr

/-- A verdict posted but not yet at the bus (R209); `sent` says that one of this device has gone to the peers and the twin, and `taken` that
it has reached the bus in its own posting tick, at whose end it goes to them. -/
structure Posted where
  at_ : Tick
  word : W40
  ref : Tick
  remote : Bool := false
  sent : Bool := false
  taken : Bool := false
  deriving DecidableEq, Repr

/-- The latest verdict at an index as the bus shows it, and as the sequencers hold it (R83, R210). -/
structure VEnt where
  word : W40 := 0
  ref : Tick := 0
  seqWord : W40 := 0
  seqRef : Tick := 0
  deriving DecidableEq, Repr

/-- States of a parity set (R216). -/
inductive SetSt where
  | empty | opn | decided
  deriving DecidableEq, Repr

/-- A parity set: the members accepted with shot, reference tick and earliness of the verdict that decided each (R216), and the members
missing at its decision (R217). -/
structure PSet where
  st : SetSt := .empty
  got : Tab (Nat × Tick × Bool) := []
  miss : Nat := 0
  p : Bool := false
  a : Bool := false
  hb : Tick := 0
  shown : Bool := false
  shownP : Bool := false
  shownA : Bool := false
  seqP : Option Bool := some false
  absentSeen : Bool := false
  pend : Bool := false
  deriving DecidableEq, Repr

/-- A lookup decoder (R219-R223). -/
structure Decoder where
  tab0 : Tab W40 := []
  tab1 : Tab W40 := []
  page : Bool := false
  at_ : Tick := 0
  ready : Bool := false
  pend : Bool := false
  loading : Bool := false
  held : Bool := false
  deriving DecidableEq, Repr

/-- What has reached the Binder in the present tick (R209, R216): a verdict with its tick, word and reference, or the deadline of a set. -/
inductive BndIn where
  | verdict (x : Tick) (word : W40) (ref : Tick)
  | deadline (x : Tick) (j : Nat)
  deriving DecidableEq, Repr

/-- The Binder as a whole; `inbox` is what acts as the tick ends, after the openings of the tick (R216). -/
structure Binder where
  inbox : List BndIn := []
  sets : Tab PSet := []
  decs : Tab Decoder := []
  goAt : Option Tick := none
  waited : Bool := false
  deriving DecidableEq, Repr

/-- States of a signal core (Table 11.1). -/
inductive CoreSt where
  | idle | running | waiting | halted | faulted
  deriving DecidableEq, Repr

/-- An address generator (R234). -/
structure AG where
  ptr : Nat := 0
  base : Nat := 0
  len : Nat := 0
  mod : Int := 0
  deriving DecidableEq, Repr

/-- A loop-stack entry of a core (R247). -/
structure CLoop where
  first : Nat
  fin : Nat
  left : Nat
  deriving DecidableEq, Repr

/-- A tap's running state (R236, R237): the samples written since START (TAP_COUNT shows them modulo 2^40), stamp and flag set; the tick and address of its last write, with what stood there
and the stamp and flags before it, which the rest of that tick still sees (R228), and the flags of the sample written. -/
structure Tap where
  count : Nat := 0
  stamp : Tick := 0
  flags : Flags := ⟨false, false, false, false, false⟩
  wrote : Option (Tick × Nat) := none
  oldWord : W40 := 0
  oldStamp : Tick := 0
  oldFlags : Flags := ⟨false, false, false, false, false⟩
  newFlags : Flags := ⟨false, false, false, false, false⟩
  deriving DecidableEq, Repr

/-- A signal core (R227). `metAt` is the tick at which a core in WAITT sees the sample that reaches its count (R246). -/
structure Core where
  st : CoreSt := .idle
  pc : Nat := 0
  prog : Tab (BitVec 80) := []
  db0 : Tab W40 := []
  db1 : Tab W40 := []
  d : Tab W40 := []
  acc0 : BitVec 88 := 0
  acc1 : BitVec 88 := 0
  ag : Tab AG := []
  z : Bool := false
  n : Bool := false
  tO : Bool := false
  loops : List CLoop := []
  taps : Tab Tap := []
  kind : Nat := 0
  waitDl : Option Tick := none
  metAt : Option Tick := none
  nextAt : Tick := 0
  stored : List (Tick × Nat × Nat) := []
  deriving DecidableEq, Repr

/-- States of a witness engine (WIT_STATUS). -/
inductive WitSt where
  | off | holdoff | armed | recording
  deriving DecidableEq, Repr

/-- A cause met at a trigger sample (Table 12.2), with the tick of FULLTIME at which the engine meets it and the depth of its event.
Positions count 1/16 ns of FULLTIME. -/
structure Met where
  cause : Nat
  pos : Int
  tick : Int
  depth : Nat
  deriving DecidableEq, Repr

/-- The slots of a closed Bale in its ring: BASE and LENGTH, the count of its first slot, and the slots that it may take (R262, R273). -/
structure BalePlace where
  base : Nat
  length : Nat
  tail : W40
  room : Nat
  deriving DecidableEq, Repr

/-- A committed Bale (R256, R262): its trigger sample, its first sample, its samples before the trigger and in all, the free slots of its
ring at its commit, WIT_CTL and WIT_MEAS; and for a closed one its BALE_NO and its slots. -/
structure Bale where
  causes : Nat
  primary : Nat
  pos : Int
  first : Int
  preHave : Nat
  n : Nat
  free : Nat
  gap : Bool
  ctl : W40
  meas : W40
  no : Nat := 0
  closeNow : Bool := false
  timeStep : Bool := false
  depth : Nat := 0
  place : Option BalePlace := none
  deriving DecidableEq, Repr

/-- A witness engine (R250-R263): the open Bale, and those closed early whose samples are still to come, oldest first; causes met and not
yet used; positions from which it is armed, from which it records, of the last sample of its last Bale, and at which hold-off ends; the
tick of FULLTIME until which its last Bale was open; the causes that hold-off still ignores; and the band states of its two triggers (none
for NEITHER, true for ABOVE) with the position up to which each has seen its quantity. -/
structure Wit where
  st : WitSt := .off
  res : Nat := 0
  bale : Option Bale := none
  closed : List Bale := []
  met : List Met := []
  no : Nat := 0
  armedAt : Int := 0
  enAt : Int := 0
  lastEnd : Option Int := none
  hoEnd : Option Int := none
  busyTo : Int := 0
  hoLeft : Nat := 0
  gap : Bool := false
  band0 : Option Bool := none
  band1 : Option Bool := none
  seen0 : Int := 0
  seen1 : Int := 0
  deriving DecidableEq, Repr

/-- A ring descriptor (Table 13.1). -/
structure Ring where
  base : Nat := 0
  length : Nat := 0
  tail : W40 := 0
  head : W40 := 0
  type : Nat := 0
  owner : Nat := 0
  secure : Bool := false
  wmArmed : Bool := false
  vector : Nat := 0
  forced : Bool := false
  watermark : Nat := 0
  w6 : W40 := 0
  w7 : W40 := 0
  w8 : W40 := 0
  drained : Bool := false
  drainer : Nat := 0
  fullDrops : Nat := 0
  disDrops : Nat := 0
  lastDrop : Tick := 0
  eccStop : Bool := false
  deriving DecidableEq, Repr

/-- A result record of a slot or a core made at a posting tick: its producer, ring, owner domain, flush time and words (R205, R241). -/
structure ResRec where
  at_ : Tick
  key : Nat
  ring : Nat
  dom : Nat
  flush : Nat
  words : List W40
  deriving DecidableEq, Repr

/-- The Granary: memory, rings, a region change that waits for its scrub, host memory (R264-R283, R407); the result records of verdicts
whose posting tick has not ended (R449), and the producers that have had a record refused since their drop counter read 0 (R205). -/
structure Gran where
  mem : List Host.Cell := []
  rings : Tab Ring := []
  scrub : Option (Nat × W40) := none
  unmapped : Bool := false
  hostMem : List Host.Cell := []
  resQ : List (Nat × Nat × List W40) := []
  spent : Nat := 0
  overran : Bool := false
  made : List ResRec := []
  refused : List Nat := []
  deriving DecidableEq, Repr

/-- A packet that the engine has taken (R289-R295): its ring, slots, header, parameters, and how it ended. -/
structure Routine where
  ring : Nat
  dom : Nat
  secure : Bool
  slots : Nat
  opcode : Nat
  flags : Nat
  tag : Nat
  target : Nat
  params : List W40
  started : Tick
  progress : W40 := 0
  consume : Bool := true
  zeroed : Nat := 0
  inHandlers : Nat := 0
  ended : Option (Nat × List W40 × Tick) := none
  deriving DecidableEq, Repr

/-- The Ceari engine (R284-R305). Entry 0 of the slots is `cur`. `traps` are the priorities that pend, `handlers` the handlers under way with the
ticks at which they return, the innermost first (R300); `bandWait` and `flrWait` are the tiles and domains whose traps of priority 4 and 6
pend, and `flrRun` the domain whose Function Level Reset the running handler serves (R302). -/
structure Ce where
  list : List Nat := []
  cur : Option Routine := none
  parked : Tab Routine := []
  traps : List Nat := []
  handlers : List (Nat × Tick) := []
  bandWait : List Nat := []
  flrWait : List Nat := []
  flrRun : List Nat := []
  hOnly : Bool := false
  loft : Tab (BitVec 128) := []
  deriving DecidableEq, Repr

/-- A firing that is due at the fabric (R307): its tick, the channel, the depth and the producer. The route of a producer is read at
that tick (R308): until then `routed` is false and `chan` says nothing. -/
structure Fire where
  at_ : Tick
  chan : Nat
  depth : Nat
  prod : Option Nat
  routed : Bool := true
  deriving DecidableEq, Repr

/-- A strobe group of a tile that has been strobed in the present tick (R150, R152): its channels, and those it has loaded. -/
structure Strobed where
  tile : Nat
  group : Nat
  members : List Nat
  loaded : List Nat
  deriving DecidableEq, Repr

/-- The event fabric (R306-R315): firings due, the strobe groups of the present tick, and what acts at its end, after the register writes
(R151): the BIAS and STROBE entries of the timelines with their sequencers, then the event strobes: tile, group, owner domain of the
channel. -/
structure Fabric where
  fires : List Fire := []
  strobes : List Strobed := []
  acts : List (Nat × QEntry) := []
  evStrobes : List (Nat × Nat × Nat) := []
  deriving DecidableEq, Repr

/-- An item of a port (R320, R321): 1 verdict, 2 barrier notice; its word, posting tick, reference tick or A_d, and source. -/
structure Item where
  kind : Nat
  word : W40
  posted : Tick
  ref : Tick
  src : Nat
  release : Tick
  checked : Tick
  deriving DecidableEq, Repr

/-- A place of the data stream that waits for its frame (R323, Table 17.3): TYPE, word, field bits 15:0, and the source ring
whose HEAD advances once it is sent; `mirror` marks the places of a mirror slot (R347). -/
structure DataPlace where
  type : Nat
  word : W40
  field : BitVec 16
  adv : Option Nat := none
  mirror : Bool := false
  deriving DecidableEq, Repr

/-- A Yalan port: what its registers do not hold (R316-R331). `lost` is the lost lane, `rxBad` what the last 16 frames showed (twice the
lane for an erasure on it, one more for a symbol 0 that is no K code), newest first, and `clean` the frames in a row without an
erasure on the lost lane (R328). `missAt` is the tick at which the 1 µs interval began that the next heartbeat is to come in (R327). `bands`
gives for each data lane the band whose seeds its CTLE and DFE last started from (R331). `tseg` holds
the segments of the time message under way, `tx` the words of the frame sent last, and `txAt` the FULLTIME at which the last frame time without a frame began. -/
structure Port where
  phase : Nat := 0
  phaseAt : Tick := 0
  lost : List Nat := []
  rxBad : List (List Nat) := []
  clean : Nat := 0
  goodRun : Nat := 0
  rxDown : Nat := 0
  missRun : Nat := 0
  missAt : Option Tick := none
  bands : Tab Nat := []
  lastMsg : Option Tick := none
  mseq : Nat := 0
  tseg : List W40 := []
  sentTx : Tab Int := []
  peerMseq : Nat := 0
  peerRx : Int := 0
  peerTx : Int := 0
  ansTx : Tab (Int × Int) := []
  rx : List Item := []
  out : List Item := []
  data : List DataPlace := []
  discarded : Bool := false
  tx : List W40 := []
  txAt : BitVec 64 := 0
  eyeLow : Bool := false
  mismatch : Bool := false
  deriving DecidableEq, Repr

/-- The federation (R333-R338). -/
structure Fed where
  words : List W40 := []
  seen : Tab Tick := []
  clash : Bool := false
  reachNo : Nat := 0
  depthBad : Bool := false
  deriving DecidableEq, Repr

/-- A comparison item of the echo that waits for its twin (R341): kind, key, value, tick at which it was made. -/
structure CmpItem where
  kind : Nat
  key : Nat
  sub : W40
  val : W40
  made : Tick
  ours : Bool
  deriving DecidableEq, Repr

/-- The pair (R339-R345). -/
structure Pair where
  twinMode : Nat := 0
  twinSerial : BitVec 32 := 0
  twinHalf : Option (PairHalf × Tick) := none
  halfOut : Option PairHalf := none
  items : List CmpItem := []
  lastDiverge : Option Tick := none
  myN : Option (W40 × Tick) := none
  twinN : Option (W40 × Tick) := none
  agreed : Option (W40 × Tick) := none
  switching : Bool := false
  startAt : Option Tick := none
  sendQ : List (Nat × W40 × BitVec 16) := []
  deriving DecidableEq, Repr

/-- A running conversion of the monitor ADC (R349). -/
structure MonConv where
  src : Nat
  tcode : Nat
  fin : Tick
  urgent : Bool
  host : Bool
  clamp : Bool := false
  openI : Bool := false
  deriving DecidableEq, Repr

/-- An urgent request that waits (R352, R353): source, conversion time code, whether the host made it, and its tick. -/
structure UrgReq where
  src : Nat
  tcode : Nat
  host : Bool
  at_ : Tick
  deriving DecidableEq, Repr

/-- The monitor ADC (R348-R353): the running conversion, urgent requests, the conversion that restarts, and the next scan
entry; and the overload comparators with the tick of their last overload (R368). -/
structure Mon where
  cur : Option MonConv := none
  urgent : List UrgReq := []
  aborted : Option (Nat × Nat) := none
  entry : Nat := 0
  fresh : Bool := false
  ovl : Tab Tick := []
  deriving DecidableEq, Repr

/-- A SENSE channel (R354-R364). -/
structure Sense where
  range : Nat := 0
  search : Bool := false
  settling : Bool := false
  low : Nat := 0
  shortRun : Nat := 0
  failed : Nat := 0
  open_ : Bool := false
  openRec : Bool := false
  cfg : W40 := 0
  readyAt : Option Tick := none
  deriving DecidableEq, Repr

/-- A linearisation set (R360): FRAC and the 24 coefficients c_ij, i major. -/
structure LinSet where
  frac : Nat
  c : List Int
  deriving DecidableEq, Repr

/-- A temperature sensor (R375). -/
structure Sensor where
  reading : Int := 0
  fast : Bool := false
  urgentArmed : Bool := true
  urgentPend : Bool := false
  deriving DecidableEq, Repr

/-- Power, thermal management and service life (R372-R385). `lifeNs` and `integNs` are what THERM_LIFE and THERM_INTEG do not show yet, in ns
in a bin and in 1/256 °C x ns, and `saveNs` the ns since the ledger was last written to NVM. -/
structure Therm where
  sensors : Tab Sensor := []
  thr : W40 := 0x73695F
  hold : Bool := false
  schedAt : Option Tick := none
  steps : List PwrStep := []
  shutAt : Option Tick := none
  graceAt : Option Tick := none
  cut : Bool := false
  refresh : List Nat := []
  restOver : Bool := false
  railBad : Tab Tick := []
  thrSet : Bool := false
  shutSet : Bool := false
  offAt : Option Tick := none
  lifeNs : Tab Nat := []
  integNs : Int := 0
  saveNs : Nat := 0
  deriving DecidableEq, Repr

/-- A Gleaner measurement in progress on a tile (R387). -/
structure Glean where
  task : Nat
  unit : Nat
  fin : Tick
  deriving DecidableEq, Repr

/-- The Gleaner (R387-R393): measurements in progress and the last start by tile, the last measurement of each unit, the weak pages
that wait for a rewrite with word 1 of their reports, the unit that each tile visited last in the order of tasks and units, and the rewrite
under way. -/
structure Gleaner where
  run : Tab Glean := []
  started : Tab Tick := []
  last : Tab Tick := []
  pages : Tab W40 := []
  order : Tab Nat := []
  rewriting : Option Nat := none
  deriving DecidableEq, Repr

/-- Boot, NVM and security (R395-R410). `trngBad` says that a health test of the TRNG has failed since the entry to STAGING (R401), and
`factoryDigest` is M3 of Table 21.5.
[log: 6 DESIGN CHOICE] -/
structure Sec where
  nvm : List Host.Cell := []
  rollback : Nat := 0
  selector : Nat := 0
  booted : Bool := false
  slot : Nat := 0
  digest : BitVec 512 := 0
  loftDigest : BitVec 512 := 0
  nvmDone : Bool := false
  safeAt : Tick := 0
  burst : Option Nat := none
  trngBad : Bool := false
  factoryDigest : BitVec 512 := 0
  journal : List (Nat × Byte) := []
  trimBad : List TrimSet := []
  restNvm : Tab W40 := []
  slewNvm : Tab W40 := []
  ledger : List W40 := []
  deriving DecidableEq, Repr

/-- The host interface: latches of each function, PCIe configuration bits, Max Payload Size and Max Read Request Size as 128 x 2^k bytes, MSI-X masks and pending bits, and what the
block last returned or sent (R411-R420, R424).
[log: 9 PRESUMED] -/
structure HostS where
  stage : Tab (Nat × BitVec 32) := []
  rlatch : Tab (Nat × W40) := []
  busMaster : List Nat := []
  msixOn : List Nat := []
  fmask : List Nat := []
  vfEnable : Bool := false
  ptmOn : Bool := false
  payload : Nat := 0
  readRequest : Nat := 2
  unmasked : List Nat := []
  pba : List Nat := []
  sent : List (Nat × Nat) := []
  dropSeen : List Nat := []
  readOut : W40 := 0
  readBytes : List Byte := []
  poisoned : Bool := false
  mgmt : Option (List Byte) := none
  deriving DecidableEq, Repr

/-- Pins and supplies of the package (R372, R424, R436). Outputs: TRIP[t] high, SYNC_OUT high; ALERT_N follows from the state (R377).
[log: 7 DESIGN CHOICE] -/
structure Pins where
  vaux : Bool := true
  straps : Nat := 0
  reset : Bool := false
  mainOk : Bool := true
  trip : List Nat := []
  syncOut : Bool := false
  deriving DecidableEq, Repr

/-- An effect that falls due at a later tick and has no row of the table. -/
inductive Deferred where
  | verdictToSeqs (i : Nat) (word : W40) (ref : Tick)
  | present (j : Nat)
  | setToSeqs (j : Nat)
  | decToSeqs (e : Nat)
  | eventAtInput (i : Nat) (depth : Nat) (dom : Nat)
  | syncPulse
  | pulseUp
  | pulseEnd
  | trip (t : Nat) (b : Bool)
  | shotStart (g : Nat)
  | portEn (p : Nat) (en : Bool)
  | coreIdle (k : Nat)
  deriving DecidableEq, Repr

/-- The whole state of the block. `modeWas` holds MODE as it stood before the writes of the present tick, and `fresh` the boundary
items that have arrived in it (R48): unit and sequencer of a commit; 5 band set, 6 and 7 gleaned results of the drive and
the probe tone, of a sequencer; 8 cell trims, of an output. From 10 on they are units that have committed at once in it (R422): 10 plus
the unit, of a sequencer; 15 the descriptors, of a tile. `holdHist` and `lbHist` hold when HOLD and
the loopback position were in force, and `ballHist` when what all RF outputs share let their balls open (R143), newest first, the last for all ticks before (Table 12.3). `crcDown` holds the tiles whose down-path transfer of the present tick has
failed its check (R15). -/
structure State where
  fuses : Fuses
  life : Life
  haltAt : Option (Tick × Nat) := none
  regs : Tab W40 := []
  force : Tab W40 := []
  time : TimeS := {}
  log : Log := {}
  lbReq : Option (Tick × Bool) := none
  lbWaited : Bool := false
  lbResume : Option Tick := none
  armAfter : Option Tick := none
  safePend : Option Tick := none
  holdHist : List (Tick × Bool) := [(0, false)]
  lbHist : List (Tick × Bool) := [(0, false)]
  ballHist : List (Tick × Bool) := [(0, false)]
  seqs : Tab Seq := []
  down : List (Nat × QEntry) := []
  crcDown : List Nat := []
  cutTiles : List Nat := []
  barriers : Tab Barrier := []
  wave : Tab W40 := []
  drv : Tab Tone := []
  prb : Tab Tone := []
  flux : Tab Flux := []
  outs : Tab Output := []
  bias : Tab Bias := []
  adcs : Tab Adc := []
  slots : Tab Slot := []
  halves : Tab Half := []
  bus : List Posted := []
  vb : Tab VEnt := []
  binder : Binder := {}
  cores : Tab Core := []
  wits : Tab Wit := []
  gran : Gran := {}
  ce : Ce := {}
  fabric : Fabric := {}
  ports : Tab Port := []
  fed : Fed := {}
  pair : Pair := {}
  mon : Mon := {}
  senses : Tab Sense := []
  lins : Tab LinSet := []
  therm : Therm := {}
  glean : Gleaner := {}
  sec : Sec := {}
  host : HostS := {}
  pins : Pins := {}
  agenda : List (Tick × Deferred) := []
  modeWas : Option W40 := none
  fresh : List (Nat × Nat) := []
  free : Nat := 0
  pending : List Instr := []
  deriving DecidableEq, Repr

/-- The machine right after reset: STAGING just entered from OFF, the root PLL not locked, every register at its reset
value (the register tables list what differs from reset), and the LIFECYCLE_CHANGE record of that entry (R28) in the
records of the tick, old code 0, new code 1.
[log: 4 DEDUCED, 5 DESIGN CHOICE, 7 DESIGN CHOICE, 9 PRESUMED, 111 DESIGN CHOICE, 114 DEDUCED] -/
def State.reset : State where
  fuses := {}
  life := .staging
  log := { pool := [{ tick := 0, epoch := 0, source := 0, code := 0x100, sev := 0, detail := 0x01000 }] }

end Sys2Proof.Machine
end

