-- ==== Sys2Proof/Machine/Bits.lean ====
section
/-! DEFINITION. Fields of words, signed values, tick order, and sparse tables. -/

namespace Sys2Proof.Machine

/-- Bits hi:lo of a word as a number. -/
def fld (v : W40) (hi lo : Nat) : Nat := (v.toNat >>> lo) % 2 ^ (hi + 1 - lo)

/-- Bit `i` of a word. -/
def bit (v : W40) (i : Nat) : Bool := v.toNat.testBit i

/-- The word with bits hi:lo replaced by `x`. -/
def setFld (v : W40) (hi lo x : Nat) : W40 :=
  BitVec.ofNat 40 (v.toNat - fld v hi lo * 2 ^ lo + x % 2 ^ (hi + 1 - lo) * 2 ^ lo)

/-- The word with bit `i` set to `b`. -/
def setBit (v : W40) (i : Nat) (b : Bool) : W40 := setFld v i i (if b then 1 else 0)

/-- A number as a native word, modulo 2^40. -/
def w (n : Nat) : W40 := BitVec.ofNat 40 n

/-- An integer as a native word, modulo 2^40. -/
def wi (x : Int) : W40 := BitVec.ofInt 40 x

/-- A Boolean as a number. -/
def b2n (b : Bool) : Nat := if b then 1 else 0

/-- The `n`-bit number `v` read as two's complement. -/
def sx (n v : Nat) : Int := if v % 2 ^ n < 2 ^ (n - 1) then (v % 2 ^ n : Nat) else (v % 2 ^ n : Nat) - (2 ^ n : Nat)

/-- An integer as an `n`-bit two's complement number. -/
def unsx (n : Nat) (x : Int) : Nat := (x % (2 ^ n : Nat)).toNat

/-- An integer held in [lo, hi]. -/
def clampI (lo hi x : Int) : Int := if x < lo then lo else if hi < x then hi else x

/-- Saturation to `n`-bit two's complement (R128). -/
def satI (n : Nat) (x : Int) : Int := clampI (-(2 ^ (n - 1) : Nat)) ((2 ^ (n - 1) : Nat) - 1) x

/-- `x / 2^k` rounded by adding half an LSB and truncating (R128). -/
def roundShift (x : Int) (k : Nat) : Int := if k = 0 then x else (x + (2 ^ (k - 1) : Nat)) / (2 ^ k : Nat)

/-- The larger of two numbers as a saturating counter of `n` bits after one more. -/
def satInc (n v : Nat) : Nat := if v + 1 < 2 ^ n then v + 1 else 2 ^ n - 1

/-- Whether time stamp `a` is not earlier than `b` (R55: the difference modulo 2^40 is below 2^39). -/
def notBefore (a b : Tick) : Bool := (a - b).toNat < 2 ^ 39

/-- The later of two time stamps under R55. -/
def later (a b : Tick) : Tick := if notBefore a b then a else b

/-- The tick `n` after a tick. -/
def plus (a : Tick) (n : Nat) : Tick := a + BitVec.ofNat 40 n

/-- The tick `n` before a tick. -/
def minus (a : Tick) (n : Nat) : Tick := a - BitVec.ofNat 40 n

/-- The signed distance from `b` to `a` under R55. -/
def tdiff (a b : Tick) : Int := (a - b).toInt

/-- The first CK3 edge strictly after a tick (R51: TICK mod 10 = 0); past the last one before 2^40 it is the tick 0 of the next EPOCH. -/
def ck3After (a : Tick) : Tick :=
  let n := (a.toNat / 10 + 1) * 10
  if n < 2 ^ 40 then BitVec.ofNat 40 n else 0

/-- The entry of a sparse table, if it has one. -/
def tget? {α : Type} (k : Nat) : Tab α → Option α
  | [] => none
  | (j, x) :: t => if j = k then some x else tget? k t

/-- The value of a sparse table at `k`; `d` where the table lists none.
[log: 8 DESIGN CHOICE] -/
def tget {α : Type} (d : α) (k : Nat) (t : Tab α) : α :=
  match tget? k t with
  | some x => x
  | none => d

/-- The table without an entry at `k`. -/
def tdel {α : Type} (k : Nat) : Tab α → Tab α
  | [] => []
  | (j, x) :: t => if j = k then tdel k t else (j, x) :: tdel k t

/-- The table with `x` listed at `k`, keys rising. -/
def tput {α : Type} (k : Nat) (x : α) : Tab α → Tab α
  | [] => [(k, x)]
  | (j, y) :: t => if k < j then (k, x) :: (j, y) :: t else if j = k then (k, x) :: t else (j, y) :: tput k x t

/-- The table with the value at `k` set to `x`; a value equal to the default `d` is not listed. -/
def tset {α : Type} [DecidableEq α] (d : α) (k : Nat) (x : α) (t : Tab α) : Tab α :=
  if x = d then tdel k t else tput k x t

/-- The table with the value at `k` changed by `f`. -/
def tmod {α : Type} [DecidableEq α] (d : α) (k : Nat) (f : α → α) (t : Tab α) : Tab α :=
  tset d k (f (tget d k t)) t

/-- Members of a list of numbers with one added, rising, without repeats. -/
def insNat (k : Nat) : List Nat → List Nat
  | [] => [k]
  | j :: t => if k < j then k :: j :: t else if k = j then j :: t else j :: insNat k t

/-- Replaces the entries of the list `l` by a fold: `foldS f l s` runs `f` over `l` from the left. -/
def foldS {α σ : Type} (f : α → σ → σ) : List α → σ → σ
  | [], s => s
  | a :: t, s => foldS f t (f a s)

/-- The numbers below `n`, rising. -/
def upTo (n : Nat) : List Nat := List.range n

/-- The member of a list at `i`, or `d`. -/
def nth {α : Type} (d : α) : List α → Nat → α
  | [], _ => d
  | a :: _, 0 => a
  | _ :: t, i + 1 => nth d t i

end Sys2Proof.Machine
end

