-- ==== Sys2Proof/Machine/Regs.lean ====
section
/-! DEFINITION. The register map of BAR0 (Tables 22.5-22.7 and the register tables of the chapters): one kind per
register, its offset as a function of its indices, and for each kind the bits a write stores, the bits a write of 1
clears, the reset value and whose writes are accepted. Global numbers: g = 96t + q for sequencers, channels and slots,
8t + f for feedlines, 16t + k for cores, 16t + x for XY outputs (R5). -/

namespace Sys2Proof.Machine

/-- The registers of BAR0. -/
inductive RegK where
  | mode | modeStatus | lifecycle | clkStatus | tickNow | epochLatch | syncInCtl | syncInStat
  | syncInStamp | syncInInfo | syncOutCtl | syncOutTime | syncOutPeriod | ptmCtl | ptmTick | ptmInfo
  | ptmHostLo | ptmHostHi | timeStatus | timePortAsym | barrierCfg | barrierStat | waveDesc | seqCtl
  | seqCmd | seqCommit | seqStatus | seqShot | seqCursor | seqLate | seqCounts | seqOwner
  | seqGreg | drvFreq | prbFreq | drvPhase | prbPhase | drvCtl | prbCtl | drvTrim
  | prbTrim | drvCarrier | prbCarrier | drvStatus | prbStatus | drvCommit | prbCommit | xyCfg
  | probeCfg | xyStat | probeStat | fluxGain | fluxIir | fluxFir | fluxCommit | fluxStatus
  | tileBand | lbCtl | biasCode | biasCfg | biasCheck | biasStatus | biasTarget | biasLoad
  | biasRest | biasRestSlew | biasStrobe | biasDiscard | biasEvsel | adcCtl | adcStatus | adcCounts
  | adcSlice | adcRotCtl | adcRotLog | slotCfg | slotGain | slotDet | slotCommit | slotStatus
  | slotLevel | slotCounts | thrCfg | thrRing | thrBab | thrBc | thrCi | thrCq
  | winAxis | winCtl | winThr | winOfs | winSlope | thrStat | thrFlags | thrLast
  | bndSetCfg | bndSetStat | bndSetHzn | bndMember | bndDecSel | bndDecCfg | bndDecStat | bndDecOut
  | bndCommit | bndArm | bndStatus | vbExport | vbStat | vbLast | vbLastRef | coreCtl
  | coreCmd | coreStatus | tapCfg | tapCount | tapStamp | coreD | witCtl | witPre
  | witPost | witHoldoff | witTrig | witLvl | witSrc2 | witMeas | witForce | witStatus
  | grStatus | grBwWit | grEcc | grEccAddr | grEvlog | ringHeadAdv | grRegion | cmdDoorbell
  | ceTrap | loftStatus | ceSlotId | ceSlotProg | loftMatch | evChanCfg | evChanStat | evFire
  | evRoute | evInCnt | seqEvsel | portCtl | portStatus | portFlight | portEye | portCounts
  | portCorr | fedStatus | fedReach | fedCounts | pairStatus | pairCmp | pairCounts | pairHandoverTick
  | monCtl | monScan | monStatus | monLastRaw | monLastLin | monLastTag | senseCfg | senseStat
  | wmonCfg | wmonStat | wmonTile | ovlCfg | ovlStat | thermThr | thermStatus | powerStatus
  | thermSensor | thermLife | thermInteg | gleanCtl | gleanStat | gleanApply | dacQf | adcQf
  | biasQf | secStatus | secDomains | tileOwner | devId | devSerialLo | devSerialHi | devCaps
  | hostStatus | vecAlloc | waveCommit
  deriving DecidableEq, Repr

/-- Whose writes a register accepts besides domain 0's (R420). -/
inductive OwnK where
  | dom0   -- domain 0 only
  | seq    -- the owner domain of the sequencer of the unit
  | tile   -- the owner domain of the tile
  | func   -- the function of the register's index
  | chan   -- the owner domain of the event channel
  | input  -- the owner domain of the event input's unit
  | any    -- checked by the register's own rule
  deriving DecidableEq, Repr

/-- A row of the map: kind, base offset, (count, stride) of each index, bits stored by a write, bits cleared by writing
1, reset value, whether it is shadowed, and whose writes are accepted. -/
structure RegRow where
  k : RegK
  base : Nat
  dims : List (Nat × Nat)
  rw : Nat
  w1c : Nat
  reset : Nat
  rws : Bool
  own : OwnK

/-- The offset of a tile window from that of tile 0 (Table 22.5). -/
def tileStep (t : Nat) : Nat := 0x400000 * t

/-- MODE. -/
def oMode : Nat := 0x100
/-- MODE_STATUS. -/
def oModeStatus : Nat := 0x108
/-- LIFECYCLE. -/
def oLifecycle : Nat := 0x80
/-- CLK_STATUS. -/
def oClkStatus : Nat := 0x200
/-- TICK_NOW. -/
def oTickNow : Nat := 0x208
/-- EPOCH_LATCH. -/
def oEpochLatch : Nat := 0x210
/-- SYNC_IN_CTL. -/
def oSyncInCtl : Nat := 0x218
/-- SYNC_IN_STAT. -/
def oSyncInStat : Nat := 0x220
/-- SYNC_IN_STAMP. -/
def oSyncInStamp : Nat := 0x228
/-- SYNC_IN_INFO. -/
def oSyncInInfo : Nat := 0x230
/-- SYNC_OUT_CTL. -/
def oSyncOutCtl : Nat := 0x238
/-- SYNC_OUT_TIME. -/
def oSyncOutTime : Nat := 0x240
/-- SYNC_OUT_PERIOD. -/
def oSyncOutPeriod : Nat := 0x248
/-- PTM_CTL. -/
def oPtmCtl : Nat := 0x250
/-- PTM_TICK. -/
def oPtmTick : Nat := 0x258
/-- PTM_INFO. -/
def oPtmInfo : Nat := 0x260
/-- PTM_HOST_LO. -/
def oPtmHostLo : Nat := 0x268
/-- PTM_HOST_HI. -/
def oPtmHostHi : Nat := 0x270
/-- TIME_STATUS. -/
def oTimeStatus : Nat := 0x278
/-- TIME_PORT_ASYM[p]. -/
def oTimePortAsym (i : Nat) : Nat := 0x280 + 0x8 * i
/-- BARRIER_CFG[b]. -/
def oBarrierCfg (i : Nat) : Nat := 0x1000 + 0x10 * i
/-- BARRIER_STAT[b]. -/
def oBarrierStat (i : Nat) : Nat := 0x1008 + 0x10 * i
/-- WAVE_DESC[t][w]. -/
def oWaveDesc (t i : Nat) : Nat := 0x1300000 + tileStep t + 0x8 * i
/-- SEQ_CTL[t][q]. -/
def oSeqCtl (g : Nat) : Nat := 0x1200000 + tileStep (g / 96) + 0x100 * (g % 96)
/-- SEQ_CMD[t][q]. -/
def oSeqCmd (g : Nat) : Nat := 0x1200008 + tileStep (g / 96) + 0x100 * (g % 96)
/-- SEQ_COMMIT[t][q]. -/
def oSeqCommit (g : Nat) : Nat := 0x1200010 + tileStep (g / 96) + 0x100 * (g % 96)
/-- SEQ_STATUS[t][q]. -/
def oSeqStatus (g : Nat) : Nat := 0x1200018 + tileStep (g / 96) + 0x100 * (g % 96)
/-- SEQ_SHOT[t][q]. -/
def oSeqShot (g : Nat) : Nat := 0x1200020 + tileStep (g / 96) + 0x100 * (g % 96)
/-- SEQ_CURSOR[t][q]. -/
def oSeqCursor (g : Nat) : Nat := 0x1200028 + tileStep (g / 96) + 0x100 * (g % 96)
/-- SEQ_LATE[t][q]. -/
def oSeqLate (g : Nat) : Nat := 0x1200030 + tileStep (g / 96) + 0x100 * (g % 96)
/-- SEQ_COUNTS[t][q]. -/
def oSeqCounts (g : Nat) : Nat := 0x1200038 + tileStep (g / 96) + 0x100 * (g % 96)
/-- SEQ_OWNER[t][q]. -/
def oSeqOwner (g : Nat) : Nat := 0x1200040 + tileStep (g / 96) + 0x100 * (g % 96)
/-- SEQ_GREG[t][q][i]. -/
def oSeqGreg (g i : Nat) : Nat := 0x1200080 + tileStep (g / 96) + 0x100 * (g % 96) + 0x8 * i
/-- DRV_FREQ[t][x][d][b]. -/
def oDrvFreq (g i : Nat) : Nat := 0x1080000 + tileStep (g / 96) + 0x100 * (g % 96) + 0x8 * i
/-- DRV_FREQ[t][x][d][b]. -/
def oPrbFreq (g i : Nat) : Nat := 0x1090000 + tileStep (g / 96) + 0x100 * (g % 96) + 0x8 * i
/-- DRV_PHASE[t][x][d][b]. -/
def oDrvPhase (g i : Nat) : Nat := 0x1080040 + tileStep (g / 96) + 0x100 * (g % 96) + 0x8 * i
/-- DRV_PHASE[t][x][d][b]. -/
def oPrbPhase (g i : Nat) : Nat := 0x1090040 + tileStep (g / 96) + 0x100 * (g % 96) + 0x8 * i
/-- DRV_CTL[t][x][d]. -/
def oDrvCtl (g : Nat) : Nat := 0x1080080 + tileStep (g / 96) + 0x100 * (g % 96)
/-- DRV_CTL[t][x][d]. -/
def oPrbCtl (g : Nat) : Nat := 0x1090080 + tileStep (g / 96) + 0x100 * (g % 96)
/-- DRV_TRIM[t][x][d]. -/
def oDrvTrim (g : Nat) : Nat := 0x1080088 + tileStep (g / 96) + 0x100 * (g % 96)
/-- DRV_TRIM[t][x][d]. -/
def oPrbTrim (g : Nat) : Nat := 0x1090088 + tileStep (g / 96) + 0x100 * (g % 96)
/-- DRV_CARRIER[t][x][d]. -/
def oDrvCarrier (g : Nat) : Nat := 0x1080090 + tileStep (g / 96) + 0x100 * (g % 96)
/-- DRV_CARRIER[t][x][d]. -/
def oPrbCarrier (g : Nat) : Nat := 0x1090090 + tileStep (g / 96) + 0x100 * (g % 96)
/-- DRV_STATUS[t][x][d]. -/
def oDrvStatus (g : Nat) : Nat := 0x1080098 + tileStep (g / 96) + 0x100 * (g % 96)
/-- DRV_STATUS[t][x][d]. -/
def oPrbStatus (g : Nat) : Nat := 0x1090098 + tileStep (g / 96) + 0x100 * (g % 96)
/-- DRV_COMMIT[t][x][d]. -/
def oDrvCommit (g : Nat) : Nat := 0x10800a0 + tileStep (g / 96) + 0x100 * (g % 96)
/-- DRV_COMMIT[t][x][d]. -/
def oPrbCommit (g : Nat) : Nat := 0x10900a0 + tileStep (g / 96) + 0x100 * (g % 96)
/-- XY_CFG[t][x]. -/
def oXyCfg (g : Nat) : Nat := 0x10a0000 + tileStep (g / 16) + 0x10 * (g % 16)
/-- XY_CFG[t][x], PROBE_CFG[t][f]. -/
def oProbeCfg (g : Nat) : Nat := 0x10a1000 + tileStep (g / 8) + 0x10 * (g % 8)
/-- XY_STAT[t][x]. -/
def oXyStat (g : Nat) : Nat := 0x10a0008 + tileStep (g / 16) + 0x10 * (g % 16)
/-- XY_STAT[t][x], PROBE_STAT[t][f]. -/
def oProbeStat (g : Nat) : Nat := 0x10a1008 + tileStep (g / 8) + 0x10 * (g % 8)
/-- FLUX_GAIN[t][c]. -/
def oFluxGain (g : Nat) : Nat := 0x10b0000 + tileStep (g / 96) + 0x400 * (g % 96)
/-- FLUX_IIR[t][c][i]. -/
def oFluxIir (g i : Nat) : Nat := 0x10b0008 + tileStep (g / 96) + 0x400 * (g % 96) + 0x8 * i
/-- FLUX_FIR[t][c][j]. -/
def oFluxFir (g i : Nat) : Nat := 0x10b0100 + tileStep (g / 96) + 0x400 * (g % 96) + 0x8 * i
/-- FLUX_COMMIT[t][c]. -/
def oFluxCommit (g : Nat) : Nat := 0x10b0300 + tileStep (g / 96) + 0x400 * (g % 96)
/-- FLUX_STATUS[t][c]. -/
def oFluxStatus (g : Nat) : Nat := 0x10b0308 + tileStep (g / 96) + 0x400 * (g % 96)
/-- TILE_BAND[t]. -/
def oTileBand (t : Nat) : Nat := 0x10d0000 + tileStep t
/-- LB_CTL[t]. -/
def oLbCtl (t : Nat) : Nat := 0x10d0008 + tileStep t
/-- BIAS_CODE[t][c]. -/
def oBiasCode (g : Nat) : Nat := 0x10b0310 + tileStep (g / 96) + 0x400 * (g % 96)
/-- BIAS_CFG[t][c]. -/
def oBiasCfg (g : Nat) : Nat := 0x10b0318 + tileStep (g / 96) + 0x400 * (g % 96)
/-- BIAS_CHECK[t][c]. -/
def oBiasCheck (g : Nat) : Nat := 0x10b0320 + tileStep (g / 96) + 0x400 * (g % 96)
/-- BIAS_STATUS[t][c]. -/
def oBiasStatus (g : Nat) : Nat := 0x10b0328 + tileStep (g / 96) + 0x400 * (g % 96)
/-- BIAS_TARGET[t][c]. -/
def oBiasTarget (g : Nat) : Nat := 0x10b0330 + tileStep (g / 96) + 0x400 * (g % 96)
/-- BIAS_LOAD[t][c]. -/
def oBiasLoad (g : Nat) : Nat := 0x10b0338 + tileStep (g / 96) + 0x400 * (g % 96)
/-- BIAS_REST[t][c]. -/
def oBiasRest (g : Nat) : Nat := 0x10b0340 + tileStep (g / 96) + 0x400 * (g % 96)
/-- BIAS_REST_SLEW[t]. -/
def oBiasRestSlew (t : Nat) : Nat := 0x10d0020 + tileStep t
/-- BIAS_STROBE[t]. -/
def oBiasStrobe (t : Nat) : Nat := 0x10d0010 + tileStep t
/-- BIAS_DISCARD[t]. -/
def oBiasDiscard (t : Nat) : Nat := 0x10d0018 + tileStep t
/-- BIAS_EVSEL[t][g]. -/
def oBiasEvsel (t i : Nat) : Nat := 0x10d0100 + tileStep t + 0x8 * i
/-- ADC_CTL[t][f]. -/
def oAdcCtl (g : Nat) : Nat := 0x10e0000 + tileStep (g / 8) + 0x400 * (g % 8)
/-- ADC_STATUS[t][f]. -/
def oAdcStatus (g : Nat) : Nat := 0x10e0008 + tileStep (g / 8) + 0x400 * (g % 8)
/-- ADC_COUNTS[t][f]. -/
def oAdcCounts (g : Nat) : Nat := 0x10e0010 + tileStep (g / 8) + 0x400 * (g % 8)
/-- ADC_SLICE[t][f][j]. -/
def oAdcSlice (g i : Nat) : Nat := 0x10e0100 + tileStep (g / 8) + 0x400 * (g % 8) + 0x8 * i
/-- ADC_ROT_CTL[t]. -/
def oAdcRotCtl (t : Nat) : Nat := 0x10d0028 + tileStep t
/-- ADC_ROT_LOG[t]. -/
def oAdcRotLog (t : Nat) : Nat := 0x10d0030 + tileStep t
/-- SLOT_CFG[t][s]. -/
def oSlotCfg (g : Nat) : Nat := 0x10f0000 + tileStep (g / 96) + 0x100 * (g % 96)
/-- SLOT_GAIN[t][s]. -/
def oSlotGain (g : Nat) : Nat := 0x10f0008 + tileStep (g / 96) + 0x100 * (g % 96)
/-- SLOT_DET[t][s]. -/
def oSlotDet (g : Nat) : Nat := 0x10f0010 + tileStep (g / 96) + 0x100 * (g % 96)
/-- SLOT_COMMIT[t][s]. -/
def oSlotCommit (g : Nat) : Nat := 0x10f0018 + tileStep (g / 96) + 0x100 * (g % 96)
/-- SLOT_STATUS[t][s]. -/
def oSlotStatus (g : Nat) : Nat := 0x10f0020 + tileStep (g / 96) + 0x100 * (g % 96)
/-- SLOT_LEVEL[t][s]. -/
def oSlotLevel (g : Nat) : Nat := 0x10f0028 + tileStep (g / 96) + 0x100 * (g % 96)
/-- SLOT_COUNTS[t][s]. -/
def oSlotCounts (g : Nat) : Nat := 0x10f0030 + tileStep (g / 96) + 0x100 * (g % 96)
/-- THR_CFG[t][s]. -/
def oThrCfg (g : Nat) : Nat := 0x10f0038 + tileStep (g / 96) + 0x100 * (g % 96)
/-- THR_RING[t][s]. -/
def oThrRing (g : Nat) : Nat := 0x10f0040 + tileStep (g / 96) + 0x100 * (g % 96)
/-- THR_BAB[t][s][j]. -/
def oThrBab (g i : Nat) : Nat := 0x10f0048 + tileStep (g / 96) + 0x100 * (g % 96) + 0x10 * i
/-- THR_BC[t][s][j]. -/
def oThrBc (g i : Nat) : Nat := 0x10f0050 + tileStep (g / 96) + 0x100 * (g % 96) + 0x10 * i
/-- THR_CI[t][s][j]. -/
def oThrCi (g i : Nat) : Nat := 0x10f0078 + tileStep (g / 96) + 0x100 * (g % 96) + 0x10 * i
/-- THR_CQ[t][s][j]. -/
def oThrCq (g i : Nat) : Nat := 0x10f0080 + tileStep (g / 96) + 0x100 * (g % 96) + 0x10 * i
/-- WIN_AXIS[t][s]. -/
def oWinAxis (g : Nat) : Nat := 0x10f00b8 + tileStep (g / 96) + 0x100 * (g % 96)
/-- WIN_CTL[t][s]. -/
def oWinCtl (g : Nat) : Nat := 0x10f00c0 + tileStep (g / 96) + 0x100 * (g % 96)
/-- WIN_THR[t][s]. -/
def oWinThr (g : Nat) : Nat := 0x10f00c8 + tileStep (g / 96) + 0x100 * (g % 96)
/-- WIN_OFS[t][s]. -/
def oWinOfs (g : Nat) : Nat := 0x10f00d0 + tileStep (g / 96) + 0x100 * (g % 96)
/-- WIN_SLOPE[t][s]. -/
def oWinSlope (g : Nat) : Nat := 0x10f00d8 + tileStep (g / 96) + 0x100 * (g % 96)
/-- THR_STAT[t][s]. -/
def oThrStat (g : Nat) : Nat := 0x10f00e0 + tileStep (g / 96) + 0x100 * (g % 96)
/-- THR_FLAGS[t][s]. -/
def oThrFlags (g : Nat) : Nat := 0x10f00e8 + tileStep (g / 96) + 0x100 * (g % 96)
/-- THR_LAST[t][s]. -/
def oThrLast (g : Nat) : Nat := 0x10f00f0 + tileStep (g / 96) + 0x100 * (g % 96)
/-- BND_SET_CFG[j]. -/
def oBndSetCfg (i : Nat) : Nat := 0x80000 + 0x10 * i
/-- BND_SET_STAT[j]. -/
def oBndSetStat (i : Nat) : Nat := 0x80008 + 0x10 * i
/-- BND_SET_HZN[j]. -/
def oBndSetHzn (i : Nat) : Nat := 0x90000 + 0x8 * i
/-- BND_MEMBER[j][i]. -/
def oBndMember (i j : Nat) : Nat := 0xa0000 + 0x200 * i + 0x8 * j
/-- BND_DEC_SEL[e][r]. -/
def oBndDecSel (i j : Nat) : Nat := 0x81000 + 0x40 * i + 0x8 * j
/-- BND_DEC_CFG[e]. -/
def oBndDecCfg (i : Nat) : Nat := 0x81020 + 0x40 * i
/-- BND_DEC_STAT[e]. -/
def oBndDecStat (i : Nat) : Nat := 0x81028 + 0x40 * i
/-- BND_DEC_OUT[e]. -/
def oBndDecOut (i : Nat) : Nat := 0x81030 + 0x40 * i
/-- BND_COMMIT. -/
def oBndCommit : Nat := 0x82000
/-- BND_ARM. -/
def oBndArm : Nat := 0x82008
/-- BND_STATUS. -/
def oBndStatus : Nat := 0x82010
/-- VB_EXPORT[r]. -/
def oVbExport (i : Nat) : Nat := 0x83000 + 0x8 * i
/-- VB_STAT. -/
def oVbStat : Nat := 0x83100
/-- VB_LAST[i]. -/
def oVbLast (i : Nat) : Nat := 0xc0000 + 0x8 * i
/-- VB_LAST_REF[i]. -/
def oVbLastRef (i : Nat) : Nat := 0xe0000 + 0x8 * i
/-- CORE_CTL[t][k]. -/
def oCoreCtl (g : Nat) : Nat := 0x1100000 + tileStep (g / 16) + 0x1000 * (g % 16)
/-- CORE_CMD[t][k]. -/
def oCoreCmd (g : Nat) : Nat := 0x1100008 + tileStep (g / 16) + 0x1000 * (g % 16)
/-- CORE_STATUS[t][k]. -/
def oCoreStatus (g : Nat) : Nat := 0x1100010 + tileStep (g / 16) + 0x1000 * (g % 16)
/-- TAP_CFG[t][k][i]. -/
def oTapCfg (g i : Nat) : Nat := 0x1100100 + tileStep (g / 16) + 0x1000 * (g % 16) + 0x20 * i
/-- TAP_COUNT[t][k][i]. -/
def oTapCount (g i : Nat) : Nat := 0x1100108 + tileStep (g / 16) + 0x1000 * (g % 16) + 0x20 * i
/-- TAP_STAMP[t][k][i]. -/
def oTapStamp (g i : Nat) : Nat := 0x1100110 + tileStep (g / 16) + 0x1000 * (g % 16) + 0x20 * i
/-- CORE_D[t][k][r]. -/
def oCoreD (g i : Nat) : Nat := 0x1100200 + tileStep (g / 16) + 0x1000 * (g % 16) + 0x8 * i
/-- WIT_CTL[t][f]. -/
def oWitCtl (g : Nat) : Nat := 0x1120000 + tileStep (g / 8) + 0x100 * (g % 8)
/-- WIT_PRE[t][f]. -/
def oWitPre (g : Nat) : Nat := 0x1120008 + tileStep (g / 8) + 0x100 * (g % 8)
/-- WIT_POST[t][f]. -/
def oWitPost (g : Nat) : Nat := 0x1120010 + tileStep (g / 8) + 0x100 * (g % 8)
/-- WIT_HOLDOFF[t][f]. -/
def oWitHoldoff (g : Nat) : Nat := 0x1120018 + tileStep (g / 8) + 0x100 * (g % 8)
/-- WIT_TRIG[t][f][i]. -/
def oWitTrig (g i : Nat) : Nat := 0x1120020 + tileStep (g / 8) + 0x100 * (g % 8) + 0x10 * i
/-- WIT_LVL[t][f][i]. -/
def oWitLvl (g i : Nat) : Nat := 0x1120028 + tileStep (g / 8) + 0x100 * (g % 8) + 0x10 * i
/-- WIT_SRC2[t][f]. -/
def oWitSrc2 (g : Nat) : Nat := 0x1120040 + tileStep (g / 8) + 0x100 * (g % 8)
/-- WIT_MEAS[t][f]. -/
def oWitMeas (g : Nat) : Nat := 0x1120048 + tileStep (g / 8) + 0x100 * (g % 8)
/-- WIT_FORCE[t][f]. -/
def oWitForce (g : Nat) : Nat := 0x1120050 + tileStep (g / 8) + 0x100 * (g % 8)
/-- WIT_STATUS[t][f]. -/
def oWitStatus (g : Nat) : Nat := 0x1120058 + tileStep (g / 8) + 0x100 * (g % 8)
/-- GR_STATUS. -/
def oGrStatus : Nat := 0x400000
/-- GR_BW_WIT. -/
def oGrBwWit : Nat := 0x400008
/-- GR_ECC. -/
def oGrEcc : Nat := 0x400010
/-- GR_ECC_ADDR. -/
def oGrEccAddr : Nat := 0x400018
/-- GR_EVLOG[m]. -/
def oGrEvlog (i : Nat) : Nat := 0x400100 + 0x8 * i
/-- RING_HEAD_ADV. -/
def oRingHeadAdv : Nat := 0x400200
/-- GR_REGION[r]. -/
def oGrRegion (i : Nat) : Nat := 0x401000 + 0x8 * i
/-- CMD_DOORBELL. -/
def oCmdDoorbell : Nat := 0x100000
/-- CE_TRAP. -/
def oCeTrap : Nat := 0x100008
/-- LOFT_STATUS. -/
def oLoftStatus : Nat := 0x100010
/-- CE_SLOT_ID[i]. -/
def oCeSlotId (i : Nat) : Nat := 0x100040 + 0x10 * i
/-- CE_SLOT_PROG[i]. -/
def oCeSlotProg (i : Nat) : Nat := 0x100048 + 0x10 * i
/-- LOFT_MATCH[i]. -/
def oLoftMatch (i : Nat) : Nat := 0x100100 + 0x8 * i
/-- EV_CHAN_CFG[v]. -/
def oEvChanCfg (i : Nat) : Nat := 0x200000 + 0x10 * i
/-- EV_CHAN_STAT[v]. -/
def oEvChanStat (i : Nat) : Nat := 0x200008 + 0x10 * i
/-- EV_FIRE. -/
def oEvFire : Nat := 0x203000
/-- EV_ROUTE[u]. -/
def oEvRoute (i : Nat) : Nat := 0x204000 + 0x8 * i
/-- EV_IN_CNT[w]. -/
def oEvInCnt (i : Nat) : Nat := 0x210000 + 0x8 * i
/-- SEQ_EVSEL[t][q][i]. -/
def oSeqEvsel (g i : Nat) : Nat := 0x1200048 + tileStep (g / 96) + 0x100 * (g % 96) + 0x8 * i
/-- PORT_CTL[p]. -/
def oPortCtl (i : Nat) : Nat := 0x300000 + 0x1000 * i
/-- PORT_STATUS[p]. -/
def oPortStatus (i : Nat) : Nat := 0x300008 + 0x1000 * i
/-- PORT_FLIGHT[p]. -/
def oPortFlight (i : Nat) : Nat := 0x300010 + 0x1000 * i
/-- PORT_EYE[p]. -/
def oPortEye (i : Nat) : Nat := 0x300018 + 0x1000 * i
/-- PORT_COUNTS[p]. -/
def oPortCounts (i : Nat) : Nat := 0x300020 + 0x1000 * i
/-- PORT_CORR[p]. -/
def oPortCorr (i : Nat) : Nat := 0x300028 + 0x1000 * i
/-- FED_STATUS. -/
def oFedStatus : Nat := 0x3000
/-- FED_REACH. -/
def oFedReach : Nat := 0x3008
/-- FED_COUNTS. -/
def oFedCounts : Nat := 0x3010
/-- PAIR_STATUS. -/
def oPairStatus : Nat := 0x3018
/-- PAIR_CMP. -/
def oPairCmp : Nat := 0x3020
/-- PAIR_COUNTS. -/
def oPairCounts : Nat := 0x3028
/-- PAIR_HANDOVER_TICK. -/
def oPairHandoverTick : Nat := 0x3030
/-- MON_CTL. -/
def oMonCtl : Nat := 0x500000
/-- MON_SCAN[e]. -/
def oMonScan (i : Nat) : Nat := 0x500100 + 0x8 * i
/-- MON_STATUS. -/
def oMonStatus : Nat := 0x500008
/-- MON_LAST_RAW[u], MON_LAST_LIN[u], MON_LAST_TAG[u]. -/
def oMonLastRaw (i : Nat) : Nat := 0x502000 + 0x20 * i
/-- MON_LAST_RAW[u], MON_LAST_LIN[u], MON_LAST_TAG[u]. -/
def oMonLastLin (i : Nat) : Nat := 0x502008 + 0x20 * i
/-- MON_LAST_RAW[u], MON_LAST_LIN[u], MON_LAST_TAG[u]. -/
def oMonLastTag (i : Nat) : Nat := 0x502010 + 0x20 * i
/-- SENSE_CFG[n]. -/
def oSenseCfg (i : Nat) : Nat := 0x501000 + 0x10 * i
/-- SENSE_STAT[n]. -/
def oSenseStat (i : Nat) : Nat := 0x501008 + 0x10 * i
/-- WMON_CFG[t][c]. -/
def oWmonCfg (g : Nat) : Nat := 0x10b0348 + tileStep (g / 96) + 0x400 * (g % 96)
/-- WMON_STAT[t][c]. -/
def oWmonStat (g : Nat) : Nat := 0x10b0350 + tileStep (g / 96) + 0x400 * (g % 96)
/-- WMON_TILE[t]. -/
def oWmonTile (t : Nat) : Nat := 0x10d0038 + tileStep t
/-- OVL_CFG[t][f]. -/
def oOvlCfg (g : Nat) : Nat := 0x10e0300 + tileStep (g / 8) + 0x400 * (g % 8)
/-- OVL_STAT[t][f]. -/
def oOvlStat (g : Nat) : Nat := 0x10e0308 + tileStep (g / 8) + 0x400 * (g % 8)
/-- THERM_THR. -/
def oThermThr : Nat := 0x4000
/-- THERM_STATUS. -/
def oThermStatus : Nat := 0x4008
/-- POWER_STATUS. -/
def oPowerStatus : Nat := 0x4040
/-- THERM_SENSOR[u]. -/
def oThermSensor (i : Nat) : Nat := 0x4100 + 0x8 * i
/-- THERM_LIFE[b]. -/
def oThermLife (i : Nat) : Nat := 0x4300 + 0x8 * i
/-- THERM_INTEG. -/
def oThermInteg : Nat := 0x4330
/-- GLEAN_CTL. -/
def oGleanCtl : Nat := 0x5000
/-- GLEAN_STAT. -/
def oGleanStat : Nat := 0x5008
/-- GLEAN_APPLY[t]. -/
def oGleanApply (t : Nat) : Nat := 0x10d0040 + tileStep t
/-- DAC_QF[t][o]. -/
def oDacQf (t i : Nat) : Nat := 0x10d0200 + tileStep t + 0x8 * i
/-- ADC_QF[t][f]. -/
def oAdcQf (g : Nat) : Nat := 0x10e0310 + tileStep (g / 8) + 0x400 * (g % 8)
/-- BIAS_QF[t][c]. -/
def oBiasQf (g : Nat) : Nat := 0x10b0358 + tileStep (g / 96) + 0x400 * (g % 96)
/-- SEC_STATUS. -/
def oSecStatus : Nat := 0x6000
/-- SEC_DOMAINS. -/
def oSecDomains : Nat := 0x6008
/-- TILE_OWNER[t]. -/
def oTileOwner (t : Nat) : Nat := 0x10d0048 + tileStep t
/-- DEV_ID. -/
def oDevId : Nat := 0x0
/-- DEV_SERIAL_LO. -/
def oDevSerialLo : Nat := 0x8
/-- DEV_SERIAL_HI. -/
def oDevSerialHi : Nat := 0x10
/-- DEV_CAPS. -/
def oDevCaps : Nat := 0x18
/-- HOST_STATUS[m]. -/
def oHostStatus (i : Nat) : Nat := 0x7000 + 0x8 * i
/-- VEC_ALLOC[m]. -/
def oVecAlloc (i : Nat) : Nat := 0x7100 + 0x8 * i
/-- WAVE_COMMIT. -/
def oWaveCommit (t : Nat) : Nat := 0x1308000 + tileStep t

/-- The register map, part 0. -/
def regRows0 : List RegRow := [
  ⟨.mode, 0x100, [], 0x3f, 0x0, 0x0, false, .dom0⟩,
  ⟨.modeStatus, 0x108, [], 0x0, 0x0, 0x0, false, .dom0⟩,
  ⟨.lifecycle, 0x80, [], 0x0, 0x0, 0x1, false, .dom0⟩,
  ⟨.clkStatus, 0x200, [], 0x0, 0x0, 0x0, false, .dom0⟩,
  ⟨.tickNow, 0x208, [], 0x0, 0x0, 0x0, false, .dom0⟩,
  ⟨.epochLatch, 0x210, [], 0x0, 0x0, 0x0, false, .dom0⟩,
  ⟨.syncInCtl, 0x218, [], 0xffffffffff, 0x0, 0x0, false, .dom0⟩,
  ⟨.syncInStat, 0x220, [], 0x7, 0xffffffff00, 0x0, false, .dom0⟩,
  ⟨.syncInStamp, 0x228, [], 0x0, 0x0, 0x0, false, .dom0⟩,
  ⟨.syncInInfo, 0x230, [], 0x0, 0x0, 0x0, false, .dom0⟩,
  ⟨.syncOutCtl, 0x238, [], 0x1ff3, 0x2000, 0x0, false, .dom0⟩,
  ⟨.syncOutTime, 0x240, [], 0xffffffffff, 0x0, 0x0, false, .dom0⟩,
  ⟨.syncOutPeriod, 0x248, [], 0xffffffffff, 0x0, 0x0, false, .dom0⟩,
  ⟨.ptmCtl, 0x250, [], 0xffff, 0x0, 0x0, false, .dom0⟩]

/-- The register map, part 1. -/
def regRows1 : List RegRow := [
  ⟨.ptmTick, 0x258, [], 0x0, 0x0, 0x0, false, .dom0⟩,
  ⟨.ptmInfo, 0x260, [], 0x0, 0x0, 0x0, false, .dom0⟩,
  ⟨.ptmHostLo, 0x268, [], 0x0, 0x0, 0x0, false, .dom0⟩,
  ⟨.ptmHostHi, 0x270, [], 0x0, 0x0, 0x0, false, .dom0⟩,
  ⟨.timeStatus, 0x278, [], 0x0, 0x0, 0xf0000, false, .dom0⟩,
  ⟨.timePortAsym, 0x280, [(6, 0x8)], 0xfffff, 0x0, 0x0, false, .dom0⟩,
  ⟨.barrierCfg, 0x1000, [(256, 0x10)], 0xffffffffff, 0x0, 0x0, false, .dom0⟩,
  ⟨.barrierStat, 0x1008, [(256, 0x10)], 0x0, 0x4000000, 0x0, false, .dom0⟩,
  ⟨.waveDesc, 0x1300000, [(8, 0x400000), (4096, 0x8)], 0xfffffffffc, 0x0, 0x0, true, .tile⟩,
  ⟨.seqCtl, 0x1200000, [(8, 0x400000), (96, 0x100)], 0x9fff, 0x0, 0x0, true, .seq⟩,
  ⟨.seqCmd, 0x1200008, [(8, 0x400000), (96, 0x100)], 0x0, 0x0, 0x0, false, .seq⟩,
  ⟨.seqCommit, 0x1200010, [(8, 0x400000), (96, 0x100)], 0x0, 0x0, 0x0, false, .seq⟩,
  ⟨.seqStatus, 0x1200018, [(8, 0x400000), (96, 0x100)], 0x0, 0x0, 0x0, false, .seq⟩,
  ⟨.seqShot, 0x1200020, [(8, 0x400000), (96, 0x100)], 0x0, 0x0, 0x0, false, .seq⟩]

/-- The register map, part 2. -/
def regRows2 : List RegRow := [
  ⟨.seqCursor, 0x1200028, [(8, 0x400000), (96, 0x100)], 0x0, 0x0, 0x0, false, .seq⟩,
  ⟨.seqLate, 0x1200030, [(8, 0x400000), (96, 0x100)], 0x0, 0xfffff, 0x0, false, .seq⟩,
  ⟨.seqCounts, 0x1200038, [(8, 0x400000), (96, 0x100)], 0x0, 0xffffffffff, 0x0, false, .seq⟩,
  ⟨.seqOwner, 0x1200040, [(8, 0x400000), (96, 0x100)], 0x1f, 0x0, 0x0, false, .seq⟩,
  ⟨.seqGreg, 0x1200080, [(8, 0x400000), (96, 0x100), (16, 0x8)], 0xffffffffff, 0x0, 0x0, false, .seq⟩,
  ⟨.drvFreq, 0x1080000, [(8, 0x400000), (64, 0x100), (8, 0x8)], 0xffffffffff, 0x0, 0x0, true, .seq⟩,
  ⟨.prbFreq, 0x1090000, [(8, 0x400000), (96, 0x100), (8, 0x8)], 0xffffffffff, 0x0, 0x0, true, .seq⟩,
  ⟨.drvPhase, 0x1080040, [(8, 0x400000), (64, 0x100), (8, 0x8)], 0xfffff, 0x0, 0x0, true, .seq⟩,
  ⟨.prbPhase, 0x1090040, [(8, 0x400000), (96, 0x100), (8, 0x8)], 0xfffff, 0x0, 0x0, true, .seq⟩,
  ⟨.drvCtl, 0x1080080, [(8, 0x400000), (64, 0x100)], 0xffffff, 0x0, 0x0, true, .seq⟩,
  ⟨.prbCtl, 0x1090080, [(8, 0x400000), (96, 0x100)], 0xffffff, 0x0, 0x0, true, .seq⟩,
  ⟨.drvTrim, 0x1080088, [(8, 0x400000), (64, 0x100)], 0x0, 0x0, 0x80000, false, .seq⟩,
  ⟨.prbTrim, 0x1090088, [(8, 0x400000), (96, 0x100)], 0x0, 0x0, 0x80000, false, .seq⟩,
  ⟨.drvCarrier, 0x1080090, [(8, 0x400000), (64, 0x100)], 0x0, 0x0, 0x0, false, .seq⟩]

/-- The register map, part 3. -/
def regRows3 : List RegRow := [
  ⟨.prbCarrier, 0x1090090, [(8, 0x400000), (96, 0x100)], 0x0, 0x0, 0x0, false, .seq⟩,
  ⟨.drvStatus, 0x1080098, [(8, 0x400000), (64, 0x100)], 0x0, 0x0, 0x0, false, .seq⟩,
  ⟨.prbStatus, 0x1090098, [(8, 0x400000), (96, 0x100)], 0x0, 0x0, 0x0, false, .seq⟩,
  ⟨.drvCommit, 0x10800a0, [(8, 0x400000), (64, 0x100)], 0x0, 0x0, 0x0, false, .seq⟩,
  ⟨.prbCommit, 0x10900a0, [(8, 0x400000), (96, 0x100)], 0x0, 0x0, 0x0, false, .seq⟩,
  ⟨.xyCfg, 0x10a0000, [(8, 0x400000), (16, 0x10)], 0x7, 0x0, 0x2, false, .tile⟩,
  ⟨.probeCfg, 0x10a1000, [(8, 0x400000), (8, 0x10)], 0x7, 0x0, 0x4, false, .tile⟩,
  ⟨.xyStat, 0x10a0008, [(8, 0x400000), (16, 0x10)], 0x0, 0xfffff00000, 0x0, false, .tile⟩,
  ⟨.probeStat, 0x10a1008, [(8, 0x400000), (8, 0x10)], 0x0, 0xfffff00000, 0x0, false, .tile⟩,
  ⟨.fluxGain, 0x10b0000, [(8, 0x400000), (96, 0x400)], 0xfffff, 0x0, 0x40000, true, .seq⟩,
  ⟨.fluxIir, 0x10b0008, [(8, 0x400000), (96, 0x400), (4, 0x8)], 0xffffffffff, 0x0, 0x0, true, .seq⟩,
  ⟨.fluxFir, 0x10b0100, [(8, 0x400000), (96, 0x400), (64, 0x8)], 0xfffff, 0x0, 0x0, true, .seq⟩,
  ⟨.fluxCommit, 0x10b0300, [(8, 0x400000), (96, 0x400)], 0x0, 0x0, 0x0, false, .seq⟩,
  ⟨.fluxStatus, 0x10b0308, [(8, 0x400000), (96, 0x400)], 0x0, 0xfffff00002, 0x0, false, .seq⟩]

/-- The register map, part 4. -/
def regRows4 : List RegRow := [
  ⟨.tileBand, 0x10d0000, [(8, 0x400000)], 0x0, 0x0, 0x0, false, .tile⟩,
  ⟨.lbCtl, 0x10d0008, [(8, 0x400000)], 0x1f, 0x0, 0x0, false, .tile⟩,
  ⟨.biasCode, 0x10b0310, [(8, 0x400000), (96, 0x400)], 0xfffff, 0x0, 0x0, false, .seq⟩,
  ⟨.biasCfg, 0x10b0318, [(8, 0x400000), (96, 0x400)], 0xfcffffffff, 0x0, 0x0, true, .seq⟩,
  ⟨.biasCheck, 0x10b0320, [(8, 0x400000), (96, 0x400)], 0x1ffff, 0x0, 0x0, false, .seq⟩,
  ⟨.biasStatus, 0x10b0328, [(8, 0x400000), (96, 0x400)], 0x0, 0x3800, 0x4000, false, .seq⟩,
  ⟨.biasTarget, 0x10b0330, [(8, 0x400000), (96, 0x400)], 0x0, 0x0, 0x0, false, .seq⟩,
  ⟨.biasLoad, 0x10b0338, [(8, 0x400000), (96, 0x400)], 0x0, 0x0, 0x0, false, .seq⟩,
  ⟨.biasRest, 0x10b0340, [(8, 0x400000), (96, 0x400)], 0x0, 0x0, 0x0, false, .seq⟩,
  ⟨.biasRestSlew, 0x10d0020, [(8, 0x400000)], 0x0, 0x0, 0x0, false, .tile⟩,
  ⟨.biasStrobe, 0x10d0010, [(8, 0x400000)], 0x0, 0x0, 0x0, false, .tile⟩,
  ⟨.biasDiscard, 0x10d0018, [(8, 0x400000)], 0x0, 0xffffffffff, 0x0, false, .tile⟩,
  ⟨.biasEvsel, 0x10d0100, [(8, 0x400000), (16, 0x8)], 0x1ffffd, 0x0, 0x0, false, .tile⟩,
  ⟨.adcCtl, 0x10e0000, [(8, 0x400000), (8, 0x400)], 0xfd, 0x0, 0xfd, false, .tile⟩]

/-- The register map, part 5. -/
def regRows5 : List RegRow := [
  ⟨.adcStatus, 0x10e0008, [(8, 0x400000), (8, 0x400)], 0x0, 0x0, 0x83f0000000, false, .tile⟩,
  ⟨.adcCounts, 0x10e0010, [(8, 0x400000), (8, 0x400)], 0x0, 0xffffffffff, 0x0, false, .tile⟩,
  ⟨.adcSlice, 0x10e0100, [(8, 0x400000), (8, 0x400), (33, 0x8)], 0x0, 0x0, 0x8000, false, .tile⟩,
  ⟨.adcRotCtl, 0x10d0028, [(8, 0x400000)], 0x3f, 0x0, 0x38, false, .tile⟩,
  ⟨.adcRotLog, 0x10d0030, [(8, 0x400000)], 0x0, 0x0, 0x0, false, .tile⟩,
  ⟨.slotCfg, 0x10f0000, [(8, 0x400000), (96, 0x100)], 0xffe00fffff, 0x0, 0x0, true, .seq⟩,
  ⟨.slotGain, 0x10f0008, [(8, 0x400000), (96, 0x100)], 0xfffff, 0x0, 0x40000, true, .seq⟩,
  ⟨.slotDet, 0x10f0010, [(8, 0x400000), (96, 0x100)], 0xfffff0007f, 0x0, 0x0, true, .seq⟩,
  ⟨.slotCommit, 0x10f0018, [(8, 0x400000), (96, 0x100)], 0x0, 0x0, 0x0, false, .seq⟩,
  ⟨.slotStatus, 0x10f0020, [(8, 0x400000), (96, 0x100)], 0x0, 0x400, 0x0, false, .seq⟩,
  ⟨.slotLevel, 0x10f0028, [(8, 0x400000), (96, 0x100)], 0x0, 0x0, 0x0, false, .seq⟩,
  ⟨.slotCounts, 0x10f0030, [(8, 0x400000), (96, 0x100)], 0x0, 0xffffffffff, 0x0, false, .seq⟩,
  ⟨.thrCfg, 0x10f0038, [(8, 0x400000), (96, 0x100)], 0xfffffff000, 0x0, 0x0, true, .seq⟩,
  ⟨.thrRing, 0x10f0040, [(8, 0x400000), (96, 0x100)], 0xfffffffff, 0x0, 0x0, true, .seq⟩]

/-- The register map, part 6. -/
def regRows6 : List RegRow := [
  ⟨.thrBab, 0x10f0048, [(8, 0x400000), (96, 0x100), (3, 0x10)], 0xffffffffff, 0x0, 0x0, true, .seq⟩,
  ⟨.thrBc, 0x10f0050, [(8, 0x400000), (96, 0x100), (3, 0x10)], 0xffffffffff, 0x0, 0x0, true, .seq⟩,
  ⟨.thrCi, 0x10f0078, [(8, 0x400000), (96, 0x100), (4, 0x10)], 0xffffffffff, 0x0, 0x0, true, .seq⟩,
  ⟨.thrCq, 0x10f0080, [(8, 0x400000), (96, 0x100), (4, 0x10)], 0xffffffffff, 0x0, 0x0, true, .seq⟩,
  ⟨.winAxis, 0x10f00b8, [(8, 0x400000), (96, 0x100)], 0xffffffffff, 0x0, 0x0, true, .seq⟩,
  ⟨.winCtl, 0x10f00c0, [(8, 0x400000), (96, 0x100)], 0xfffffc0000, 0x0, 0x100000, true, .seq⟩,
  ⟨.winThr, 0x10f00c8, [(8, 0x400000), (96, 0x100)], 0xffffffffff, 0x0, 0x0, true, .seq⟩,
  ⟨.winOfs, 0x10f00d0, [(8, 0x400000), (96, 0x100)], 0xffffffffff, 0x0, 0x0, true, .seq⟩,
  ⟨.winSlope, 0x10f00d8, [(8, 0x400000), (96, 0x100)], 0xffffffffff, 0x0, 0x0, true, .seq⟩,
  ⟨.thrStat, 0x10f00e0, [(8, 0x400000), (96, 0x100)], 0x0, 0xffffffffff, 0x0, false, .seq⟩,
  ⟨.thrFlags, 0x10f00e8, [(8, 0x400000), (96, 0x100)], 0x0, 0xffffffff00, 0x0, false, .seq⟩,
  ⟨.thrLast, 0x10f00f0, [(8, 0x400000), (96, 0x100)], 0x0, 0x0, 0x0, false, .seq⟩,
  ⟨.bndSetCfg, 0x80000, [(256, 0x10)], 0xffffffff7f, 0x0, 0x0, true, .dom0⟩,
  ⟨.bndSetStat, 0x80008, [(256, 0x10)], 0x0, 0xfffffffe00, 0x0, false, .dom0⟩]

/-- The register map, part 7. -/
def regRows7 : List RegRow := [
  ⟨.bndSetHzn, 0x90000, [(256, 0x8)], 0x0, 0x0, 0x0, false, .dom0⟩,
  ⟨.bndMember, 0xa0000, [(256, 0x200), (64, 0x8)], 0x3fff, 0x0, 0x0, true, .dom0⟩,
  ⟨.bndDecSel, 0x81000, [(8, 0x40), (4, 0x8)], 0xffffffff, 0x0, 0x0, true, .dom0⟩,
  ⟨.bndDecCfg, 0x81020, [(8, 0x40)], 0xffffffffff, 0x0, 0x0, true, .dom0⟩,
  ⟨.bndDecStat, 0x81028, [(8, 0x40)], 0x0, 0x0, 0x0, false, .dom0⟩,
  ⟨.bndDecOut, 0x81030, [(8, 0x40)], 0x0, 0x0, 0x0, false, .dom0⟩,
  ⟨.bndCommit, 0x82000, [], 0x0, 0x0, 0x0, false, .dom0⟩,
  ⟨.bndArm, 0x82008, [], 0x0, 0x0, 0x0, false, .dom0⟩,
  ⟨.bndStatus, 0x82010, [], 0x0, 0xfffff00000, 0x0, false, .dom0⟩,
  ⟨.vbExport, 0x83000, [(32, 0x8)], 0xffffffff, 0x0, 0x0, false, .dom0⟩,
  ⟨.vbStat, 0x83100, [], 0x0, 0xffffffffff, 0x0, false, .dom0⟩,
  ⟨.vbLast, 0xc0000, [(16384, 0x8)], 0x0, 0x0, 0x0, false, .dom0⟩,
  ⟨.vbLastRef, 0xe0000, [(16384, 0x8)], 0x0, 0x0, 0x0, false, .dom0⟩,
  ⟨.coreCtl, 0x1100000, [(8, 0x400000), (16, 0x1000)], 0xffffffffff, 0x0, 0x0, false, .tile⟩]

/-- The register map, part 8. -/
def regRows8 : List RegRow := [
  ⟨.coreCmd, 0x1100008, [(8, 0x400000), (16, 0x1000)], 0x0, 0x0, 0x0, false, .tile⟩,
  ⟨.coreStatus, 0x1100010, [(8, 0x400000), (16, 0x1000)], 0x0, 0xffffe, 0x0, false, .tile⟩,
  ⟨.tapCfg, 0x1100100, [(8, 0x400000), (16, 0x1000), (4, 0x20)], 0xfff3ffffff, 0x0, 0x0, false, .tile⟩,
  ⟨.tapCount, 0x1100108, [(8, 0x400000), (16, 0x1000), (4, 0x20)], 0x0, 0x0, 0x0, false, .tile⟩,
  ⟨.tapStamp, 0x1100110, [(8, 0x400000), (16, 0x1000), (4, 0x20)], 0x0, 0x0, 0x0, false, .tile⟩,
  ⟨.coreD, 0x1100200, [(8, 0x400000), (16, 0x1000), (8, 0x8)], 0x0, 0x0, 0x0, false, .tile⟩,
  ⟨.witCtl, 0x1120000, [(8, 0x400000), (8, 0x100)], 0xfffffffff9, 0x0, 0x0, false, .tile⟩,
  ⟨.witPre, 0x1120008, [(8, 0x400000), (8, 0x100)], 0xffff, 0x0, 0x0, false, .tile⟩,
  ⟨.witPost, 0x1120010, [(8, 0x400000), (8, 0x100)], 0xffffffffff, 0x0, 0x0, false, .tile⟩,
  ⟨.witHoldoff, 0x1120018, [(8, 0x400000), (8, 0x100)], 0xffffffffff, 0x0, 0x0, false, .tile⟩,
  ⟨.witTrig, 0x1120020, [(8, 0x400000), (8, 0x100), (2, 0x10)], 0xfff0000000, 0x0, 0x0, false, .tile⟩,
  ⟨.witLvl, 0x1120028, [(8, 0x400000), (8, 0x100), (2, 0x10)], 0xffffffffff, 0x0, 0x0, false, .tile⟩,
  ⟨.witSrc2, 0x1120040, [(8, 0x400000), (8, 0x100)], 0x7ffff7f, 0x0, 0x0, false, .tile⟩,
  ⟨.witMeas, 0x1120048, [(8, 0x400000), (8, 0x100)], 0xffffffffff, 0x0, 0x0, false, .tile⟩]

/-- The register map, part 9. -/
def regRows9 : List RegRow := [
  ⟨.witForce, 0x1120050, [(8, 0x400000), (8, 0x100)], 0x0, 0x0, 0x0, false, .tile⟩,
  ⟨.witStatus, 0x1120058, [(8, 0x400000), (8, 0x100)], 0x0, 0xfffffffff0, 0x0, false, .tile⟩,
  ⟨.grStatus, 0x400000, [], 0x0, 0x0, 0x0, false, .dom0⟩,
  ⟨.grBwWit, 0x400008, [], 0x0, 0x0, 0x0, false, .dom0⟩,
  ⟨.grEcc, 0x400010, [], 0x0, 0xffffffffff, 0x0, false, .dom0⟩,
  ⟨.grEccAddr, 0x400018, [], 0x0, 0x0, 0x0, false, .dom0⟩,
  ⟨.grEvlog, 0x400100, [(16, 0x8)], 0x1fffff, 0xffff000000, 0x0, false, .func⟩,
  ⟨.ringHeadAdv, 0x400200, [], 0x0, 0x0, 0x0, false, .any⟩,
  ⟨.grRegion, 0x401000, [(64, 0x8)], 0xffffffffcf, 0x0, 0x0, false, .dom0⟩,
  ⟨.cmdDoorbell, 0x100000, [], 0x0, 0x0, 0x0, false, .any⟩,
  ⟨.ceTrap, 0x100008, [], 0x0, 0xfffff00000, 0x0, false, .dom0⟩,
  ⟨.loftStatus, 0x100010, [], 0x0, 0x0, 0x0, false, .dom0⟩,
  ⟨.ceSlotId, 0x100040, [(5, 0x10)], 0x0, 0x0, 0x0, false, .dom0⟩,
  ⟨.ceSlotProg, 0x100048, [(5, 0x10)], 0x0, 0x0, 0x0, false, .dom0⟩]

/-- The register map, part 10. -/
def regRows10 : List RegRow := [
  ⟨.loftMatch, 0x100100, [(32, 0x8)], 0x0, 0x0, 0x0, false, .dom0⟩,
  ⟨.evChanCfg, 0x200000, [(512, 0x10)], 0x1f, 0x0, 0x0, false, .dom0⟩,
  ⟨.evChanStat, 0x200008, [(512, 0x10)], 0x0, 0xffffffff03, 0x0, false, .chan⟩,
  ⟨.evFire, 0x203000, [], 0x0, 0x0, 0x0, false, .any⟩,
  ⟨.evRoute, 0x204000, [(5121, 0x8)], 0x3ff, 0x0, 0x0, false, .any⟩,
  ⟨.evInCnt, 0x210000, [(1729, 0x8)], 0x0, 0xffffffffff, 0x0, false, .input⟩,
  ⟨.seqEvsel, 0x1200048, [(8, 0x400000), (96, 0x100), (2, 0x8)], 0x1ffffd, 0x0, 0x0, true, .seq⟩,
  ⟨.portCtl, 0x300000, [(6, 0x1000)], 0x1, 0x0, 0x0, false, .dom0⟩,
  ⟨.portStatus, 0x300008, [(6, 0x1000)], 0x0, 0x0, 0x0, false, .dom0⟩,
  ⟨.portFlight, 0x300010, [(6, 0x1000)], 0x0, 0x0, 0x0, false, .dom0⟩,
  ⟨.portEye, 0x300018, [(6, 0x1000)], 0x0, 0x0, 0x0, false, .dom0⟩,
  ⟨.portCounts, 0x300020, [(6, 0x1000)], 0x0, 0xffffffffff, 0x0, false, .dom0⟩,
  ⟨.portCorr, 0x300028, [(6, 0x1000)], 0x0, 0xffffffffff, 0x0, false, .dom0⟩,
  ⟨.fedStatus, 0x3000, [], 0x0, 0x0, 0x0, false, .dom0⟩]

/-- The register map, part 11. -/
def regRows11 : List RegRow := [
  ⟨.fedReach, 0x3008, [], 0x0, 0x0, 0x0, false, .dom0⟩,
  ⟨.fedCounts, 0x3010, [], 0x0, 0xffffffffff, 0x0, false, .dom0⟩,
  ⟨.pairStatus, 0x3018, [], 0x0, 0x0, 0x0, false, .dom0⟩,
  ⟨.pairCmp, 0x3020, [], 0xff3d, 0x0, 0x2021, false, .dom0⟩,
  ⟨.pairCounts, 0x3028, [], 0x0, 0xffffffffff, 0x0, false, .dom0⟩,
  ⟨.pairHandoverTick, 0x3030, [], 0x0, 0x0, 0x0, false, .dom0⟩,
  ⟨.monCtl, 0x500000, [], 0x1ffffffff, 0x0, 0x0, false, .dom0⟩,
  ⟨.monScan, 0x500100, [(32, 0x8)], 0x7ff, 0x0, 0x0, false, .dom0⟩,
  ⟨.monStatus, 0x500008, [], 0x0, 0xfffffff000, 0x0, false, .dom0⟩,
  ⟨.monLastRaw, 0x502000, [(130, 0x20)], 0x0, 0x0, 0x0, false, .dom0⟩,
  ⟨.monLastLin, 0x502008, [(130, 0x20)], 0x0, 0x0, 0x0, false, .dom0⟩,
  ⟨.monLastTag, 0x502010, [(130, 0x20)], 0x0, 0x0, 0x0, false, .dom0⟩,
  ⟨.senseCfg, 0x501000, [(16, 0x10)], 0xff, 0x0, 0x0, false, .dom0⟩,
  ⟨.senseStat, 0x501008, [(16, 0x10)], 0x0, 0x3e0, 0x0, false, .dom0⟩]

/-- The register map, part 12. -/
def regRows12 : List RegRow := [
  ⟨.wmonCfg, 0x10b0348, [(8, 0x400000), (96, 0x400)], 0x3fffff, 0x0, 0xffc00, false, .seq⟩,
  ⟨.wmonStat, 0x10b0350, [(8, 0x400000), (96, 0x400)], 0x0, 0xfffff00006, 0x0, false, .seq⟩,
  ⟨.wmonTile, 0x10d0038, [(8, 0x400000)], 0x7fff, 0x8000, 0x0, false, .tile⟩,
  ⟨.ovlCfg, 0x10e0300, [(8, 0x400000), (8, 0x400)], 0xfff, 0x0, 0x258, false, .tile⟩,
  ⟨.ovlStat, 0x10e0308, [(8, 0x400000), (8, 0x400)], 0x0, 0xfffff00001, 0x0, false, .tile⟩,
  ⟨.thermThr, 0x4000, [], 0xffffff, 0x0, 0x73695f, false, .dom0⟩,
  ⟨.thermStatus, 0x4008, [], 0x0, 0x0, 0x0, false, .dom0⟩,
  ⟨.powerStatus, 0x4040, [], 0x0, 0x0, 0x0, false, .dom0⟩,
  ⟨.thermSensor, 0x4100, [(42, 0x8)], 0x0, 0x0, 0x0, false, .dom0⟩,
  ⟨.thermLife, 0x4300, [(6, 0x8)], 0x0, 0x0, 0x0, false, .dom0⟩,
  ⟨.thermInteg, 0x4330, [], 0x0, 0x0, 0x0, false, .dom0⟩,
  ⟨.gleanCtl, 0x5000, [], 0xfffbffffff, 0x0, 0x0, false, .dom0⟩,
  ⟨.gleanStat, 0x5008, [], 0x0, 0xfffffff000, 0x0, false, .dom0⟩,
  ⟨.gleanApply, 0x10d0040, [(8, 0x400000)], 0xffffff, 0x0, 0x0, false, .tile⟩]

/-- The register map, part 13. -/
def regRows13 : List RegRow := [
  ⟨.dacQf, 0x10d0200, [(8, 0x400000), (24, 0x8)], 0x0, 0x0, 0x0, false, .tile⟩,
  ⟨.adcQf, 0x10e0310, [(8, 0x400000), (8, 0x400)], 0x0, 0x0, 0x0, false, .tile⟩,
  ⟨.biasQf, 0x10b0358, [(8, 0x400000), (96, 0x400)], 0x0, 0x0, 0x0, false, .seq⟩,
  ⟨.secStatus, 0x6000, [], 0x0, 0x0, 0x0, false, .dom0⟩,
  ⟨.secDomains, 0x6008, [], 0xffff, 0x0, 0x0, false, .dom0⟩,
  ⟨.tileOwner, 0x10d0048, [(8, 0x400000)], 0x1f, 0x0, 0x0, false, .tile⟩,
  ⟨.devId, 0x0, [], 0x0, 0x0, 0x0, false, .dom0⟩,
  ⟨.devSerialLo, 0x8, [], 0x0, 0x0, 0x0, false, .dom0⟩,
  ⟨.devSerialHi, 0x10, [], 0x0, 0x0, 0x0, false, .dom0⟩,
  ⟨.devCaps, 0x18, [], 0x0, 0x0, 0x0, false, .dom0⟩,
  ⟨.hostStatus, 0x7000, [(16, 0x8)], 0x0, 0xffffffffff, 0x0, false, .func⟩,
  ⟨.vecAlloc, 0x7100, [(16, 0x8)], 0xfff, 0x0, 0x0, false, .dom0⟩,
  ⟨.waveCommit, 0x1308000, [(8, 0x400000)], 0x0, 0x0, 0x0, false, .tile⟩]

/-- The whole register map. -/
def regRows : List RegRow :=
  regRows0 ++ regRows1 ++ regRows2 ++ regRows3 ++ regRows4 ++ regRows5 ++ regRows6 ++ regRows7 ++ regRows8 ++ regRows9 ++ regRows10 ++ regRows11 ++ regRows12 ++ regRows13

/-- The indices at which an offset `r` past a row's base falls in the row, strides falling. -/
def rowIdx : List (Nat × Nat) → Nat → Option (List Nat)
  | [], r => if r = 0 then some [] else none
  | (n, st) :: ds, r =>
    if r / st < n then
      match rowIdx ds (r % st) with
      | some is => some ((r / st) :: is)
      | none => none
    else none

/-- The row and the indices of a BAR0 offset. -/
def findRow : List RegRow → Nat → Option (RegRow × List Nat)
  | [], _ => none
  | row :: rest, off =>
    if row.base ≤ off then
      match rowIdx row.dims (off - row.base) with
      | some is => some (row, is)
      | none => findRow rest off
    else findRow rest off

/-- The register at an offset, if a chapter assigns one (R421). -/
def findReg (off : Nat) : Option (RegRow × List Nat) := findRow regRows off

/-- The rows whose reset value is not zero. -/
def resetRows : List RegRow := [
  ⟨.lifecycle, 0x80, [], 0x0, 0x0, 0x1, false, .dom0⟩,
  ⟨.timeStatus, 0x278, [], 0x0, 0x0, 0xf0000, false, .dom0⟩,
  ⟨.drvTrim, 0x1080088, [(8, 0x400000), (64, 0x100)], 0x0, 0x0, 0x80000, false, .seq⟩,
  ⟨.prbTrim, 0x1090088, [(8, 0x400000), (96, 0x100)], 0x0, 0x0, 0x80000, false, .seq⟩,
  ⟨.xyCfg, 0x10a0000, [(8, 0x400000), (16, 0x10)], 0x7, 0x0, 0x2, false, .tile⟩,
  ⟨.probeCfg, 0x10a1000, [(8, 0x400000), (8, 0x10)], 0x7, 0x0, 0x4, false, .tile⟩,
  ⟨.fluxGain, 0x10b0000, [(8, 0x400000), (96, 0x400)], 0xfffff, 0x0, 0x40000, true, .seq⟩,
  ⟨.biasStatus, 0x10b0328, [(8, 0x400000), (96, 0x400)], 0x0, 0x3800, 0x4000, false, .seq⟩,
  ⟨.adcCtl, 0x10e0000, [(8, 0x400000), (8, 0x400)], 0xfd, 0x0, 0xfd, false, .tile⟩,
  ⟨.adcStatus, 0x10e0008, [(8, 0x400000), (8, 0x400)], 0x0, 0x0, 0x83f0000000, false, .tile⟩,
  ⟨.adcSlice, 0x10e0100, [(8, 0x400000), (8, 0x400), (33, 0x8)], 0x0, 0x0, 0x8000, false, .tile⟩,
  ⟨.adcRotCtl, 0x10d0028, [(8, 0x400000)], 0x3f, 0x0, 0x38, false, .tile⟩,
  ⟨.slotGain, 0x10f0008, [(8, 0x400000), (96, 0x100)], 0xfffff, 0x0, 0x40000, true, .seq⟩,
  ⟨.winCtl, 0x10f00c0, [(8, 0x400000), (96, 0x100)], 0xfffffc0000, 0x0, 0x100000, true, .seq⟩,
  ⟨.pairCmp, 0x3020, [], 0xff3d, 0x0, 0x2021, false, .dom0⟩,
  ⟨.wmonCfg, 0x10b0348, [(8, 0x400000), (96, 0x400)], 0x3fffff, 0x0, 0xffc00, false, .seq⟩,
  ⟨.ovlCfg, 0x10e0300, [(8, 0x400000), (8, 0x400)], 0xfff, 0x0, 0x258, false, .tile⟩,
  ⟨.thermThr, 0x4000, [], 0xffffff, 0x0, 0x73695f, false, .dom0⟩,
  ⟨.fluxFir, 0x10b0100, [(8, 0x400000), (96, 0x400)], 0, 0, 0x40000, true, .seq⟩,
  ⟨.vecAlloc, 0x7100, [], 0xfff, 0, 0x800, false, .dom0⟩]

/-- The reset value of the register at an offset, as the register tables state it. BIAS_CFG resets to GROUP ⌊c/6⌋; its
SPAN, STEP and INTERVAL come with the NVM (R160), like every other register "reset from NVM". -/
def regReset (off : Nat) : W40 :=
  match findRow resetRows off with
  | some (row, _) => BitVec.ofNat 40 row.reset
  | none =>
    match rowIdx [(8, 0x400000), (96, 0x400)] (off - 0x10b0318) with
    | some [_, c] => if 0x10b0318 ≤ off then BitVec.ofNat 40 ((c / 6) * 0x1000000000) else 0
    | _ => 0

end Sys2Proof.Machine
end

