-- ==== Sys2Proof/Machine/Ops.lean ====
section
/-! DEFINITION. The named operations that every block shares: registers and their values in force, units present,
owner domains, error records, events, interrupts, Granary memory and the indices of rings. -/

namespace Sys2Proof.Machine

/-! ### Registers -/

/-- The value a register holds: for a shadowed register, its shadow (Table 0.4). -/
def getR (off : Nat) (s : State) : W40 := tget (regReset off) off s.regs

/-- Sets the value a register holds. -/
def setR (off : Nat) (v : W40) (s : State) : State := { s with regs := tset (regReset off) off v s.regs }

/-- Bits hi:lo of a register. -/
def fR (off hi lo : Nat) (s : State) : Nat := fld (getR off s) hi lo

/-- Bit `i` of a register. -/
def bR (off i : Nat) (s : State) : Bool := bit (getR off s) i

/-- Sets bits hi:lo of a register. -/
def putF (off hi lo x : Nat) (s : State) : State := setR off (setFld (getR off s) hi lo x) s

/-- Sets bit `i` of a register. -/
def putB (off i : Nat) (b : Bool) (s : State) : State := setR off (setBit (getR off s) i b) s

/-- Adds 1 to a counter field, which saturates. -/
def bump (off hi lo : Nat) (s : State) : State := putF off hi lo (satInc (hi + 1 - lo) (fR off hi lo s)) s

/-- Adds `n` to a counter field, which saturates. -/
def bumpBy (off hi lo n : Nat) (s : State) : State := putF off hi lo (min (2 ^ (hi + 1 - lo) - 1) (fR off hi lo s + n)) s

/-- The value in force of a shadowed register (Table 0.4, RWS). -/
def getF (off : Nat) (s : State) : W40 := tget (regReset off) off s.force

/-- Sets the value in force of a shadowed register. -/
def setF (off : Nat) (v : W40) (s : State) : State := { s with force := tset (regReset off) off v s.force }

/-- Bits hi:lo of a value in force. -/
def fF (off hi lo : Nat) (s : State) : Nat := fld (getF off s) hi lo

/-- Bit `i` of a value in force. -/
def bF (off i : Nat) (s : State) : Bool := bit (getF off s) i

/-- Moves the shadows of the registers at `offs` into force (R422). -/
def commitRegs (offs : List Nat) (s : State) : State := foldS (fun o s => setF o (getR o s) s) offs s

/-! ### The part (R1, R2) -/

/-- RF tiles of the part (Table 0.1). -/
def nTiles (s : State) : Nat := match s.fuses.part with | .q512 => 8 | .q256 => 4

/-- Sequencers, channels and slots of the part. -/
def nSeqs (s : State) : Nat := 96 * nTiles s

/-- Yalan ports of the part. -/
def nPorts (s : State) : Nat := match s.fuses.part with | .q512 => 6 | .q256 => 4

/-- Memory stacks of the part. -/
def nStacks (s : State) : Nat := match s.fuses.part with | .q512 => 2 | .q256 => 1

/-- The end of Granary memory (R264). -/
def memEnd (s : State) : Nat := match s.fuses.part with | .q512 => 0x0C00000000 | .q256 => 0x0600000000

/-! ### Lifecycle and modes as the registers show them -/

/-- The code of a lifecycle state (LIFECYCLE; code 0 stands for OFF). -/
def lifeCode : Life → Nat
  | .off => 0 | .staging => 1 | .safe => 2 | .ready => 3 | .stopping => 4 | .halted => 5

/-- Whether the device is powered and out of reset. -/
def powered (s : State) : Bool := s.life != .off

/-- Bit `b` of MODE: 0 SEQUENCE, 1 WITNESS, 2 LOOPBACK, 3 PAIRED, 4 FEDERATED, 5 HOLD, 6 ROLE. -/
def mode (b : Nat) (s : State) : Bool := bR oMode b s

/-- Whether mode `b` stands in READY (modes act only in READY). -/
def modeOn (b : Nat) (s : State) : Bool := s.life == .ready && mode b s

/-- The loopback relays stand in the loopback position (LB_RELAYS). -/
def relays (s : State) : Bool := bR oModeStatus 7 s

/-- FEDERATED in force. -/
def federated (s : State) : Bool := modeOn 4 s

/-- Tile `t` is powered (PWR_TILES of POWER_STATUS).
[log: 17 DEDUCED] -/
def tilePowered (t : Nat) (s : State) : Bool := (fR oPowerStatus 27 20 s).testBit t

/-- TICK. -/
def now (s : State) : Tick := s.time.tick

/-- FULLTIME: EPOCH and TICK (R54). -/
def fullTime (s : State) : BitVec 64 := BitVec.ofNat 64 (s.time.epoch.toNat * 2 ^ 40 + s.time.tick.toNat)

/-- A scheduled tick is due: it does not lie after TICK (R55). -/
def due (x : Tick) (s : State) : Bool := notBefore (now s) x

/-- An optional scheduled tick is due. -/
def dueO (x : Option Tick) (s : State) : Bool :=
  match x with
  | some x => due x s
  | none => false

/-! ### Owner domains (R405, R406, R420) -/

/-- Owner domain of sequencer, channel and slot `g` (SEQ_OWNER). -/
def seqDom (g : Nat) (s : State) : Nat := fR (oSeqOwner g) 3 0 s

/-- SECURE of sequencer `g`. -/
def seqSec (g : Nat) (s : State) : Bool := bR (oSeqOwner g) 4 s

/-- Owner domain of tile `t` (TILE_OWNER). -/
def tileDom (t : Nat) (s : State) : Nat := fR (oTileOwner t) 3 0 s

/-- SECURE of tile `t`. -/
def tileSec (t : Nat) (s : State) : Bool := bR (oTileOwner t) 4 s

/-- Owner domain of event channel `v`. -/
def chanDom (v : Nat) (s : State) : Nat := fR (oEvChanCfg v) 3 0 s

/-- SECURE of event channel `v`. -/
def chanSec (v : Nat) (s : State) : Bool := bR (oEvChanCfg v) 4 s

/-- A ring descriptor. -/
def ring (n : Nat) (s : State) : Ring := tget {} n s.gran.rings

/-- Sets a ring descriptor. -/
def setRing (n : Nat) (r : Ring) (s : State) : State :=
  { s with gran := { s.gran with rings := tset {} n r s.gran.rings } }

/-- Domain `m` may command a unit of owner `d`: its owner, or domain 0 unless SECURE is 1 (R406, R420). -/
def mayAct (m d : Nat) (sec : Bool) : Bool := m == d || (m == 0 && !sec)

/-! ### Error records (R438-R443) -/

/-- The severity of a code (R444, Table 24.5): 0 NOTE, 1 WARN, 2 FAULT, 3 FATAL. -/
def sevOf (code : Nat) : Nat :=
  if code < 0x100 then (if code = 0xB ∨ code = 0xD then 2 else 1)
  else if code ∈ [0x102, 0x107, 0x200, 0x201, 0x806, 0x80E, 0x905, 0x907] then 3
  else if code ∈ [0x202, 0x209, 0x300, 0x302, 0x305, 0x501, 0x509, 0x601, 0x700, 0x706, 0x709, 0x70A, 0x70B, 0x70E,
    0x70F, 0x805, 0x80C, 0x900, 0x906] then 2
  else if code ∈ [0x100, 0x104, 0x105, 0x106, 0x108, 0x203, 0x204, 0x205, 0x206, 0x401, 0x504, 0x505, 0x507, 0x508,
    0x608, 0x703, 0x705, 0x707, 0x70C, 0x809, 0x80B, 0x80F, 0x901, 0x903] then 0
  else 1

/-- The owner domain and SECURE of the unit that a SOURCE names (Table 24.2, R283); of class 8, those of the Granary: the records of a ring
name its owner (`ringRecord`).
[log: 99 DEDUCED] -/
def srcOwner (src : Nat) (s : State) : Nat × Bool :=
  let i := src % 4096
  match src / 4096 with
  | 1 => (seqDom i s, seqSec i s)
  | 2 => (seqDom i s, seqSec i s)
  | 3 =>
    if i < 256 then (tileDom (i / 16) s, tileSec (i / 16) s)
    else if i < 512 then (tileDom ((i - 256) / 8) s, tileSec ((i - 256) / 8) s)
    else (seqDom (i - 512) s, seqSec (i - 512) s)
  | 4 => (tileDom (i / 8) s, tileSec (i / 8) s)
  | 5 => (tileDom (i / 16) s, tileSec (i / 16) s)
  | 6 => (tileDom (i / 8) s, tileSec (i / 8) s)
  | 10 => if i < 0x800 then (chanDom i s, chanSec i s) else (0, false)
  | 14 => (i, false)
  | 15 => (tileDom i s, tileSec i s)
  | _ => (0, false)

/-- Adds a record to those of the tick, with its tick, its place `key` and the domains besides 0 whose logs take it. -/
def recordAt (t : Tick) (ep : BitVec 24) (key : Nat) (doms : List Nat) (src code detail : Nat) (w3 : W40)
    (s : State) : State :=
  { s with log := { s.log with pool := s.log.pool ++
    [{ tick := t, epoch := ep, source := BitVec.ofNat 16 src, code := BitVec.ofNat 16 code,
       sev := BitVec.ofNat 4 (sevOf code), detail := BitVec.ofNat 20 detail, word3 := w3,
       doms := doms.filter (fun d => d != 0), secure := (srcOwner src s).2, key := key }] } }

/-- A record at the present tick for the owner domain of its source (R438, R283). -/
def record (src code detail : Nat) (w3 : W40) (s : State) : State :=
  recordAt s.time.tick s.time.epoch src [(srcOwner src s).1] src code detail w3 s

/-- A record that also goes to the log of the domains `doms`. -/
def recordFor (doms : List Nat) (src code detail : Nat) (w3 : W40) (s : State) : State :=
  recordAt s.time.tick s.time.epoch src doms src code detail w3 s

/-- A record of a unit with owner `o` (its domain and SECURE) whose SOURCE names a larger unit: a tone of an output. -/
def recordOwned (o : Nat × Bool) (src code detail : Nat) (w3 : W40) (s : State) : State :=
  { s with log := { s.log with pool := s.log.pool ++
    [{ tick := s.time.tick, epoch := s.time.epoch, source := BitVec.ofNat 16 src, code := BitVec.ofNat 16 code,
       sev := BitVec.ofNat 4 (sevOf code), detail := BitVec.ofNat 20 detail, word3 := w3,
       doms := if o.1 = 0 then [] else [o.1], secure := o.2, key := src }] } }

/-- A record of ring `n` (class 8 of Table 24.2): its ID in full in word 3. -/
def ringRecord (n code : Nat) (s : State) : State :=
  recordOwned ((ring n s).owner, (ring n s).secure) (0x8000 + n % 4096) code 0 (w n) s

/-- A record of a boundary item of sequencer `g`, which keeps its place among the items (R48). -/
def recordB (g src code detail : Nat) (w3 : W40) (s : State) : State :=
  recordAt s.time.tick s.time.epoch (0x1000 + g) [(srcOwner src s).1] src code detail w3 s

/-- The write of a record "once until cleared": only where `c` holds. -/
def recordIf (c : Bool) (src code detail : Nat) (w3 : W40) (s : State) : State :=
  if c then record src code detail w3 s else s

/-! ### Deferred effects and events -/

/-- Puts an effect on the agenda for tick `t`.
[log: 114 DEDUCED] -/
def defer (t : Tick) (d : Deferred) (s : State) : State := { s with agenda := s.agenda ++ [(t, d)] }

/-- The fabric runs from entry to SAFE (R311). -/
def fabricRuns (s : State) : Bool := s.life != .off && s.life != .staging

/-- After STOP_DONE every control-die block is clock-gated but PCIe, the Granary, the engine, the event fabric and the monitor ADC (R382).
[log: 162 DEDUCED] -/
def gated (s : State) : Bool := s.life == .stopping && bR oLifecycle 8 s

/-- What a block does that is clock-gated after STOP_DONE (R382).
[log: 162 DEDUCED] -/
def clocked (f : State → State) (s : State) : State := if gated s then s else f s

/-- Whether a producer stands on a tile die: DET, window monitor, overload comparator, ADC_ROT (R307). -/
def onTileDie (u : Nat) : Bool :=
  let r := u % 640
  u < 5120 && ((192 ≤ r && r < 288) || (480 ≤ r && r < 576) || (624 ≤ r && r ≤ 632))

/-- A firing is put before the fabric (R311). -/
def addFire (f : Fire) (s : State) : State :=
  if fabricRuns s then { s with fabric := { s.fabric with fires := s.fabric.fires ++ [f] } } else s

/-- A channel fires at tick `t` with a depth, without a producer (R307). -/
def fireChan (v : Nat) (t : Tick) (depth : Nat) (s : State) : State := addFire ⟨t, v, depth, none, true⟩ s

/-- Producer `u` fires at tick `t` with a depth (R306, R307): a producer on a tile die reaches the fabric 4 ticks on. -/
def fireProd (u : Nat) (t : Tick) (depth : Nat) (s : State) : State :=
  addFire ⟨if onTileDie u then plus t 4 else t, 0, depth, some u, false⟩ s

/-- The channel of a firing: for a producer, the one that its route names, if the route is enabled (R306, R308). -/
def fireRoute (f : Fire) (s : State) : Option Nat :=
  match f.prod with
  | some u =>
    if f.routed then some f.chan else if bR (oEvRoute u) 9 s then some (fR (oEvRoute u) 8 0 s) else none
  | none => some f.chan

/-- The tick ends: the firings that have come take their routes as they stand, and those without a route are gone (R308). -/
def routeFires (s : State) : State :=
  let take := fun (f : Fire) =>
    if due f.at_ s && !f.routed then (fireRoute f s).map (fun c => { f with chan := c, routed := true }) else some f
  { s with fabric := { s.fabric with fires := s.fabric.fires.filterMap take } }

/-! ### Interrupts (R415, R416) -/

/-- The function of domain `m` exists: the physical function, or a virtual function while VF Enable is 1. -/
def fnExists (m : Nat) (s : State) : Bool := m == 0 || s.host.vfEnable

/-- Message `v` of function `m` (R416): sent, pended while a mask is set, or lost. -/
def sendMsix (m v : Nat) (s : State) : State :=
  if fnExists m s && s.host.msixOn.contains m then
    if !s.host.fmask.contains m && s.host.unmasked.contains (2048 * m + v) then
      { s with host := { s.host with sent := s.host.sent ++ [(m, v)] } }
    else { s with host := { s.host with pba := insNat (2048 * m + v) s.host.pba } }
  else bump (oHostStatus m) 7 0 s

/-! ### Granary memory (R8, R264-R267) -/

/-- A byte of memory: what nothing has written since zeroing reads 0 (R266).
[log: 8 DESIGN CHOICE] -/
def rdByte (m : List Host.Cell) (a : Nat) : Byte := tget 0 a m

/-- Memory with a byte written. -/
def wrByte (m : List Host.Cell) (a : Nat) (b : Byte) : List Host.Cell := tset 0 a b m

/-- The `n` bytes from `a` on. -/
def rdBytes (m : List Host.Cell) (a : Nat) : Nat → List Byte
  | 0 => []
  | n + 1 => rdByte m a :: rdBytes m (a + 1) n

/-- Memory with bytes written from `a` on. -/
def wrBytes (m : List Host.Cell) (a : Nat) : List Byte → List Host.Cell
  | [] => m
  | b :: bs => wrBytes (wrByte m a b) (a + 1) bs

/-- The number that bytes spell, least significant first. -/
def leNat : List Byte → Nat
  | [] => 0
  | b :: bs => b.toNat + 256 * leNat bs

/-- The `n` bytes of a number, least significant first. -/
def toLe : Nat → Nat → List Byte
  | 0, _ => []
  | n + 1, x => BitVec.ofNat 8 x :: toLe n (x / 256)

/-- The 40-bit word at a byte address (R8). -/
def rdWord (m : List Host.Cell) (a : Nat) : W40 := w (leNat (rdBytes m a 5))

/-- Memory with a 40-bit word written at a byte address (R8). -/
def wrWord (m : List Host.Cell) (a : Nat) (v : W40) : List Host.Cell := wrBytes m a (toLe 5 v.toNat)

/-- Memory with words written one after another, five bytes each. -/
def wrWords (m : List Host.Cell) (a : Nat) : List W40 → List Host.Cell
  | [] => m
  | v :: vs => wrWords (wrWord m a v) (a + 5) vs

/-- The `n` words packed five bytes each from `a` on. -/
def rdWords (m : List Host.Cell) (a : Nat) : Nat → List W40
  | 0 => []
  | n + 1 => rdWord m a :: rdWords m (a + 5) n

/-- Memory is in canonical form: addresses rising, no listed byte equal to 0. -/
def memWf : List Host.Cell → Bool
  | [] => true
  | [(_, b)] => b != 0
  | (a, b) :: (c, d) :: t => b != 0 && decide (a < c) && memWf ((c, d) :: t)

/-- Sets Granary memory. -/
def setMem (m : List Host.Cell) (s : State) : State := { s with gran := { s.gran with mem := m } }

/-- Zeroes the bytes of memory in [a, b). -/
def zeroRange (a b : Nat) (m : List Host.Cell) : List Host.Cell := m.filter (fun c => c.1 < a || b ≤ c.1)

/-- What the code finds in an access to memory from byte `a` on, in the descriptor or a slot of a ring or elsewhere (R267): errors count, and
GR_ECC_ADDR takes the address of the block of 32 bytes.
[log: 160 DEDUCED] -/
def eccCount (e : Ecc) (a : Nat) (n : Option Nat) (s : State) : State :=
  match e with
  | .clean => s
  | .corrected => bump oGrEcc 39 20 s
  | .uncorrectable k =>
    let s := setR oGrEccAddr (w (32 * (a / 32 + k))) (bump oGrEcc 19 0 s)
    match n with
    | some n => ringRecord n 0x601 s
    | none => record 0x8000 0x601 0 0 s

/-- The code has found an error that it cannot correct. -/
def eccBad (e : Ecc) : Bool := match e with | .uncorrectable _ => true | _ => false

/-! ### Memory ownership (R268, R269, R406) -/

/-- Region `r` covers byte `a` (GR_REGION). -/
def regionCovers (v : W40) (a : Nat) : Bool :=
  bit v 7 && fld v 39 24 ≤ a / 0x100000 && a / 0x100000 < fld v 39 24 + fld v 23 8

/-- The lowest-numbered enabled region over byte `a`, by its register value, among regions from `r` on. -/
def regionOver (s : State) (a : Nat) : Nat → Nat → Option W40
  | 0, _ => none
  | n + 1, r => if regionCovers (getR (oGrRegion r) s) a then some (getR (oGrRegion r) s) else regionOver s a n (r + 1)

/-- Owner domain and secure attribute of a byte (R268). -/
def byteOwner (a : Nat) (s : State) : Nat × Bool :=
  if a < 0x04000000 then (0, false)
  else
    match regionOver s a 64 0 with
    | some v => (fld v 3 0, bit v 6)
    | none => (0, false)

/-- Whether every MiB block that [a, a + n) touches satisfies `p` of its owner. -/
def blocksAll (p : Nat × Bool → Bool) (a n : Nat) (s : State) : Bool :=
  n = 0 || (upTo ((a + n - 1) / 0x100000 - a / 0x100000 + 1)).all
    (fun k => p (byteOwner (max a ((a / 0x100000 + k) * 0x100000)) s))

/-! ### Rings (R271-R276) -/

/-- Level of a ring (R272). -/
def level (r : Ring) : Nat := (r.tail - r.head).toNat

/-- Free slots of a ring (R272). -/
def freeSlots (r : Ring) : Nat := r.length - level r

/-- The watched quantity (R276). -/
def watched (r : Ring) : Nat := if r.type = 0 then freeSlots r else level r

/-- The watermark rule after an index update of ring `n` (R276).
[log: 44 DEDUCED] -/
def watermark (n : Nat) (s : State) : State :=
  let r := ring n s
  if r.watermark = 0 then s
  else if r.watermark ≤ watched r then
    if r.wmArmed then sendMsix r.owner r.vector (setRing n { r with wmArmed := false } s) else s
  else setRing n { r with wmArmed := true } s

/-- The byte address of count `c` of a ring (R272). -/
def slotAddr (r : Ring) (c : W40) : Nat := r.base + 40 * (c.toNat % r.length)

/-- Memory with a slot of eight words written at count `c`. -/
def wrSlots (r : Ring) (m : List Host.Cell) (c : W40) : List (List W40) → List Host.Cell
  | [] => m
  | sl :: rest => wrSlots r (wrWords m (slotAddr r c) sl) (c + 1) rest

/-- A producer's drop on ring `n` (R274): counts and the once-until-cleared record. -/
def ringDrop (n : Nat) (s : State) : State :=
  let r := ring n s
  if r.length = 0 then
    let s := setRing n { r with disDrops := satInc 20 r.disDrops, lastDrop := now s } s
    if r.disDrops = 0 then ringRecord n 0x603 s else s
  else
    let s := setRing n { r with fullDrops := satInc 20 r.fullDrops, lastDrop := now s } s
    if r.fullDrops = 0 then ringRecord n 0x602 s else s

/-- A producer appends slots at TAIL and advances it past them in one update (R273); the caller has checked the room. -/
def ringAppend (n : Nat) (slots : List (List W40)) (s : State) : State :=
  let r := ring n s
  s |> setMem (wrSlots r s.gran.mem r.tail slots)
    |> setRing n { r with tail := plus r.tail slots.length }
    |> watermark n

/-- A producer writes one slot: it appends it, or drops it on a full or disabled ring (R274) or on a ring whose
descriptor showed an uncorrectable error (R267). The answer says whether the slot was written.
[log: 47 DEDUCED] -/
def ringPut (n : Nat) (slot : List W40) (s : State) : State × Bool :=
  let r := ring n s
  if r.eccStop then (s, false)
  else if r.length = 0 ∨ freeSlots r = 0 then (ringDrop n s, false)
  else (ringAppend n [slot] s, true)

/-! ### Settings in time -/

/-- The value at tick `x` in a history, newest first: the last entry stands for all ticks before it; `cur` where nothing is listed. -/
def histAt {α : Type} (cur : α) (x : Tick) : List (Tick × α) → α
  | [] => cur
  | [(_, a)] => a
  | (t, a) :: r => if notBefore x t then a else histAt cur x r

/-- A value changes from `old` to `new` for ticks `x` and later. -/
def histNote {α : Type} [DecidableEq α] (x : Tick) (old new : α) (h : List (Tick × α)) : List (Tick × α) :=
  if old = new then h else (x, new) :: (if h.isEmpty then [(x, old)] else h)

/-- Ticks after which a history forgets: a quarter of the range in which ticks compare.
[log: 139 DESIGN CHOICE] -/
def longAgo (x n : Tick) : Bool := decide (2 ^ 38 ≤ (plus n 64 - x).toNat)

/-- A history at tick `n` without what lies behind its first old entry, whose tick does not grow older.
[log: 139 DESIGN CHOICE] -/
def histTidy {α : Type} (n : Tick) : List (Tick × α) → List (Tick × α)
  | [] => []
  | e :: r => if longAgo e.1 n then [(minus n (2 ^ 38 - 64), e.2)] else e :: histTidy n r

/-- A tick that lies a quarter of the range behind tick `n`, or further. -/
def stale (x n : Tick) : Bool := decide (2 ^ 38 ≤ (n - x).toNat) && decide ((n - x).toNat < 2 ^ 39)

/-- A tick of the past as tick `n` keeps it: it does not grow older than a quarter of the range in which ticks compare. -/
def keepPast (n x : Tick) : Tick := if stale x n then minus n (2 ^ 38) else x

/-- An optional tick of the past as tick `n` keeps it: one that has grown old is forgotten. -/
def dropPast (n : Tick) (x : Option Tick) : Option Tick := x.filter (fun y => !stale y n)

/-- Whether a value was true at some tick from `lo` to `hi` of a history. -/
def histAny (lo hi : Tick) : List (Tick × Bool) → Bool
  | [] => false
  | [(_, a)] => a
  | (t, a) :: r => (a && notBefore hi t) || (!notBefore lo t && histAny lo (if notBefore hi t then t - 1 else hi) r)

/-- TICK as it stood at tick `x` of the present count, before the time steps made since (R59). -/
def tickThen (x : Tick) (s : State) : Tick :=
  s.time.shifts.foldl (fun a e => if notBefore x e.1 then a else a - BitVec.ofInt 40 e.2) x

/-- FULLTIME in 1/16 ns, at sample offset `o` of tick `x` near the present. -/
def fullPos (x : Tick) (o : Nat) (s : State) : Int := 16 * ((fullTime s).toNat + tdiff x (now s)) + o

/-- The tick of a position. -/
def posTick (p : Int) : Tick := BitVec.ofInt 40 (p / 16)

/-! ### Sub-states by index -/

/-- Sequencer `g`. -/
def seq (g : Nat) (s : State) : Seq := tget {} g s.seqs
/-- Sets sequencer `g`. -/
def setSeq (g : Nat) (q : Seq) (s : State) : State := { s with seqs := tset {} g q s.seqs }
/-- Changes sequencer `g`. -/
def modSeq (g : Nat) (f : Seq → Seq) (s : State) : State := setSeq g (f (seq g s)) s
/-- Drive tone `g`. -/
def drv (g : Nat) (s : State) : Tone := tget {} g s.drv
/-- Sets drive tone `g`. -/
def setDrv (g : Nat) (x : Tone) (s : State) : State := { s with drv := tset {} g x s.drv }
/-- Probe tone `g`. -/
def prb (g : Nat) (s : State) : Tone := tget {} g s.prb
/-- Sets probe tone `g`. -/
def setPrb (g : Nat) (x : Tone) (s : State) : State := { s with prb := tset {} g x s.prb }
/-- A tone: probe or drive. -/
def tone (probe : Bool) (g : Nat) (s : State) : Tone := if probe then prb g s else drv g s
/-- Sets a tone. -/
def setTone (probe : Bool) (g : Nat) (x : Tone) (s : State) : State := if probe then setPrb g x s else setDrv g x s
/-- Flux channel `g`. -/
def flux (g : Nat) (s : State) : Flux := tget {} g s.flux
/-- Sets flux channel `g`. -/
def setFlux (g : Nat) (x : Flux) (s : State) : State := { s with flux := tset {} g x s.flux }
/-- Output number `o` (Table 24.2, class 3). -/
def outp (o : Nat) (s : State) : Output := tget {} o s.outs
/-- Sets output `o`. -/
def setOut (o : Nat) (x : Output) (s : State) : State := { s with outs := tset {} o x s.outs }
/-- Bias channel `g`. -/
def biasC (g : Nat) (s : State) : Bias := tget {} g s.bias
/-- Sets bias channel `g`. -/
def setBias (g : Nat) (x : Bias) (s : State) : State := { s with bias := tset {} g x s.bias }
/-- ADC `a` = 8t + f. -/
def adc (a : Nat) (s : State) : Adc := tget {} a s.adcs
/-- Sets ADC `a`. -/
def setAdc (a : Nat) (x : Adc) (s : State) : State := { s with adcs := tset {} a x s.adcs }
/-- Tone slot `g`. -/
def slot (g : Nat) (s : State) : Slot := tget {} g s.slots
/-- Sets tone slot `g`. -/
def setSlot (g : Nat) (x : Slot) (s : State) : State := { s with slots := tset {} g x s.slots }
/-- Core `k` = 16t + k. -/
def core (k : Nat) (s : State) : Core := tget {} k s.cores
/-- Sets core `k`. -/
def setCore (k : Nat) (x : Core) (s : State) : State := { s with cores := tset {} k x s.cores }
/-- Witness engine `e` = 8t + f. -/
def wit (e : Nat) (s : State) : Wit := tget {} e s.wits
/-- Sets witness engine `e`. -/
def setWit (e : Nat) (x : Wit) (s : State) : State := { s with wits := tset {} e x s.wits }
/-- Port `p`. -/
def port (p : Nat) (s : State) : Port := tget {} p s.ports
/-- Sets port `p`. -/
def setPort (p : Nat) (x : Port) (s : State) : State := { s with ports := tset {} p x s.ports }
/-- Parity set `j`. -/
def pset (j : Nat) (s : State) : PSet := tget {} j s.binder.sets
/-- Sets parity set `j`. -/
def setPset (j : Nat) (x : PSet) (s : State) : State :=
  { s with binder := { s.binder with sets := tset {} j x s.binder.sets } }
/-- Decoder `e`. -/
def decoder (e : Nat) (s : State) : Decoder := tget {} e s.binder.decs
/-- Sets decoder `e`. -/
def setDecoder (e : Nat) (x : Decoder) (s : State) : State :=
  { s with binder := { s.binder with decs := tset {} e x s.binder.decs } }
/-- The verdict entry at an index. -/
def vent (i : Nat) (s : State) : VEnt := tget {} i s.vb
/-- Sets the verdict entry at an index. -/
def setVent (i : Nat) (x : VEnt) (s : State) : State := { s with vb := tset {} i x s.vb }
/-- Barrier `b`. -/
def barrier (b : Nat) (s : State) : Barrier := tget {} b s.barriers
/-- Sets barrier `b`. -/
def setBarrier (b : Nat) (x : Barrier) (s : State) : State := { s with barriers := tset {} b x s.barriers }
/-- SENSE channel `n`. -/
def sense (n : Nat) (s : State) : Sense := tget {} n s.senses
/-- Sets SENSE channel `n`. -/
def setSense (n : Nat) (x : Sense) (s : State) : State := { s with senses := tset {} n x s.senses }

/-- A sequencer is inside a shot (Table 4.1; R74). -/
def insideShot (q : Seq) : Bool :=
  match q.st with
  | .running => true
  | .waiting => true
  | .stalled => true
  | .faulted => !q.queue.isEmpty
  | _ => false

/-- Sequencer `g` is inside a shot. -/
def inShot (g : Nat) (s : State) : Bool := insideShot (seq g s)

/-- Some sequencer of the device is inside a shot (R74). -/
def anyInShot (s : State) : Bool := s.seqs.any (fun e => insideShot e.2)

/-- The next free word (a value the specification leaves open), and the counter advanced. -/
def takeFree (s : State) : State := { s with free := s.free + 1 }

/-- The device number in force (R333); 0 without a configuration. -/
def devNum (s : State) : Nat := fR oFedStatus 39 36 s

end Sys2Proof.Machine
end

