-- ==== Sys2Proof/Machine/OutOps.lean ====
section
/-! DEFINITION. Drive and probe tones, fast flux channels and tone slots as units: what a commit moves, calibration
bands and trims, the datapaths of the outputs with their clip counts and program streams, and the filter set of a
slot (R100, R128-R140, R182, R186, R191). -/

namespace Sys2Proof.Machine

/-- FREQ of bank `b` of a tone. -/
def oFreq (probe : Bool) (g b : Nat) : Nat := if probe then oPrbFreq g b else oDrvFreq g b
/-- PHASE of bank `b` of a tone. -/
def oPhase (probe : Bool) (g b : Nat) : Nat := if probe then oPrbPhase g b else oDrvPhase g b
/-- CTL of a tone. -/
def oCtl (probe : Bool) (g : Nat) : Nat := if probe then oPrbCtl g else oDrvCtl g

/-- The shadowed registers of a tone unit (R131). -/
def toneRegs (probe : Bool) (g : Nat) : List Nat :=
  (upTo 8).map (oFreq probe g) ++ (upTo 8).map (oPhase probe g) ++ [oCtl probe g]

/-- The bank in force of a tone. -/
def bankOf (probe : Bool) (g : Nat) (s : State) : Nat := fF (oCtl probe g) 22 20 s

/-- The tone number that names a factory trim table. -/
def toneId (probe : Bool) (g : Nat) : Nat := if probe then 1000 + g else g

/-- The output that sums a tone (class 3 of Table 24.2). -/
def toneOut (probe : Bool) (g : Nat) : Nat :=
  if probe then 256 + 8 * (g / 96) + g % 96 / 12 else 16 * (g / 96) + g % 96 / 4

/-- The band of tile `t` (TILE_BAND). -/
def tileBand (t : Nat) (s : State) : Nat := fR (oTileBand t) 1 0 s

/-- Where a frequency word stands between the 64 table frequencies, spread evenly over 0.5 to 7.9 GHz (R137): the table entry below
it and the fraction to the next one, numerator and denominator. A word of 2^39 or above gives 16 GHz less its frequency (R129);
outside the table, its nearest end.
[log: 123 DESIGN CHOICE] -/
def trimPlace (f : W40) : Nat × Nat × Nat :=
  let n := if f.toNat < 2 ^ 39 then f.toNat else 2 ^ 40 - f.toNat
  let den := 2 ^ 41 * 74
  let num := min (63 * den) ((32 * n - 2 ^ 40) * 630)
  let k := min 62 (num / den)
  (k, num - k * den, den)

/-- Linear interpolation between two table values, rounded to the nearest (R137).
[log: 123 DESIGN CHOICE] -/
def between (a b : Int) (num den : Nat) : Int := a + (2 * (b - a) * num + den) / (2 * den)

/-- One 20-bit trim at frequency word `f` of a table of words, its field in bits hi:lo, signed or not (R137). -/
def trimAt (tab : Nat → W40) (lo : Nat) (signed : Bool) (f : W40) : BitVec 20 :=
  let (k, num, den) := trimPlace f
  let v := fun (j : Nat) => let x := fld (tab j) (lo + 19) lo; if signed then sx 20 x else (x : Int)
  BitVec.ofInt 20 (between (v k) (v (k + 1)) num den)

/-- Recomputes the trims of the bank in force from its committed frequency and the tone's band (R137). -/
def retrim (probe : Bool) (g : Nat) (s : State) : State :=
  let x := tone probe g s
  if x.trimmed then
    if s.sec.trimBad.contains (.tone probe g x.band) then
      setTone probe g { x with gain := 0x80000, ptrim := 0, carI := 0, carQ := 0 } s
    else
      let f := tget 0 (bankOf probe g s) x.comm
      let a := Config.toneTrim (toneId probe g) x.band
      let c := Config.toneCarrier (toneId probe g) x.band
      setTone probe g { x with gain := trimAt a 0 false f, ptrim := trimAt a 20 false f,
                               carI := trimAt c 20 true f, carQ := trimAt c 0 true f } s
  else s

/-! ### Changes that a slot stream sees (R175, R182, R185, R186) -/

/-- The chain settings of slot `g` in force. -/
def chainNow (g : Nat) (s : State) : ChainSet := ⟨getF (oSlotCfg g) s, getF (oSlotGain g) s, getF (oSlotDet g) s⟩

/-- FREQ of the selected bank of the probe tone of slot `g`, and its POFS and VZ added up. -/
def probeNow (g : Nat) (s : State) : W40 × BitVec 20 :=
  let b := bankOf true g s
  (getF (oFreq true g b) s, BitVec.ofNat 20 (fF (oPhase true g b) 19 0 s) + (tone true g s).vz)

/-- A change of kind `k` at tick `x` marks samples of slot `g` (R185, R186). -/
def noteTrn (g k : Nat) (x : Tick) (s : State) : State := setSlot g { slot g s with trn := (k, x) :: (slot g s).trn } s

/-- The demodulation of slot `g` changes from ball tick `x` on where its probe settings have changed since `was` (R175, R186).
[log: 23 DEDUCED] -/
def demodNote (g : Nat) (x : Tick) (was s : State) : State :=
  if probeNow g s = probeNow g was then s
  else
    noteTrn g 0 x (setSlot g { slot g s with
      probes := histNote x (probeNow g was) (probeNow g s) (slot g s).probes } s)

/-- The filter set of slot `g` changes to `min` (R182): for the ball ticks from the present on, or with a commit that has not reached them
(R186).
[log: 156 DESIGN CHOICE] -/
def noteSet (g : Nat) (was min : Bool) (s : State) : State :=
  let x := match (slot g s).chain with | e :: _ => if due e.1 s then now s else e.1 | [] => now s
  setSlot g { slot g s with sets := histNote x was min (slot g s).sets } s

/-- The chain settings of slot `g` change from `was` for ball ticks 19 after the present and later; samples that span the change carry TRN
(R186). -/
def chainNote (g : Nat) (was : ChainSet) (s : State) : State :=
  let x := plus (now s) 19
  noteTrn g 0 x (setSlot g { slot g s with chain := histNote x was (chainNow g s) (slot g s).chain } s)

/-- A commit of a tone unit takes effect (R131, R137, R392): every shadow moves into force, the trims follow the
committed frequencies, and a gleaned correction goes when FREQ of the bank in force changes. -/
def commitTone (probe : Bool) (g : Nat) (s : State) : State :=
  let was := s
  let f0 := getF (oFreq probe g (bankOf probe g s)) s
  let s := commitRegs (toneRegs probe g) s
  let x := tone probe g s
  let f1 := getF (oFreq probe g (bankOf probe g s)) s
  let x := { x with stale := false, trimmed := true,
                    comm := foldS (fun b t => tset 0 b (getF (oFreq probe g b) s) t) (upTo 8) [] }
  let x := if f0 != f1 then { x with di := 0, dq := 0 } else x
  let s := retrim probe g (setTone probe g x s)
  if probe then demodNote g (now s) was s else s

/-- The shadowed registers of a flux unit. -/
def fluxRegs (g : Nat) : List Nat := [oFluxGain g] ++ (upTo 4).map (oFluxIir g) ++ (upTo 64).map (oFluxFir g)

/-- The shadowed registers of the sequencer unit. -/
def seqRegs (g : Nat) : List Nat := [oSeqCtl g, oSeqEvsel g 0, oSeqEvsel g 1]

/-- The shadowed registers of a tone slot (R189, R207). -/
def slotRegs (g : Nat) : List Nat :=
  [oSlotCfg g, oSlotGain g, oSlotDet g, oThrCfg g, oThrRing g] ++ (upTo 3).map (oThrBab g) ++ (upTo 3).map (oThrBc g)
    ++ (upTo 4).map (oThrCi g) ++ (upTo 4).map (oThrCq g) ++ [oWinAxis g, oWinCtl g, oWinThr g, oWinOfs g, oWinSlope g]

/-- The bits of MODE that sequencers adopt at their boundaries: SEQUENCE, PAIRED and HOLD. -/
def seqBits (v : W40) : Bool × Bool × Bool := (bit v 0, bit v 3, bit v 5)

/-- What a sequencer has adopted of mode bit `b` (R35): the old value until its boundary, then the MODE bit. -/
def seqHas (b g : Nat) (s : State) : Bool :=
  let q := seq g s
  if q.modePend then (match b with | 0 => q.effSeq | 5 => q.effHold | _ => q.effPair) else modeOn b s

/-- EFFECTIVE of MODE_STATUS: the bit is in force in every unit it governs. -/
def effective (b : Nat) (s : State) : Bool :=
  match b with
  | 2 => relays s
  | 1 => modeOn 1 s
  | 4 => modeOn 4 s
  | _ =>
    if modeOn b s then s.seqs.all (fun e => seqHas b e.1 s)
    else decide ((s.seqs.filter (fun e => seqHas b e.1 s)).length = nSeqs s)

/-- The minimum-phase set is permitted for slot `g` (R181). -/
def minPhaseOk (g : Nat) (s : State) : Bool :=
  s.life == .safe || relays s || effective 5 s || bF (oSlotCfg g) 29 s

/-- The end tick of the window open on slot `g`, if one is open (R190). -/
def openWindow (g : Nat) (s : State) : Option Tick :=
  match (slot g s).wins.find? (fun x => decide (0 < x.w) && notBefore (now s) x.t
      && !notBefore (now s) (plus x.t x.w)) with
  | some x => some (plus x.t x.w)
  | none => none

/-- FSET_EFF of slot `g` follows FSET in force and the permission (R182): at once, or at the end of an open window. -/
def fsetUpdate (g : Nat) (s : State) : State :=
  let want := bF (oSlotCfg g) 34 s && minPhaseOk g s
  if want = bR (oSlotStatus g) 11 s then setSlot g { slot g s with fsetAt := none } s
  else
    match openWindow g s with
    | some e => setSlot g { slot g s with fsetAt := some e } s
    | none => noteSet g (!want) want (setSlot g { slot g s with fsetAt := none } s |> putB (oSlotStatus g) 11 want)

/-- FSET_EFF of every slot whose FSET in force is 1, or that still runs minimum-phase, when a permission changes. -/
def fsetAll (s : State) : State :=
  foldS (fun g s => if bF (oSlotCfg g) 34 s || bR (oSlotStatus g) 11 s then fsetUpdate g s else s) (upTo (nSeqs s)) s

/-- The kernel page of a slot that is in force, and its shadow page (R191): KPAGE_EFF selects. -/
def kpage (g : Nat) (s : State) : Bool := bR (oThrFlags g) 7 s

/-- FSET 1 that comes into force without permission sets FILTER_DENIED and writes its record (R182). -/
def fsetDenied (g : Nat) (s : State) : State :=
  if bF (oSlotCfg g) 34 s && !minPhaseOk g s then
    s |> putB (oSlotStatus g) 10 true |> record (0x2000 + g) 0x504 0 0
  else s

/-- A commit of tone slot `g` takes effect (R186, R191, R182); while a kernel load runs it waits (R299). -/
def commitSlot (g : Nat) (s : State) : State :=
  if (slot g s).loading then setSlot g { slot g s with held := true } s
  else
    let was := chainNow g s
    let s := commitRegs (slotRegs g) s
    let s := putB (oThrFlags g) 7 (!kpage g s) s
    let s := chainNote g was s
    fsetUpdate g (fsetDenied g s)

/-- A commit of a flux unit takes effect (R131, R138): an action still under way goes on with the old set to its end (R100). -/
def commitFlux (g : Nat) (s : State) : State :=
  let f := flux g s
  let keep := match f.hold with
    | some (fin, _) => !due fin s
    | none => false
  let s := match f.env with
    | some e =>
      if due e.fin s || keep then s
      else setFlux g { f with hold := some (e.fin, (fluxRegs g).map (fun o => (o, getF o s))) } s
    | none => s
  commitRegs (fluxRegs g) s

/-- A commit of unit `u` of sequencer `g` takes effect (Table 2.8: 0 sequencer, 1 drive tone, 2 probe tone, 3 tone slot,
4 fast flux channel). -/
def commitUnit (u g : Nat) (s : State) : State :=
  match u with
  | 0 => commitRegs (seqRegs g) s
  | 1 => commitTone false g s
  | 2 => commitTone true g s
  | 3 => commitSlot g s
  | _ => commitFlux g s

/-- A boundary item of kind `k` arrives in the present tick: it waits for the next boundary after it (R48). -/
def arrive (k g : Nat) (s : State) : State := { s with fresh := (k, g) :: s.fresh }

/-- A boundary item has arrived in the present tick. -/
def isFresh (k g : Nat) (s : State) : Bool := s.fresh.contains (k, g)

/-- A COMMIT reaches a unit (R100): it takes effect at once outside a shot, else it waits for the boundary; a second one
merges with it (R422). -/
def commitReq (u g : Nat) (s : State) : State :=
  if inShot g s then
    if (seq g s).commits.contains u then s
    else arrive u g (modSeq g (fun q => { q with commits := insNat u q.commits }) s)
  else commitUnit u g (arrive (10 + u) g s)

/-- The shadowed registers of unit `u` of sequencer `g`. -/
def unitRegs (u g : Nat) : List Nat :=
  match u with
  | 0 => seqRegs g
  | 1 => toneRegs false g
  | 2 => toneRegs true g
  | 3 => slotRegs g
  | _ => fluxRegs g

/-- A shadow write to the register at `off` in the tick of an at-once commit of its unit is in the committed set (R422). -/
def joinCommit (off : Nat) (s : State) : State :=
  foldS (fun e s =>
    let u := e.1 - 10
    if 10 ≤ e.1 && e.1 ≤ 14 && (unitRegs u e.2).contains off then
      match u with
      | 1 => commitTone false e.2 s
      | 2 => commitTone true e.2 s
      | 3 =>
        let s' := commitRegs [off] s
        let s' := if chainNow e.2 s' = chainNow e.2 s then s' else chainNote e.2 (chainNow e.2 s) s'
        if (slot e.2 s).loading then s
        else fsetUpdate e.2 (if bF (oSlotCfg e.2) 34 s then s' else fsetDenied e.2 s')
      | _ => commitRegs [off] s
    else if e.1 = 15 && decide (oWaveDesc e.2 0 ≤ off) && decide (off ≤ oWaveDesc e.2 4095) then commitRegs [off] s
    else s) s.fresh s

/-! ### Bands and gleaned results (R137, R392) -/

/-- A tone adopts its tile's band; a gleaned correction goes (R137, R392).
[log: 78 DEDUCED] -/
def bandTone (probe : Bool) (g : Nat) (s : State) : State :=
  retrim probe g
    (setTone probe g { tone probe g s with band := tileBand (g / 96) s, trimmed := true, di := 0, dq := 0 } s)

/-- Sequencer `g` applies a pending band set to its tones.
[log: 78 DEDUCED] -/
def applyBand (g : Nat) (s : State) : State :=
  let s := modSeq g (fun q => { q with bandPend := false }) s
  let s := bandTone true g s
  if g % 96 < 64 then bandTone false g s else s

/-- Whether some tone of tile `t` has yet to adopt its band. -/
def bandWaits (t : Nat) (s : State) : Bool := s.seqs.any (fun e => e.1 / 96 == t && e.2.bandPend)

/-- Adds a correction to a trim, with saturation (R392). -/
def addS20 (a b : BitVec 20) : BitVec 20 := BitVec.ofInt 20 (satI 20 (a.toInt + b.toInt))

/-- A pending LO_LEAK result of a tone applies (R392). -/
def gleanTone (probe : Bool) (g : Nat) (s : State) : State :=
  match (tone probe g s).glean with
  | some (w1, di, dq) =>
    setTone probe g { tone probe g s with glean := none, di := di, dq := dq } s
      |> recordB g (0x3000 + toneOut probe g) 0x901 0 w1
  | none => s

/-- A pending DAC_CELL trim of output `o` applies, at a boundary of sequencer `g` (R392). -/
def gleanCell (g o : Nat) (s : State) : State :=
  match (outp o s).cellPend with
  | some (w1, c) =>
    setOut o { outp o s with cellPend := none, cell := c } s |> recordB g (0x3000 + o) 0x901 0 w1
  | none => s

/-! ### Datapaths of the outputs (R128-R140) -/

/-- The address of word `i` of waveform memory of tile `t` in the table that holds all tiles. -/
def waveKey (t i : Nat) : Nat := 0x200000 * t + i

/-- The words that a descriptor names (WAVE_DESC: START in units of 8 words, LENGTH in words). -/
def descWords (t : Nat) (d : W40) (s : State) : List W40 :=
  (upTo (fld d 19 2)).map (fun i => tget 0 (waveKey t (8 * fld d 37 20 + i)) s.wave)

/-- The settings of a tone as they stand (R129, R131). -/
def toneSet (probe : Bool) (g : Nat) (s : State) : ToneSet :=
  let tn := tone probe g s
  let b := bankOf probe g s
  { en := bF (oCtl probe g) 23 s
    freq := getF (oFreq probe g b) s
    pofs := BitVec.ofNat 20 (fF (oPhase probe g b) 19 0 s) + tn.vz
    amp := BitVec.ofNat 20 (fF (oCtl probe g) 19 0 s)
    gain := tn.gain
    ptrim := tn.ptrim
    carI := satI 20 (tn.carI.toInt + tn.di.toInt)
    carQ := satI 20 (tn.carQ.toInt + tn.dq.toInt) }

/-- The settings without the factory trims: those of the program stream (R135). -/
def untrimmed (c : ToneSet) : ToneSet := { c with gain := 0x80000, ptrim := 0, carI := 0, carQ := 0 }

/-- The phase of a tone with settings `c` at tick `x`, sample offset `o` (R20, R129): a function of the position in time alone. -/
def ncoPhase (c : ToneSet) (x : Tick) (o : Nat) : W40 :=
  w (c.freq.toNat * (16 * x.toNat + o) + (c.pofs + c.ptrim).toNat * 2 ^ 20)

/-- The 24 upper bits of a phase (R129). -/
def phase24 (ph : W40) : BitVec 24 := BitVec.ofNat 24 (ph.toNat / 2 ^ 16)

/-- A result in an s20 format: the value at the nearest end of its range, and whether it saturated (R128). -/
def toS20 (x : Int) : Int × Bool := (satI 20 x, satI 20 x != x)

/-- A product rounded to 20 bits, `sh` fractional bits dropped (R128). -/
def mulS20 (a b : Int) (sh : Nat) : Int × Bool := toS20 (roundShift (a * b) sh)

/-- One part of an envelope through AMP, GAIN and the carrier trim, and whether a result saturated (R128, R129). -/
def scaled (amp gain e car : Int) : Int × Bool :=
  let a := mulS20 amp e 19
  let b := mulS20 gain a.1 19
  let c := toS20 (b.1 + car)
  (c.1, a.2 || b.2 || c.2)

/-- The sum over samples, the first at position 0, of sample times response at `p` less the sample's position, spaced `step`. -/
def response (k : Int → Int) (step : Int) (p : Int) : List Int → Int
  | [] => 0
  | a :: t => a * k p + response k step (p - step) t

/-- One part of the envelope at output sample `n` of the action, sample offset `o`, fractional delay `u` (R24, R130): the words, 0.5 ns
apart, through the interpolator, delayed by 16 o + u in 1/256 ns; and whether it saturated (R128).
[log: 105 DESIGN CHOICE] -/
def interp (part : W40 → Int) (ws : List W40) (o u n : Nat) : Int × Bool :=
  toS20 (roundShift (response Config.interpKernel 128 (16 * (n : Int) - 16 * o - u) (ws.map part)) 19)

/-- The I part of an envelope word. -/
def partI (v : W40) : Int := sx 20 (fld v 39 20)
/-- The Q part of an envelope word. -/
def partQ (v : W40) : Int := sx 20 (fld v 19 0)

/-- The envelope of tile `t` at tick `x`, offset `o`: I and Q, and whether one saturated. -/
def envelope (t : Nat) (e : Env) (x : Tick) (o : Nat) (s : State) : Int × Int × Bool :=
  if e.kindOk && notBefore x e.start && !notBefore x e.fin then
    let n := 16 * (x - e.start).toNat + o
    let ws := descWords t e.desc s
    let i := interp partI ws e.o e.u n
    let q := interp partQ ws e.o e.u n
    (i.1, q.1, i.2 || q.2)
  else (0, 0, false)

/-- The settings that the sample of a tone at tick `x` is computed with: those of the action under way, which it took at its launch
(R77, R100), else the tone's own.
[log: 124 DEDUCED] -/
def sampleSet (probe : Bool) (g : Nat) (x : Tick) (s : State) : ToneSet :=
  match (tone probe g s).env with
  | some e => if notBefore x e.start && !notBefore x e.fin then e.set else toneSet probe g s
  | none => toneSet probe g s

/-- The contribution of a tone with settings `c` and envelope `e` at tick `x`, offset `o`, and whether a result saturated
(R129, R132). -/
def toneValue (c : ToneSet) (e : Int × Int × Bool) (x : Tick) (o : Nat) : Int × Bool :=
  if c.en then
    let ph := phase24 (ncoPhase c x o)
    let i := scaled c.amp.toInt c.gain.toNat e.1 c.carI
    let q := scaled c.amp.toInt c.gain.toNat e.2.1 c.carQ
    let y := toS20 (roundShift (i.1 * (Config.cosine ph).toInt - q.1 * (Config.sine ph).toInt) 19)
    (y.1, e.2.2 || i.2 || q.2 || y.2)
  else (0, false)

/-- The contribution of a tone to its output at tick `x`, offset `o`; `trim` false gives that to the program stream (R135). -/
def toneSample (probe : Bool) (g : Nat) (trim : Bool) (x : Tick) (o : Nat) (s : State) : Int × Bool :=
  let c := sampleSet probe g x s
  let e := match (tone probe g s).env with
    | some e => envelope (g / 96) e x o s
    | none => (0, 0, false)
  toneValue (if trim then c else untrimmed c) e x o

/-- The tones summed on RF output `o` (R133). -/
def tonesOf (o : Nat) : Bool × List Nat :=
  if o < 256 then (false, (upTo 4).map (fun d => 96 * (o / 16) + 4 * (o % 16) + d))
  else (true, (upTo 12).map (fun d => 96 * ((o - 256) / 8) + 12 * ((o - 256) % 8) + d))

/-- SUM_SHIFT of RF output `o`. -/
def sumShift (o : Nat) (s : State) : Nat := if o < 256 then fR (oXyCfg o) 2 0 s else fR (oProbeCfg (o - 256)) 2 0 s

/-- The code of RF output `o` for one sample, and whether it saturated (R133); `trim` false gives the program stream. -/
def rfCode (o : Nat) (trim : Bool) (x : Tick) (k : Nat) (s : State) : Int × Bool :=
  let (probe, gs) := tonesOf o
  let ys := gs.map (fun g => toneSample probe g trim x k s)
  let acc := ys.foldl (fun a y => a + y.1) (0 : Int)
  let sh := sumShift o s
  let c := (acc + (2 ^ (3 + sh) : Nat)) / (2 ^ (4 + sh) : Nat)
  (satI 16 c, satI 16 c != c || ys.any (fun y => y.2))

/-- One byte of the IEEE 802.3 CRC-32, reflected, one bit at a time. -/
def crcBits : Nat → Nat → Nat
  | 0, c => c
  | n + 1, c => crcBits n (if c % 2 = 1 then (c / 2) ^^^ 0xEDB88320 else c / 2)

/-- The CRC-32 register after one byte. -/
def crcByte (c b : Nat) : Nat := crcBits 8 (c ^^^ b)

/-- The CRC-32 register after 16-bit codes, least significant byte first (R135). -/
def crcCodes : Nat → List Int → Nat
  | c, [] => c
  | c, x :: xs => crcCodes (crcByte (crcByte c (unsx 16 x % 256)) (unsx 16 x / 256)) xs

/-- Product of two polynomials modulo the CRC-32 polynomial, both reflected (bit 31 is x^0); `k` bits of `a` are left. -/
def crcMul (a : Nat) : Nat → Nat → Nat → Nat
  | 0, _, p => p
  | k + 1, b, p => crcMul a k (if b % 2 = 1 then (b / 2) ^^^ 0xEDB88320 else b / 2) (if a.testBit k then p ^^^ b else p)

/-- `p` times `b` to the power `n`, by squaring. -/
def crcPow : Nat → Nat → Nat → Nat → Nat
  | 0, _, _, p => p
  | k + 1, n, b, p =>
    if n = 0 then p else crcPow k (n / 2) (crcMul b 32 b 0) (if n % 2 = 1 then crcMul b 32 p 0 else p)

/-- The CRC-32 register after `n` bytes of zero: the register times x^(8 n). -/
def crcZeros (n c : Nat) : Nat := crcPow 64 n (2 ^ 23) c

/-- Bytes of the program stream of output `o` in one tick: 16 codes, or 2 on a flux channel. -/
def bytesPerTick (o : Nat) : Nat := if o < 512 then 32 else 4

/-- The CRC of output `o` brought up to tick `x`: ticks not evaluated carried zero codes. -/
def crcUpTo (o : Nat) (x : Tick) (s : State) : Nat :=
  let out := outp o s
  if notBefore x out.crcAt then crcZeros (bytesPerTick o * (x - out.crcAt).toNat) out.crc.toNat else out.crc.toNat

/-- Puts the codes of the present tick into the CRC of output `o`. -/
def crcPut (o : Nat) (codes : List Int) (s : State) : State :=
  setOut o { outp o s with crc := BitVec.ofNat 32 (crcCodes (crcUpTo o (now s) s) codes), crcAt := plus (now s) 1 } s

/-- Closes the compared shot of output `o` at tick `x` (R341): its CRC, and a new one begun. -/
def crcClose (o : Nat) (x : Tick) (s : State) : BitVec 32 × State :=
  (BitVec.ofNat 32 (crcUpTo o x s ^^^ 0xFFFFFFFF),
   setOut o { outp o s with crc := 0xFFFFFFFF, crcAt := x } s)

/-- What an output keeps of the past as the tick ends: a program stream that has carried zeros for long has them in its CRC. -/
def outTidy (o : Nat) (s : State) : State :=
  let x := outp o s
  let x := { x with ball := x.ball.map (fun b => (b.1, keepPast (now s) b.2)) }
  setOut o (if stale x.crcAt (now s) then { x with crc := BitVec.ofNat 32 (crcUpTo o (now s) s), crcAt := now s } else x) s

/-- CLIP_COUNT register of RF output `o`. -/
def oClip (o : Nat) : Nat := if o < 256 then oXyStat o else oProbeStat (o - 256)

/-- RF output `o` is computed for the present tick: its program stream enters the CRC, a saturated sample is counted (R133, R135),
and the answer holds its 16 codes. An output none of whose tones is enabled carries zero codes. -/
def rfTick (o : Nat) (s : State) : List Int × State :=
  let (probe, gs) := tonesOf o
  if gs.any (fun g => (sampleSet probe g (now s) s).en) then
    let ks := upTo 16
    let cs := ks.map (fun k => rfCode o true (now s) k s)
    let s' := crcPut o (ks.map (fun k => (rfCode o false (now s) k s).1)) s
    (cs.map (fun c => c.1),
      if cs.any (fun c => c.2) then
        bump (oClip o) 39 20 s' |> recordIf (fR (oClip o) 39 20 s = 0) (0x3000 + o) 0x400 0 0
      else s')
  else ([], s)

/-- The set of registers that the stream of flux channel `g` is computed with: what an action under way took (R100), else what is in
force. -/
def fluxReg (g off : Nat) (s : State) : W40 :=
  match (flux g s).hold with
  | some (fin, tab) => if due fin s then getF off s else tget 0 off tab
  | none => getF off s

/-- The two samples of a real pair word, A and then B (R96).
[log: 121 DEDUCED] -/
def pairSamples (v : W40) : List Int := [sx 20 (fld v 39 20), sx 20 (fld v 19 0)]

/-- The samples on each side that the fractional delay takes in.
[log: 105 DESIGN CHOICE] -/
def fluxReach : Nat := 64

/-- The samples that the action under way on flux channel `g` still brings from tick `x`, half `h`, on: through FLUX_GAIN, an offset of 8 or
more one whole sample later (R138, R139); each with whether it saturated. -/
def fluxAhead (g : Nat) (x : Tick) (h : Nat) (s : State) : List (Int × Bool) :=
  match (flux g s).env with
  | some e =>
    if e.kindOk && notBefore x e.start && !notBefore x e.fin then
      let gain := sx 20 (fld (fluxReg g (oFluxGain g) s) 19 0)
      let xs := List.replicate (e.o / 8) 0 ++ (descWords (g / 96) e.desc s).flatMap pairSamples
      (xs.drop (2 * (x - e.start).toNat + h)).map (fun a => mulS20 gain a 18)
    else []
  | none => []

/-- The stream of flux channel `g` at tick `x`, half `h`, after the fractional delay, which the last PLAYF has set (R138, R139); whether this
sample's gain or the delay saturated; and the state after it, whose line has taken the sample in.
[log: 105 DESIGN CHOICE] -/
def fluxDelay (g : Nat) (x : Tick) (h : Nat) (s : State) : Int × Bool × State :=
  let f := flux g s
  let xs := fluxAhead g x h s
  let d : Int := f.delay
  let ahead := response Config.delayKernel 128 (-d) ((xs.take fluxReach).map (fun a => a.1))
  let behind := response Config.delayKernel (-128) (128 - d) f.line
  let y := toS20 (roundShift (ahead + behind) 19)
  let a := nth (0, false) xs 0
  (y.1, y.2 || a.2, setFlux g { f with line := (a.1 :: f.line).take fluxReach } s)

/-- One IIR term of R140 for the sample `x`: its new state, an s40 with the sample's LSB at 2^20, its part of `v`, and whether a
result saturated (R128).
[log: 125 DEDUCED] -/
def iirTerm (cfg : W40) (st x : Int) : Int × Int × Bool :=
  let al : Int := fld cfg 39 20
  let st' := satI 40 (st + roundShift (al * (x * 2 ^ 20 - st)) 20)
  let e := toS20 (if al = 0 then 0 else x - roundShift st' 20)
  let p := mulS20 (sx 20 (fld cfg 19 0)) e.1 19
  (st', p.1, e.2 || p.2)

/-- One 2 GS/s sample `x` of flux channel `g` through the terms, the FIR and the rounding (R138, R140): its code, whether it saturated,
and the state after it. -/
def fluxStep (g : Nat) (x : Int) (s : State) : Int × Bool × State :=
  let f := flux g s
  let ts := (upTo 4).map (fun i => iirTerm (fluxReg g (oFluxIir g i) s) (nth 0 f.iir i) x)
  let v := toS20 (x + ts.foldl (fun a t => a + t.2.1) 0)
  let past := (v.1 :: f.past).take 64
  let taps := (upTo past.length).map (fun j => mulS20 (sx 20 (fld (fluxReg g (oFluxFir g j) s) 19 0)) (nth 0 past j) 18)
  let w := toS20 (taps.foldl (fun a p => a + p.1) (0 : Int))
  let c := satI 16 ((w.1 + 8) / 16)
  (c, v.2 || w.2 || c != (w.1 + 8) / 16 || ts.any (fun t => t.2.2) || taps.any (fun p => p.2),
    setFlux g { f with iir := ts.map (fun t => t.1), past := past } s)

/-- Flux channel `g` is computed for the present tick (R138: always, whatever mute): the answer holds its two codes. A channel whose
filter state and stream are zero stays at zero. -/
def fluxTick (g : Nat) (s : State) : List Int × State :=
  let f := flux g s
  let on := match f.env with | some e => !due e.fin s | none => false
  let live := fun (l : List Int) => l.any (fun x => x != 0)
  if on || live f.line || live f.iir || live f.past then
    let (x0, b0, s0) := fluxDelay g (now s) 0 s
    let (c0, a0, s0) := fluxStep g x0 s0
    let (x1, b1, s1) := fluxDelay g (now s) 1 s0
    let (c1, a1, s1) := fluxStep g x1 s1
    let s2 := crcPut (512 + g) [c0, c1] s1
    ([c0, c1],
      if b0 || b1 || a0 || a1 then
        bump (oFluxStatus g) 39 20 s2 |> recordIf (fR (oFluxStatus g) 39 20 s = 0) (0x3200 + g) 0x402 0 0
      else s2)
  else ([], s)

/-- The envelope of a flux channel, and the set of registers that it kept, end with its extent. -/
def fluxEnvDone (g : Nat) (s : State) : State :=
  let f := flux g s
  let ended := match f.env with | some e => due e.fin s | none => false
  let free := match f.hold with | some (x, _) => due x s | none => false
  if ended || free then
    setFlux g { f with env := if ended then none else f.env, hold := if free then none else f.hold } s
  else s

/-- Ends the envelopes whose extent is over. -/
def envDone (probe : Bool) (g : Nat) (s : State) : State :=
  match (tone probe g s).env with
  | some e => if due e.fin s then setTone probe g { tone probe g s with env := none } s else s
  | none => s

end Sys2Proof.Machine
end

