-- ==== Sys2Proof/Machine/Chain.lean ====
section
/-! DEFINITION. The readout chain from the ADC to the slot stream: conversion, the marks of an ADC, the channelizer, the fine NCO, the slot
FIR and its gain, decimation, the stream flags, and the delays of Table 8.5 (R165, R166, R172-R188). -/

namespace Sys2Proof.Machine

/-- A slot sample on its way to the control die: I and Q as s20, its flags, whether the transfer that carries it failed (R15), and whether a
product saturated (R177). -/
structure Sample where
  i : BitVec 20
  q : BitVec 20
  flags : Flags
  crcBad : Bool
  sat : Bool := false
  deriving DecidableEq, Repr

/-! ### The converter (R165, R166) -/

/-- The code of an input of `uv` µV: 0.5 V/2,048 a code, rounded to the nearest, at the rail beyond the code range.
[log: 140 DESIGN CHOICE] -/
def adcCode (uv : Int) : Int := clampI (-2048) 2047 ((2 * uv * 2048 + 500000) / 1000000)

/-- OVR: the input exceeds ±0.53 V. -/
def adcOver (uv : Int) : Bool := decide (530000 < uv.natAbs)

/-- A saturated sample: a rail code with OVR 0. -/
def adcSat (uv : Int) : Bool := !adcOver uv && (adcCode uv == -2048 || adcCode uv == 2047)

/-- The 13 bits of a sample. -/
def adcSample (uv : Int) : BitVec 13 := BitVec.ofNat 13 (b2n (adcOver uv) * 2 ^ 12 + unsx 12 (adcCode uv))

/-- The feedline of a slot, as the number of its ADC (R176: twelve slots to a feedline). -/
def slotAdc (g : Nat) : Nat := 8 * (g / 96) + g % 96 / 12

/-- The marks of ADC `a` as they stand (R167, R168, R172). -/
def adcMark (a : Nat) (s : State) : AdcMark :=
  let st := (getR (oAdcStatus a) s)
  let off := !bit st 0 && !bit st 1
  { cal := bit st 1, deg := off || bit st 3 || bit st 2, off := off }

/-- The marks of ADC `a` at ball tick `x`. -/
def markAt (a : Nat) (x : Tick) (s : State) : AdcMark := histAt (adcMark a s) x (adc a s).marks

/-- The marks of the ADCs of the tick that ends (R173). Before its first self-calibration an ADC carries code 0 with CAL (R167). -/
def marksEnd (s : State) : State :=
  foldS (fun e s =>
    let x := adc e.1 s
    if tilePowered (e.1 / 8) s then
      setAdc e.1 { x with marks := histTidy (now s) (histNote (now s) (markAt e.1 (now s) s) (adcMark e.1 s) x.marks) } s
    else s) s.adcs s

/-- The samples that a command brings, from ball tick `base` on. -/
structure Feed where
  base : Tick
  ticks : List AdcTick

/-- Ball tick `x` of a feed; zeros where it brings nothing. -/
def feedTick (f : Feed) (x : Tick) : AdcTick := nth ⟨[], false⟩ f.ticks (x - f.base).toNat

/-- The sample that ADC `a` converts `d` samples of 1/16 ns from the first of ball tick `x`: code 0 while the stream carries zeros. -/
def rawSample (a : Nat) (f : Feed) (x : Tick) (d : Int) (s : State) : BitVec 13 :=
  let y := x + BitVec.ofInt 40 (d / 16)
  if (markAt a y s).off then 0 else adcSample (nth 0 (feedTick f y).uv (d % 16).toNat)

/-- Raw sample `o` of ball tick `x` as it comes up the die link: zero where its transfer failed (R15). -/
def rawUp (a : Nat) (f : Feed) (x : Tick) (o : Nat) (s : State) : BitVec 13 :=
  if (feedTick f x).crcBad then 0 else rawSample a f x o s

/-- The code of a raw sample: 12-bit two's complement. -/
def rawCode (v : BitVec 13) : Int := sx 12 (v.toNat % 4096)

/-! ### Settings of a slot at a ball tick (R175, R182, R186) -/

/-- The chain settings of slot `g` for ball tick `x`. -/
def chainAt (g : Nat) (x : Tick) (s : State) : ChainSet := histAt (chainNow g s) x (slot g s).chain

/-- D of chain settings. -/
def chainD (c : ChainSet) : Nat := 2 ^ fld c.cfg 31 30

/-- The filter set of slot `g` for ball tick `x`: minimum-phase or not. -/
def setAt (g : Nat) (x : Tick) (s : State) : Bool := histAt (bR (oSlotStatus g) 11 s) x (slot g s).sets

/-- The probe settings of slot `g` for ball tick `x`: those that apply to probe actions launched at it. -/
def probeAt (g : Nat) (x : Tick) (s : State) : W40 × BitVec 20 := histAt (probeNow g s) x (slot g s).probes

/-! ### Bands, demodulation, filter and gain (R174-R179) -/

/-- A band sample of slot `g` at ball tick `x` (R174): the stream of band `b` at sample offset 0, from four ball ticks on each side; the
response is the conjugate of itself at the opposite distance. -/
def bandSample (b a : Nat) (f : Feed) (x : Tick) (s : State) : Int × Int :=
  let term := fun (z : Int × Int) (k : Nat) =>
    let d : Int := (k : Int) - 64
    let v := rawCode (rawSample a f x d s)
    let h := Config.bandTap b d.natAbs
    (z.1 + v * sx 20 (fld h 39 20), z.2 + (if d < 0 then -v else v) * sx 20 (fld h 19 0))
  let z := (upTo 129).foldl term (0, 0)
  (satI 20 (roundShift z.1 12), satI 20 (roundShift z.2 12))

/-- The frequency word of the centre of band `b` (R174). -/
def bandWord (b : Nat) : W40 := w ((2 * b + 1) * 2 ^ 33)

/-- The rotation of slot `g` at ball tick `x` (R175): the channelizer's and the fine NCO's, locked to the absolute phase of the probe
tone. -/
def demodPhase (g : Nat) (x : Tick) (s : State) : W40 :=
  let c := chainAt g x s
  let p := probeAt g x s
  let n := w (16 * (tickThen x s).toNat)
  let fc := bandWord (fld c.cfg 39 35)
  let po := p.2 + BitVec.ofNat 20 (fld c.cfg 19 0)
  fc * n + ((p.1 - fc) * n + w (po.toNat * 2 ^ 20))

/-- π/2 in units of 2^-64. -/
def halfPi : Int := 28976077832308491369

/-- `n` terms of the alternating series t − t x²/((k+1)(k+2)) + … in units of 2^-64. -/
def series (x : Int) : Nat → Nat → Int → Int
  | 0, _, _ => 0
  | n + 1, k, t => t - series x n (k + 2) (t * x / 2 ^ 64 * x / 2 ^ 64 / ((k + 1) * (k + 2)))

/-- Cosine and sine of a phase of 2^-40 turn, in units of 2^-64 (R175): within a quadrant by fourteen terms of their series, which leaves
less than 2^-58. -/
def unitCircle (ph : W40) : Int × Int :=
  let x : Int := (ph.toNat % 2 ^ 38 : Nat) * halfPi / 2 ^ 38
  let c := series x 14 0 (2 ^ 64)
  let n := series x 14 1 x
  match ph.toNat / 2 ^ 38 with
  | 0 => (c, n)
  | 1 => (-n, c)
  | 2 => (-c, -n)
  | _ => (n, -c)

/-- The slot sample of ball tick `x` before the FIR (R175): the band sample turned back by the whole 40-bit phase.
[log: 141 DESIGN CHOICE] -/
def basebandSample (g : Nat) (f : Feed) (x : Tick) (s : State) : Int × Int :=
  let z := bandSample (fld (chainAt g x s).cfg 39 35) (slotAdc g) f x s
  let (c, n) := unitCircle (demodPhase g x s)
  (satI 20 (roundShift (z.1 * c + z.2 * n) 64), satI 20 (roundShift (z.2 * c - z.1 * n) 64))

/-- Tap `k` of a filter set for bandwidth `bw` (R178): in the linear-phase set tap 31 is zero and the other 31 are symmetric. -/
def firTap (minPh : Bool) (bw k : Nat) : Int :=
  if minPh then (Config.minTap bw k).toInt
  else if k = 31 then 0
  else (Config.linTap bw (min k (30 - k))).toInt

/-- Group delay of a filter set in ball ticks (R178). -/
def groupDelay (minPh : Bool) : Nat := if minPh then 3 else 15

/-- One output of the slot FIR stamped `x`, through RX_GAIN: I, Q, and whether one saturated (R177, R178).
[log: 141 DESIGN CHOICE] -/
def firSample (g : Nat) (minPh : Bool) (f : Feed) (x : Tick) (s : State) : Int × Int × Bool :=
  let c := chainAt g x s
  let term := fun (z : Int × Int) (k : Nat) =>
    let y := basebandSample g f (minus (plus x (groupDelay minPh)) k) s
    let h := firTap minPh (fld c.cfg 33 32) k
    (z.1 + y.1 * h, z.2 + y.2 * h)
  let z := (upTo 32).foldl term (0, 0)
  let gain : Int := fld c.gain 19 0
  let i := roundShift (satI 20 (roundShift z.1 19) * gain) 18
  let q := roundShift (satI 20 (roundShift z.2 19) * gain) 18
  (satI 20 i, satI 20 q, satI 20 i != i || satI 20 q != q)

/-! ### Flags (R173, R182, R185, R186) -/

/-- The span of a slot sample: ball ticks before and after its stamp (Table 8.2). -/
def spanOf (minPh : Bool) : Nat × Nat := if minPh then (32, 7) else (19, 19)

/-- One of `n` samples from stamp `t` on, `d` ticks apart, carries TRN for a change: of a chain, when the span of one (Table 8.2, with
the filter set of the window) holds ball ticks on both sides of it; of the relays at L, when one is stamped L to L + 1,999
(R185, R186).
[log: 23 DEDUCED] -/
def trnMarks (minPh : Bool) (t : Tick) (n d : Nat) (e : Nat × Tick) : Bool :=
  let r := if e.1 = 0 then (if minPh then (n * d - 1 + 7, 31) else (n * d - 1 + 19, 18)) else ((n - 1) * d, 1999)
  0 < n && notBefore (plus t r.1) e.2 && notBefore (plus e.2 r.2) t

/-- The ball ticks from `lo` before to `hi` after tick `x`. -/
def ticksAround (x : Tick) (lo hi : Nat) : List Tick := (upTo (lo + hi + 1)).map (fun k => minus (plus x k) lo)

/-- The flags of the slot sample of `d` ball ticks from stamp `x` on: OVR, CAL and DEG of any sample at the ADC within the spans, TRN of
R185 and R186, MP of the minimum-phase set (Table 8.2). -/
def sampleFlags (g : Nat) (minPh : Bool) (d : Nat) (f : Feed) (x : Tick) (s : State) : Flags :=
  let a := slotAdc g
  let sp := spanOf minPh
  let ys := ticksAround x sp.1 (sp.2 + (d - 1))
  let ms := ys.map (fun y => markAt a y s)
  ⟨ys.any (fun y => !(markAt a y s).off && (feedTick f y).uv.any adcOver),
   ms.any (fun m => m.cal), ms.any (fun m => m.deg), minPh, (slot g s).trn.any (trnMarks minPh x 1 d)⟩

/-! ### The slot stream (R15, R179, R183, R188) -/

/-- The slot sample stamped `x` as it leaves the chain: `d` FIR outputs divided by `d` and rounded half up (R179), with the filter set of its
stamp (R182, R186). -/
def chainSample (g d : Nat) (f : Feed) (x : Tick) (s : State) : Sample :=
  let m := setAt g x s
  let ys := (upTo d).map (fun k => firSample g m f (plus x k) s)
  let mean := fun (p : Int × Int × Bool → Int) => (2 * (ys.map p).sum + d) / (2 * d)
  { i := BitVec.ofInt 20 (mean (fun y => y.1))
    q := BitVec.ofInt 20 (mean (fun y => y.2.1))
    flags := sampleFlags g m d f x s
    crcBad := (feedTick f x).crcBad
    sat := ys.any (fun y => y.2.2) }

/-- A slot sample as it comes up the die link: zero where its transfer failed (R15). -/
def upSample (z : Sample) : Sample := if z.crcBad then { z with i := 0, q := 0 } else z

/-- The slot sample stamped `x` on the control die. -/
def slotSample (g d : Nat) (f : Feed) (x : Tick) (s : State) : Sample := upSample (chainSample g d f x s)

/-- What a command brings for samples from stamp `t` on: its first entry is ball tick `t` − 32, the least that a span reaches. -/
def feedFrom (t : Tick) (xs : List AdcTick) : Feed := ⟨minus t 32, xs⟩

/-- `n` samples of slot `g` on its tile, `d` ball ticks apart, the first stamped `t`. -/
def chainStream (g d n : Nat) (t : Tick) (xs : List AdcTick) (s : State) : List Sample :=
  (upTo n).map (fun k => chainSample g d (feedFrom t xs) (plus t (k * d)) s)

/-- Those samples on the control die. -/
def slotStream (g d n : Nat) (t : Tick) (xs : List AdcTick) (s : State) : List Sample :=
  (chainStream g d n t xs s).map upSample

/-- Ticks from a ball tick to its slot sample at the up path (Table 8.5): converter, channelizer, fine NCO, FIR, decimation. -/
def chainDelay (minPh : Bool) (d : Nat) : Nat := 6 + 8 + 1 + (if minPh then 4 else 16) + (d - 1)

/-- What the chain subtracts from the tick at which a sample leaves it to stamp it (R183, R184). -/
def stampDelay (minPh : Bool) (d : Nat) : Nat := (if minPh then 19 else 31) + 2 * (d - 1)

/-- Samples of slot `g` that have not been seen yet count their saturations (R177).
[log: 24 DESIGN CHOICE] -/
def noteSat (g : Nat) (zs : List (Tick × Sample)) (s : State) : State :=
  let fresh := fun (x : Tick) => match (slot g s).counted with | some c => x != c && notBefore x c | none => true
  let new := zs.filter (fun e => fresh e.1)
  match new.getLast? with
  | some e =>
    setSlot g { slot g s with counted := some e.1 } (bumpBy (oSlotCounts g) 39 20 (new.filter (fun e => e.2.sat)).length s)
  | none => s

/-- What the slots keep of the past loses what is long ago. -/
def slotsTidy (s : State) : State :=
  foldS (fun e s =>
    let q := slot e.1 s
    setSlot e.1 { q with
      probes := histTidy (now s) q.probes
      chain := histTidy (now s) q.chain
      sets := histTidy (now s) q.sets
      trn := q.trn.filter (fun e => !longAgo e.2 (now s))
      counted := q.counted.filter (fun x => !longAgo x (now s))
      lastPost := q.lastPost.filter (fun x => !longAgo x (now s))
      detAt := q.detAt.filter (fun x => !longAgo x (now s)) } s) s.slots s

end Sys2Proof.Machine
end

