-- ==== Sys2Proof/Machine/BiasOps.lean ====
section
/-! DEFINITION. Bias outputs: how an output moves (R155-R159), load strobes (R150-R154), and going to rest (R160, R161,
R453). Channel `g` is 96t + c. -/

namespace Sys2Proof.Machine

/-- STEP and INTERVAL that move channel `g`: the rest slew while the output is at or on its way to rest, else the
in-force configuration (R155, R161). -/
def slewSet (g : Nat) (s : State) : Nat × Nat :=
  if (biasC g s).rest then (fR (oBiasRestSlew (g / 96)) 31 16 s, fR (oBiasRestSlew (g / 96)) 15 0 s)
  else (fF (oBiasCfg g) 31 16 s, fF (oBiasCfg g) 15 0 s)

/-- Ticks between two steps for an INTERVAL (R155; 0 acts as 1). -/
def stepTicks (interval : Nat) : Nat := 10 * max 1 interval

/-- The code one step moves `out` to on its way to `goal` (R155, R156). -/
def stepTo (step : Nat) (goal out : Int) : Int :=
  if step = 0 then goal
  else if out < goal then min goal (out + step)
  else max goal (out - step)

/-- Starts the movement of an output towards its aim from tick `t` (R155, R158): the first step at the first CK3 edge
after `t`, or on the running schedule where a slew is in progress and `keep` holds (R157); the first dwell of a span change of an output
at code 0 runs from that CK3 edge (R158). -/
def beginMove (keep : Bool) (t : Tick) (b : Bias) : Bias :=
  let e := match b.phase, b.nextAt with
    | .slew, some x => if keep then x else ck3After t
    | _, _ => ck3After t
  if b.aimSpan != b.span then
    if b.out = 0 then { b with phase := .dwellA (plus (ck3After t) 20000), nextAt := none }
    else { b with phase := .toZero, nextAt := some e }
  else if b.out = b.aim then { b with phase := .idle, nextAt := none }
  else { b with phase := .slew, nextAt := some e }

/-- A span-change sequence of R158 is running (SPAN_BUSY). -/
def spanBusy (b : Bias) : Bool :=
  match b.phase with
  | .toZero | .dwellA _ | .dwellB _ | .final => true
  | _ => false

/-- Redirects an output to a new aim from tick `t` (R161, R453). -/
def redirect (t : Tick) (aim : Int) (aimSpan : Nat) (b : Bias) : Bias :=
  let n := { b with aim := aim, aimSpan := aimSpan }
  match b.phase with
  | .toZero => if aimSpan != b.span then n else beginMove false t { n with phase := .idle }
  | .dwellA _ => if aimSpan != b.span then n else beginMove false t { n with phase := .idle }
  | _ => beginMove false t { n with phase := .idle }

/-- The pending code of channel `g` (R149). -/
def pendingCode (g : Nat) (s : State) : Int := sx 20 (fR (oBiasCode g) 19 0 s)

/-- A strobe at tick `t` takes an output out of rest (R161): a slew to the rest code goes on on its schedule (R157), a span change is
redirected. -/
def restToTarget (t : Tick) (aim : Int) (aimSpan : Nat) (b : Bias) : Bias :=
  if b.phase = .slew then beginMove true t { b with aim := aim, aimSpan := aimSpan } else redirect t aim aimSpan b

/-- A strobe at tick `t` loads channel `g` (R149, R157, R159, R161, R453): behind the rest code where the output stays at rest, which it
does outside READY, while the relays stand in the loopback position, and while its tile acts under R16. -/
def strobeLoad (t : Tick) (g : Nat) (s : State) : State :=
  let b := biasC g s
  let p := pendingCode g s
  if b.rest then
    if s.life = .ready ∧ !relays s ∧ s.therm.graceAt = none ∧ !s.cutTiles.contains (g / 96) then
      let s := commitRegs [oBiasCfg g] s
      setBias g (restToTarget t p (fF (oBiasCfg g) 35 34 s) { b with rest := false, target := p, loaded := true }) s
    else commitRegs [oBiasCfg g] (setBias g { b with target := p, loaded := true } s)
  else if spanBusy b then setBias g { b with target := p, aim := p, loaded := true } s
  else
    let s := commitRegs [oBiasCfg g] s
    setBias g (beginMove true t
      { b with target := p, aim := p, aimSpan := fF (oBiasCfg g) 35 34 s, loaded := true }) s

/-- The channels of tile `t` whose GROUP in force is `grp`, by their numbers in the device (R150). -/
def groupOf (t grp : Nat) (s : State) : List Nat :=
  ((upTo 96).map (fun c => 96 * t + c)).filter (fun g => fF (oBiasCfg g) 39 36 s == grp)

/-- Group `grp` of tile `t` has been strobed in the present tick. -/
def isStrobed (t grp : Nat) (s : State) : Bool := s.fabric.strobes.any (fun e => e.tile == t && e.group == grp)

/-- The channels of group `grp` of tile `t` in the present tick: a channel whose group has been strobed in it is of that group
until the tick ends (R153). -/
def groupNow (t grp : Nat) (s : State) : List Nat :=
  match s.fabric.strobes.find? (fun e => e.tile == t && e.group == grp) with
  | some e => e.members
  | none => (groupOf t grp s).filter (fun g => !s.fabric.strobes.any (fun e => e.members.contains g))

/-- The group of channel `g` in the present tick: of one that has been strobed in it, the group it had then (R153). -/
def memberOf (g : Nat) (s : State) : Nat :=
  match s.fabric.strobes.find? (fun e => e.tile == g / 96 && e.members.contains g) with
  | some e => e.group
  | none => fF (oBiasCfg g) 39 36 s

/-- Notes that group `grp` of tile `t` is strobed, with members `ms`, and that it loads the channels `ok`. -/
def noteStrobe (t grp : Nat) (ms ok : List Nat) (s : State) : State :=
  let old := s.fabric.strobes.filter (fun e => !(e.tile == t && e.group == grp))
  let had := match s.fabric.strobes.find? (fun e => e.tile == t && e.group == grp) with | some e => e.loaded | none => []
  { s with fabric := { s.fabric with strobes := old ++ [⟨t, grp, ms, had ++ ok⟩] } }

/-- A strobe of group `grp` of tile `t` at tick `x`, from a source of domain `dom`; `all` for a BIAS_STROBE write from
domain 0, which loads SECURE channels too (R150-R154). Sources that reach the group at one tick count as one strobe.
[log: 151 DESIGN CHOICE] -/
def strobeGroup (t grp : Nat) (dom : Nat) (all : Bool) (x : Tick) (s : State) : State :=
  let ms := groupNow t grp s
  if s.life = .safe ∨ modeOn 5 s then
    noteStrobe t grp ms ms (if isStrobed t grp s then s else bump (oBiasDiscard t) 39 20 s)
  else
    let ok := ms.filter (fun g => all || seqDom g s == dom)
    foldS (strobeLoad x) ok (noteStrobe t grp ms ok s)

/-- The strobes of the tick that ends: one that left a channel of its group unloaded counts in FOREIGN (R152). -/
def strobesEnd (s : State) : State :=
  foldS (fun e s =>
    if e.members.any (fun g => !e.loaded.contains g) then
      bump (oBiasDiscard e.tile) 19 0 s |> recordIf (fR (oBiasDiscard e.tile) 19 0 s = 0) (0xF000 + e.tile) 3 0 0
    else s) s.fabric.strobes { s with fabric := { s.fabric with strobes := [] } }

/-- Channel `g` goes to rest at tick `x` (R161); `life` says that a lifecycle state or R16 is the cause, which sets the
target itself, and not the loopback relays, behind which the in-force target stays. -/
def goRest (life : Bool) (x : Tick) (g : Nat) (s : State) : State :=
  let b := biasC g s
  if !b.connected then s
  else
    let b := { b with rest := true }
    let b := if life then { b with target := b.restCode, loaded := false } else b
    setBias g (redirect x b.restCode b.restSpan b) s

/-- Every channel of tile `t` goes to rest. -/
def tileRest (life : Bool) (x : Tick) (t : Nat) (s : State) : State :=
  foldS (goRest life x) ((upTo 96).map (fun c => 96 * t + c)) s

/-- Every channel of the device goes to rest. -/
def allRest (life : Bool) (x : Tick) (s : State) : State := foldS (tileRest life x) (upTo (nTiles s)) s

/-- The relays leave the loopback position in READY at tick `x`: channel `g` moves from the rest code to the in-force
target (R161); without a strobe since the last lifecycle rest, and where its tile acts under R16 or a shutdown has begun, it holds the
rest code. -/
def leaveRest (x : Tick) (g : Nat) (s : State) : State :=
  let b := biasC g s
  if b.rest && b.loaded && s.therm.graceAt.isNone && !s.cutTiles.contains (g / 96) then
    setBias g (redirect x b.target (fF (oBiasCfg g) 35 34 s) { b with rest := false }) s
  else s

/-- Every channel of the device leaves rest. -/
def allLeaveRest (x : Tick) (s : State) : State := foldS (leaveRest x) (upTo (nSeqs s)) s

/-- Bias outputs follow the relays at tick `x`, at a switch or once HOLD lets them (R39, R161): to rest in the loopback position, from rest
otherwise.
[log: 135 DEDUCED] -/
def biasFollow (x : Tick) (s : State) : State :=
  if relays s then foldS (fun g s => if (biasC g s).rest then s else goRest false x g s) (upTo (nSeqs s)) s
  else allLeaveRest x s

/-- Channel `g` connects at tick `x` at 0 V in the rest span and slews to the rest code (R160). -/
def biasConnect (x : Tick) (g : Nat) (s : State) : State :=
  let rc := getR (oBiasRest g) s
  let sl := getR (oBiasRestSlew (g / 96)) s
  let cfg := w ((g % 96 / 6) * 2 ^ 36 + fld rc 39 38 * 2 ^ 34 + fld sl 31 16 * 2 ^ 16 + fld sl 15 0)
  let b : Bias := { out := 0, span := fld rc 39 38, target := sx 20 (fld rc 19 0), aim := sx 20 (fld rc 19 0),
                    aimSpan := fld rc 39 38, rest := true, connected := true, restCode := sx 20 (fld rc 19 0),
                    restSpan := fld rc 39 38 }
  s |> setR (oBiasCfg g) cfg |> setF (oBiasCfg g) cfg |> setBias g (beginMove false x b)

/-- Tile `t` is powered off: its stages leave the balls at 100 kΩ (R161). -/
def biasOff (g : Nat) (s : State) : State :=
  let b := biasC g s
  setBias g { b with connected := false, phase := .idle, nextAt := none, out := 0 } s

end Sys2Proof.Machine
end

