-- ==== Sys2Proof/Machine/ResOps.lean ====
section
/-! DEFINITION. Result-class records: pairing into slots, flush, drops and the bandwidth of the Results class
(R205, R274, R281). A producer is named by a key: slot `g`; 0x1000 + decoder; 0x2000 + core; 0x3000 the monitor;
0x3001 the Gleaner. -/

namespace Sys2Proof.Machine

/-- The drop counter of a producer: register and field, and the SOURCE of its records. -/
def dropField (key : Nat) : Nat × Nat × Nat × Nat :=
  if key < 0x1000 then (oThrFlags key, 19, 8, 0x2000 + key)
  else if key < 0x2000 then (oBndStatus, 39, 20, 0xA800)
  else if key < 0x3000 then (oCoreStatus (key - 0x2000), 8, 1, 0x5000 + (key - 0x2000))
  else if key = 0x3000 then (oMonStatus, 39, 20, 0xB000)
  else (oGleanStat, 19, 12, 0x0)

/-- The drop counter of a producer. -/
def dropCount (key : Nat) (s : State) : Nat := fR (dropField key).1 (dropField key).2.1 (dropField key).2.2.1 s

/-- The drop counter of a producer by a number of its own: the decoders share one (R222). -/
def dropOwner (key : Nat) : Nat := if 0x1000 ≤ key && key < 0x2000 then 0x1000 else key

/-- `n` records of a producer are dropped: its counter counts records (R205, R274); from 0 on no refusal has been reported. -/
def producerDrops (n key : Nat) (s : State) : State :=
  let s := if dropCount key s = 0 then { s with gran := { s.gran with refused := s.gran.refused.erase (dropOwner key) } } else s
  bumpBy (dropField key).1 (dropField key).2.1 (dropField key).2.2.1 n s

/-- A record of a producer is dropped (R274). -/
def producerDrop (key : Nat) (s : State) : State := producerDrops 1 key s

/-- A record whose ring is not a RESULT ring of the owner is dropped; the first since the counter was cleared is reported (R205,
R222). -/
def producerRefuse (key code : Nat) (s : State) : State :=
  let s := producerDrop key s
  let seen := s.gran.refused.contains (dropOwner key)
  let s := { s with gran := { s.gran with refused := insNat (dropOwner key) s.gran.refused } }
  recordIf (!seen) (dropField key).2.2.2 code 0 0 s

/-- Bytes per tick of the Results class (Table 13.4). -/
def resRate (s : State) : Nat := match s.fuses.part with | .q512 => 96 | .q256 => 48

/-- Words 4..7 of a slot written with one record (R205). -/
def zero4 : List W40 := [0, 0, 0, 0]

/-- The records that a result slot carries: the second half is empty or not (R205). -/
def recordsIn (sl : List W40) : Nat := if sl.drop 4 = zero4 then 1 else 2

/-- Writes a result slot to its ring; a drop counts at its producer, record by record (R274).
[log: 120 DEDUCED] -/
def resWrite (key n : Nat) (sl : List W40) (s : State) : State :=
  let (s', ok) := ringPut n sl s
  if ok then s' else producerDrops (recordsIn sl) key s'

/-- A result slot goes to its ring within the bandwidth of its class, waits in the queue of 16,384 records, or what finds the
queue full is dropped (R281).
[log: 120 DEDUCED] -/
def resSlot (key n : Nat) (sl : List W40) (s : State) : State :=
  let g := s.gran
  let waiting := g.resQ.foldl (fun a e => a + recordsIn e.2.2) 0
  if g.resQ.isEmpty && g.spent < resRate s then
    resWrite key n sl { s with gran := { g with spent := g.spent + 40 } }
  else if waiting + recordsIn sl ≤ 16384 then { s with gran := { g with resQ := g.resQ ++ [(key, n, sl)] } }
  else
    let fits := waiting < 16384
    let q := if fits then g.resQ ++ [(key, n, sl.take 4 ++ zero4)] else g.resQ
    { s with gran := { g with resQ := q, overran := true } }
      |> producerDrops (if fits then 1 else recordsIn sl) key
      |> recordIf (!g.overran) (dropField key).2.2.2 0x605 0 0

/-- The queue of result slots drains into its class's share of one tick (R281). -/
def resDrain : List (Nat × Nat × List W40) → State → State
  | [], s => { s with gran := { s.gran with resQ := [], overran := false } }
  | (key, n, sl) :: t, s =>
    if s.gran.spent < resRate s then
      resDrain t (resWrite key n sl { s with gran := { s.gran with spent := s.gran.spent + 40 } })
    else { s with gran := { s.gran with resQ := (key, n, sl) :: t } }

/-- One tick of the Results class. -/
def resTick (s : State) : State :=
  resDrain s.gran.resQ { s with gran := { s.gran with spent := s.gran.spent - resRate s } }

/-- The half-filled slot of a producer. -/
def halfOf (key : Nat) (s : State) : Option Half := tget? key s.halves

/-- Drops a half-filled slot from the pairing buffer. -/
def delHalf (key : Nat) (s : State) : State := { s with halves := tdel key s.halves }

/-- Writes a half-filled slot alone, words 4..7 zero (R205). -/
def resFlush (key : Nat) (s : State) : State :=
  match halfOf key s with
  | some h => resSlot key h.ring (h.words ++ zero4) (delHalf key s)
  | none => s

/-- A record of four words for ring `n`, which must be a RESULT ring of domain `dom`: paired, held for its flush time, or
written at once in its own slot when the flush time is 0, after a half that waits; one that waits for another ring is written alone
(R205).
[log: 155 DESIGN CHOICE] -/
def resPut (key n dom flush : Nat) (ws : List W40) (s : State) : State :=
  let r := ring n s
  if r.type ≠ 2 then producerRefuse key 4 s
  else if r.owner ≠ dom then producerRefuse key 3 s
  else if flush = 0 then resSlot key n (ws ++ zero4) (resFlush key s)
  else
    let hold := fun s => { s with halves := tput key ⟨ws, plus (now s) flush, n⟩ s.halves }
    match halfOf key s with
    | some h => if h.ring = n then resSlot key n (h.words ++ ws) (delHalf key s) else hold (resFlush key s)
    | none => hold s

/-- A result record of a slot or a core is made; it leaves as its posting tick `x` ends (R205, R241, R449). -/
def resMake (x : Tick) (key n dom flush : Nat) (ws : List W40) (s : State) : State :=
  { s with gran := { s.gran with made := s.gran.made ++ [⟨x, key, n, dom, flush, ws⟩] } }

/-- The result records of the tick that ends leave. -/
def resMade (s : State) : State :=
  foldS (fun r s => resPut r.key r.ring r.dom r.flush r.words s) (s.gran.made.filter (fun r => due r.at_ s))
    { s with gran := { s.gran with made := s.gran.made.filter (fun r => !due r.at_ s) } }

end Sys2Proof.Machine
end

