-- ==== Sys2Proof/Machine/VerdOps.lean ====
section
/-! DEFINITION. Verdicts: the word, posting, export to peers, the verdict bus, and the Binder's sets and decoders
(R203, R208-R224). -/

namespace Sys2Proof.Machine

/-- A verdict word (Table 9.2). -/
def verdictWord (idx state : Nat) (early recant absent ovr : Bool) (conf shot : Nat) : W40 :=
  w (idx % 0x4000 * 2 ^ 26 + state % 4 * 2 ^ 24 + 2 ^ 23 + b2n early * 2 ^ 22 + b2n recant * 2 ^ 21
    + b2n absent * 2 ^ 20 + b2n ovr * 2 ^ 19 + conf % 256 * 2 ^ 11 + shot % 0x800)

/-- INDEX of a verdict word. -/
def vIndex (v : W40) : Nat := fld v 39 26
/-- STATE of a verdict word. -/
def vState (v : W40) : Nat := fld v 25 24
/-- VALID of a verdict word. -/
def vValid (v : W40) : Bool := bit v 23
/-- EARLY of a verdict word. -/
def vEarly (v : W40) : Bool := bit v 22
/-- RECANT of a verdict word. -/
def vRecant (v : W40) : Bool := bit v 21
/-- SHOT of a verdict word. -/
def vShot (v : W40) : Nat := fld v 10 0
/-- ABSENT of a verdict word. -/
def vAbsent (v : W40) : Bool := bit v 20

/-- The verdict index of position `p` of this device (R5). -/
def ownIndex (p : Nat) (s : State) : Nat := 1024 * devNum s + p

/-- ROLE as the device holds it: it is the echo of a pair (MODE bit 6 under PAIRED). -/
def isEcho (s : State) : Bool := modeOn 3 s && bR oMode 6 s

/-- PAIR_START has succeeded and PAIRED is in force. -/
def paired (s : State) : Bool := modeOn 3 s && bR oPairStatus 35 s

/-- The pair port. -/
def pairPort (s : State) : Nat := fR oPairStatus 39 36 s

/-! ### Ports that carry items -/

/-- Port `p` is UP. -/
def portUp (p : Nat) (s : State) : Bool := bR (oPortStatus p) 0 s

/-- LINK[p] of the federation configuration (Table 17.1). -/
def fedLink (p : Nat) (s : State) : Bool := bit (nth 0 s.fed.words 1) (5 * p + 4)

/-- PEER[p] of the federation configuration. -/
def fedPeer (p : Nat) (s : State) : Nat := fld (nth 0 s.fed.words 1) (5 * p + 3) (5 * p)

/-- FWD[d]: bit p for port p. -/
def fedFwd (d p : Nat) (s : State) : Bool := bit (nth 0 s.fed.words (2 + d)) p

/-- A federation port is usable: it has LINK, is UP, and its peer's number equals PEER (R334). -/
def usable (p : Nat) (s : State) : Bool :=
  bR oFedStatus 0 s && fedLink p s && portUp p s && fR (oPortStatus p) 23 20 s == fedPeer p s
    && (port p s).lastMsg.isSome

/-- An item is dropped at a port (R212): the count and the record, once until cleared; `fwd` for a forwarded one. -/
def exportDrop (p : Nat) (fwd : Bool) (idx : Nat) (posted : Tick) (s : State) : State :=
  let (hi, lo) := if fwd then (25, 12) else (39, 26)
  bump oVbStat hi lo s |> recordIf (fR oVbStat hi lo s = 0) (0x7000 + p) 0x506 idx posted

/-- Whether REF_DELTA = P − reference tick fits its 20-bit field (R320). -/
def refFits (posted ref : Tick) : Bool := decide (-524288 ≤ tdiff posted ref) && decide (tdiff posted ref ≤ 524287)

/-- An item goes to port `p`, or counts as dropped there (R320, R326). -/
def toPort (p : Nat) (fwd : Bool) (idx : Nat) (it : Item) (s : State) : State :=
  if !bR (oPortStatus p) 25 s || !refFits it.posted it.ref then exportDrop p fwd idx it.posted s
  else setPort p { port p s with out := (port p s).out ++ [it] } s

/-- Export of a local verdict on every usable federation port under the conditions of R211. -/
def exportVerdict (x : Tick) (word : W40) (ref : Tick) (s : State) : State :=
  let p := vIndex word % 1024
  if federated s && bR oTimeStatus 6 s && !relays s && !isEcho s && bR (oVbExport (p / 32)) (p % 32) s then
    foldS (fun q s => if usable q s then
        toPort q false (vIndex word) { kind := 1, word := word, posted := x, ref := ref, src := devNum s,
                                       release := 0, checked := 0 } s else s) (upTo (nPorts s)) s
  else s

/-- A message on the data stream to the twin (R340).
[log: 61 DESIGN CHOICE] -/
def pairSend (type : Nat) (word : W40) (field : BitVec 16) (s : State) : State :=
  if bR oPairStatus 35 s && portUp (pairPort s) s then
    { s with pair := { s.pair with sendQ := s.pair.sendQ ++ [(type, word, field)] } }
  else s

/-- Comparison runs (R342): paired, the link up, no mismatch. -/
def cmpRuns (s : State) : Bool := paired s && portUp (pairPort s) s && !bR oModeStatus 9 s

/-- Verdict comparison is off while LOOPBACK is in force with PAIRED (VERDICT_CMP_OFF, R46). -/
def vcmpOff (s : State) : Bool := modeOn 3 s && relays s

/-- The bits of a verdict word that PAIR_CMP compares (R341). -/
def cmpMask (s : State) : Nat :=
  (if bR oPairCmp 5 s then 0x3000000 else 0) + (if bR oPairCmp 4 s then 0x7F800 else 0)
    + (if bR oPairCmp 3 s then 0x80000 else 0) + (if bR oPairCmp 2 s then 0x600000 else 0)
    + (if bR oPairCmp 0 s then 0x100000 else 0)

/-- A divergence of kind `k` at an output or verdict index, with the voice's word (R341): counted, and a record at most once
in 10 µs. -/
def diverge (k idx : Nat) (v : W40) (s : State) : State :=
  let s := bump oPairCounts 39 20 s
  let free := match s.pair.lastDiverge with
    | some t => due (plus t 10000) s
    | none => true
  if free then
    record (0x7000 + pairPort s) 0x70E (k * 2 ^ 18 + idx % 2 ^ 14) v
      { s with pair := { s.pair with lastDiverge := some (now s) } }
  else s

/-- Items of both halves that stand for one thing (R341): the same kind, output or index, and shot or reference tick. -/
def cmpTwins (a b : CmpItem) : Bool := a.kind == b.kind && a.key == b.key && a.sub == b.sub && a.ours != b.ours

/-- A comparison item of the echo meets its twin, or waits for it (R341). -/
def cmpAdd (it : CmpItem) (s : State) : State :=
  match s.pair.items.find? (cmpTwins it) with
  | some y =>
    let s := { s with pair := { s.pair with items := s.pair.items.erase y } }
    let same := if it.kind = 0 then it.val == y.val else (it.val.toNat ^^^ y.val.toNat) &&& cmpMask s == 0
    if same then s else diverge it.kind it.key (if it.ours then y.val else it.val) s
  | none => { s with pair := { s.pair with items := s.pair.items ++ [it] } }

/-- A verdict of this half for comparison (R341): the voice sends it; the echo compares it with the voice's. -/
def pairVerdict (x : Tick) (word : W40) (ref : Tick) (s : State) : State :=
  if !paired s then s
  else if isEcho s then
    if cmpRuns s && !vcmpOff s then cmpAdd ⟨1, vIndex word, w (ref.toNat % 65536), word, x, true⟩ s else s
  else pairSend 4 word (BitVec.ofNat 16 ref.toNat) s

/-- A verdict is posted at tick `x` with its reference tick: it is on its way to the bus (R209). -/
def postVerdict (x : Tick) (word : W40) (ref : Tick) (s : State) : State :=
  { s with bus := s.bus ++ [{ at_ := x, word := word, ref := ref }] }

/-- A verdict of this device whose posting tick ends. -/
def leaves (s : State) (p : Posted) : Bool := !p.remote && !p.sent && due p.at_ s

/-- The verdicts posted in the tick that ends go to the peers and to the twin, under the conditions of that tick (R211, R341). -/
def postedOut (s : State) : State :=
  foldS (fun p s => pairVerdict p.at_ p.word p.ref (exportVerdict p.at_ p.word p.ref s)) (s.bus.filter (leaves s))
    { s with bus := (s.bus.filter (fun p => !p.taken)).map (fun p => if leaves s p then { p with sent := true } else p) }

/-! ### Parity sets (R214-R218) -/

/-- NMEM in force of set `j`. -/
def nMem (j : Nat) (s : State) : Nat := fF (oBndSetCfg j) 6 0 s

/-- INDEX in force of member `i` of set `j`. -/
def memIndex (j i : Nat) (s : State) : Nat := fF (oBndMember j i) 13 0 s

/-- The set is complete (R216): decided and presented, or without members, as every set is at reset.
[log: 153 DEDUCED] -/
def setComplete (j : Nat) (s : State) : Bool := nMem j s == 0 || (pset j s).shown

/-- NBITS in force of decoder `e`. -/
def nBits (e : Nat) (s : State) : Nat := fF (oBndDecCfg e) 39 35 s

/-- The set that syndrome bit `b` of decoder `e` names, in force. -/
def decSel (e b : Nat) (s : State) : Nat := fF (oBndDecSel e (b / 4)) (8 * (b % 4) + 7) (8 * (b % 4)) s

/-- The set that syndrome bit `b` of decoder `e` names in the shadow.
[log: 94 DEDUCED] -/
def decSelShadow (e b : Nat) (s : State) : Nat := fR (oBndDecSel e (b / 4)) (8 * (b % 4) + 7) (8 * (b % 4)) s

/-- The sets decoder `e` selects. -/
def decSets (e : Nat) (s : State) : List Nat := (upTo (nBits e s)).map (fun b => decSel e b s)

/-- The sets that the old and the new configuration of decoder `e` name (R223). -/
def decSetsBoth (e : Nat) (s : State) : List Nat :=
  decSets e s ++ (upTo (fR (oBndDecCfg e) 39 35 s)).map (fun b => decSelShadow e b s)

/-- P of a set as presented; 0 without members. -/
def setP (j : Nat) (s : State) : Bool := nMem j s != 0 && (pset j s).shown && (pset j s).shownP

/-- A of a set as presented; 0 without members. -/
def setA (j : Nat) (s : State) : Bool := nMem j s != 0 && (pset j s).shown && (pset j s).shownA

/-- The number that a list of bits spells, bit 0 first. -/
def bitsNat : List Bool → Nat
  | [] => 0
  | b :: t => b2n b + 2 * bitsNat t

/-- The present syndrome of decoder `e` (R219). -/
def syndrome (e : Nat) (s : State) : Nat := bitsNat ((decSets e s).map (fun j => setP j s))

/-- The latest of a list of ticks under R55, from `x` on. -/
def latest (x : Tick) : List Tick → Tick
  | [] => x
  | y :: t => latest (later y x) t

/-- Decoder `e` is complete: every set that it selects is (R219).
[log: 153 DEDUCED] -/
def decComplete (e : Nat) (s : State) : Bool := (decSets e s).all (fun j => setComplete j s)

/-- ABS of decoder `e`: the OR of the A flags of its sets. -/
def decAbs (e : Nat) (s : State) : Bool := (decSets e s).any (fun j => setA j s)

/-- OUTPUT of decoder `e`: the word that its table page in force holds for the present values of its sets (R219).
[log: 94 DEDUCED] -/
def decOut (e : Nat) (s : State) : W40 :=
  tget 0 (syndrome e s) (if (decoder e s).page then (decoder e s).tab1 else (decoder e s).tab0)

/-- Decoder `e` is decided at tick `x` (R219, R222): its record, and its way to the sequencers. -/
def decDecide (x : Tick) (e : Nat) (s : State) : State :=
  let s := defer (plus x 2) (.decToSeqs e) (setDecoder e { decoder e s with at_ := x, ready := false } s)
  if bF (oBndDecCfg e) 34 s && nBits e s != 0 then
    let hbs := (decSets e s).map (fun j => (pset j s).hb)
    let mask := bitsNat ((decSets e s).map (fun j => setA j s))
    resPut (0x1000 + e) (fF (oBndDecCfg e) 19 0 s) 0 (fF (oBndDecCfg e) 33 20 s)
      [x, latest (hbs.headD 0) hbs, w (e * 2 ^ 37 + b2n (decAbs e s) * 2 ^ 36 + 2 ^ 35 + mask * 2 ^ 16 + syndrome e s),
       decOut e s] s
  else s

/-- Decoder `e` is decided if every set it selects is complete. -/
def decCheck (x : Tick) (e : Nat) (s : State) : State :=
  if decComplete e s then decDecide x e s else s

/-- The decoders that select set `j` (R219). -/
def decsOf (j : Nat) (s : State) : List Nat := (upTo 8).filter (fun e => (decSets e s).contains j)

/-- A set ceases to be complete: so do the decoders that select it. -/
def decsBreak (j : Nat) (s : State) : State :=
  foldS (fun e s => setDecoder e { decoder e s with ready := false } s) (decsOf j s) s

/-- Decoder `e` follows sets that have adopted a configuration without a round (R219): `was` says whether it was complete before. One that
becomes complete only so is decided then.
[log: 152 DESIGN CHOICE] -/
def decFollow (x : Tick) (was : Bool) (e : Nat) (s : State) : State :=
  if !decComplete e s then setDecoder e { decoder e s with ready := false } s
  else if was then s
  else decDecide x e s

/-- A round of set `j` is presented at tick `x` (R216, R217, R219). -/
def setPresent (x : Tick) (j : Nat) (s : State) : State :=
  let q := pset j s
  let s := setPset j { q with shown := true, shownP := q.p, shownA := q.a, seqP := none, absentSeen := q.absentSeen || q.a } s
  let s := defer (plus x 2) (.setToSeqs j) s
  let s :=
    if q.a then
      putF (oBndSetStat j) 15 9 q.miss s
        |> recordIf (!q.absentSeen) (0xA800 + j) 0x507 j q.hb
    else s
  foldS (decCheck x) (decsOf j s) s

/-- Set `j` is decided at tick `x`: presentation follows 5 ticks on, with the members that are missing now (R216, R217). -/
def setDecide (x : Tick) (j : Nat) (s : State) : State :=
  let q := pset j s
  defer (plus x 5) (.present j) (setPset j { q with st := .decided, miss := nMem j s - q.got.length } s)

/-- Cancels what is scheduled for set `j`. -/
def cancelSet (j : Nat) (s : State) : State :=
  { s with agenda := s.agenda.filter (fun e => e.2 != .present j && e.2 != .setToSeqs j) }

/-- An open round of set `j` is abandoned. -/
def abandonRound (j : Nat) (s : State) : State :=
  if (pset j s).st = .opn then bump (oBndSetStat j) 39 24 s else s

/-- Decoder `e` adopts its shadows and exchanges its pages at tick `x` (R219, R221, R223); while a table load runs it
waits (R299). -/
def decAdopt (x : Tick) (e : Nat) (s : State) : State :=
  let d := decoder e s
  if d.loading then setDecoder e { d with held := true } s
  else
    let s := commitRegs ((upTo 4).map (oBndDecSel e) ++ [oBndDecCfg e]) s
    let s := setDecoder e { d with page := !d.page, pend := false, ready := false } s
    decCheck x e s

/-- Sets have adopted at tick `x`: the decoders whose adoption waited only for them adopt too (R223), and the others follow their sets
(R219); `was` holds the decoders that were complete before. -/
def decAdoptReady (x : Tick) (was : List Nat) (s : State) : State :=
  foldS (fun e s =>
    let ready := (decoder e s).pend && (decSetsBoth e s).all (fun j => !(pset j s).pend)
    let adopts := ready && !(decoder e s).loading
    let s := if ready then decAdopt x e s else s
    if adopts then s else decFollow x (was.contains e) e s) (upTo 8) s

/-- The decoders that are complete at present. -/
def completeDecs (s : State) : List Nat := (upTo 8).filter (fun e => decComplete e s)

/-- COMMIT_PENDING of BND_STATUS clears when every set and decoder has adopted. -/
def bndSettle (s : State) : State :=
  if s.binder.sets.any (fun e => e.2.pend) || s.binder.decs.any (fun e => e.2.pend) then s
  else putB oBndStatus 0 false { s with binder := { s.binder with goAt := none, waited := false } }

/-- Set `j` adopts its shadows; without members, it keeps nothing of a round before (R216). -/
def setAdopt (j : Nat) (s : State) : State :=
  let s := commitRegs (oBndSetCfg j :: (upTo 64).map (oBndMember j)) s
  let q := { pset j s with pend := false }
  if nMem j s = 0 then
    setPset j { q with st := .empty, got := [], shown := false, shownP := false, shownA := false, seqP := some false }
      (cancelSet j s)
  else setPset j { q with seqP := if q.shown then q.seqP else none } s

/-- A round of set `j` opens at tick `o` (R216). -/
def roundOpen (o : Tick) (j : Nat) (s : State) : State :=
  let s := cancelSet j (abandonRound j s)
  let was := (pset j s).pend
  let decs := completeDecs s
  let s := if was then setAdopt j s else s
  let q := { pset j s with hb := o, got := [], p := false, a := false }
  let s :=
    if nMem j s = 0 then setPset j { q with st := .empty, shown := false, seqP := some false } s
    else decsBreak j (setPset j { q with st := .opn, shown := false, seqP := none } s)
  if was then bndSettle (decAdoptReady o decs s) else s

/-- The rounds that sequencer `g` paces open at its shot start tick `o` (R215). -/
def paceRounds (g : Nat) (o : Tick) (s : State) : State :=
  foldS (fun j s =>
    if fF (oBndSetCfg j) 19 18 s = 0 && fF (oBndSetCfg j) 17 8 s = g
    then roundOpen o j s else s) (upTo 256) s

/-- The bit a verdict contributes to a set (R214). -/
def selBit (sel state : Nat) : Bool :=
  match sel with
  | 0 => state % 2 == 1
  | 1 => state / 2 == 1
  | _ => state != 0

/-- Member `i` of set `j`, decided by the early verdict of shot `shot` with reference tick `e`, sees a further verdict (R216): the final of that
window, which may be a recant, or the early verdict of a later window, after which that final can no longer come (R198).
[log: 143 DEDUCED] -/
def memberFinal (word : W40) (ref : Tick) (j i shot : Nat) (e : Tick) (s : State) : State :=
  let done := fun s => setPset j { pset j s with got := tput i (shot, e, false) (pset j s).got } s
  if vEarly word then (if ref = e then s else done s)
  else if shot != vShot word || !notBefore ref e then s
  else if vRecant word then bump (oBndSetStat j) 23 16 (done s)
  else done s

/-- A verdict reaches member `i` of set `j` at tick `r` (R216). -/
def memberVerdict (r : Tick) (word : W40) (ref : Tick) (j i : Nat) (s : State) : State :=
  let q := pset j s
  if memIndex j i s ≠ vIndex word then s
  else
    match tget? i q.got with
    | none =>
      if q.st = .opn && vValid word && notBefore ref q.hb && (bF (oBndSetCfg j) 20 s || !vEarly word) then
        let q' := { q with got := tput i (vShot word, ref, vEarly word) q.got,
                           p := q.p != selBit (fF (oBndSetCfg j) 22 21 s) (vState word),
                           a := q.a || vAbsent word }
        let s := setPset j q' s
        if q'.got.length = nMem j s then setDecide r j s else s
      else s
    | some (shot, e, true) => memberFinal word ref j i shot e s
    | some (_, _, false) => s

/-- A verdict reaches the Binder (R216): every member of every set that names its index. -/
def binderVerdict (r : Tick) (word : W40) (ref : Tick) (s : State) : State :=
  foldS (fun e s => foldS (memberVerdict r word ref e.1) (upTo (nMem e.1 s)) s) s.binder.sets s

/-- The Binder runs in SAFE and READY (R224). -/
def binderRuns (s : State) : Bool := s.life == .safe || s.life == .ready

/-- The deadline of set `j` comes at tick `x` (R216). -/
def setDeadline (x : Tick) (j : Nat) (s : State) : State :=
  if (pset j s).st = .opn then setDecide x j (setPset j { pset j s with a := true } s) else s

/-- What has reached the Binder acts on its sets, after the openings of its tick (R216). -/
def bndIn (b : BndIn) (s : State) : State :=
  match b with
  | .verdict x word ref => binderVerdict x word ref s
  | .deadline x j => setDeadline x j s

/-- Something reaches the Binder in the present tick. -/
def bndTake (b : BndIn) (s : State) : State :=
  if binderRuns s then { s with binder := { s.binder with inbox := s.binder.inbox ++ [b] } } else s

/-- A verdict reaches the bus at tick `x` (R209, R210): VB_LAST, the Binder, and the sequencers 2 ticks on. -/
def busArrival (x : Tick) (word : W40) (ref : Tick) (s : State) : State :=
  let i := vIndex word
  let s := setVent i { vent i s with word := word, ref := ref } s
  let s := defer (plus x 2) (.verdictToSeqs i word ref) s
  bndTake (.verdict x word ref) s

end Sys2Proof.Machine
end

