-- ==== Sys2Proof/Machine/WitOps.lean ====
section
/-! DEFINITION. Witness engines: the grid of the recorded stream, arming, causes met, hold-off, and closing a Bale early
(R250-R260). Engine `e` is 8t + f. Positions count 1/16 ns of FULLTIME. -/

namespace Sys2Proof.Machine

/-- The throttle is in force (THROTTLE of THERM_STATUS). -/
def throttled (s : State) : Bool := bR oThermStatus 2 s

/-! ### Stamps within TICK (R62) -/

/-- The position of a sample stamp within TICK: 16T + o (R251). -/
def samplePos (t : Tick) (o : Nat) : Nat := 16 * t.toNat + o

/-- The signed distance from position `b` to position `a`, modulo 2^44 (R55). -/
def posDiff (a b : Nat) : Int := sx 44 ((a + 2 ^ 44 - b % 2 ^ 44) % 2 ^ 44)

/-! ### The recorded stream (R251, Table 12.1) -/

/-- SRC of an engine. -/
def witSrc (e : Nat) (s : State) : Nat := fR (oWitCtl e) 19 17 s

/-- The global slot that the engine records. -/
def witSlot (e : Nat) (s : State) : Nat := 96 * (e / 8) + fR (oWitCtl e) 16 10 s

/-- The decimation D in force of slot `g` (DECIM). -/
def decim (g : Nat) (s : State) : Nat := 2 ^ fF (oSlotCfg g) 31 30 s

/-- The ball ticks between two values of PEAK and RMS of chain settings (R187). -/
def intervalTicks (c : ChainSet) : Nat := chainD c * 2 ^ fld c.det 4 0

/-- The grid of stream `src` under chain settings: the distance of two samples in 1/16 ns, and where it stands (Table 12.1, R179, R187);
an interval of PEAK and RMS carries the stamp of its last sample. -/
def gridOf (src : Nat) (c : ChainSet) : Int × Int :=
  match src with
  | 0 => (1, 0)
  | 3 => (16 * intervalTicks c, 16 * intervalTicks c - 16 * chainD c)
  | _ => (16 * chainD c, 0)

/-- The grids of stream `src` of slot `g` in time (R186): the first, and those that replace it with the positions from which each does. -/
def gridTurns (src g : Nat) (s : State) : (Int × Int) × List (Int × Int × Int) :=
  match (if src = 0 then [] else (slot g s).chain.reverse) with
  | [] => (gridOf src (chainNow g s), [])
  | (_, c) :: r => (gridOf src c, r.map (fun e => (fullPos e.1 0 s, gridOf src e.2)))

/-- The first sample of a grid at or after a position. -/
def gridUp (gd : Int × Int) (p : Int) : Int := (p + gd.1 - 1 - gd.2) / gd.1 * gd.1 + gd.2

/-- The samples of a grid in positions [lo, hi). -/
def gridCount (gd : Int × Int) (lo hi : Int) : Nat := ((hi - 1 - gridUp gd lo) / gd.1 + 1).toNat

/-- Sample `k` of a stream at or after position `p`. -/
def nthFrom (gd : Int × Int) (p : Int) (k : Nat) : List (Int × Int × Int) → Int
  | [] => gridUp gd p + k * gd.1
  | (e, gd') :: r =>
    let m := gridCount gd p e
    if k < m then gridUp gd p + k * gd.1 else nthFrom gd' (max p e) (k - m) r

/-- The samples of a stream in positions [lo, hi). -/
def countIn (gd : Int × Int) (lo hi : Int) : List (Int × Int × Int) → Nat
  | [] => gridCount gd lo hi
  | (e, gd') :: r => gridCount gd lo (min e hi) + countIn gd' (max lo e) hi r

/-- Sample `k` at or after position `p` of stream `src` of slot `g` (R251). -/
def sampleAt (src g : Nat) (p : Int) (k : Nat) (s : State) : Int := nthFrom (gridTurns src g s).1 p k (gridTurns src g s).2

/-- The samples of that stream in positions [lo, hi). -/
def samplesIn (src g : Nat) (lo hi : Int) (s : State) : Nat := countIn (gridTurns src g s).1 lo hi (gridTurns src g s).2

/-- The first recorded sample of engine `e` at or after a position (Table 12.2). -/
def gridAt (e : Nat) (p : Int) (s : State) : Int := sampleAt (witSrc e s) (witSlot e s) p 0 s

/-- Ticks from a sample stamped `x` of slot `g` to its arrival at the control die: chain and up path (Table 8.5, R14, R183, R256). -/
def slotDelay (g : Nat) (x : Tick) (s : State) : Nat := stampDelay (setAt g x s) (chainD (chainAt g x s)) + 4

/-- Ticks from a raw sample to its arrival there: converter and up path (Table 8.5, R14). -/
def rawDelay : Nat := 6 + 4

/-- The tick of FULLTIME at which the sample of stream `src` of slot `g` at position `p` arrives at an engine. -/
def arrives (src g : Nat) (p : Int) (s : State) : Int := p / 16 + (if src = 0 then rawDelay else slotDelay g (posTick p) s : Nat)

/-! ### Arming -/

/-- The engine records: ENABLE_EFF, WITNESS in force, READY, no throttle, and no time step that it waits behind (R60, R250, R378). -/
def witRuns (e : Nat) (s : State) : Bool := bR (oWitStatus e) 0 s && modeOn 1 s && !throttled s && s.time.resume.isNone

/-- A cause makes no Bale (R256, R258): TRIG_IGNORED, and COALESCED for an event (R313). -/
def witIgnore (e cause : Nat) (s : State) : State :=
  let s := bump (oWitStatus e) 39 20 s
  if cause = 3 then bump (oEvInCnt (1664 + e)) 19 0 s else s

/-- Engine `e` has met the causes `ms`; those of them that `p` names make no Bale. -/
def witDrop (e : Nat) (p : Met → Bool) (ms : List Met) (s : State) : State :=
  foldS (fun m s => witIgnore e m.cause s) (ms.filter p) (setWit e { wit e s with met := ms.filter (fun m => !p m) } s)

/-- Cause `q` is met at a later sample than the trigger sample `h` and before its commit (R256, Table 15.3). -/
def lateMet (h q : Met) : Bool := decide (h.pos < q.pos) && decide (q.tick < h.pos / 16 + 50)

/-- An armed engine has met the causes `ms`, the earliest trigger sample first: what is met at a later one while that one awaits its commit
makes no Bale.
[log: 158 DEDUCED] -/
def witSettle (e : Nat) (ms : List Met) (s : State) : State :=
  match ms with
  | [] => setWit e { wit e s with met := [] } s
  | h :: _ => witDrop e (lateMet h) ms s

/-- The engine arms for samples from position `p` on, its triggers in NEITHER (R255, R258, R259). Causes met
before it make no Bale, nor do edges that its triggers have seen before. -/
def witArmPos (p : Int) (e : Nat) (s : State) : State :=
  let x := wit e s
  witSettle e (x.met.filter (fun m => decide (p ≤ m.pos) && decide (2 ≤ m.cause)))
    (setWit e { x with st := .armed, armedAt := p, hoEnd := none, hoLeft := 0, band0 := none, band1 := none, seen0 := p, seen1 := p } s)

/-- The engine arms at tick `x`. -/
def witArm (x : Tick) (e : Nat) (s : State) : State :=
  witArmPos (fullPos x 0 s) e (setWit e { wit e s with met := [] } s)

/-- Every enabled engine that stands off arms at tick `x` where it may record. -/
def witArmAll (x : Tick) (s : State) : State :=
  foldS (fun e s => if witRuns e s && (wit e s).st == .off then witArm x e s else s) (upTo 64) s

/-! ### Bales -/

/-- The ring of a Bale. -/
def baleRing (b : Bale) : Nat := fld b.ctl 39 20

/-- SRC of a Bale. -/
def baleSrc (b : Bale) : Nat := fld b.ctl 19 17

/-- The slot of a Bale of engine `e`. -/
def baleSlot (e : Nat) (b : Bale) : Nat := 96 * (e / 8) + fld b.ctl 16 10

/-- The position of sample `k` of a Bale of engine `e`, the settings of its slot as they stand (R251). -/
def balePos (e : Nat) (b : Bale) (k : Nat) (s : State) : Int := sampleAt (baleSrc b) (baleSlot e b) b.first k s

/-- The position of the last sample of a Bale, or of its trigger sample where it has none. -/
def baleLast (e : Nat) (b : Bale) (s : State) : Int := if b.n = 0 then b.pos else balePos e b (b.n - 1) s

/-- The tick of FULLTIME at which the last sample of a Bale has been written and it closes, not before its commit (R256, R257). -/
def baleEnd (e : Nat) (b : Bale) (s : State) : Int :=
  max (b.pos / 16 + 50) (if b.n = 0 then b.pos / 16 else arrives (baleSrc b) (baleSlot e b) (baleLast e b s) s)

/-- The position from which an engine re-arms after a Bale with HO_MODE 0 (R258): HOLDOFF ns after the last sample's tick, or the sample
after it.
[log: 36 DEDUCED] -/
def rearmPos (e : Nat) (b : Bale) (s : State) : Int :=
  let ho := (getR (oWitHoldoff e) s).toNat
  if ho = 0 then baleLast e b s + 1 else 16 * (baleLast e b s / 16 + ho)

/-- The samples of a Bale that have been written by the present tick (R259). -/
def baleWritten (e : Nat) (b : Bale) (s : State) : Nat :=
  let p := 16 * ((fullTime s).toNat : Int)
  let hi := p + 16 - 16 * (arrives (baleSrc b) (baleSlot e b) p s - p / 16)
  min b.n (samplesIn (baleSrc b) (baleSlot e b) b.first hi s)

/-- The number of header and measurement slots for a WIT_CTL. -/
def headSlots (ctl : W40) : Nat := 1 + b2n (bit ctl 8)

/-- Samples in one word. -/
def perWord (src : Nat) : Nat := match src with | 0 => 3 | 2 => 2 | _ => 1

/-- The body slots that the samples of a Bale fill (Table 12.1). -/
def bodySlots (b : Bale) : Nat := ((b.n + perWord (baleSrc b) - 1) / perWord (baleSrc b) + 7) / 8

/-- A Bale is lost: DROPPED, and a record once until cleared (R262). -/
def baleDropped (e : Nat) (s : State) : State :=
  recordIf (fR (oWitStatus e) 19 12 s == 0) (0x6000 + e) 0x606 0 0 (bump (oWitStatus e) 19 12 s)

/-- The slots that a Bale which closes may take: those free at its commit that are free still, none in a ring that is not written after an
ECC error (R262, R267, R273).
[log: 159 DESIGN CHOICE] -/
def baleRoom (b : Bale) (s : State) : Nat :=
  let r := ring (baleRing b) s
  if r.eccStop then 0 else min b.free (freeSlots r)

/-- A Bale of engine `e` closes (R257, R261, R262): it takes its BALE_NO and its slots, TAIL passes them at once, and WIT_BALE fires; without
room for its header it is lost.
[log: 36 DEDUCED, 159 DESIGN CHOICE] -/
def baleShut (e : Nat) (b : Bale) (s : State) : Bale × State :=
  let x := wit e s
  let r := ring (baleRing b) s
  let room := baleRoom b s
  let s := setWit e { x with bale := none, no := (x.no + 1) % 2 ^ 20, lastEnd := if b.n = 0 then x.lastEnd else some (baleLast e b s) } s
  let b := { b with no := x.no }
  if room < headSlots b.ctl then (b, baleDropped e s)
  else
    let cap := room - headSlots b.ctl
    let s := if cap < bodySlots b then bump (oWitStatus e) 11 4 s else s
    let s := setRing (baleRing b) { r with tail := plus r.tail (headSlots b.ctl + min cap (bodySlots b)) } s
    ({ b with place := some ⟨r.base, r.length, r.tail, room⟩ },
     fireProd (640 * (e / 8) + 616 + e % 8) (now s) b.depth (watermark (baleRing b) s))

/-- The engine stops; an open Bale closes at once, with TIME_STEP where `ts` (R259, R60). What its slots hold follows with BALE_CLOSE.
[log: 36 DEDUCED] -/
def witCloseEarly (ts : Bool) (e : Nat) (s : State) : State :=
  let x := wit e s
  let s := setWit e { x with st := .off, met := [] } s
  match x.bale with
  | some b =>
    let (b, s) := baleShut e { b with closeNow := true, timeStep := ts, n := baleWritten e b s } s
    if b.place.isSome then setWit e { wit e s with closed := (wit e s).closed ++ [b] } s else s
  | none => s

/-- Every engine stops (R259). -/
def witStopAll (ts : Bool) (s : State) : State :=
  foldS (fun e s => witCloseEarly ts e.1 s) s.wits s

/-! ### Causes met (R256, R258, R260) -/

/-- A cause in its place by position. -/
def metInsert (m : Met) : List Met → List Met
  | [] => [m]
  | y :: t => if m.pos < y.pos then m :: y :: t else y :: metInsert m t

/-- The causes that hold-off by count ignores, `k` of them, in their order; the position of the last one where they are complete, and
the causes after it. -/
def ignoreCount : Nat → List Met → List Met × Nat × Option Int × List Met
  | 0, ms => ([], 0, none, ms)
  | k + 1, [] => ([], k + 1, none, [])
  | k + 1, m :: t =>
    let (is, left, p, rest) := ignoreCount k t
    (m :: is, left, if k = 0 then some (m.pos + 1) else p, rest)

/-- The position up to which what an engine meets belongs to its present state: its earliest trigger sample, while armed; where it re-arms,
while a Bale is open; the end of hold-off. -/
def witLimit (e : Nat) (s : State) : Option Int :=
  let x := wit e s
  match x.st, x.bale with
  | .armed, _ => x.met.head?.map (fun m => m.pos + 1)
  | .recording, some b => some (if bR (oWitCtl e) 7 s then baleLast e b s + 1 else rearmPos e b s)
  | .holdoff, _ => x.hoEnd
  | _, _ => some 0

/-- The tick of FULLTIME until which the engine's Bale is open, or its last one was. -/
def witBusyTo (e : Nat) (s : State) : Int :=
  match (wit e s).bale with
  | some b => baleEnd e b s
  | none => (wit e s).busyTo

/-- Causes met that can make no Bale are counted (R256, R258, Table 15.3): those met while a Bale is open; in hold-off, those before its
end, or the number that it ignores. A later one waits until the engine arms. -/
def witDrain (e : Nat) (s : State) : State :=
  let x := wit e s
  let open_ := fun (m : Met) => decide (m.tick < witBusyTo e s)
  match x.st, witLimit e s with
  | .armed, _ => s
  | .off, _ => s
  | _, some p => witDrop e (fun m => open_ m || decide (m.pos < p)) x.met s
  | _, none =>
    let s := witDrop e open_ x.met s
    let (is, left, p, rest) := ignoreCount x.hoLeft (wit e s).met
    foldS (fun m s => witIgnore e m.cause s) is (setWit e { wit e s with met := rest, hoLeft := left, hoEnd := p } s)

/-- A cause is met at a trigger sample (R256, R258, R260): collected, or counted; an event at the sample of another is coalesced into
it (R313).
[log: 158 DEDUCED] -/
def witMet (e : Nat) (m : Met) (s : State) : State :=
  let x := wit e s
  let ms := metInsert m x.met
  if !witRuns e s || bR (oWitCtl e) 9 s || x.st == .off || (x.st == .armed && decide (m.pos < x.armedAt)) then s
  else if x.st != .armed then witDrain e (setWit e { x with met := ms } s)
  else if m.tick < x.busyTo || (m.cause == 3 && x.met.any (fun q => q.cause == 3 && q.pos == m.pos)) then witIgnore e m.cause s
  else witSettle e ms s

/-- A window, event or host cause at tick `x`. -/
def witCauseAt (e cause : Nat) (x : Tick) (depth : Nat) (s : State) : State :=
  witMet e ⟨cause, gridAt e (fullPos x 0 s) s, fullPos x 0 s / 16, depth⟩ s

/-- A window opens on slot `g` at tick `x`: the WINDOW cause of the engines of its tile that watch it (Table 12.2). -/
def witWindow (g : Nat) (x : Tick) (s : State) : State :=
  foldS (fun f s =>
    let e := 8 * (g / 96) + f
    if bR (oWitCtl e) 6 s && fR (oWitSrc2 e) 6 0 s == g % 96 then witCauseAt e 2 x 0 s else s) (upTo 8) s

/-- The first position that a Bale of engine `e` may hold (R254): from where ENABLE took effect, and after the Bale before. -/
def witFloor (e : Nat) (s : State) : Int :=
  match (wit e s).lastEnd with
  | some l => max (wit e s).enAt (l + 1)
  | none => (wit e s).enAt

/-- PRE_HAVE of a Bale with its trigger sample at `p` (R254). -/
def witPreHave (e : Nat) (p : Int) (s : State) : Nat :=
  min (fR (oWitPre e) 15 0 s) (samplesIn (witSrc e s) (witSlot e s) (witFloor e s) p s)

/-- The first sample of such a Bale: PRE_HAVE samples before its trigger sample (R254). -/
def witFirst (e : Nat) (p : Int) (s : State) : Int :=
  let k := samplesIn (witSrc e s) (witSlot e s) (witFloor e s) p s
  if witPreHave e p s = 0 then p else sampleAt (witSrc e s) (witSlot e s) (witFloor e s) (k - witPreHave e p s) s

/-! ### Integer roots (R187) -/

/-- `rootRound s n k`: the integer nearest to √(s/n), half up, among numbers below 2^k. -/
def rootRound (s n : Nat) : Nat → Nat → Nat
  | 0, r => r
  | k + 1, r => let c := r + 2 ^ k; rootRound s n k (if (2 * c - 1) ^ 2 * n ≤ 4 * s then c else r)

/-- round(√(I² + Q²)) (R187). -/
def envOf (i q : Int) : Nat := rootRound (i * i + q * q).toNat 1 21 0

/-- PEAK and RMS of samples (R187). -/
def levels (zs : List Sample) : Nat × Nat :=
  let peak := zs.foldl (fun a z => max a (envOf z.i.toInt z.q.toInt)) 0
  let sum := zs.foldl (fun a z => a + (z.i.toInt * z.i.toInt + z.q.toInt * z.q.toInt).toNat) 0
  (peak, rootRound sum zs.length 21 0)

end Sys2Proof.Machine
end

