-- ==== Sys2Proof/Machine/BoundOps.lean ====
section
/-! DEFINITION. What happens at a shot boundary: comparison of the shot's streams, the pending items in their order, the
role switch, the Gleaner's quiet intervals, and the completion of DEV_ENTER_SAFE (R30, R48, R341-R344, R388-R392,
R449, R452). -/

namespace Sys2Proof.Machine

/-! ### Waits of a BR (R82-R85, R116, R218, R220) -/

/-- A wait completes at tick `x`: the cursor moves under R82 and the next instruction issues `d` ticks on (R105). -/
def completeAt (x : Tick) (d : Nat) (g : Nat) (s : State) : State :=
  modSeq g (fun q => { q with
    st := .running, wait := .none, cursor := later q.cursor (plus x 7), issueAt := plus x d }) s

/-- A BR resolves at tick `x`, taken or not. -/
def brResolve (x : Tick) (taken : Bool) (b : BrWait) (g : Nat) (s : State) : State :=
  completeAt x (if taken then 2 else 1) g (modSeq g (fun q => { q with pc := if taken then b.target else b.next }) s)

/-- The test of a BR on a verdict word (R116). -/
def verdictTest (b : BrWait) (v : W40) : Bool :=
  match b.test with
  | 0 => b.cond.testBit (vState v)
  | 1 => bit v 19
  | 2 => vEarly v
  | _ => decide (b.conf ≤ fld v 18 11)

/-- What a BR would take now: none where its value is not present; the absent path for an absent verdict (R83-R85, R116,
R218, R220). -/
def brNow (b : BrWait) (g : Nat) (s : State) : Option Bool :=
  let h := (seq g s).hzn
  match b.src with
  | 1 =>
    let v := vent b.index s
    if vValid v.seqWord && notBefore v.seqRef h && !(b.final && vEarly v.seqWord) then
      some (if vAbsent v.seqWord then b.abs else verdictTest b v.seqWord != b.neg)
    else none
  | 2 =>
    if nMem b.index s = 0 then some b.neg
    else
      match (pset b.index s).seqP with
      | some p => if notBefore (pset b.index s).hb h then some (p != b.neg) else none
      | none => none
  | _ =>
    let o := bit (decOut b.index s) b.bit != b.neg
    if nBits b.index s = 0 then some o
    else if (decoder b.index s).ready && decComplete b.index s && !decAbs b.index s
        && (decSets b.index s).all (fun j => notBefore (pset j s).hb h) then some o
    else none

/-- A tick lies no later than a deadline, if there is one (R84). -/
def inTime (x : Tick) (dl : Option Tick) : Bool :=
  match dl with
  | some d => notBefore d x
  | none => true

/-- A waiting BR tries at tick `x`, no later than its deadline (R84). -/
def brTry (x : Tick) (g : Nat) (s : State) : State :=
  match (seq g s).wait with
  | .br b =>
    match brNow b g s with
    | some t => if inTime x b.dl then brResolve x t b g s else s
    | none => s
  | _ => s

/-- Every waiting BR tries at tick `x`: values have reached the sequencers. -/
def brTryAll (x : Tick) (s : State) : State := foldS (fun e s => brTry x e.1 s) s.seqs s

/-! ### Routines of the Ceari engine -/

/-- A routine with opcode `op` that has not ended. -/
def isOpen (op : Nat) (r : Routine) : Bool := r.opcode == op && r.ended.isNone

/-- The opcodes of class P (Table 14.4). -/
def progressive (op : Nat) : Bool :=
  [0x003, 0x201, 0x303, 0x501, 0x604, 0x605, 0x802, 0x803, 0x804, 0x805, 0x902].contains op

/-- The progress word of a routine at tick `t`: ADC_SELF_CAL counts its ms; the others hold theirs. -/
def progressAt (t : Tick) (r : Routine) : W40 :=
  if r.opcode = 0x201 then w ((t - r.started).toNat / 1000000) else r.progress

/-- Routine `r` ends with a status and results at tick `t`. A progressive routine that ends early answers its progress word
(R293); AUTH_FAIL of FW_INSTALL answers the failed check (R399). -/
def closeRoutine (st : Nat) (res : List W40) (t : Tick) (r : Routine) : Routine :=
  let res := if progressive r.opcode && st != 0 && st != 7 && st != 10 then [progressAt t r] else res
  { r with ended := some (st, res, t) }

/-- The open routine with opcode `op`, current or parked, ends with status `st` and results (R291-R293). -/
def endRoutine (op st : Nat) (res : List W40) (s : State) : State :=
  let f := fun r => if isOpen op r then closeRoutine st res (now s) r else r
  { s with ce := { s.ce with cur := s.ce.cur.map f, parked := s.ce.parked.map (fun e => (e.1, f e.2)) } }

/-- The open routine with opcode `op` on target `tg` ends. -/
def endRoutineAt (op tg st : Nat) (res : List W40) (s : State) : State :=
  let f := fun r => if isOpen op r && r.target == tg then closeRoutine st res (now s) r else r
  { s with ce := { s.ce with cur := s.ce.cur.map f, parked := s.ce.parked.map (fun e => (e.1, f e.2)) } }

/-- The open routine with opcode `op` reports progress. -/
def progressRoutine (op : Nat) (p : W40) (s : State) : State :=
  let f := fun r => if isOpen op r then { r with progress := p } else r
  { s with ce := { s.ce with cur := s.ce.cur.map f, parked := s.ce.parked.map (fun e => (e.1, f e.2)) } }

/-- A kernel or table load ends: the commits it held act (R299). -/
def releaseHold (op t : Nat) (s : State) : State :=
  if op = 0x401 then
    let held := (slot t s).held
    let s := setSlot t { slot t s with loading := false, held := false } s
    if held then commitReq 3 t s else s
  else if op = 0x402 then
    let held := (decoder t s).held
    let s := setDecoder t { decoder t s with loading := false, held := false } s
    if held then brTryAll (now s) (bndSettle (decAdopt (now s) t s)) else s
  else s

/-- The routines that have not ended and that `p` selects. -/
def openRoutines (p : Routine → Bool) (s : State) : List Routine :=
  ((match s.ce.cur with | some r => [r] | none => []) ++ s.ce.parked.map (fun e => e.2)).filter
    (fun r => r.ended.isNone && p r)

/-- The request of MON_URGENT goes, with its conversion where it runs: the routine has changed nothing (R292). -/
def monForget (s : State) : State :=
  { s with mon := { s.mon with urgent := s.mon.urgent.filter (fun q => !q.host), cur := s.mon.cur.filter (fun c => !c.host) } }

/-- The routines that have not ended and that `p` selects end with ABORTED (R301, R302); a DEV_ENTER_SAFE that ends so no longer waits for SAFE. -/
def abortRoutines (p : Routine → Bool) (s : State) : State :=
  let rs := openRoutines p s
  let f := fun r => if r.ended.isNone && p r then closeRoutine 8 [] (now s) r else r
  let s := { s with ce := { s.ce with cur := s.ce.cur.map f, parked := s.ce.parked.map (fun e => (e.1, f e.2)) } }
  let s := if rs.any (fun r => r.opcode == 0x901) then monForget s else s
  let s := if rs.any (fun r => r.opcode == 0x003) then { s with safePend := none } else s
  foldS (fun r s => releaseHold r.opcode r.target s) rs s

/-! ### Outputs by their sequencers (R341, R388, R392) -/

/-- The outputs that sequencer `g` leads (class 3 of Table 24.2). -/
def ledBy (g : Nat) : List Nat :=
  let t := g / 96
  let q := g % 96
  (if q < 64 && q % 4 == 0 then [16 * t + q / 4] else [])
    ++ (if q % 12 == 0 then [256 + 8 * t + q / 12] else []) ++ [512 + g]

/-- The owner sequencers of output `o` of the XY and PROBE kinds (R388); of a flux output, its own. -/
def ownersOf (o : Nat) : List Nat :=
  if o < 256 then (upTo 4).map (fun d => 96 * (o / 16) + 4 * (o % 16) + d)
  else if o < 512 then (upTo 12).map (fun d => 96 * ((o - 256) / 8) + 12 * ((o - 256) % 8) + d)
  else [o - 512]

/-- The RF outputs that sequencer `g` is an owner of. -/
def ownedBy (g : Nat) : List Nat :=
  let t := g / 96
  let q := g % 96
  (if q < 64 then [16 * t + q / 4] else []) ++ [256 + 8 * t + q / 12]

/-- The TYPE 3 field of output `o`: kind and global output (Table 17.3). -/
def crcField (o : Nat) : Nat :=
  if o < 256 then 16 * o else if o < 512 then 2 ^ 14 + 16 * (o - 256) else 2 * 2 ^ 14 + 16 * (o - 512)

/-! ### Comparison (R340-R342) -/

/-- The mode bits 5:0 other than PAIRED of both halves agree (R42). -/
def bitsAgree (s : State) : Bool := (s.pair.twinMode ^^^ (getR oMode s).toNat) &&& 0x37 == 0

/-- Comparison stops for every output until the next boundary of its lead (R342). -/
def cmpStop (s : State) : State := foldS (fun e s => setOut e.1 { outp e.1 s with cmpOn := false } s) s.outs s

/-- What waits for comparison and satisfies `p` is compared no more (R342). -/
def itemsOff (p : CmpItem → Bool) (s : State) : State :=
  { s with pair := { s.pair with items := s.pair.items.filter (fun i => !p i) } }

/-- Comparison stops, and nothing that waits for it is compared (R342). -/
def cmpHalt (s : State) : State := cmpStop (itemsOff (fun _ => true) s)

/-- One output closes its compared shot at boundary `x` of its lead sequencer, which has shot number `n` (R341). -/
def compareOut (x : Tick) (n : W40) (g o : Nat) (s : State) : State :=
  let on := (outp o s).cmpOn
  let (crc, s) := crcClose o x s
  let run := cmpRuns s && seqHas 3 g s
  let s := setOut o { outp o s with cmpOn := run } s
  if !paired s then s
  else if isEcho s then
    if on && run then cmpAdd ⟨0, o, w (fld n 7 0), w crc.toNat, x, true⟩ s else s
  else pairSend 3 (w (fld n 7 0 * 2 ^ 32 + crc.toNat)) (BitVec.ofNat 16 (crcField o)) s

/-- The compared shot of the outputs that `g` leads ends at boundary `x`; MISMATCH clears once the bits agree (R42). -/
def compareShot (x : Tick) (g : Nat) (s : State) : State :=
  let s := if bR oModeStatus 9 s && bitsAgree s then putB oModeStatus 9 false s else s
  foldS (compareOut x (seq g s).shot g) (ledBy g) s

/-! ### Handover (R343, R344) -/

/-- Outputs of the part. -/
def nOutputs (s : State) : Nat := 120 * nTiles s

/-- Outputs that have switched in the present handover. -/
def switchedOuts (s : State) : Nat := (s.outs.filter (fun e => e.2.switched)).length

/-- ROLE flips (R344): the record, the reply, and every output stands in its new role. -/
def roleFlip (g : Nat) (s : State) : State :=
  let n := match s.pair.agreed with | some (n, _) => n | none => 0
  let s := putB oMode 6 (!bR oMode 6 s) s
  let s := putB oModeStatus 6 (bR oMode 6 s) s
  let s := putB oPairStatus 31 false s
  let s := foldS (fun e s => setOut e.1 { outp e.1 s with switched := false } s) s.outs s
  let s := { s with pair := { s.pair with agreed := none, switching := false, myN := none, twinN := none } }
  endRoutine 0x604 0 [] (recordB g (0x7000 + pairPort s) 0x108 (5 * 2 ^ 17) n s)

/-- Output `o` switches role; the last one flips ROLE. -/
def switchOut (g o : Nat) (s : State) : State :=
  if s.pair.switching && !(outp o s).switched then
    let s := setOut o { outp o s with switched := true } s
    if switchedOuts s = nOutputs s then roleFlip g s else s
  else s

/-- The outputs that `g` leads switch at boundary `x` that ends shot `n`, where that boundary lies after the agreed tick and
the shot is the named one or a later one (R344); `leave` for a shot left without a boundary (R48). -/
def handoverItem (x : Tick) (n : W40) (leave : Bool) (g : Nat) (s : State) : State :=
  match s.pair.agreed with
  | some (m, a) =>
    if s.pair.switching && x != a && notBefore x a && (leave || notBefore n m) then
      foldS (switchOut g) (ledBy g) s
    else s
  | none => s

/-! ### The Gleaner (R387-R392) -/

/-- The output of a tile that a measurement concerns: 0..15 XY, 16..23 PROBE. Units: an output for DAC_CELL; drive tone q,
or 64 + probe tone q, for LO_LEAK. -/
def gleanOutput (task unit : Nat) : Nat :=
  if task = 0 then unit else if unit < 64 then unit / 4 else 16 + (unit - 64) / 12

/-- Output `o` of a tile as an output of the device. -/
def tileOutput (t o : Nat) : Nat := if o < 16 then 16 * t + o else 256 + 8 * t + (o - 16)

/-- Sequencer `g` is an owner of the measurement on tile `t`; NVM_MARGIN concerns every sequencer (R388). -/
def gleanOwner (g t : Nat) (m : Glean) : Bool :=
  m.task == 2 || (ownersOf (tileOutput t (gleanOutput m.task m.unit))).contains g

/-- The measurement on tile `t` is abandoned (R390). -/
def gleanAbandon (t : Nat) (s : State) : State :=
  match tget? t s.glean.run with
  | some m =>
    let s := bump oGleanStat 39 20
      { s with glean := { s.glean with run := tdel t s.glean.run, started := tput t (now s) s.glean.started } }
    if m.task = 0 then setOut (tileOutput t m.unit) { outp (tileOutput t m.unit) s with gleanMute := false } s else s
  | none => s

/-- Every measurement in progress whose end lies ahead and that satisfies `p` is abandoned. -/
def gleanAbandonIf (p : Nat → Glean → Bool) (s : State) : State :=
  foldS (fun e s => if p e.1 e.2 && !due e.2.fin s then gleanAbandon e.1 s else s) s.glean.run s

/-- Sequencer `g` leaves quiet. -/
def gleanLeave (g : Nat) (s : State) : State := gleanAbandonIf (gleanOwner g) s

/-- Owner `g` is quiet at tick `x` (R388): not inside a shot, or in a declared gap of at least 2,000 ns. -/
def ownerQuiet (x : Tick) (g : Nat) (s : State) : Bool :=
  !inShot g s || (match (seq g s).quietTo with
    | some y => !notBefore x y
    | none => false)

/-- Pending DAC_CELL trims apply where `g` is the last owner to fall quiet (R392). -/
def gleanCells (late : Bool) (x : Tick) (g : Nat) (s : State) : State :=
  foldS (fun o s =>
    if (ownersOf o).all (fun h => ownerQuiet x h s) && !(late && isFresh 8 o s) then gleanCell g o s else s) (ownedBy g) s

/-! ### The items of a boundary (R48) -/

/-- A BOUNDARY_APPLY record (Table 2.8). -/
def applyRec (g kind src : Nat) (w3 : W40) (s : State) : State := recordB g src 0x108 (kind * 2 ^ 17) w3 s

/-- Item 1: sequencer `g` adopts the mode bits (R35), without the writes of the present tick where `late` holds.
[log: 97 DEDUCED] -/
def modeItem (late : Bool) (g : Nat) (s : State) : State :=
  if (seq g s).modePend then
    let e := seqBits (if late then s.modeWas.getD (getR oMode s) else getR oMode s)
    let wait := e != seqBits (getR oMode s)
    let s := modSeq g (fun q => { q with modePend := wait, effSeq := e.1, effPair := e.2.1, effHold := e.2.2 }) s
    let s := if s.seqs.any (fun e => e.2.modePend) then s else applyRec g 1 0 (w (fR oMode 5 0 s)) s
    fsetAll s
  else s

/-- Item 2: a commit of unit `u` that waited for the boundary (R100). -/
def commitItem (g u : Nat) (s : State) : State :=
  if u = 3 && (slot g s).loading then commitUnit u g s
  else applyRec g 2 (0x1000 + g) (w (g * 2 ^ 10 + u)) (commitUnit u g s)

/-- Item 3: a pending band set (R137). -/
def bandItem (late : Bool) (g : Nat) (s : State) : State :=
  if (seq g s).bandPend && !(late && isFresh 5 g s) then
    let s := applyBand g s
    if bandWaits (g / 96) s then s else applyRec g 3 (0xF000 + g / 96) (w (tileBand (g / 96) s * 16)) s
  else s

/-- The items pending for sequencer `g` apply at tick `x`, in the order of R48; `n` is the number of the shot that ends. At a
boundary, what has arrived in its tick waits for the next; a shot that is left without one (`leave`) applies all.
[log: 97 DEDUCED] -/
def boundaryItems (x : Tick) (n : W40) (leave : Bool) (g : Nat) (s : State) : State :=
  let late := fun (k : Nat) => !leave && isFresh k g s
  let tones := [(6, false), (7, true)].filter (fun e => !late e.1 && (e.2 || g % 96 < 64))
  let s := modeItem (!leave) g s
  let us := (seq g s).commits
  let s := modSeq g (fun q => { q with commits := us.filter late }) s
  let s := foldS (commitItem g) (us.filter (fun u => !late u)) s
  let s := bandItem (!leave) g s
  let s := foldS (fun e s => gleanTone e.2 g s) tones s
  let s := gleanCells (!leave) x g s
  handoverItem x n leave g s

/-! ### Lifecycle entries that need no forced stop (R28, R30, R449, R452) -/

/-- A LIFECYCLE_CHANGE record and the new state (R28). -/
def lifeTo (l : Life) (s : State) : State :=
  record 0 0x100 (lifeCode s.life * 2 ^ 16 + lifeCode l * 2 ^ 12) 0 s |> fun s => { s with life := l }

/-- The loopback relays return at the entry to SAFE, STOPPING or HALTED, and a pending change is cancelled (R452).
[log: 134 DESIGN CHOICE] -/
def relaysBack (s : State) : State :=
  let s := { s with lbReq := none, lbWaited := false, lbResume := none, armAfter := none }
  let s := putB oModeStatus 8 false s
  if relays s then
    record 0 0x104 0 0 (putB oModeStatus 7 false s)
  else s

/-- A requested step is an acquisition's. -/
def acqReq (r : StepReq) : Bool := match r.kind with | .acquire _ => true | _ => false

/-- No acquisition goes on; a step that it has requested stays a step of that many ticks (R451). -/
def acquireEnd (s : State) : State :=
  let plain := fun (r : StepReq) => match r.kind with
    | .acquire n => { r with kind := .shift n }
    | _ => r
  { s with time := { s.time with acquiring := false, stepAcq := false, req := s.time.req.map plain } }

/-- An acquisition under way ends, and a step that it has requested is not made: TICK is kept (R70, R335).
[log: 146 DEDUCED] -/
def acquireStop (s : State) : State :=
  if s.time.req.any acqReq then acquireEnd (putB oTimeStatus 7 false { s with time := { s.time with req := none } })
  else acquireEnd s

/-- FEDERATED ceases to be in force (R335): a standalone device has no upstream port, and no acquisition goes on. -/
def fedLeave (s : State) : State :=
  acquireEnd s |> putF oTimeStatus 2 0 0 |> putF oTimeStatus 19 12 0xF0 |> putB oTimeStatus 6 false |> putB oTimeStatus 5 false

/-- No sequencer of the device is inside a shot. -/
def quiet (s : State) : Bool := !anyInShot s

/-- A pending time step learns the quiet moment Q (R59). -/
def stepQuiet (s : State) : State :=
  match s.time.req with
  | some r =>
    if r.quiet.isNone && quiet s then
      { s with time := { s.time with req := some { r with quiet := some (now s) } } }
    else s
  | none => s

/-- The device enters SAFE from READY (R30, Table 2.2): witness engines stop, outputs take their SAFE state, bias goes to
rest, the relays return, and a pending time step goes on (R451). -/
def enterSafe (s : State) : State :=
  let fed := federated s
  let s := witStopAll false s
  let s := lifeTo .safe { s with safePend := none }
  let s := if fed then fedLeave s else s
  let s := allRest true (now s) (relaysBack s)
  fsetAll (stepQuiet s)

/-- DEV_ENTER_SAFE completes once no sequencer is inside a shot; `st` is its status and `res` its results (R30). -/
def safeCheck (st : Nat) (res : List W40) (s : State) : State :=
  if s.safePend.isSome && s.life == .ready then
    let n := (s.seqs.filter (fun e => insideShot e.2)).length
    if n = 0 then endRoutine 0x003 st res (enterSafe s) else progressRoutine 0x003 (w n) s
  else s

/-- Channel `g` stops where it stands. -/
def biasFreeze (g : Nat) (s : State) : State := setBias g { biasC g s with phase := .idle, nextAt := none } s

/-- Every bias output stops where it stands (R381). -/
def allFreeze (s : State) : State := foldS biasFreeze (upTo (nSeqs s)) s

/-- The outputs at the tick G of a shutdown: every bias output goes to rest, or stops where the sequence is cut short (R380, R381). -/
def graceOutputs (s : State) : State :=
  let s := { s with therm := { s.therm with graceAt := some (now s) } }
  if s.therm.cut then allFreeze s else allRest true (now s) s

/-- The tick G of a shutdown: no sequencer is inside a shot (R380). -/
def graceCheck (s : State) : State :=
  if s.therm.shutAt.isSome && s.therm.graceAt.isNone && quiet s then graceOutputs s
  else s

/-- A sequencer has left its shot or stopped: what waits for a quiet device sees it. -/
def quietCheck (s : State) : State := safeCheck 0 [0] (graceCheck (stepQuiet s))

end Sys2Proof.Machine
end

