-- ==== Sys2Proof/Machine/SeqOps.lean ====
section
/-! DEFINITION. Sequencers: leaving a shot, faults, forced stops, late actions, the timeline queue, waits and their
resolution, boundaries, stops and resumes, and SYNC barriers (R73-R95, R448). -/

namespace Sys2Proof.Machine

/-! ### Barriers (R92-R95) -/

/-- DEVICE_MASK of barrier `b`. -/
def barMask (b : Nat) (s : State) : Nat := fR (oBarrierCfg b) 39 24 s
/-- RELEASE_DELAY of barrier `b`. -/
def barDelay (b : Nat) (s : State) : Nat := fR (oBarrierCfg b) 23 10 s
/-- LOCAL_COUNT of barrier `b`. -/
def barCount (b : Nat) (s : State) : Nat := fR (oBarrierCfg b) 9 0 s

/-- The devices that a mask names. -/
def maskDevs (m : Nat) : List Nat := (upTo 16).filter (fun d => m.testBit d)

/-- The mask names a device other than the own one. -/
def barRemote (b : Nat) (s : State) : Bool := (maskDevs (barMask b s)).any (fun d => d != devNum s)

/-- Some device of the mask other than the own one is unreachable (R336). -/
def barLost (b : Nat) (s : State) : Bool :=
  bR oFedStatus 1 s && (maskDevs (barMask b s)).any (fun d => d != devNum s && !bR oFedReach (16 + d) s)

/-- The tick R of release that follows completion at A (R92). -/
def barReleaseAt (b : Nat) (a : Tick) (s : State) : Tick := plus a (4 + barDelay b s)

/-- The owner domains of the members of the present use. -/
def barDoms (b : Nat) (s : State) : List Nat := ((barrier b s).now.map (fun g => seqDom g s)).dedup

/-- The barrier fails at tick `k` (R94). -/
def barFail (k : Tick) (b : Nat) (s : State) : State :=
  let x := barrier b s
  let miss := (maskDevs (barMask b s)).filter (fun d => (tget? d x.notices).isNone)
  setBarrier b { x with failed := true, release := some (plus k 4), localAt := some (x.localAt.getD k) } s
    |> putB (oBarrierStat b) 26 true
    |> recordFor (barDoms b s) 0 0x305 b (w (miss.foldl (fun a d => a + 2 ^ d) 0))

/-- Arrivals at the next use of barrier `b`, whose present use has yet to be released, fail at tick `k` and leave it at `k` + 4 (R94,
R336). -/
def barFailNext (k : Tick) (b : Nat) (gs : List Nat) (s : State) : State :=
  let x := barrier b s
  let miss := (maskDevs (barMask b s)).filter (fun d => (tget? d x.nextNotices).isNone)
  setBarrier b { x with next := x.next.filter (fun g => !gs.contains g), solo := x.solo ++ gs.map (fun g => (g, plus k 4, true)) } s
    |> putB (oBarrierStat b) 26 true
    |> recordFor ((gs.map (fun g => seqDom g s)).dedup) 0 0x305 b (w (miss.foldl (fun a d => a + 2 ^ d) 0))

/-- The completion notice of the own device: to every other device of the mask, over usable ports, while the device is
the voice and ACQUIRED is 1 (R92, R93, R43). -/
def barSend (b : Nat) (ad : Tick) (s : State) : State :=
  if federated s && bR oTimeStatus 6 s && !isEcho s then
    let it : Item := { kind := 2, word := w (devNum s * 2 ^ 36 + b * 2 ^ 28), posted := now s, ref := ad, src := devNum s,
                       release := 0, checked := 0 }
    foldS (fun p s => if usable p s then toPort p false b it s else s) (upTo (nPorts s)) s
  else s

/-- The barrier completes once notices from every device of the mask are held (R92, R93): `x` is the tick of the last. -/
def barCheck (x : Tick) (b : Nat) (s : State) : State :=
  let q := barrier b s
  if q.release.isSome then s
  else if (maskDevs (barMask b s)).all (fun d => (tget? d q.notices).isSome) then
    match q.notices with
    | [] => s
    | (_, a0) :: t =>
      let r := barReleaseAt b (latest a0 (t.map (fun e => e.2))) s
      if notBefore x r && x != r then
        setBarrier b { q with release := some x } s
          |> recordFor (barDoms b s) 0 0x304 b (w (x - r).toNat)
      else setBarrier b { q with release := some r } s
  else s

/-- The local part completes with A_d (R92). A device whose ACQUIRED bit is 0 holds its own notice (R93). -/
def barLocal (x ad : Tick) (b : Nat) (s : State) : State :=
  let q := barrier b s
  if barRemote b s then
    if bR oTimeStatus 6 s then
      let own := if (barMask b s).testBit (devNum s) then tput (devNum s) ad q.notices else q.notices
      barCheck x b (barSend b ad (setBarrier b { q with localAt := some ad, notices := own, sent := true } s))
    else setBarrier b { q with localAt := some ad } s
  else setBarrier b { q with localAt := some ad, release := some (barReleaseAt b ad s) } s

/-- A_d of an arrival at tick `e`: not before the tick after the release of the previous use (R92). -/
def afterRelease (e : Tick) (b : Nat) (s : State) : Tick :=
  match (barrier b s).lastRel with
  | some (r, ep) => if ep = s.time.epoch ∧ notBefore r e then plus r 1 else e
  | none => e

/-- An arrival at barrier `b` belongs to its next use (R92): its local part has completed or it has failed; a barrier of
LOCAL_COUNT 0 takes every arrival before its release into the present use (R94). -/
def barNext (b : Nat) (s : State) : Bool :=
  let q := barrier b s
  if barCount b s = 0 then q.failed else q.release.isSome || q.localAt.isSome

/-- Sequencer `g` arrives at barrier `b` at tick `e` (R92, R94).
[log: 98 DEDUCED] -/
def barArrive (e : Tick) (b g : Nat) (s : State) : State :=
  let q := barrier b s
  if barCount b s = 0 && !barRemote b s then setBarrier b { q with solo := q.solo ++ [(g, barReleaseAt b e s, false)] } s
  else if barNext b s && barRemote b s && (!federated s || barLost b s) then barFailNext e b [g] s
  else if barNext b s then setBarrier b { q with next := q.next ++ [g] } s
  else
    let s := setBarrier b { q with now := q.now ++ [g] } s
    if q.release.isSome then s
    else if barRemote b s && (!federated s || barLost b s) then barFail e b s
    else if barCount b s != 0 && barCount b s ≤ q.now.length + 1 then barLocal e (afterRelease e b s) b s
    else s

/-- A completion notice of device `dev` with A_d, held by barrier `b` at tick `x` (R92-R94). -/
def barNotice (x : Tick) (b dev : Nat) (ad : Tick) (s : State) : State :=
  let q := barrier b s
  if q.release.isSome || (tget? dev q.notices).isSome then
    let other := dev != devNum s && (barMask b s).testBit dev
    setBarrier b { q with
      nextNotices := tput dev ad q.nextNotices, nextFirst := if q.nextFirst.isNone && other then some ad else q.nextFirst } s
  else
    let s := setBarrier b { q with notices := tput dev ad q.notices } s
    if barCount b s = 0 && q.localAt.isNone && dev != devNum s && (barMask b s).testBit dev then barLocal x ad b s
    else barCheck x b s

/-- Arrivals of sequencer `g` are withdrawn (Table 4.4). -/
def barWithdraw (g : Nat) (s : State) : State :=
  foldS (fun e s =>
    let q := e.2
    if q.now.contains g || q.next.contains g || q.solo.any (fun m => m.1 == g) then
      let off := fun (h : Nat) => h != g
      setBarrier e.1 { q with now := q.now.filter off, next := q.next.filter off, solo := q.solo.filter (fun m => off m.1) } s
    else s) s.barriers s

/-- Barriers in use whose mask names another device fail at tick `k` where `p` holds of them (R94). -/
def barFailAll (k : Tick) (p : Nat → Bool) (s : State) : State :=
  foldS (fun e s =>
    if barRemote e.1 s && p e.1 then
      let s := if e.2.next.isEmpty then s else barFailNext k e.1 e.2.next s
      if e.2.release.isNone && (!e.2.now.isEmpty || !e.2.notices.isEmpty || e.2.localAt.isSome) then barFail k e.1 s else s
    else s) s.barriers s

/-! ### Leaving a shot, faults and forced stops -/

/-- Sequencer `q` is in a declared gap at tick `x`, in which it has been quiet since its boundary (R388). -/
def inGap (x : Tick) (q : Seq) : Bool := q.quietTo.any (fun y => !notBefore x y)

/-- Sequencer `g` leaves its shot without a boundary at tick `x` (R48). -/
def leaveShot (x : Tick) (g : Nat) (s : State) : State :=
  quietCheck (boundaryItems x (seq g s).shot true g
    (modSeq g (fun q => { q with quietAt := if inGap x q then q.quietAt else x, quietTo := none }) s))

/-- A program fault at address `a` (R75, R126). -/
def seqFault (kind a : Nat) (g : Nat) (s : State) : State :=
  let s := modSeq g (fun q => { q with st := .faulted, wait := .none, bound := none }) s
  let s := record (0x1000 + g) 0x300 (kind * 2 ^ 17) (w (g * 2 ^ 20 + a)) s
  if (seq g s).queue.isEmpty then leaveShot (now s) g s else s

/-- The sequencer is ended where it stands and reads IDLE (ABORT of Table 4.4, R448). -/
def seqEnd (g : Nat) (s : State) : State :=
  let was := inShot g s
  let s := barWithdraw g s
  let s := modSeq g (fun q => { q with
    st := .idle, stopReason := 0, queue := [], loops := [], calls := [], wait := .none, bound := none, ends := none,
    stalled := none, stopReq := false, roomAt := none }) s
  if was then leaveShot (now s) g s else s

/-- The forced stop of every sequencer that `p` selects (R448).
[log: 117 DEDUCED] -/
def forcedStop (p : Nat → Bool) (s : State) : State :=
  foldS (fun e s => if p e.1 then seqEnd e.1 s else s) s.seqs s

/-! ### Late actions and the timeline queue (R77-R81) -/

/-- Whether an action with launch tick `x` that enters the queue at tick `e` is late: its lateness and the GAP flag (R80,
R77). -/
def lateness (e x : Tick) (g : Nat) (s : State) : Option (Nat × Bool) :=
  let q := seq g s
  let l1 := if notBefore x (plus e 4) then 0 else (plus e 4 - x).toNat
  let gap := !notBefore x q.start
  let l2 := if gap then (q.start - x).toNat else 0
  let same := (q.queue.filter (fun y => y.launch == x)).length
    + (s.down.filter (fun y => y.1 == g && y.2.launch == x)).length
  if l1 = 0 ∧ l2 = 0 then (if 8 ≤ same then some (1, false) else none) else some (max l1 l2, gap)

/-- The counts, the event and the record of a late action (R80, R81). -/
def lateReport (e : Tick) (l : Nat) (gap stall : Bool) (g : Nat) (s : State) : State :=
  let s := bump (oSeqLate g) 19 0 s
  let s := putF (oSeqLate g) 39 20 (min l 0xFFFFF) s
  let s := fireProd (640 * (g / 96) + g % 96) e (seq g s).depth s
  if (seq g s).lateSeen then s
  else
    modSeq g (fun q => { q with lateSeen := true }) s
      |> record (0x1000 + g) (if stall then 0x302 else 0x301) (b2n gap)
          (w (g * 2 ^ 30 + fld (seq g s).shot 15 0 * 2 ^ 14 + min l 0x3FFF))

/-- A timeline entry in its place: by launch tick, and in issue order among equal ones (R77). -/
def insertEntry (x : QEntry) : List QEntry → List QEntry
  | [] => [x]
  | y :: t => if notBefore x.launch y.launch then y :: insertEntry x t else x :: y :: t

/-- The latest end tick of the shot with one more action (R87). -/
def endsWith (f : Tick) (e : Option Tick) : Option Tick :=
  match e with
  | some x => some (later f x)
  | none => some f

/-- An entry joins the timeline queue. -/
def queueEntry (x : QEntry) (g : Nat) (s : State) : State :=
  modSeq g (fun q => { q with queue := insertEntry x q.queue, ends := endsWith x.fin q.ends }) s

/-- An action enters the queue at tick `e` (R80, R81): queued, skipped, or the sequencer stalls at it. -/
def enqueue (e : Tick) (x : QEntry) (g : Nat) (s : State) : State :=
  match lateness e x.launch g s with
  | none => queueEntry x g s
  | some (l, gap) =>
    if bF (oSeqCtl g) 15 s then
      lateReport e l gap true g (modSeq g (fun q => { q with st := .stalled, stalled := some x }) s)
    else lateReport e l gap false g s

/-! ### Waits (R82-R85, R116-R121, R218, R220) -/

/-- The latch of an event input. -/
def latchOf (i : Nat) (q : Seq) : EvLatch := if i = 0 then q.latch0 else q.latch1
/-- Sets the latch of an event input. -/
def setLatch (i : Nat) (l : EvLatch) (q : Seq) : Seq := if i = 0 then { q with latch0 := l } else { q with latch1 := l }

/-- An EVWAIT on input `i` completes by its event at tick `x` (R120, R314). -/
def evComplete (x : Tick) (i : Nat) (g : Nat) (s : State) : State :=
  let d := min 15 ((latchOf i (seq g s)).depth + 1)
  completeAt x 1 g (modSeq g (fun q => setLatch i {} { q with tO := false, depth := d }) s)

/-- An event reaches input EVIN[i] of sequencer `g` at tick `x` (R120, R313). -/
def evReach (x : Tick) (i depth : Nat) (g : Nat) (s : State) : State :=
  let l := latchOf i (seq g s)
  if !bF (oSeqEvsel g i) 0 s then s
  else if l.set then
    bump (oEvInCnt (2 * g + i)) 19 0
      (modSeq g (setLatch i { set := true, depth := max l.depth depth }) s)
  else
    let s := modSeq g (setLatch i { set := true, depth := depth }) s
    match (seq g s).wait with
    | .ev j dl => if j = i ∧ inTime x dl then evComplete x i g s else s
    | _ => s

/-! ### Boundaries, stops and resumes (R87-R91) -/

/-- A scheduled tick lies ahead. -/
def ahead (x : Option Tick) (s : State) : Bool :=
  match x with
  | some y => !due y s
  | none => false

/-- What holds a sequencer under the mode bits `v`, in the order 4, 2, 1; 0 where nothing does (R89). -/
def holdReasonOf (v : W40) (s : State) : Nat :=
  if throttled s then 4
  else if bR oModeStatus 8 s || s.time.req.isSome || ahead s.lbResume s || ahead s.time.resume s then 2
  else if s.life != .ready || !bit v 0 || bit v 5 || s.safePend.isSome then 1
  else 0

/-- What holds a sequencer at present. -/
def holdReason (s : State) : Nat := holdReasonOf (getR oMode s) s

/-- Cursor, horizon and start tick of the shot that follows (R87, R89, R91). -/
def nextShot (o : Tick) (g : Nat) (s : State) : State :=
  modSeq g (fun q => { q with cursor := o, hzn := o, start := o, ends := none, lateSeen := false }) s

/-- The next shot of `g` starts at tick `o` (R87, R89, R91). -/
def openShot (o : Tick) (g : Nat) (s : State) : State := defer o (.shotStart g) (nextShot o g s)

/-- The shot start tick of `g` comes (R120, R94, R314, R215). -/
def shotStarts (x : Tick) (g : Nat) (s : State) : State :=
  if (seq g s).start = x && inShot g s then
    paceRounds g x (modSeq g (fun q => { q with latch0 := {}, latch1 := {}, orphan := false, depth := 0 }) s)
  else s

/-- Sequencer `g` reaches the boundary of its shot (R48, R87-R89); a MODE write of that tick does not stop it there. -/
def boundary (b : Bound) (g : Nat) (s : State) : State :=
  let s := compareShot b.b g s
  let n := (seq g s).shot
  let nxt := plus b.b (max b.gap 8)
  let why := if b.halt then 0 else if (seq g s).stopReq then 3 else holdReasonOf (s.modeWas.getD (getR oMode s)) s
  let s := modSeq g (fun q => { q with
    shot := q.shot + 1, bound := none, issueAt := b.b, roomAt := none, stopReq := false,
    st := if b.halt then .done else if why = 0 then .running else .stopped,
    stopReason := why, resumeB := nxt,
    quietTo := if !b.halt && why == 0 && 2000 ≤ b.gap then some nxt else none,
    quietAt := if b.halt || why != 0 || 2000 ≤ b.gap then b.b else q.quietAt }) s
  let s := boundaryItems b.b n false g s
  if !b.halt && why == 0 then openShot nxt g s else quietCheck (nextShot nxt g s)

/-- A stopped sequencer resumes at tick `u` (R89). -/
def resumeSeq (u : Tick) (g : Nat) (s : State) : State :=
  let o := later (seq g s).resumeB (plus u 8)
  gleanLeave g (openShot o g
    (modSeq g (fun q => { q with st := .running, stopReason := 0, issueAt := u, quietTo := none }) s))

/-- STOP_REASON of the stopped sequencers shows the first condition that holds them, in the order 4, 2, 1 (R89).
[log: 128 DESIGN CHOICE] -/
def reasonsUpdate (s : State) : State :=
  foldS (fun e s =>
    if e.2.st == .stopped && e.2.stopReason != 3 && holdReason s != 0 then
      modSeq e.1 (fun q => { q with stopReason := holdReason s }) s
    else s) s.seqs s

/-- An armed sequencer starts at tick `a` (R91, R131). -/
def startArmed (a : Tick) (g : Nat) (s : State) : State :=
  let s := commitTone true g (if g % 96 < 64 then commitTone false g s else s)
  let s := demodNote g a s (setPrb g { prb g s with vz := 0 } s)
  let s := if g % 96 < 64 then setDrv g { drv g s with vz := 0 } s else s
  let s := modSeq g (fun q => { q with st := .running, pc := fF (oSeqCtl g) 12 0 s, issueAt := a, quietTo := none }) s
  gleanLeave g (openShot (plus a 8) g s)

end Sys2Proof.Machine
end

