-- ==== Sys2Proof/Machine/SeqCmds.lean ====
section
/-! DEFINITION. Sequencer events and commands: boundaries, starts and resumes, dispatch and the actions at the tile,
the commands of SEQ_CMD, and barrier notices and releases (R19, R76-R96, R100, R101, R111-R115). -/

namespace Sys2Proof.Machine

/-! ### Boundaries and starts -/

/-- SHOT_BOUNDARY: sequencer `g` reaches its boundary B (R48, R87). -/
def shotBoundaryRow (g : Nat) (s : State) : State :=
  let q := seq g s
  match q.bound with
  | some b => if g < nSeqs s && q.st == .running && due b.b s then boundary b g s else s
  | none => s

/-- ARMED_START: the first tick at which READY, SEQUENCE = 1 and HOLD = 0 hold for an armed sequencer (R91, R378, R452). -/
def armedStartRow (g : Nat) (s : State) : State :=
  if g < nSeqs s && (seq g s).st == .armed && s.life == .ready && mode 0 s && !mode 5 s && !throttled s
      && !ahead s.armAfter s && s.safePend.isNone then
    startArmed (now s) g s
  else s

/-- SEQUENCER_RESUME: nothing holds a stopped sequencer any longer (R89); reason 3 lifts by START alone. -/
def sequencerResumeRow (g : Nat) (s : State) : State :=
  if g < nSeqs s && (seq g s).st == .stopped && (seq g s).stopReason != 3 && holdReason s == 0 then
    resumeSeq (now s) g s
  else s

/-! ### Dispatch and actions at the tile -/

/-- TIMELINE_DISPATCH: the head entry leaves for the tile at its launch tick − 4 (R76); a full queue takes the next action
one tick later (R78), and a faulted sequencer with an empty queue has left its shot (R75). -/
def timelineDispatchRow (g : Nat) (s : State) : State :=
  let q := seq g s
  match q.queue with
  | [] => s
  | x :: t =>
    if g < nSeqs s && due (minus x.launch 4) s then
      let full := decide (64 ≤ q.queue.length)
      let s := { s with down := s.down ++ [(g, x)] }
      let s := modSeq g (fun q => { q with
        queue := t, roomAt := if full then some (minus x.launch 3) else q.roomAt }) s
      if q.st = .faulted ∧ t = [] then leaveShot (now s) g s else s
    else s

/-- The envelope under way of a tone or a flux channel. -/
inductive EnvPlace where
  | tone (probe : Bool)
  | flux
  deriving DecidableEq, Repr

/-- The envelope at a place of sequencer `g`. -/
def envAt (p : EnvPlace) (g : Nat) (s : State) : Option Env :=
  match p with
  | .tone b => (tone b g s).env
  | .flux => (flux g s).env

/-- Sets the envelope at a place of sequencer `g`; on a flux channel, its delay holds from now on, and it takes the set in force (R100,
R139). -/
def setEnvAt (p : EnvPlace) (g : Nat) (e : Env) (s : State) : State :=
  match p with
  | .tone b => setTone b g { tone b g s with env := some e } s
  | .flux => setFlux g { flux g s with env := some e, hold := none, delay := 16 * (e.o % 8) + e.u } s

/-- The output that carries a place. -/
def envOutput (p : EnvPlace) (g : Nat) : Nat :=
  match p with
  | .tone b => toneOut b g
  | .flux => 512 + g

/-- PLAY or PLAYF at its launch tick (R79, R96): the descriptor and the tone's settings in force are latched (R77), an earlier envelope still under way is
cut, and a wrong KIND emits zero with a record.
[log: 124 DEDUCED] -/
def playAct (p : EnvPlace) (o u wid : Nat) (x : Tick) (g : Nat) (s : State) : State :=
  let d := getF (oWaveDesc (g / 96) wid) s
  let need := match p with | .tone _ => 0 | .flux => 1
  let ok := fld d 39 38 == need
  let len := match p with | .tone _ => (fld d 19 2 + 1) / 2 | .flux => fld d 19 2
  let fin := plus x (if len = 0 then 0 else if o = 0 ∧ u = 0 then len else len + 1)
  let cut := match envAt p g s with | some e => !notBefore x e.fin | none => false
  let s := if cut then bump (oSeqCounts g) 39 20 s else s
  let set := match p with | .tone b => toneSet b g s | .flux => {}
  let s := setEnvAt p g { start := x, fin := fin, o := o, u := u, desc := d, kindOk := ok, set := set } s
  if ok then s else recordOwned (seqDom g s, seqSec g s) (0x3000 + envOutput p g) 0x306 0 0 s

/-- The settings of slot `g` at tick `x`: the registers in force, and the chain settings of ball tick `x` (R186, R190). -/
def slotSnap (g : Nat) (x : Tick) (s : State) : Tab W40 :=
  (slotRegs g).map (fun o => (o, if o = oSlotCfg g then (chainAt g x s).cfg else getF o s))

/-- A window of slot `g` is open at tick `x` (R190). -/
def windowOpen (x : Tick) (g : Nat) (s : State) : Bool :=
  (slot g s).wins.any (fun v => decide (0 < v.w) && notBefore x v.t && !notBefore x (plus v.t v.w))

/-- A window joins the slot, with the filter set of its last sample, which decides V (R182, R186, R196). -/
def addWindow (x : Tick) (n : Nat) (shot : W40) (g : Nat) (s : State) : State :=
  let k := if kpage g s then (slot g s).page1 else (slot g s).page0
  let v : Win := { t := x, w := n, shot := shot, snap := slotSnap g x s, kern := k, minPh := setAt g (plus x (n - 1)) s }
  setSlot g { slot g s with wins := (slot g s).wins ++ [v] } s

/-- ACQ at its launch tick (R79, R112, R180, R190): one that is both misaligned and launched inside an open window takes R180.
[log: 149 DESIGN CHOICE] -/
def acqAct (n : Nat) (shot : W40) (x : Tick) (g : Nat) (s : State) : State :=
  let d := chainD (chainAt g x s)
  if n = 0 then addWindow x 0 shot g s
  else if x.toNat % d ≠ 0 ∨ n % d ≠ 0 then
    let s := addWindow x 0 shot g s
    bump (oSlotCounts g) 19 0 s |> recordIf (fR (oSlotCounts g) 19 0 s = 0) (0x2000 + g) 0x503 0 0
  else if windowOpen x g s then
    bump (oSeqCounts g) 19 0 s |> record (0x1000 + g) 0x303 0 0
  else witWindow g x (addWindow x n shot g s)

/-- SETF at its launch tick (R113, R137): the bank is selected, and LD replaces its frequency in force. -/
def setfAct (probe : Bool) (bank : Nat) (f : Option W40) (g : Nat) (s : State) : State :=
  let s := match f with
    | some v => setTone probe g { tone probe g s with stale := true } (setF (oFreq probe g bank) v s)
    | none => s
  retrim probe g (setF (oCtl probe g) (setFld (getF (oCtl probe g) s) 22 20 bank) s)

/-- A BIAS or STROBE entry of sequencer `g` acts, at the end of its launch tick (R115, R151): BIAS writes the pending code; STROBE fires
the group of the sequencer's flux channel. -/
def biasAct (e : QEntry) (g : Nat) (s : State) : State :=
  match e.act with
  | .bias c => setR (oBiasCode g) (w c.toNat) s
  | .strobe => strobeGroup (g / 96) (memberOf g s) (seqDom g s) false e.launch s
  | _ => s

/-- The BIAS and STROBE entries of the tick that ends act, after its register writes (R151).
[log: 11 DESIGN CHOICE] -/
def biasActs (s : State) : State :=
  foldS (fun x s => biasAct x.2 x.1 s) s.fabric.acts { s with fabric := { s.fabric with acts := [] } }

/-- An action acts at its launch tick (R19, R111-R115). -/
def tileAct (e : QEntry) (g : Nat) (s : State) : State :=
  demodNote g e.launch s <| match e.act with
  | .play p o u wid => playAct (.tone p) o u wid e.launch g s
  | .playf o u wid => playAct .flux o u wid e.launch g s
  | .acq n shot => acqAct n shot e.launch g s
  | .setf p b f => setfAct p b f g s
  | .setp p v => setTone p g { tone p g s with vz := v } s
  | .vz p v => setTone p g { tone p g s with vz := (tone p g s).vz + v } s
  | .seta p v => setF (oCtl p g) (setFld (getF (oCtl p g) s) 19 0 v.toNat) s
  | .bias _ | .strobe => { s with fabric := { s.fabric with acts := s.fabric.acts ++ [(g, e)] } }

/-- The first dispatched action of sequencer `g`, and the others. -/
def takeDown (g : Nat) : List (Nat × QEntry) → Option (QEntry × List (Nat × QEntry))
  | [] => none
  | (h, e) :: t =>
    if h = g then some (e, t)
    else match takeDown g t with
      | some (x, r) => some (x, (h, e) :: r)
      | none => none

/-- TILE_ACTION: a dispatched action of sequencer `g` executes at its launch tick; on an unpowered tile nothing acts. -/
def tileActionRow (g : Nat) (s : State) : State :=
  match takeDown g s.down with
  | some (e, r) =>
    if g < nSeqs s && due e.launch s then
      let s := { s with down := r }
      if tilePowered (g / 96) s then tileAct e g s else s
    else s
  | none => s

/-! ### SEQ_CMD (Table 4.4) -/

/-- A routine with opcode `op` and TARGET `t` runs or is parked. -/
def routineRuns (op t : Nat) (s : State) : Bool :=
  let p := fun (r : Routine) => isOpen op r && r.target == t
  (match s.ce.cur with | some r => p r | none => false) || s.ce.parked.any (fun e => p e.2)

/-- The condition flags cleared (R119). -/
def noFlags (q : Seq) : Seq := { q with z := false, lt := false, ltu := false, later := false, tO := false }

/-- START (R90, R118, R119, R299): the code of the refusal where it is ignored. -/
def seqStart (g : Nat) (s : State) : State × Option Nat :=
  let q := seq g s
  let fresh := q.st == .idle || q.st == .done || (q.st == .faulted && q.queue.isEmpty)
  let held := q.st == .stopped && q.stopReason == 3
  if !fresh && !held then (s, some 2)
  else if routineRuns 0x301 g s then (s, some 1)
  else if fresh && q.unbHeld && q.unbDev != devNum s then (s, some 4)
  else if fresh then
    (modSeq g (fun q => { q with
      st := .armed, stopReason := 0, loops := [], calls := [], shot := 0, z := false, lt := false, ltu := false,
      later := false, tO := false, stopReq := false }) s, none)
  else if holdReason s = 0 then (resumeSeq (now s) g (modSeq g noFlags s), none)
  else (modSeq g (fun q => { noFlags q with stopReason := holdReason s }) s, none)

/-- STOP (R90). -/
def seqStop (g : Nat) (s : State) : State × Option Nat :=
  match (seq g s).st with
  | .armed => (modSeq g (fun q => { q with st := .idle }) s, none)
  | .running | .waiting => (modSeq g (fun q => { q with stopReq := true }) s, none)
  | _ => (s, some 2)

/-- RESUME_SKIP: the late action is dropped (R81).
[log: 129 DESIGN CHOICE] -/
def seqSkip (g : Nat) (s : State) : State × Option Nat :=
  if (seq g s).st = .stalled then
    (modSeq g (fun q => { q with st := .running, stalled := none, issueAt := later (plus (now s) 1) q.issueAt }) s, none)
  else (s, some 2)

/-- RESUME_RETIME: the late action launches at E′ + 4, and the cursor moves with it (R81); it enters the queue at E′, where a
ninth entry of one launch tick, or one before the start tick of its shot, is late again (R77, R80).
[log: 129 DESIGN CHOICE] -/
def seqRetime (g : Nat) (s : State) : State × Option Nat :=
  match (seq g s).st, (seq g s).stalled with
  | .stalled, some x =>
    let t := plus (now s) 4
    let d := t - x.launch
    let s := modSeq g (fun q => { q with
      st := .running, stalled := none, cursor := q.cursor + d, issueAt := later (plus (now s) 1) q.issueAt }) s
    (enqueue (now s) { x with launch := t, fin := x.fin + d } g s, none)
  | _, _ => (s, some 2)

/-- A command of SEQ_CMD acts on sequencer `g` (Table 4.4); the refusal of one that does not. -/
def seqCommand (cmd g : Nat) (s : State) : State × Option Nat :=
  match cmd with
  | 1 => seqStart g s
  | 2 => seqStop g s
  | 3 => (seqEnd g s, none)
  | 4 => seqSkip g s
  | 5 => seqRetime g s
  | _ => (s, some 4)

/-- SEQ_CMD as a write: the effect, or the record of the refusal.
[log: 110 DEDUCED] -/
def seqCmdWrite (cmd g : Nat) (s : State) : State :=
  let quietBefore := !inShot g s
  match seqCommand cmd g s with
  | (s', none) => if cmd == 1 && quietBefore && inShot g s' then gleanLeave g s' else s'
  | (s', some c) => record (0x1000 + g) c 0 0 s'

/-! ### Barriers -/

/-- BARRIER_NOTICE: a completion notice reaches this device (R92); while ISOLATED is set, one of a device outside FROZEN is held back and
counted (R337). -/
def barrierNoticeRow (b dev : Nat) (ad : Tick) (s : State) : State :=
  if b < 256 && federated s then
    if dev != devNum s && bR oFedStatus 1 s && !bR oFedReach (16 + dev) s then bump oFedCounts 39 20 s
    else barNotice (now s) b dev ad s
  else s

/-- A member leaves the barrier at R (R82, R94). -/
def barMember (r : Tick) (b : Nat) (failed : Bool) (g : Nat) (s : State) : State :=
  if (seq g s).wait = .sync b then
    completeAt r 1 g (if failed then modSeq g (fun q => { q with orphan := true }) s else s)
  else s

/-- The arrivals at a barrier of LOCAL_COUNT 0 without other devices, and those that have failed at their arrival, leave it at their own
release ticks (R94).
[log: 98 DEDUCED] -/
def soloRelease (b : Nat) (s : State) : State :=
  let q := barrier b s
  foldS (fun m s => barMember m.2.1 b m.2.2 m.1 s) (q.solo.filter (fun m => due m.2.1 s))
    (setBarrier b { q with solo := q.solo.filter (fun m => !due m.2.1 s) } s)

/-- The members of the present use are released at R, and the next use begins (R92). -/
def useRelease (b : Nat) (s : State) : State :=
  let q := barrier b s
  match q.release with
  | some r =>
    if due r s then
      let s := foldS (barMember r b q.failed) q.now s
      let k := if barCount b s = 0 then q.next.length else barCount b s
      let now' := q.next.take k
      let s := setBarrier b
        { now := now', next := q.next.drop k, notices := q.nextNotices, lastRel := some (r, s.time.epoch), solo := q.solo } s
      if barRemote b s && !now'.isEmpty && (!federated s || barLost b s) then barFail (plus r 1) b s
      else if barCount b s = 0 then
        (match q.nextFirst with
        | some ad => barLocal (plus r 1) ad b s
        | none => s)
      else if barCount b s ≤ now'.length then barLocal (plus r 1) (plus r 1) b s
      else barCheck (plus r 1) b s
    else s
  | none => s

/-- BARRIER_RELEASE: the members are released at R (R92, R94). -/
def barrierReleaseRow (b : Nat) (s : State) : State := if b < 256 then useRelease b (soloRelease b s) else s

/-! ### The rows -/

/-- SHOT_BOUNDARY. -/
def execShotBoundary (g : Nat) (s : State) : Host.Outcome State Fault Refusal := .next (shotBoundaryRow g s)
/-- ARMED_START. -/
def execArmedStart (g : Nat) (s : State) : Host.Outcome State Fault Refusal := .next (armedStartRow g s)
/-- SEQUENCER_RESUME. -/
def execSequencerResume (g : Nat) (s : State) : Host.Outcome State Fault Refusal := .next (sequencerResumeRow g s)
/-- TIMELINE_DISPATCH. -/
def execTimelineDispatch (g : Nat) (s : State) : Host.Outcome State Fault Refusal := .next (timelineDispatchRow g s)
/-- TILE_ACTION. -/
def execTileAction (g : Nat) (s : State) : Host.Outcome State Fault Refusal := .next (tileActionRow g s)
/-- BARRIER_NOTICE. -/
def execBarrierNotice (b dev : Nat) (ad : Tick) (s : State) : Host.Outcome State Fault Refusal :=
  .next (barrierNoticeRow b dev ad s)
/-- BARRIER_RELEASE. -/
def execBarrierRelease (b : Nat) (s : State) : Host.Outcome State Fault Refusal := .next (barrierReleaseRow b s)

end Sys2Proof.Machine
end

