-- ==== Sys2Proof/Machine/LifeOps.lean ====
section
/-! DEFINITION. Lifecycle and modes: FATAL records and HALTED, STOPPING, entry to READY, MODE writes, federation start and
stop, and the loopback relays (R28-R37, R42, R92-R94, R301, R335, R443, R449, R452). -/

namespace Sys2Proof.Machine

/-- ALERT_N is driven low (R377). -/
def alert (s : State) : Bool :=
  fR oThermStatus 3 1 s != 0 || s.life == .stopping || s.life == .halted || !s.therm.railBad.isEmpty

/-! ### Temperature readings (R375) -/

/-- The tracking reading of a sensor, in 1/256 °C.
[log: 29 DESIGN CHOICE] -/
def readingOf (u : Nat) (s : State) : Int := (tget {} u s.therm.sensors).reading

/-- Of a list of sensors, the first that holds the highest reading, with that reading. -/
def highest (s : State) : List Nat → Nat × Int
  | [] => (0, 0)
  | [u] => (u, readingOf u s)
  | u :: v :: t =>
    let h := highest s (v :: t)
    if h.2 ≤ readingOf u s then (u, readingOf u s) else h

/-! ### The engine and the cores on a handler that does not return (R301, R244) -/

/-- A micro-trap of a priority pends (R300).
[log: 79 DEDUCED, 93 DEDUCED, 113 DEDUCED] -/
def raiseTrap (p : Nat) (s : State) : State := { s with ce := { s.ce with traps := insNat p s.ce.traps } }

/-- A micro-trap of a priority pends. -/
def trapPends (p : Nat) (s : State) : Bool := s.ce.traps.contains p

/-- The handler of a pending trap is there to take it: of the shutdown in SAFE and READY, of the throttle in a powered device, of an urgent
request while the monitor ADC runs.
[log: 76 DEDUCED] -/
def trapLive (p : Nat) (s : State) : Bool :=
  match p with
  | 2 => s.life == .safe || s.life == .ready
  | 3 => powered s
  | 5 => s.life != .off && s.life != .staging
  | _ => true

/-- The engine can take a pending trap of priority `p` (R300): none of higher priority pends, and a handler that returns finds the engine
at level 0, or at level 1 in a handler of lower priority. After a handler that does not return only the FATAL one is taken (R301). -/
def trapFree (p : Nat) (s : State) : Bool :=
  (p == 1 || !s.ce.hOnly) && s.ce.traps.all (fun q => decide (p ≤ q) || !trapLive q s)
    && (decide (p ≤ 2) || (match s.ce.handlers with | [] => true | [h] => decide (p < h.1) | _ => false))

/-- The longest time of a handler that returns, in ns (Table 14.5).
[log: 161 DESIGN CHOICE] -/
def handlerLimit (p : Nat) : Nat := match p with | 5 => 1000 | 6 => 5000 | _ => 2000

/-- The engine takes the micro-trap of a priority (R300, CE_TRAP). A handler that returns runs for an open time within Table 14.5, by which
what it interrupts is late (R296); one that does not return discards what it interrupts (R301).
[log: 79 DEDUCED, 113 DEDUCED, 161 DESIGN CHOICE] -/
def takeTrap (p : Nat) (s : State) : State :=
  let s := bump oCeTrap 39 20 { s with ce := { s.ce with traps := s.ce.traps.filter (fun q => q != p) } }
  if p ≤ 2 then { s with ce := { s.ce with handlers := [], flrRun := [] } }
  else
    let d := 1 + (Config.freeWord s.free).toNat % handlerLimit p
    takeFree { s with ce := { s.ce with
      handlers := (p, plus (now s) d) :: s.ce.handlers.map (fun h => (h.1, plus h.2 d))
      cur := s.ce.cur.map (fun r => if r.ended.isNone then { r with inHandlers := r.inHandlers + d } else r) } }

/-- Every running and parked routine ends with ABORTED, and from now on only packets for STOPPING and HALTED run (R301). -/
def ceAbortAll (s : State) : State :=
  let s := abortRoutines (fun _ => true) s
  { s with ce := { s.ce with hOnly := true } }

/-- Every core enters IDLE (R244, R449). -/
def coresIdle (s : State) : State :=
  foldS (fun e s => setCore e.1 { core e.1 s with st := .idle, waitDl := none } s) s.cores s

/-- The readout side processes nothing from the entry to HALTED on: no window posts, and the verdicts whose posting tick
does not lie before the entry, which have not yet left the device, do not stand, nor do their records (R449). -/
def readoutStops (s : State) : State :=
  let s := foldS (fun e s => setSlot e.1 { slot e.1 s with wins := [] } s) s.slots s
  { s with
    bus := s.bus.filter (fun p => p.remote || !notBefore p.at_ (now s))
    gran := { s.gran with made := s.gran.made.filter (fun r => !notBefore r.at_ (now s)) } }

/-- Whether REF_IN is valid where the root PLL is not locked to it: before lock, one value that REF_PRESENT and PLL_NO_LOCK share (R52,
R53).
[log: 122 DESIGN CHOICE] -/
def refFree (s : State) : Bool := Config.refIn (fR oClkStatus 15 8 s) (fullTime s)

/-- A pending time step is dropped (R451). -/
def dropStep (s : State) : State :=
  putB oTimeStatus 7 false { s with time := { s.time with req := none, resume := none } }

/-- What HALTED and STOPPING have in common on entry (R390, R449, R451, R452): every sequencer takes the forced stop, the
cores go IDLE, witness engines stop, a pending step and LOOPBACK change go, the relays return, and bias goes to rest.
[log: 117 DEDUCED] -/
def stopAll (l : Life) (s : State) : State :=
  let fed := federated s
  let s := witStopAll false s
  let s := lifeTo l { s with safePend := none }
  let s := if fed then fedLeave s else s
  let s := forcedStop (fun _ => true) (dropStep s)
  let s := gleanAbandonIf (fun _ _ => true) (coresIdle s)
  fsetAll (allRest true (now s) (relaysBack s))

/-- Entry to HALTED (R28, R443, R449). HALT_CODE takes the code of the first FATAL record, the lowest of one tick. -/
def enterHalted (code : Nat) (s : State) : State :=
  let s := match s.haltAt with
    | none => putF oLifecycle 39 24 code { s with haltAt := some (now s, code) }
    | some (t, c) =>
      if t = now s ∧ code < c then putF oLifecycle 39 24 code { s with haltAt := some (t, code) } else s
  if s.life = .halted ∨ s.life = .off then s
  else readoutStops (stopAll .halted s)

/-- A FATAL record: the device enters HALTED and the priority-1 micro-trap pends (R28, R300, R440). -/
def fatal (src code detail : Nat) (w3 : W40) (s : State) : State :=
  enterHalted code (raiseTrap 1 (record src code detail w3 s))

/-- Entry to STOPPING (R380, R449). -/
def enterStopping (s : State) : State := stopAll .stopping s

/-! ### Federation in force (R334-R336) -/

/-- FEDERATED takes effect with a configuration loaded (R68, R335). -/
def fedStart (s : State) : State :=
  if devNum s = fR oFedStatus 35 32 s then
    s |> putB oTimeStatus 6 true |> putB oTimeStatus 5 true |> putF oTimeStatus 2 0 1 |> putF oTimeStatus 19 16 15
      |> putF oTimeStatus 15 12 0
  else
    let s := { s with time := { s.time with acquiring := true, stepAcq := false }, fed := { s.fed with depthBad := false } }
    s |> putB oTimeStatus 6 false |> putB oTimeStatus 5 false |> putF oTimeStatus 2 0 2
      |> putF oTimeStatus 19 16 (fld (nth 0 s.fed.words 0) 31 28)

/-- FEDERATED takes effect where a configuration is loaded; otherwise the bit returns to 0 with a record (R34). -/
def fedTake (s : State) : State :=
  if bR oFedStatus 0 s then fedStart s
  else record 0x700F 0x103 0 0 (putB oMode 4 false s)

/-- FEDERATED is cleared (R335, R94). -/
def fedStop (s : State) : State :=
  barFailAll (now s) (fun _ => true) (fedLeave (acquireStop s))

/-! ### MODE (R33-R38) -/

/-- Sequencer `g` sees a MODE write from `old` (R35): inside a shot it keeps what it has adopted until its boundary. -/
def seqModeChange (g : Nat) (old : Bool × Bool × Bool) (s : State) : State :=
  let q := seq g s
  let eff := if q.modePend then (q.effSeq, q.effPair, q.effHold) else old
  if insideShot q then
    setSeq g { q with modePend := eff != seqBits (getR oMode s), effSeq := eff.1, effPair := eff.2.1, effHold := eff.2.2 } s
  else setSeq g { q with modePend := false } s

/-- A LOOPBACK change is made pending, or a pending one is cancelled (R36). -/
def loopbackChange (s : State) : State :=
  let want := mode 2 s
  match s.lbReq with
  | some _ =>
    if want = relays s then putB oModeStatus 8 false { s with lbReq := none, lbWaited := false } else s
  | none =>
    if want = relays s then s
    else putB oModeStatus 8 true { s with lbReq := some (now s, want), lbWaited := false }

/-- PAIRED ceases: ROLE reads 0 and comparison stops (MODE, R40). -/
def pairedCheck (was : Bool) (s : State) : State :=
  if was && !mode 3 s then cmpHalt s else s

/-- MODE takes the value `v` in READY (R33-R38). -/
def modeInReady (v : W40) (s : State) : State :=
  let old := getR oMode s
  let s := putF oMode 5 0 (fld v 5 0) { s with modeWas := some (s.modeWas.getD old) }
  let s := if bit v 4 && !bit old 4 then fedTake s else if !bit v 4 && bit old 4 then fedStop s else s
  let s := foldS (fun e s => seqModeChange e.1 (seqBits old) s) s.seqs s
  let s := pairedCheck (bit old 3) s
  let s := if bit v 1 && !bit old 1 then witArmAll (now s) s else if !bit v 1 && bit old 1 then witStopAll false s else s
  let s := loopbackChange s
  let s := if bit old 5 && !bit v 5 then biasFollow (now s) s else s
  reasonsUpdate (fsetAll s)

/-- A write of MODE by domain 0 in SAFE or READY (R33). -/
def modeWrite (v : W40) (s : State) : State :=
  if s.life = .ready then modeInReady v s else putF oMode 5 0 (fld v 5 0) s

/-! ### The loopback relays (R36, R144, R452) -/

/-- The relays of all tiles switch at the present tick L; LB_CTL acts at the switch (R144), and bias goes to or from rest (R161), but holds
its present value while HOLD is in force (R39).
[log: 106 DESIGN CHOICE, 135 DEDUCED] -/
def relaySwitch (lb : Bool) (s : State) : State :=
  let s := putB oModeStatus 7 lb (putB oModeStatus 8 false { s with lbReq := none, lbWaited := false })
  let s := commitRegs ((upTo (nTiles s)).map oLbCtl) s
  let s := record 0 0x104 0 0 s
  let s := if modeOn 5 s then s else biasFollow (now s) s
  let s := foldS (fun g s => noteTrn g 1 (now s) s) (upTo (nSeqs s)) s
  fsetAll (itemsOff (fun i => i.kind == 1) { s with lbResume := some (plus (now s) 2000) })

/-- No time step stands in the way of a relay switch: none is pending, and the first tick after the last one has come (R61). -/
def pastStep (s : State) : Bool :=
  s.time.req.isNone && (match s.time.resume with | some x => due (minus x 9999) s | none => true)

/-- The twin has no sequencer inside a shot, where the change is joined: PAIRED, with the pair port up (R46).
[log: 106 DESIGN CHOICE] -/
def twinReady (s : State) : Bool := !(paired s && portUp (pairPort s) s) || Config.twinQuiet (fullTime s)

/-- LOOPBACK_SWITCH: no sequencer is inside a shot, and no time step stands in the way (R36, R46, R61).
[log: 106 DESIGN CHOICE] -/
def loopbackSwitchRow (s : State) : State :=
  match s.lbReq with
  | some (_, lb) => if s.life == .ready && quiet s && twinReady s && pastStep s then relaySwitch lb s else s
  | none => s

/-- LOOPBACK_WAIT: a change still pending after 1 ms writes its record once (R36). -/
def loopbackWaitRow (s : State) : State :=
  match s.lbReq with
  | some (t, _) =>
    if !s.lbWaited && due (plus t 1000000) s then record 0 0x105 0 0 { s with lbWaited := true } else s
  | none => s

/-- LOOPBACK_RESUME: the relays have settled at L + 2,000 (R36). -/
def loopbackResumeRow (s : State) : State :=
  if dueO s.lbResume s then reasonsUpdate { s with lbResume := none } else s

/-! ### Entry to READY (R29, R452) -/

/-- The device enters READY: MODE takes effect at once in every unit. -/
def enterReady (s : State) : State :=
  let s := lifeTo .ready s
  let s := if mode 4 s then fedTake s else s
  let s := if mode 3 s then cmpHalt s else s
  let s := if mode 2 s then
      let s := relaySwitch true s
      { s with armAfter := s.lbResume }
    else s
  reasonsUpdate (fsetAll (witArmAll (now s) s))

/-- DEV_ENTER_SAFE reaches its 100 ms limit: the sequencers still inside a shot take the forced stop, and the command
completes with FORCED and their numbers (R30). -/
def enterSafeForced (s : State) : State :=
  let gs := (s.seqs.filter (fun e => insideShot e.2)).map (fun e => e.1)
  let s := foldS (fun g s => seqEnd g s) gs { s with safePend := none }
  let ws := (upTo ((gs.length + 3) / 4)).map (fun i =>
    w ((upTo 4).foldl (fun a j => a * 1024 + nth 0 gs (4 * i + j)) 0))
  endRoutine 0x003 7 (w gs.length :: ws) (enterSafe s)

/-! ### Mode messages of the twin (R42) -/

/-- The MODE bits of the twin arrive over the pair port. -/
def pairModeRow (bits : Nat) (s : State) : State :=
  if paired s && portUp (pairPort s) s then
    let s := { s with pair := { s.pair with twinMode := bits % 64 } }
    if !bitsAgree s && !bR oModeStatus 9 s then
      cmpHalt (record (0x7000 + pairPort s) 0x70D 0 0 (putB oModeStatus 9 true s))
    else s
  else s

end Sys2Proof.Machine
end

