-- ==== Sys2Proof/Machine/AdcFam.lean ====
section
/-! DEFINITION. Readout ADCs: self-calibration, the fixed spare, background rotation, power and settling, over-range
(R165-R172). ADC `a` is 8t + f. -/

namespace Sys2Proof.Machine

/-- EXCLUDE of ADC `a`. -/
def adcExclude (a : Nat) (s : State) : Nat := fR (oAdcCtl a) 7 2 s

/-- The slices of ADC `a` that are FAILED. -/
def failedSlices (a : Nat) (s : State) : List Nat := (upTo 33).filter (fun j => bR (oAdcSlice a j) 39 s)

/-- The fixed spare of ADC `a`; 63 for none (R168, R171). -/
def fixedSpare (a : Nat) (s : State) : Nat :=
  if adcExclude a s ≠ 63 then adcExclude a s
  else match failedSlices a s with
    | [j] => j
    | _ => 63

/-- EXCL_EFF and SPARE of ADC `a` follow the fixed spare, or the rotation (R169, R171). -/
def spareUpdate (a : Nat) (s : State) : State :=
  let x := fixedSpare a s
  s |> putF (oAdcStatus a) 33 28 x |> putF (oAdcStatus a) 39 34 (if x = 63 then (adc a s).rot else x)

/-- The position that the sample of ball tick `x`, offset `o`, is taken at: the sample index modulo 32. -/
def positionOf (x : Tick) (o : Nat) : Nat := (16 * x.toNat + o) % 32

/-- The physical slice of ADC `a` that serves position `j` (R169, R171): slice (r + 1 + j) mod 33; with a fixed spare, the others in
ascending order. -/
def sliceOf (a j : Nat) (s : State) : Nat :=
  let x := fR (oAdcStatus a) 33 28 s
  if x = 63 then ((adc a s).rot + 1 + j) % 33 else if j < x then j else j + 1

/-- Self-calibration of tile `t` begins at tick `x` (R167): 24 ms on its eight ADCs, CAL_BUSY. -/
def calBegin (x : Tick) (t : Nat) (s : State) : State :=
  foldS (fun f s =>
    putB (oAdcStatus (8 * t + f)) 1 true
      (setAdc (8 * t + f) { adc (8 * t + f) s with cal := some (plus x 24000000) } s)) (upTo 8) s

/-- A correction lies outside the range of its field (R168, ADC_SLICE): offset s12, skew s10, gain u16. -/
def sliceFails (r : SliceCal) : Bool :=
  satI 12 r.offset != r.offset || satI 10 r.skew != r.skew || clampI 0 65535 r.gain != r.gain

/-- The result of one slice; what the fields of a FAILED one hold is open (R168).
[log: 150 DESIGN CHOICE] -/
def sliceResult (t : Nat) (r : SliceCal) (s : State) : State :=
  let o := oAdcSlice (8 * t + r.f) r.j
  if sliceFails r then takeFree (setR o (w (2 ^ 39 + (Config.freeWord s.free).toNat % 2 ^ 38)) s)
  else setR o (w (unsx 12 r.offset * 2 ^ 26 + unsx 10 r.skew * 2 ^ 16 + r.gain.toNat)) s

/-- SNDR and MISMATCH of ADC `a` are estimated anew; the specification does not give the estimates (Table 20.4). -/
def adcFigures (hi : Nat) (a : Nat) (s : State) : State :=
  takeFree (putF (oAdcQf a) hi 0 (Config.freeWord s.free).toNat s)

/-- The end of self-calibration on ADC `a` of feedline `f` (R168). -/
def calEnd (f a : Nat) (s : State) : State :=
  let fs := failedSlices a s
  let deg := match fs with
    | [] => false
    | [j] => adcExclude a s != 63 && adcExclude a s != j
    | _ => true
  let s := setAdc a { adc a s with cal := none, rotFrom := some (now s), whole := false } s
  let s := if fixedSpare a s = 63 then s else adcFigures 9 a s
  let s := s |> putB (oAdcStatus a) 1 false |> putF (oAdcStatus a) 27 22 fs.length |> putB (oAdcStatus a) 3 deg
  recordIf (!fs.isEmpty) (0x4000 + a) 0x501 (f * 2 ^ 6 + fs.length) 0 (spareUpdate a s)

/-- ADC_SELF_CAL_DONE: the 24 ms of tile `t` are over. Slices not listed keep their corrections; every DRIFT and FAILED is
set anew (R168, R170). -/
def selfCalDoneRow (t : Nat) (res : List SliceCal) (s : State) : State :=
  if t < nTiles s && dueO (adc (8 * t) s).cal s then
    let s := foldS (fun f s => foldS (fun j s => putF (oAdcSlice (8 * t + f) j) 39 38 0 s) (upTo 33) s) (upTo 8) s
    let s := foldS (sliceResult t) (res.filter (fun r => r.f < 8 && r.j < 33)) s
    let s := foldS (fun f s => calEnd f (8 * t + f) s) (upTo 8) s
    endRoutineAt 0x201 t 0 ((upTo 8).map (fun f => getR (oAdcStatus (8 * t + f)) s)) s
  else s

/-- A correction has moved by more than 1/8 LSB in offset, 2^-13 in gain or 0.5 ps in skew (R170). -/
def drifted (old : W40) (r : SliceBack) : Bool :=
  decide (2 < (r.offset.toInt - sx 12 (fld old 37 26)).natAbs) || decide (4 < (r.skew.toInt - sx 10 (fld old 25 16)).natAbs)
    || decide (4 < ((r.gain.toNat : Int) - fld old 15 0).natAbs)

/-- A slice comes back from background calibration with the corrections it found (R170).
[log: 28 DEDUCED] -/
def sliceBack (t : Nat) (r : SliceBack) (s : State) : State :=
  let a := 8 * t + r.f
  let first := !(upTo 33).any (fun j => bR (oAdcSlice a j) 38 s)
  let old := getR (oAdcSlice a r.j) s
  let moved := drifted old r
  let s := setR (oAdcSlice a r.j)
    (w (b2n (bit old 39) * 2 ^ 39 + b2n (bit old 38 || moved) * 2 ^ 38
      + r.offset.toNat * 2 ^ 26 + r.skew.toNat * 2 ^ 16 + r.gain.toNat)) s
  recordIf (moved && first) (0x4000 + a) 0x502 0 0 s

/-- r of R169. -/
def rotIndex (t : Nat) (s : State) : Nat := (fullTime64 s >>> fR (oAdcRotCtl t) 4 0 s) % 33
where
  /-- FULLTIME as a number. -/
  fullTime64 (s : State) : Nat := s.time.epoch.toNat * 2 ^ 40 + s.time.tick.toNat

/-- ADC `a` has taken a rotation step to `r` from `old`: where r has wrapped to 0, a full cycle of 33 steps has ended if the ADC has rotated
since the wrap before, and its figures are estimated anew (R169, Table 20.4). -/
def cycleFigures (a old r : Nat) (s : State) : State :=
  if fixedSpare a s ≠ 63 then setAdc a { adc a s with whole := false } s
  else if r < old then
    let s := if (adc a s).whole then adcFigures 19 a s else s
    setAdc a { adc a s with whole := (adc a s).whole || r == 0 } s
  else s

/-- The tick of the rotation step that brings tile `t` to its present r (R169): the change of FULLTIME >> P, or the later tick from which the
tile rotates with these settings. -/
def rotTick (t : Nat) (s : State) : Tick :=
  let x := minus (now s) (rotIndex.fullTime64 s % 2 ^ fR (oAdcRotCtl t) 4 0 s)
  match (adc (8 * t) s).rotFrom with
  | some y => later x y
  | none => x

/-- The slice that comes back is the one that was the spare, of an ADC that rotates (R169). -/
def mayReturn (t : Nat) (s : State) (r : SliceBack) : Bool :=
  decide (r.f < 8) && r.j == (adc (8 * t + r.f) s).rot && fixedSpare (8 * t + r.f) s == 63

/-- ADC_ROTATION_STEP: r of tile `t` has changed; the log and the event take the tick of the step (R169). -/
def rotationRow (t : Nat) (back : List SliceBack) (s : State) : State :=
  if t < nTiles s && tilePowered t s && s.time.counting && bR (oAdcRotCtl t) 5 s && (adc (8 * t) s).cal.isNone
      && rotIndex t s != (adc (8 * t) s).rot then
    let r := rotIndex t s
    let old := (adc (8 * t) s).rot
    let x := rotTick t s
    let back := back.filter (mayReturn t s)
    let s := foldS (fun f s => spareUpdate (8 * t + f) (setAdc (8 * t + f) { adc (8 * t + f) s with rot := r } s)) (upTo 8) s
    let s := setR (oAdcRotLog t) x s
    let s := foldS (fun f s => cycleFigures (8 * t + f) old r s) (upTo 8) (fireProd (640 * t + 632) x 0 s)
    foldS (sliceBack t) (back.filter (fun b => b.j < 33)) s
  else s

/-- ADC_CTL of ADC `a` takes a value that its checks have let pass (R171, R172). -/
def adcCtlSet (a : Nat) (v : W40) (s : State) : State :=
  let was := bR (oAdcCtl a) 0 s
  let s := spareUpdate a (setR (oAdcCtl a) (w (v.toNat &&& 0xFD)) s)
  if bit v 0 && !was then
    s |> setAdc a { adc a s with settle := some (plus (now s) 100000) } |> putB (oAdcStatus a) 2 true
      |> putB (oAdcStatus a) 0 (tilePowered (a / 8) s)
  else if !bit v 0 && was then
    s |> setAdc a { adc a s with settle := none } |> putB (oAdcStatus a) 2 false |> putB (oAdcStatus a) 0 false
  else s

/-- ADC_SETTLED: 100 µs after power-up (R172). -/
def adcSettledRow (t f : Nat) (s : State) : State :=
  let a := 8 * t + f
  if t < nTiles s && f < 8 && dueO (adc a s).settle s then
    putB (oAdcStatus a) 2 false (setAdc a { adc a s with settle := none } s)
  else s

/-- ADC_OVERRANGE: the 16 inputs of a tick in µV. A tick that holds an over-range sample counts once, every saturated sample counts
(R166). -/
def overrangeRow (t f : Nat) (uv : List Int) (s : State) : State :=
  let a := 8 * t + f
  if t < nTiles s && f < 8 && bR (oAdcStatus a) 0 s then
    let ovr := (uv.take 16).any adcOver
    let first := fR (oAdcCounts a) 39 20 s == 0
    let s := bumpBy (oAdcCounts a) 19 0 ((uv.take 16).filter adcSat).length s
    if ovr then recordIf first (0x4000 + a) 0x500 0 0 (bump (oAdcCounts a) 39 20 s) else s
  else s

/-- ADC_SELF_CAL_DONE. -/
def execAdcSelfCalDone (t : Nat) (res : List SliceCal) (s : State) : Host.Outcome State Fault Refusal :=
  .next (selfCalDoneRow t res s)
/-- ADC_ROTATION_STEP. -/
def execAdcRotationStep (t : Nat) (back : List SliceBack) (s : State) : Host.Outcome State Fault Refusal :=
  .next (rotationRow t back s)
/-- ADC_SETTLED. -/
def execAdcSettled (t f : Nat) (s : State) : Host.Outcome State Fault Refusal := .next (adcSettledRow t f s)
/-- ADC_OVERRANGE. -/
def execAdcOverrange (t f : Nat) (uv : List Int) (s : State) : Host.Outcome State Fault Refusal := .next (overrangeRow t f uv s)

end Sys2Proof.Machine
end

