-- ==== Sys2Proof/Machine/BiasFam.lean ====
section
/-! DEFINITION. Bias outputs in time: slew steps, dwell ends, the current limit and the 1 ms load measurement
(R155-R164, R394, R453). -/

namespace Sys2Proof.Machine

/-- The stage of channel `g` leaves its ball at 100 kΩ (DISCONNECTED, R41, R160, R161): not connected, on an unpowered tile, or on the echo
side, which in a handover each output leaves or joins as it switches. -/
def biasDisconnected (g : Nat) (s : State) : Bool :=
  !(biasC g s).connected || !tilePowered (g / 96) s || (isEcho s != (outp (512 + g) s).switched)

/-- The output moves (SLEWING). -/
def slewing (b : Bias) : Bool := b.phase != .idle

/-- One step of R155 at tick `x` towards `goal` with the pair (STEP, INTERVAL): the code after it and the next step's tick. -/
def biasMove (x : Tick) (goal : Int) (sl : Nat × Nat) (b : Bias) : Bias :=
  { b with out := stepTo sl.1 goal b.out, nextAt := some (plus x (stepTicks sl.2)) }

/-- A step that may end the movement. -/
def biasMoveEnd (x : Tick) (sl : Nat × Nat) (b : Bias) : Bias :=
  let b := biasMove x b.aim sl b
  if b.out = b.aim then { b with phase := .idle, nextAt := none } else b

/-- BIAS_SLEW_STEP of channel `g`: the step that its schedule holds next (R155-R158). -/
def biasSlewStepRow (g : Nat) (s : State) : State :=
  let b := biasC g s
  match b.nextAt with
  | some x =>
    if b.connected && due x s then
      match b.phase with
      | .slew | .final => setBias g (biasMoveEnd x (slewSet g s) b) s
      | .toZero =>
        let b := biasMove x 0 (slewSet g s) b
        setBias g (if b.out = 0 then { b with phase := .dwellA (plus x 20000), nextAt := none } else b) s
      | _ => s
    else s
  | none => s

/-- The span of channel `g` switches (R158 step 3): INL clears, FACTORY_INL is that of the new span (BIAS_QF). -/
def spanSwitch (g : Nat) (s : State) : State :=
  putF (oBiasQf g) 35 20 (Config.factoryFigure (1000 + 4 * g + (biasC g s).span)).toNat (putF (oBiasQf g) 15 0 0 s)

/-- SPAN_DWELL_END of channel `g` (R158 steps 3 to 5). -/
def spanDwellEndRow (g : Nat) (s : State) : State :=
  let b := biasC g s
  match b.phase with
  | .dwellA x =>
    if b.connected && due x s then
      spanSwitch g (setBias g { b with span := b.aimSpan, phase := .dwellB (plus x 20000), nextAt := none } s)
    else s
  | .dwellB x =>
    if b.connected && due x s then
      (if b.aim = 0 then setBias g { b with phase := .idle, nextAt := none } s
      else setBias g (biasMoveEnd x (slewSet g s) { b with phase := .final }) s)
    else s
  | _ => s

/-- BIAS_ILIMIT: the stage of channel `g` enters current limit (R162). -/
def biasIlimitRow (g : Nat) (s : State) : State :=
  if g < nSeqs s && !biasDisconnected g s then
    recordIf (!bR (oBiasStatus g) 13 s) (0x3200 + g) 0x403 0 0 (putB (oBiasStatus g) 13 true s)
  else s

/-- Ten times V_S of a span (Table 7.1). -/
def spanTenths (k : Nat) : Nat := nth 50 [5, 10, 25, 50] k

/-- |V| of the output is at least 100 mV. -/
def above100mV (b : Bias) : Bool := decide (2 ^ 19 ≤ b.out.natAbs * spanTenths b.span)

/-- A check that stands after 16 consecutive measurements sets its flag, with a record at the setting. -/
def checkFlag (cnt g bitNo code : Nat) (s : State) : State :=
  if 16 ≤ cnt && !bR (oBiasStatus g) bitNo s then record (0x3200 + g) code 0 0 (putB (oBiasStatus g) bitNo true s) else s

/-- The check of R163 is suspended: below 100 mV, while the output moves, and while the stage is disconnected. -/
def openSuspended (g : Nat) (s : State) : Bool :=
  !above100mV (biasC g s) || slewing (biasC g s) || biasDisconnected g s

/-- The count of OPEN after a measurement (R163): held while the check is suspended.
[log: 39 DEDUCED] -/
def openCount (g : Nat) (iload : Int) (s : State) : Nat :=
  let b := biasC g s
  let lm := fR (oBiasCheck g) 15 0 s
  if lm = 0 then 0
  else if openSuspended g s then b.openCnt
  else if iload.natAbs < 10 * lm then min 16 (b.openCnt + 1) else 0

/-- The count of RETURN_FAULT after a measurement (R164): the difference exceeds 1 mA, in units of 0.1 µA.
[log: 39 DEDUCED] -/
def returnCount (g : Nat) (diff : Int) (s : State) : Nat :=
  if !bR (oBiasCheck g) 16 s then 0
  else if 10000 < diff.natAbs then min 16 ((biasC g s).retCnt + 1) else 0

/-- The tick ends: how long each output has held its code, up to 1 ms (R394). -/
def biasHeld (s : State) : State :=
  { s with bias := s.bias.map (fun e =>
    (e.1, { e.2 with seen := e.2.out, held := if e.2.out = e.2.seen then min 1000000 (e.2.held + 1) else 0 })) }

/-- BIAS_LOAD_MEASURE of channel `g`: the load current and the current difference of its return in 0.1 µA, and the error of the output in LSB,
which INL takes to a resolution of 4 LSB where the code has been held for 1 ms (R162-R164, R394).
[log: 41 DESIGN CHOICE] -/
def biasLoadMeasureRow (g : Nat) (iload diff : Int) (inl : Nat) (s : State) : State :=
  if g < nSeqs s && (biasC g s).connected then
    let oc := openCount g iload s
    let rc := returnCount g diff s
    let held := !slewing (biasC g s) && decide (1000000 ≤ (biasC g s).held)
    let s := setBias g { biasC g s with openCnt := oc, retCnt := rc } s
    let s := putF (oBiasLoad g) 39 20 (unsx 20 (satI 20 iload)) s
    let s := if held then putF (oBiasQf g) 15 0 (min 65535 (max (fR (oBiasQf g) 15 0 s) (inl / 4 * 4))) s else s
    checkFlag rc g 11 0x405 (if openSuspended g s then s else checkFlag oc g 12 0x404 s)
  else s

/-- BIAS_SLEW_STEP. -/
def execBiasSlewStep (c : Nat) (s : State) : Host.Outcome State Fault Refusal := .next (biasSlewStepRow c s)
/-- SPAN_DWELL_END. -/
def execSpanDwellEnd (c : Nat) (s : State) : Host.Outcome State Fault Refusal := .next (spanDwellEndRow c s)
/-- BIAS_ILIMIT. -/
def execBiasIlimit (c : Nat) (s : State) : Host.Outcome State Fault Refusal := .next (biasIlimitRow c s)
/-- BIAS_LOAD_MEASURE. -/
def execBiasLoadMeasure (c : Nat) (iload diff : Int) (inl : Nat) (s : State) : Host.Outcome State Fault Refusal :=
  .next (biasLoadMeasureRow c iload diff inl s)

end Sys2Proof.Machine
end

