-- ==== Sys2Proof/Machine/BindFam.lean ====
section
/-! DEFINITION. The verdict bus and the Binder: arrivals, round openings by BND_ARM, deadlines and commits
(R209-R224). -/

namespace Sys2Proof.Machine

/-- The verdict at place `i` leaves the list of those on their way; one of this device that has not yet gone to the peers and the twin
goes as its tick ends (R211). -/
def busTake (i : Nat) (p : Posted) (s : State) : State :=
  { s with bus := if p.remote || p.sent then s.bus.eraseIdx i else s.bus.set i { p with taken := true } }

/-- VERDICT_BUS_ARRIVAL: the posted verdict at place `i` reaches the bus; earlier ones go first. -/
def busArrivalRow (i : Nat) (s : State) : State :=
  match s.bus[i]? with
  | some p =>
    if !p.taken && due p.at_ s && s.bus.all (fun q => q.taken || notBefore q.at_ p.at_) then
      busArrival p.at_ p.word p.ref (busTake i p s)
    else s
  | none => s

/-- PACE_SRC in force of set `j`. -/
def paceSrc (j : Nat) (s : State) : Nat := fF (oBndSetCfg j) 19 18 s

/-- A write to BND_ARM opens a round on set `j` where its PACE_SRC is 1 (R215). -/
def armSet (j : Nat) (s : State) : State :=
  if binderRuns s && paceSrc j s == 1 then brTryAll (now s) (roundOpen (now s) j s) else s

/-- BND_ARM takes the value `v`. -/
def bndArm (v : W40) (s : State) : State :=
  if bit v 8 then foldS armSet (upTo 256) s else armSet (fld v 7 0) s

/-- Set `j` sees GO: it adopts at once without an open round, else at its next opening (R223). -/
def goSet (j : Nat) (s : State) : State :=
  if (pset j s).st = .opn then setPset j { pset j s with pend := true } s else setAdopt j s

/-- A write of 1 to GO in BND_COMMIT reaches the Binder (R223): with COMMIT_PENDING set already, units that have adopted adopt again, and
every decoder exchanges its pages once more.
[log: 154 DESIGN CHOICE] -/
def bndGo (s : State) : State :=
  let x := now s
  let was := bR oBndStatus 0 s
  let decs := completeDecs s
  let s := putB oBndStatus 0 true
    (if was then s else { s with binder := { s.binder with goAt := some x, waited := false } })
  let s := foldS goSet (upTo 256) s
  let s := foldS (fun e s => setDecoder e { decoder e s with pend := true } s) (upTo 8) s
  brTryAll x (bndSettle (decAdoptReady x decs s))

/-- BND_SET_STAT: a write of 1s that clears MISSING lets BINDER_ABSENT be written again (R217). -/
def setStatSet (j : Nat) (v : W40) (s : State) : State :=
  if fld v 15 9 = 0 then s else setPset j { pset j s with absentSeen := false } s

/-- BINDER_DEADLINE: HB + DL comes on an open set; it acts as the tick ends (R216). -/
def binderDeadlineRow (j : Nat) (s : State) : State :=
  let q := pset j s
  let x := plus q.hb (fF (oBndSetCfg j) 39 24 s)
  if j < 256 && binderRuns s && q.st == .opn && bF (oBndSetCfg j) 23 s && due x s then
    bndTake (.deadline x j) s
  else s

/-- BINDER_COMMIT_WAIT: a commit still pending after 1 ms (R223). -/
def commitWaitRow (s : State) : State :=
  match s.binder.goAt with
  | some x =>
    if bR oBndStatus 0 s && !s.binder.waited && due (plus x 1000000) s then
      record 0xA800 0x508 0 0 { s with binder := { s.binder with waited := true } }
    else s
  | none => s

/-- VERDICT_BUS_ARRIVAL. -/
def execVerdictBusArrival (i : Nat) (s : State) : Host.Outcome State Fault Refusal := .next (clocked (busArrivalRow i) s)
/-- BINDER_DEADLINE. -/
def execBinderDeadline (j : Nat) (s : State) : Host.Outcome State Fault Refusal := .next (clocked (binderDeadlineRow j) s)
/-- BINDER_COMMIT_WAIT. -/
def execBinderCommitWait (s : State) : Host.Outcome State Fault Refusal := .next (clocked commitWaitRow s)

end Sys2Proof.Machine
end

