-- ==== Sys2Proof/Machine/LogOps.lean ====
section
/-! DEFINITION. Delivery of error records to the early log and the event log rings (R283, R409, R441, R442). -/

namespace Sys2Proof.Machine

/-- The four words of a record (Table 24.1); `cut` zeroes the detail field and word 3 (R409). -/
def recWords (cut : Bool) (r : Rec) : List W40 :=
  [r.tick, w (r.epoch.toNat * 2 ^ 16 + r.source.toNat),
   w (r.code.toNat * 2 ^ 24 + r.sev.toNat * 2 ^ 20 + (if cut then 0 else r.detail.toNat)), if cut then 0 else r.word3]

/-- Records are lost for domain `d` (R283). -/
def logLost (d n : Nat) (s : State) : State := bumpBy (oGrEvlog d) 39 24 n s

/-- A slot of `n` records goes to ring `r` of the log of domain `d`; no RING_FULL or RING_DISABLED record (R283). -/
def logSlot (d r n : Nat) (sl : List W40) (s : State) : State :=
  let x := ring r s
  if x.type ≠ 4 ∨ x.owner ≠ d ∨ x.length = 0 ∨ freeSlots x = 0 ∨ x.eccStop then logLost d n s
  else ringAppend r [sl] s

/-- The half-filled slot of the log of domain `d`. -/
def logHalf (d : Nat) (s : State) : Option Half := tget? d s.log.half

/-- Sets or clears the half-filled slot of a log. -/
def setLogHalf (d : Nat) (h : Option Half) (s : State) : State :=
  { s with log := { s.log with half := match h with | some x => tput d x s.log.half | none => tdel d s.log.half } }

/-- Writes the half-filled slot of domain `d` alone (R441). -/
def logFlush (d : Nat) (s : State) : State :=
  match logHalf d s with
  | some h => logSlot d h.ring 1 (h.words ++ [0, 0, 0, 0]) (setLogHalf d none s)
  | none => s

/-- A record arrives at the log of domain `d`: two to a slot (R441). -/
def logPut (d : Nat) (r : Rec) (s : State) : State :=
  if !bR (oGrEvlog d) 20 s then logLost d 1 s
  else
    let ws := recWords (d == 0 && r.secure && !r.doms.isEmpty) r
    let n := fR (oGrEvlog d) 19 0 s
    match logHalf d s with
    | some h =>
      if h.ring = n then logSlot d n 2 (h.words ++ ws) (setLogHalf d none s)
      else setLogHalf d (some ⟨ws, plus (now s) 1000, n⟩) (logFlush d s)
    | none => setLogHalf d (some ⟨ws, plus (now s) 1000, n⟩) s

/-- A record goes to the log of domain 0 and to those of its owners (R283). -/
def deliver (r : Rec) (s : State) : State := foldS (fun d s => logPut d r s) r.doms (logPut 0 r s)

/-- A record leaves the tick: to the early log while it is on, and lost past 256; else to the rings (R442). -/
def logRecord (r : Rec) (s : State) : State :=
  if s.log.earlyOn then
    if s.log.early.length < 256 then { s with log := { s.log with early := s.log.early ++ [r] } } else logLost 0 1 s
  else deliver r s

/-- EN of GR_EVLOG[0] is first set: the early log is delivered (R442). -/
def earlyEnd (s : State) : State :=
  if s.log.earlyOn then
    let rs := s.log.early
    foldS deliver rs { s with log := { s.log with early := [], earlyOn := false } }
  else s

/-- A record stands before another: the lower tick, and within it the lower place (R441). -/
def recBefore (a b : Rec) : Bool :=
  if a.tick = b.tick then decide (a.key < b.key) else !notBefore a.tick b.tick

/-- Inserts a record behind those that do not stand after it. -/
def insRec (r : Rec) : List Rec → List Rec
  | [] => [r]
  | a :: t => if recBefore r a then r :: a :: t else a :: insRec r t

/-- Records in their order of delivery. -/
def sortRecs (rs : List Rec) : List Rec := rs.foldl (fun a r => insRec r a) []

/-- The records of the tick that ends leave it (R441). -/
def logTick (s : State) : State :=
  foldS logRecord (sortRecs s.log.pool) { s with log := { s.log with pool := [] } }

end Sys2Proof.Machine
end

