-- ==== Sys2Proof/Machine/GranOps.lean ====
section
/-! DEFINITION. Granary accesses through BAR2, ring indices and descriptors, memory regions, the host drain and MSI-X
masks (R264-R283, R406, R407, R415, R416). -/

namespace Sys2Proof.Machine

/-! ### Descriptors (R271) -/

/-- The twelve words of a descriptor (Table 13.1). -/
def descrWords (r : Ring) : List W40 :=
  [w r.base, w r.length, r.tail, r.head,
   w (r.type * 2 ^ 37 + r.owner * 2 ^ 33 + b2n r.secure * 2 ^ 32 + b2n r.wmArmed * 2 ^ 31 + r.vector * 2 ^ 20 + b2n r.forced),
   w r.watermark, r.w6, w (fld r.w7 23 0), w (fld r.w8 19 0 + b2n r.drained * 2 ^ 20),
   w (r.fullDrops * 2 ^ 20 + r.disDrops), r.lastDrop, 0]

/-- The words of a descriptor as bytes, five each (R8). -/
def wordBytes (ws : List W40) : List Byte := ws.flatMap (fun v => toLe 5 v.toNat)

/-- Domain `m` reads the descriptor of a ring: its owner, or domain 0 unless it is secure (R269, R406). -/
def mayReadRing (m : Nat) (r : Ring) : Bool := mayAct m r.owner r.secure

/-- A byte of the descriptor table as domain `m` reads it (R269, R271). -/
def tableByte (m a : Nat) (s : State) : Byte :=
  let r := ring (a / 64) s
  if mayReadRing m r then nth 0 (wordBytes (descrWords r)) (a % 64) else 0

/-! ### BAR2 (R265, R267, R269, R407) -/

/-- A byte that leaves SECURE under a region change that waits for its zeroing (R407). -/
def scrubbing (a : Nat) (s : State) : Bool :=
  match s.gran.scrub with
  | some (r, v) =>
    let o := byteOwner a s
    o.2 && decide (0x04000000 ≤ a) && byteOwner a (setR (oGrRegion r) v s) != o
  | none => false

/-- Domain `m` may reach a byte of memory outside the descriptor table (R269, R406). -/
def mayReach (m : Nat) (rd : Bool) (o : Nat × Bool) : Bool := o.1 == m || (m == 0 && rd && !o.2)

/-- Whether the access to [a, a + n) meets memory that `m` may not reach. -/
def refusedAt (m : Nat) (rd : Bool) (a n : Nat) (s : State) : Bool :=
  let lo := max a 0x04000000
  let hi := min (a + n) (memEnd s)
  lo < hi && !blocksAll (mayReach m rd) lo (hi - lo) s

/-- A byte that a BAR2 read of `m` returns, where the access is not refused.
[log: 102 DESIGN CHOICE] -/
def readByte (m a : Nat) (s : State) : Byte :=
  if memEnd s ≤ a then 0
  else if a < 0x04000000 then tableByte m a s
  else if scrubbing a s then 0
  else if !bR oGrStatus 2 s || fR oPowerStatus 29 28 s == 0 then Config.memByte s.free a
  else rdByte s.gran.mem a

/-- The bytes that a BAR2 read of `m` returns. -/
def readRange (m : Nat) (s : State) : Nat → Nat → List Byte
  | _, 0 => []
  | a, n + 1 => readByte m a s :: readRange m s (a + 1) n

/-- What the code finds on a BAR2 read (R267): an error in the descriptor table stops the producers of its ring. -/
def readEcc (e : Ecc) (a : Nat) (s : State) : State :=
  if a < 0x04000000 then
    let s := eccCount e a (some (a / 64)) s
    if eccBad e then setRing (a / 64) { ring (a / 64) s with eccStop := true } s else s
  else eccCount e a none s

/-- BAR2_READ: function `m` reads `n` bytes at `a`; `e` is what the code finds.
[log: 42 DEDUCED] -/
def bar2Read (m a n : Nat) (e : Ecc) (s : State) : State :=
  let s := { s with host := { s.host with readOut := 0, readBytes := [], poisoned := false } }
  if !powered s || !fnExists m s then s
  else if refusedAt m true a n s then
    record (0xE000 + m) 3 0 0 { s with host := { s.host with readBytes := List.replicate n 0 } }
  else
    let bs := readRange m s a n
    let s := { s with host := { s.host with readBytes := bs } }
    if memEnd s ≤ a then s
    else readEcc e a { s with host := { s.host with poisoned := eccBad e } }

/-- Writes bytes through BAR2, but for those that are being zeroed or lie beyond the end. -/
def writeRange (s : State) : Nat → List Byte → List Host.Cell → List Host.Cell
  | _, [], m => m
  | a, b :: bs, m =>
    writeRange s (a + 1) bs (if memEnd s ≤ a || scrubbing a s then m else wrByte m a b)

/-- BAR2_WRITE: function `m` writes bytes at `a`.
[log: 42 DEDUCED] -/
def bar2Write (m a : Nat) (bs : List Byte) (s : State) : State :=
  if !powered s || !fnExists m s || bs.isEmpty then s
  else if a < 0x04000000 ∨ refusedAt m false a bs.length s then record (0xE000 + m) 3 0 0 s
  else
    let s' := setMem (writeRange s a bs s.gran.mem) s
    if memEnd s < a + bs.length then
      recordIf (!s.gran.unmapped) 0x8000 0x600 0 0 { s' with gran := { s'.gran with unmapped := true } }
    else s'

/-! ### Indices (R275, R276, R285) -/

/-- Why RING_HEAD_ADV by `m` on ring `n` is refused: the code (R275). -/
def headAdvRefusal (m n c : Nat) (s : State) : Option Nat :=
  let r := ring n s
  if !mayAct m r.owner r.secure then some 3
  else if c = 0 then none
  else if r.type = 0 ∨ r.type = 5 ∨ r.type = 7 ∨ (r.drained ∧ r.type ≠ 6) ∨ level r < c then some 0x604
  else none

/-- HEAD of ring `n` advances by `c`.
[log: 43 DEDUCED] -/
def headAdv (n c : Nat) (s : State) : State :=
  if c = 0 then s else watermark n (setRing n { ring n s with head := plus (ring n s).head c } s)

/-- RING_HEAD_ADV written with `v` by domain `m`. -/
def ringHeadAdv (m : Nat) (v : W40) (s : State) : State :=
  let n := fld v 39 20
  match headAdvRefusal m n (fld v 19 0) s with
  | some c => ringRecord n c s
  | none => headAdv n (fld v 19 0) s

/-- CMD_DOORBELL written with `v` by domain `m` (R275, R285): a ring that becomes non-empty joins the back of the list.
[log: 43 DEDUCED] -/
def doorbell (m : Nat) (v : W40) (s : State) : State :=
  let n := fld v 39 20
  let c := fld v 19 0
  let r := ring n s
  if !mayAct m r.owner r.secure then ringRecord n 3 s
  else if c = 0 then s
  else if r.type ≠ 0 ∨ freeSlots r < c then ringRecord n 0x604 s
  else
    let s := watermark n (setRing n { r with tail := plus r.tail c } s)
    if level r = 0 ∧ !s.ce.list.contains n then { s with ce := { s.ce with list := s.ce.list ++ [n] } } else s

/-! ### Regions (R268, R405, R407) -/

/-- A ring that has a body in Granary memory. -/
def hasBody (r : Ring) : Bool := r.length != 0 && r.type != 5 && r.type != 6

/-- The owner or the secure attribute of a byte of ring `r`'s body differs between two states. -/
def bodyMoves (r : Ring) (s s' : State) : Bool :=
  hasBody r && !((upTo ((r.base + 40 * r.length - 1) / 0x100000 - r.base / 0x100000 + 1)).all (fun k =>
    let a := max r.base ((r.base / 0x100000 + k) * 0x100000)
    byteOwner a s == byteOwner a s'))

/-- Why a write of `v` to GR_REGION[r] is refused (R268, R405, R407). -/
def regionRefusal (r : Nat) (v : W40) (s : State) : Option Nat :=
  if bit v 6 && !bR oSecDomains (fld v 3 0) s then some 3
  else if s.gran.scrub.isSome || s.gran.rings.any (fun e => bodyMoves e.2 s (setR (oGrRegion r) v s)) then some 1
  else none

/-- The MiB blocks under the enabled secure regions. -/
def secureBlocks (s : State) : List Nat :=
  (upTo 64).flatMap (fun k =>
    let v := getR (oGrRegion k) s
    if bit v 6 && bit v 7 then (upTo (fld v 23 8)).map (fun i => fld v 39 24 + i) else [])

/-- Some byte leaves SECURE 1 when GR_REGION[r] takes `v` (R407). Regions are whole MiB. -/
def leavesSecure (r : Nat) (v : W40) (s : State) : Bool :=
  (secureBlocks s).any (fun k =>
    (byteOwner (k * 0x100000) s).2 && byteOwner (k * 0x100000) (setR (oGrRegion r) v s) != byteOwner (k * 0x100000) s)

/-- GR_REGION[r] takes `v`: at once, or once the bytes that leave SECURE 1 are zeroed. -/
def regionSet (r : Nat) (v : W40) (s : State) : State :=
  if leavesSecure r v s then
    putB oSecStatus 33 true { s with gran := { s.gran with scrub := some (r, v) } }
  else setR (oGrRegion r) v s

/-- SCRUB_DONE: the bytes that leave SECURE 1 are zero, and the region change takes effect (R407). -/
def scrubDoneRow (s : State) : State :=
  match s.gran.scrub with
  | some (r, v) =>
    let m := s.gran.mem.filter (fun c => !scrubbing c.1 s)
    let s := { s with gran := { s.gran with mem := m, scrub := none } }
    setR (oGrRegion r) v (putB oSecStatus 33 false s)
  | none => s

/-! ### The drain (R279, R280) -/

/-- SRC_RING of a HOST or MIRROR ring. -/
def srcRing (r : Ring) : Nat := fld r.w8 19 0

/-- The host address of a HOST ring. -/
def hostAddr (r : Ring) : Nat := fld r.w7 23 0 * 2 ^ 40 + r.w6.toNat

/-- The owner's function may master the bus (R280). -/
def mayMaster (m : Nat) (s : State) : Bool := fnExists m s && s.host.busMaster.contains m

/-- HOST or MIRROR ring `h` reads its source: DRAINED is set there for it (R279, R280). -/
def readsSource (h : Nat) (s : State) : Bool :=
  let g := ring (srcRing (ring h s)) s
  (ring h s).length != 0 && g.drained && g.drainer == h

/-- HOST ring `h` has a slot to copy and room for it. -/
def drainReady (h : Nat) (s : State) : Bool :=
  let r := ring h s
  let g := ring (srcRing r) s
  r.type == 6 && readsSource h s && g.length != 0 && level g != 0 && freeSlots r != 0

/-- DRAIN_STALL: a drain's function has Bus Master Enable clear, or the drain stopped on an error (R267, R280).
[log: 47 DEDUCED] -/
def drainStall (s : State) : Bool :=
  s.gran.rings.any (fun e => e.2.type == 6 && readsSource e.1 s && (e.2.eccStop || !mayMaster e.2.owner s))

/-- DRAIN_COPY of HOST ring `h`: one slot goes to host memory, then both indices, then TAIL of `h` in host memory. -/
def drainCopyRow (h : Nat) (e : Ecc) (s : State) : State :=
  let r := ring h s
  let g := srcRing r
  let x := ring g s
  if drainReady h s && !r.eccStop && mayMaster r.owner s then
    let a := slotAddr x x.head
    let hm := wrBytes s.gran.hostMem (hostAddr r + 40 * (r.tail.toNat % r.length)) (rdBytes s.gran.mem a 40)
    let tail := plus r.tail 1
    let hm := wrBytes hm (hostAddr r + 40 * r.length) (toLe 8 tail.toNat)
    let s := { s with gran := { s.gran with hostMem := hm } }
    let s := watermark g (setRing g { x with head := plus x.head 1 } s)
    let s := watermark h (setRing h { r with tail := tail, eccStop := eccBad e } s)
    eccCount e a (some g) s
  else s

/-! ### MSI-X (R416) -/

/-- The pending message of entry `v` of function `m` goes out where no mask holds it. -/
def msixRelease (m v : Nat) (s : State) : State :=
  let k := 2048 * m + v
  if s.host.pba.contains k && s.host.msixOn.contains m && !s.host.fmask.contains m && s.host.unmasked.contains k then
    { s with host := { s.host with pba := s.host.pba.filter (fun j => j != k), sent := s.host.sent ++ [(m, v)] } }
  else s

/-- MSIX_UNMASK: the Mask bit of entry `v` of function `m` clears. -/
def msixUnmaskRow (m v : Nat) (s : State) : State :=
  if powered s && fnExists m s then
    msixRelease m v { s with host := { s.host with unmasked := insNat (2048 * m + v) s.host.unmasked } }
  else s

/-- Every pending message of function `m` that no mask holds goes out. -/
def msixReleaseAll (m : Nat) (s : State) : State :=
  foldS (fun k s => if k / 2048 = m then msixRelease m (k % 2048) s else s) s.host.pba s

/-- EVLOG_FLUSH: the half-filled slot of the log of domain `d` is written alone 1 µs after its record (R441). -/
def evlogFlushRow (d : Nat) (s : State) : State :=
  match logHalf d s with
  | some h => if due h.flushAt s then logFlush d s else s
  | none => s

/-- BAR2_READ. -/
def execBar2Read (m a n : Nat) (e : Ecc) (s : State) : Host.Outcome State Fault Refusal := .next (bar2Read m a n e s)
/-- BAR2_WRITE. -/
def execBar2Write (m a : Nat) (bs : List Byte) (s : State) : Host.Outcome State Fault Refusal := .next (bar2Write m a bs s)
/-- SCRUB_DONE. -/
def execScrubDone (s : State) : Host.Outcome State Fault Refusal := .next (scrubDoneRow s)
/-- DRAIN_COPY. -/
def execDrainCopy (h : Nat) (e : Ecc) (s : State) : Host.Outcome State Fault Refusal := .next (drainCopyRow h e s)
/-- MSIX_UNMASK. -/
def execMsixUnmask (m v : Nat) (s : State) : Host.Outcome State Fault Refusal := .next (msixUnmaskRow m v s)
/-- EVLOG_FLUSH. -/
def execEvlogFlush (d : Nat) (s : State) : Host.Outcome State Fault Refusal := .next (evlogFlushRow d s)

end Sys2Proof.Machine
end

