-- ==== Sys2Proof/Machine/SecOps.lean ====
section
/-! DEFINITION. NVM, signed images and their checks, the Loft, and what survives an entry to STAGING
(R28, R303, R304, R395-R400). -/

namespace Sys2Proof.Machine

/-! ### Signed images (Table 21.2) -/

/-- Where an image's bytes stand: a memory and the address of byte 0. -/
structure ImageAt where
  mem : List Host.Cell
  base : Nat

/-- `n` bytes of an image from offset `o`. -/
def imgBytes (x : ImageAt) (o n : Nat) : List Byte := rdBytes x.mem (x.base + o) n
/-- The number at offset `o`, `n` bytes, least significant first. -/
def imgNat (x : ImageAt) (o n : Nat) : Nat := leNat (imgBytes x o n)
/-- VERSION. -/
def imgVersion (x : ImageAt) : Nat := imgNat x 6 1
/-- SLOT. -/
def imgSlot (x : ImageAt) : Nat := imgNat x 7 1
/-- S, where the keys begin. -/
def imgS (x : ImageAt) : Nat := 32 + imgNat x 12 4 + imgNat x 16 4 + imgNat x 20 4
/-- The length of an image. -/
def imgLength (x : ImageAt) : Nat := imgS x + 5421
/-- The two public keys. -/
def imgKeys (x : ImageAt) : List Byte := imgBytes x (imgS x) 1984
/-- D as the image carries it. -/
def imgDigest (x : ImageAt) : BitVec 512 := BitVec.ofNat 512 (imgNat x (imgS x + 1984) 64)
/-- Both signatures over D verify, each with its own key (R395). -/
def imgSigned (x : ImageAt) : Bool :=
  Config.verifiesEd25519 (imgDigest x) (imgBytes x (imgS x) 32) (imgBytes x (imgS x + 2048) 64)
    && Config.verifiesMlDsa65 (imgDigest x) (imgBytes x (imgS x + 32) 1952) (imgBytes x (imgS x + 2112) 3309)

/-- The bit of the part mask that names this part. -/
def partBit (s : State) : Nat := match s.fuses.part with | .q512 => 0 | .q256 => 1

/-- Check 1 of Table 21.3: magic, format and lengths.
[log: 53 DEDUCED] -/
def imgForm (x : ImageAt) : Bool :=
  imgBytes x 0 5 == [0x42, 0x51, 0x46, 0x57, 1] && decide (imgLength x ≤ 0x800000)
    && (imgNat x 20 4 == 0 || imgNat x 20 4 == 32896)

/-- The checks of Table 21.3 in order: the number of the first that fails, none for a valid image. `kind` is 0 for
firmware, 1 for a Loft; a Loft has the version of the running firmware.
[log: 53 DEDUCED] -/
def imgCheck (kind : Nat) (x : ImageAt) (s : State) : Option Nat :=
  let c := s.sec.rollback
  if !imgForm x then some 1
  else if imgNat x 5 1 ≠ kind then some 2
  else if !(imgNat x 8 4).testBit (partBit s) then some 3
  else if 4 ≤ imgSlot x ∨ Config.sha512 (imgKeys x) ≠ Config.keySlot (imgSlot x) then some 4
  else if 16 * imgSlot x + 15 < c then some 5
  else if (if kind = 0 then decide (imgVersion x < c) else imgVersion x != fR oSecStatus 24 19 s) then some 6
  else if Config.sha512 (imgBytes x 0 (imgS x + 1984)) ≠ imgDigest x then some 7
  else if !imgSigned x then some 8
  else none

/-- Firmware copy `n` in NVM (Table 21.1): 0 A, 1 B. -/
def nvmCopy (n : Nat) (s : State) : ImageAt := ⟨s.sec.nvm, 0x800000 * n⟩

/-! ### The Loft (R303, R304) -/

/-- The offset of the Loft section of an image. -/
def loftOffset (x : ImageAt) : Nat := 32 + imgNat x 12 4 + imgNat x 16 4

/-- Match entry `i` of a Loft section. -/
def loftEntry (x : ImageAt) (i : Nat) : W40 := w (imgNat x (loftOffset x + 32768 + 4 * i) 4 % 2 ^ 28)

/-- Two enabled match entries name one ROM address.
[log: 20 DEDUCED] -/
def loftClash (x : ImageAt) : Bool :=
  let as := ((upTo 32).map (loftEntry x)).filter (fun v => bit v 27) |>.map (fun v => fld v 15 0)
  decide (as.dedup.length ≠ as.length)

/-- The Loft section of an image comes into force: the words, the match registers, LOADED and LOCKED.
[log: 20 DEDUCED] -/
def loftApply (x : ImageAt) (s : State) : State :=
  let ws := foldS (fun i t => tset 0 i (BitVec.ofNat 128 (imgNat x (loftOffset x + 16 * i) 16)) t) (upTo 2048) []
  let n := ((upTo 32).filter (fun i => bit (loftEntry x i) 27)).length
  let s := { s with ce := { s.ce with loft := ws }, sec := { s.sec with loftDigest := imgDigest x } }
  let s := foldS (fun i s => setR (oLoftMatch i) (loftEntry x i) s) (upTo 32) s
  setR oLoftStatus (w (imgVersion x * 2 ^ 24 + n * 2 ^ 5 + 6)) s

/-! ### Identity (DEV_ID, DEV_SERIAL, DEV_CAPS) -/

/-- The four identity words that DEV_INFO returns and the identity registers hold. -/
def identWord (i : Nat) (s : State) : W40 :=
  let code := match s.fuses.part with | .q512 => 0x0512 | .q256 => 0x0256
  match i with
  | 0 => w (code * 2 ^ 24 + s.fuses.stepping * 2 ^ 20 + code)
  | 1 => w s.fuses.serial.toNat
  | 2 => w (s.fuses.serial.toNat / 2 ^ 40)
  | _ => w (s.fuses.romVer.toNat * 2 ^ 32 + nTiles s * 2 ^ 28 + nStacks s * 2 ^ 26 + nPorts s * 2 ^ 23)

/-! ### NVM -/

/-- The identity bundle (Table 21.4), which its region of the NVM holds: 1 MiB (Table 21.1).
[log: 54 DEDUCED] -/
def identityBundle (s : State) : List Byte :=
  let a := (Config.certificate false).take 523276
  let b := (Config.certificate true).take 523276
  let code := match s.fuses.part with | .q512 => 0x0512 | .q256 => 0x0256
  toLe 4 1 ++ toLe 4 (2024 + a.length + b.length) ++ toLe 16 s.fuses.serial.toNat ++ toLe 7 code ++ toLe 1 s.fuses.stepping
    ++ (upTo 1984).map Config.identityKey ++ toLe 4 a.length ++ a ++ toLe 4 b.length ++ b

/-- What the device keeps in the NVM region from 0x110_0000 on, as a list of numbers (Table 21.1): boot selector, rest codes, rest slews,
linearisation sets, life ledger, write journal, and the trim sets that fail. -/
def regionContents (s : State) : List Int :=
  let tab := fun (t : Tab W40) => (t.length : Int) :: t.flatMap (fun e => [(e.1 : Int), (e.2.toNat : Int)])
  (s.sec.selector : Int) :: tab s.sec.restNvm ++ tab s.sec.slewNvm
    ++ (s.lins.length : Int) :: s.lins.flatMap (fun e => (e.1 : Int) :: (e.2.frac : Int) :: e.2.c)
    ++ s.sec.ledger.map (fun v => (v.toNat : Int)) ++ s.sec.journal.flatMap (fun e => [(e.1 : Int), (e.2.toNat : Int)])

/-- A byte of the NVM (Table 21.1): images and the user area as written, the identity bundle, and the region whose layout the spec leaves open. -/
def nvmByte (s : State) (a : Nat) : Byte :=
  if a < 0x1000000 ∨ 0x2000000 ≤ a then rdByte s.sec.nvm a
  else if a < 0x1100000 then nth 0 (identityBundle s) (a - 0x1000000)
  else Config.regionByte (regionContents s) a

/-- The factory region (Table 21.5): the region from 0x110_0000 on. -/
def factoryRegion (s : State) : List Byte := (upTo 0xF00000).map (fun i => Config.regionByte (regionContents s) (0x1100000 + i))

/-- Sets the NVM contents. -/
def setNvm (m : List Host.Cell) (s : State) : State := { s with sec := { s.sec with nvm := m } }

/-- The write journal restores the previous copy of what did not complete (R380).
[log: 19 DEDUCED] -/
def journalRestore (s : State) : State :=
  match s.sec.journal with
  | [] => s
  | j =>
    let m := j.foldl (fun m e => wrByte m e.1 e.2) s.sec.nvm
    record 0xD000 0x903 0 0 { s with sec := { s.sec with nvm := m, journal := [] } }

/-- The life ledger in NVM takes the values of its registers (R385). -/
def ledgerSave (s : State) : State :=
  { s with sec := { s.sec with ledger := (upTo 6).map (fun b => getR (oThermLife b) s) ++ [getR oThermInteg s] } }

/-! ### Entry to STAGING and OFF (R28) -/

/-- What the fuses, the NVM, the VAUX domain and the host's memory keep across a reset.
[log: 83 DEDUCED] -/
def keepAcross (l : Life) (s : State) : State :=
  { fuses := s.fuses
    life := l
    lins := s.lins
    gran := { hostMem := s.gran.hostMem }
    therm := { sensors := s.therm.sensors, railBad := s.therm.railBad }
    sec := {
      nvm := s.sec.nvm
      rollback := s.sec.rollback
      selector := s.sec.selector
      burst := s.sec.burst
      journal := s.sec.journal
      restNvm := s.sec.restNvm
      slewNvm := s.sec.slewNvm
      ledger := s.sec.ledger }
    pins := { vaux := s.pins.vaux, straps := s.pins.straps, reset := s.pins.reset, mainOk := s.pins.mainOk }
    free := s.free
    pending := s.pending }

/-- RAIL_OK bits 9:0 with every rail within tolerance but those in the list (POWER_STATUS). -/
def railBits (bad : List Nat) : Nat := (upTo 10).foldl (fun v r => if bad.contains r then v else v + 2 ^ r) 0

/-- RAIL_OK of a powered device shows each rail (R373): present rails are within tolerance but for those that have left it.
It starts at its reset value 0, and shows the rails from the first tick or the first PLL lock on.
[log: 4 DEDUCED] -/
def railTick (s : State) : State :=
  let v := railBits (s.therm.railBad.map (fun e => e.1))
  if powered s && fR oPowerStatus 9 0 s != v then putF oPowerStatus 9 0 v s else s

/-- The device enters STAGING; `old` is the code of the state before (R28). C is read from the fuses (R400). -/
def enterStaging (old : Nat) (s : State) : State :=
  let s := keepAcross .staging s
  let s := { s with pins := { s.pins with reset := false, mainOk := true }
                    therm := { s.therm with railBad := s.therm.railBad.map (fun e => (e.1, (0 : Tick))) } }
  record 0 0x100 (old * 2 ^ 16 + 2 ^ 12) 0 (putF oSecStatus 31 25 s.sec.rollback s)

/-- A rollback burst that loses its power leaves a number of fuses between the old and the new count (R400). -/
def burstCut (s : State) : State :=
  match s.sec.burst with
  | some c0 =>
    let k := (Config.freeWord s.free).toNat % (s.sec.rollback - c0 + 1)
    takeFree { s with sec := { s.sec with burst := none, rollback := c0 + k } }
  | none => s

/-- Power is lost: OFF, without a record (R28). A Gleaner or host write of NVM in progress leaves its journal.
[log: 15 DEDUCED, 83 DEDUCED] -/
def enterOff (s : State) : State :=
  let s := keepAcross .off (burstCut s)
  { s with pins := { s.pins with vaux := false, reset := true, mainOk := false }, therm := {} }

end Sys2Proof.Machine
end

