-- ==== Sys2Proof/Machine/WitFam.lean ====
section
/-! DEFINITION. Witness engines: enabling and its reservation, committing a Bale, closing it with header, measurement slot and
body, and hold-off (R250-R263, R282). -/

namespace Sys2Proof.Machine

/-! ### Enabling (R252, R253, R282) -/

/-- The reservation of an engine in kB/s (Table 12.1, GR_BW_WIT); `d` is the decimation in force.
[log: 107 DEDUCED] -/
def witReservation (src d : Nat) : Nat :=
  match src with
  | 0 => 29000000
  | 1 => 5500000 / d
  | 2 => 2750000 / d
  | _ => 100000

/-- The witness ceiling in kB/s.
[log: 107 DEDUCED] -/
def witCeiling (s : State) : Nat := match s.fuses.part with | .q512 => 1400000000 | .q256 => 700000000

/-- The reservations held. -/
def witHeld (s : State) : Nat := s.wits.foldl (fun a e => a + e.2.res) 0

/-- The largest PRE for a source (R254). -/
def preLimit (src : Nat) : Nat := match src with | 0 => 49152 | 2 => 32768 | _ => 16384

/-- MQ is defined for the source (R263). -/
def mqOk (src mq : Nat) : Bool :=
  match src with
  | 0 => mq == 0
  | 1 => decide (mq < 3)
  | 2 => mq == 0
  | _ => decide (mq < 2)

/-- What refuses a write of `v` to WIT_CTL of engine `e`, besides the owner rule: the code (R253, R263).
[log: 35 DEDUCED] -/
def witCtlRefusal (e : Nat) (v : W40) (s : State) : Option Nat :=
  let old := getR (oWitCtl e) s
  let on := bR (oWitStatus e) 0 s
  let r := ring (fld v 39 20) s
  let starts := bit v 0 && !on
  if starts && r.owner != tileDom (e / 8) s then some 3
  else if on && fld v 39 3 != fld old 39 3 then some 2
  else if 4 ≤ fld v 19 17 || !mqOk (fld v 19 17) (fld v 4 3) then some 4
  else if starts && r.type != 3 then some 4
  else if starts && (decide (96 ≤ fld v 16 10) || decide (preLimit (fld v 19 17) < fR (oWitPre e) 15 0 s))
    then some 4
  else none

/-- ENABLE takes effect with its reservation held. -/
def witOn (e res : Nat) (s : State) : State :=
  let s := putB (oWitStatus e) 0 true s
  let s := setWit e { wit e s with res := res, no := 0, enAt := fullPos (now s) 0 s, lastEnd := none, gap := false, st := .off, met := [] } s
  if witRuns e s then witArm (now s) e s else s

/-- ENABLE is cleared: the engine stops and its reservation goes (R252, R259). -/
def witOff (e : Nat) (s : State) : State :=
  let s := witCloseEarly false e s
  putB (oWitCtl e) 0 false (putB (oWitStatus e) 0 false (setWit e { wit e s with res := 0 } s))

/-- WIT_CTL of engine `e` takes a value that its checks have let pass (R252).
[log: 35 DEDUCED] -/
def witCtlSet (e : Nat) (v : W40) (s : State) : State :=
  let on := bR (oWitStatus e) 0 s
  let s := setR (oWitCtl e) (w (v.toNat &&& 0xFFFFFFFFF8)) s
  if on then (if bit v 0 then putB (oWitCtl e) 0 true s else witOff e s)
  else if bit v 0 then
    let res := witReservation (fld v 19 17) (decim (96 * (e / 8) + fld v 16 10) s)
    if witCeiling s < witHeld s + res then record (0x6000 + e) 0x00C 0 0 s
    else witOn e res (putB (oWitCtl e) 0 true s)
  else s

/-- WIT_FORCE: a HOST cause (Table 12.2). -/
def witForce (e : Nat) (s : State) : State := witCauseAt e 4 (now s) 0 s

/-! ### Commit (R256, R262) -/

/-- The samples on the tile of the interval of slot `g` whose last sample is stamped `x` (R187). -/
def intervalSamples (g : Nat) (f : Feed) (x : Tick) (s : State) : List Sample :=
  let c := chainAt g x s
  let n := 2 ^ fld c.det 4 0
  (upTo n).map (fun k => chainSample g (chainD c) f (minus x (chainD c * (n - 1 - k))) s)

/-- PEAK and RMS of that interval as they come up the die link: 0 with the detectors off, and where their transfer failed (R15, R187). -/
def intervalLevels (g : Nat) (f : Feed) (x : Tick) (s : State) : Nat × Nat :=
  if bit (chainAt g x s).det 5 && !(feedTick f x).crcBad then levels (intervalSamples g f x s) else (0, 0)

/-- The values of the quantity of trigger `i` of engine `e` stamped with ball tick `x`, with their positions (R255).
[log: 34 DEDUCED] -/
def quantityAt (e i : Nat) (f : Feed) (x : Tick) (s : State) : List (Int × Int) :=
  let q := fR (oWitTrig e i) 39 37 s
  let sl := fR (oWitTrig e i) 34 28 s
  let g := 96 * (e / 8) + sl
  let c := chainAt g x s
  let p := fullPos x 0 s
  if q = 0 then (upTo 16).map (fun (o : Nat) => (p + o, rawCode (rawUp e f x o s)))
  else if 96 ≤ sl then []
  else if q < 4 then
    if x.toNat % chainD c ≠ 0 then []
    else
      let z := slotSample g (chainD c) f x s
      [(p, if q = 1 then z.i.toInt else if q = 2 then z.q.toInt else (envOf z.i.toInt z.q.toInt : Int))]
  else if (x.toNat + chainD c) % intervalTicks c ≠ 0 then []
  else
    let l := intervalLevels g f x s
    [(p, ((if q = 4 then l.1 else l.2 : Nat) : Int))]

/-- The band state of a trigger after a value (R255): true above, false below. -/
def bandStep (level hyst v : Int) (st : Option Bool) : Option Bool :=
  if level + hyst ≤ v then some true else if v < level - hyst then some false else st

/-- The band state of trigger `i`, and the position up to which it has seen its quantity. -/
def trigState (i : Nat) (x : Wit) : Option Bool × Int := if i = 0 then (x.band0, x.seen0) else (x.band1, x.seen1)

/-- Trigger `i` with a band state after the value at a position. -/
def trigPut (i : Nat) (b : Option Bool) (p : Int) (x : Wit) : Wit :=
  if i = 0 then { x with band0 := b, seen0 := p + 1 } else { x with band1 := b, seen1 := p + 1 }

/-- EDGE fires on a change of band: 1 to ABOVE, 2 to BELOW, 3 both; the first value that leaves NEITHER fires nothing. -/
def edgeFires (edge : Nat) (old new : Option Bool) : Bool :=
  match old, new with
  | some false, some true => edge.testBit 0
  | some true, some false => edge.testBit 1
  | _, _ => false

/-- The tick of FULLTIME at which a value of the quantity of trigger `i`, stamped at position `p`, reaches engine `e` (R256). -/
def trigArrives (e i : Nat) (p : Int) (s : State) : Int :=
  let v := getR (oWitTrig e i) s
  arrives (if fld v 39 37 = 0 then 0 else 1) (96 * (e / 8) + fld v 34 28) p s

/-- Trigger `i` of engine `e` sees one value, once (R255). -/
def trigValue (e i : Nat) (q : Int × Int) (s : State) : State :=
  let x := wit e s
  let (old, seen) := trigState i x
  let edge := fR (oWitTrig e i) 36 35 s
  if edge = 0 ∨ q.1 < seen ∨ ((witLimit e s).any (fun l => decide (l ≤ q.1))) then s
  else
    let lv := getR (oWitLvl e i) s
    let new := bandStep (sx 20 (fld lv 39 20)) (fld lv 19 0) q.2 old
    let s := setWit e (trigPut i new q.1 x) s
    if edgeFires edge old new then witMet e ⟨i, gridAt e q.1 s, trigArrives e i q.1 s, 0⟩ s else s

/-- The triggers of engine `e` see the samples of `n` ball ticks from `t0` on (R255). -/
def trigRun (e : Nat) (f : Feed) (t0 : Tick) (n : Nat) (s : State) : State :=
  foldS (fun k s =>
    let x := plus t0 k
    if due x s then foldS (fun i s => foldS (trigValue e i) (quantityAt e i f x s) s) [0, 1] s else s) (upTo n) s

/-! ### Commit (R256, R262) -/

/-- The ring of an engine. -/
def witRing (e : Nat) (s : State) : Nat := fR (oWitCtl e) 39 20 s

/-- The number of header and measurement slots of an engine's Bales. -/
def witHead (e : Nat) (s : State) : Nat := headSlots (getR (oWitCtl e) s)

/-- F of a Bale that opens: the free slots of the engine's ring; none of one that is not written after an ECC error (R262, R267). -/
def witFree (e : Nat) (s : State) : Nat :=
  let r := ring (witRing e s) s
  if r.eccStop then 0 else freeSlots r

/-- A Bale that is not made takes its BALE_NO (R262); in continuous mode the next one carries GAP and follows its last sample.
[log: 34 DEDUCED] -/
def baleNotMade (e : Nat) (lost : Option Int) (s : State) : State :=
  let x := wit e s
  baleDropped e (setWit e { x with no := (x.no + 1) % 2 ^ 20, gap := x.gap || lost.isSome,
                                   lastEnd := if lost.isSome then lost else x.lastEnd } s)

/-- A Bale of engine `e` on trigger position `p` with what it takes from the engine's settings (R254, R257, R260). -/
def baleMake (e causes primary : Nat) (p : Int) (depth : Nat) (s : State) : Bale :=
  let cont := bR (oWitCtl e) 9 s
  let pre := if cont then 0 else witPreHave e p s
  { causes := causes, primary := primary, pos := p, first := if cont then p else witFirst e p s, preHave := pre,
    n := pre + (getR (oWitPost e) s).toNat, free := witFree e s, gap := (wit e s).gap, ctl := getR (oWitCtl e) s,
    meas := getR (oWitMeas e) s, depth := depth }

/-- The last sample that a Bale of a continuous engine takes with it when it is not made (R260). -/
def baleTakes (e : Nat) (b : Bale) (s : State) : Option Int := if bit b.ctl 9 then some (baleLast e b s) else none

/-- A Bale opens on trigger position `p` at commit tick `c`, or is not made (R254, R256, R257, R262). -/
def baleOpen (e causes primary : Nat) (p : Int) (depth : Nat) (c : Tick) (s : State) : State :=
  let b := baleMake e causes primary p (if causes.testBit 3 then min 15 (depth + 1) else 0) s
  let s := fireProd (640 * (e / 8) + 608 + e % 8) c b.depth s
  if b.free < witHead e s then baleNotMade e (baleTakes e b s) s
  else setWit e { wit e s with st := .recording, bale := some b, gap := false } s

/-- The causes of a list, as bits. -/
def causeBits (ms : List Met) : Nat := ((ms.map (fun q => q.cause)).dedup).foldl (fun a c => a + 2 ^ c) 0

/-- The lowest-numbered cause of a set. -/
def lowestCause (bits : Nat) : Nat := ((upTo 6).filter (fun i => bits.testBit i)).headD 0

/-- 50 ns have passed since position `p`, counted at the ball (R256). -/
def commitDue (p : Int) (s : State) : Bool := decide (p / 16 + 50 ≤ (fullTime s).toNat)

/-- The trigger sample of the next Bale in continuous mode: the sample after the last Bale, or the first one since the engine armed
(R260). -/
def contNext (e : Nat) (s : State) : Int :=
  gridAt e (match (wit e s).lastEnd with
    | some l => max (wit e s).armedAt (l + 1)
    | none => (wit e s).armedAt) s

/-- An armed engine commits its earliest trigger sample 50 ns after its stamp (R256, R260); every cause at the same sample joins it. -/
def witCommit (e : Nat) (s : State) : State :=
  let x := wit e s
  if x.st != .armed then s
  else if bR (oWitCtl e) 9 s then
    let p := contNext e s
    if getR (oWitPost e) s != 0 && commitDue p s then baleOpen e 32 5 p 0 (plus (posTick p) 50) s else s
  else
    match x.met with
    | [] => s
    | m :: _ =>
      if commitDue m.pos s then
        let same := x.met.filter (fun q => q.pos == m.pos)
        let bits := causeBits same
        let depth := same.foldl (fun a q => max a q.depth) 0
        let s := setWit e { x with met := x.met.filter (fun q => q.pos != m.pos) } s
        witDrain e (baleOpen e bits (lowestCause bits) m.pos depth (plus (posTick m.pos) 50) s)
      else s

/-- WITNESS_TRIGGER_COMMIT of engine `e`: its triggers see the samples of `n` ball ticks from `t0` on, taken from `xs`, which begins at ball
tick `base`; then what is due commits (R255, R256, R260).
[log: 34 DEDUCED] -/
def witCommitRow (e : Nat) (base t0 : Tick) (n : Nat) (xs : List AdcTick) (s : State) : State :=
  if e < 8 * nTiles s && witRuns e s then
    witCommit e (if bR (oWitCtl e) 9 s then s else trigRun e ⟨base, xs⟩ t0 n s)
  else s

/-! ### Close (R251, R257-R263) -/

/-- One sample of a Bale as recorded: the packed value (13 bits raw, I and Q, ENV, or PEAK and RMS) and its flags. -/
structure BaleSample where
  val : W40
  flags : Flags
  deriving DecidableEq, Repr

/-- The zero sample that fills the last word. -/
def noBaleSample : BaleSample := ⟨0, ⟨false, false, false, false, false⟩⟩

/-- The flags of samples together. -/
def flagsOr (fs : List Flags) : Flags :=
  ⟨fs.any (fun f => f.ovr), fs.any (fun f => f.cal), fs.any (fun f => f.deg), fs.any (fun f => f.mp), fs.any (fun f => f.trn)⟩

/-- What BALE_CLOSE brings: the ball ticks from 32 before the first that its first sample is formed of. -/
def baleFeed (e : Nat) (b : Bale) (xs : List AdcTick) (s : State) : Feed :=
  let x := posTick (balePos e b 0 s)
  let c := chainAt (baleSlot e b) x s
  feedFrom (if baleSrc b = 3 then minus x (intervalTicks c - chainD c) else x) xs

/-- Sample `k` of a Bale of engine `e` (Table 12.1). -/
def baleSample (e : Nat) (b : Bale) (f : Feed) (k : Nat) (s : State) : BaleSample :=
  let p := balePos e b k s
  let x := posTick p
  let g := baleSlot e b
  let z := slotSample g (chainD (chainAt g x s)) f x s
  match baleSrc b with
  | 0 =>
    let v := rawUp e f x (p % 16).toNat s
    let m := markAt e x s
    ⟨w v.toNat, ⟨v.toNat.testBit 12, m.cal, m.deg, false, false⟩⟩
  | 1 => ⟨w (z.i.toNat * 2 ^ 20 + z.q.toNat), z.flags⟩
  | 2 => ⟨w (envOf z.i.toInt z.q.toInt), z.flags⟩
  | _ =>
    let l := intervalLevels g f x s
    ⟨w (l.1 * 2 ^ 20 + l.2), flagsOr ((intervalSamples g f x s).map (fun y => y.flags))⟩

/-- The samples of a Bale of engine `e`. -/
def baleSamples (e : Nat) (b : Bale) (xs : List AdcTick) (s : State) : List BaleSample :=
  (upTo b.n).map (fun k => baleSample e b (baleFeed e b xs s) k s)

/-- One word from its samples (Table 12.1). -/
def packOne (src : Nat) (xs : List BaleSample) : W40 :=
  let g := nth noBaleSample xs
  match src with
  | 0 => w (b2n ((xs.take 3).any (fun x => x.flags.cal || x.flags.deg)) * 2 ^ 39 + (g 0).val.toNat % 8192 * 2 ^ 26
      + (g 1).val.toNat % 8192 * 2 ^ 13 + (g 2).val.toNat % 8192)
  | 2 => w ((g 0).val.toNat % 2 ^ 20 * 2 ^ 20 + (g 1).val.toNat % 2 ^ 20)
  | _ => (g 0).val

/-- The body words of a Bale; the last word is padded with zero samples. -/
def packBale (src : Nat) (xs : List BaleSample) : List W40 :=
  (upTo ((xs.length + perWord src - 1) / perWord src)).map (fun i => packOne src ((xs.drop (perWord src * i)).take (perWord src)))

/-- Words padded with zeros to whole slots, as slots of eight. -/
def toSlots (ws : List W40) : List (List W40) :=
  (upTo ((ws.length + 7) / 8)).map (fun i => (upTo 8).map (fun j => nth 0 ws (8 * i + j)))

/-- The measured quantity of a sample (R263). -/
def measured (src mq : Nat) (x : BaleSample) : Int :=
  match src with
  | 0 => sx 12 (fld x.val 11 0)
  | 1 => (match mq with
    | 0 => sx 20 (fld x.val 39 20)
    | 1 => sx 20 (fld x.val 19 0)
    | _ => envOf (sx 20 (fld x.val 39 20)) (sx 20 (fld x.val 19 0)))
  | 2 => fld x.val 19 0
  | _ => if mq = 0 then fld x.val 39 20 else fld x.val 19 0

/-- The indices at which a list of values enters ABOVE from BELOW (R263). -/
def crossings (level hyst : Int) : Nat → Option Bool → List Int → List Nat
  | _, _, [] => []
  | k, st, v :: vs =>
    let n := bandStep level hyst v st
    if st = some false ∧ n = some true then k :: crossings level hyst (k + 1) n vs
    else crossings level hyst (k + 1) n vs

/-- The measurement slot of a Bale (Table 12.4). -/
def measureSlot (e : Nat) (b : Bale) (xs : List BaleSample) (s : State) : List W40 :=
  let m := b.meas
  let vs := xs.map (measured (baleSrc b) (fld b.ctl 4 3))
  match vs with
  | [] => [0, 0, 0, 0, 0, 0, 0, 0]
  | v0 :: rest =>
    let cs := crossings (sx 20 (fld m 39 20)) (fld m 19 0) 0 none vs
    let n := cs.length
    let span := 16 * (balePos e b (cs.getLastD 0) s - balePos e b (cs.headD 0) s).toNat
    let period := if n < 2 then 0 else (2 * span + (n - 1)) / (2 * (n - 1))
    let mx := rest.foldl max v0
    let mn := rest.foldl min v0
    let pk := vs.foldl (fun a v => max a v.natAbs) 0
    let sq := vs.foldl (fun a v => a + (v * v).toNat) 0
    [w period, w n, wi ((mx - mn + 1) / 2), w pk, w (rootRound sq vs.length 41 0), wi mx, wi mn, 0]

/-- The body as it stands in its slots after a wrap: `ws` in whole slots, `cap` slots kept (R262). -/
def wrapBody (cap : Nat) (sl : List (List W40)) : List (List W40) :=
  let kept := sl.drop (sl.length - cap)
  let r := (sl.length - cap) % cap
  kept.drop (cap - r) ++ kept.take (cap - r)

/-- A position as it stood in FULLTIME when its sample was taken, before the time steps made since (R60). -/
def posThen (p : Int) (s : State) : Int :=
  s.time.shifts.foldl (fun (a : Int) e => if notBefore (posTick p) e.1 then a else a - 16 * e.2) p

/-- The slots of a closed Bale that may take `room` of them: header, measurement, body (R261, R262). -/
def baleSlots (e : Nat) (b : Bale) (room : Nat) (xs : List BaleSample) (s : State) : List (List W40) :=
  let ctl := b.ctl
  let src := baleSrc b
  let sl := toSlots (packBale src xs)
  let cap := room - headSlots ctl
  let ovw := decide (cap < sl.length)
  let lost := if ovw then (if cap = 0 then xs.length else min xs.length (8 * (sl.length - cap) * perWord src)) else 0
  let body := if ovw then (if cap = 0 then [] else wrapBody cap sl) else sl
  let kept := xs.drop lost
  let fl := flagsOr (kept.map (fun x => x.flags))
  let fl := b2n fl.ovr + 2 * b2n fl.cal + 4 * b2n fl.deg + 8 * b2n fl.mp + 16 * b2n fl.trn
  let during := fun (h : List (Tick × Bool)) => decide (0 < b.n) && histAny (posTick (balePos e b 0 s)) (posTick (baleLast e b s)) h
  let marks := b2n ovw * 64 + b2n b.timeStep * 32 + b2n (during s.lbHist) * 16 + b2n (during s.holdHist) * 8
    + b2n (b.closeNow && !b.timeStep) * 4 + b2n (bit ctl 9) * 2 + b2n b.gap
  let p := posThen b.pos s
  let hdr := [posTick p, w ((p / 2 ^ 44 % 2 ^ 24).toNat * 2 ^ 16 + (p % 16).toNat * 2 ^ 12 + b.primary * 2 ^ 8 + b.causes),
    w (b.no * 2 ^ 20 + src * 2 ^ 17 + fld ctl 16 10 * 2 ^ 10 + marks), w xs.length, w lost,
    w (b.preHave * 2 ^ 20 + fl * 2 ^ 15), w (if ovw && cap != 0 then sl.length % cap else 0), w body.length]
  hdr :: ((if bit ctl 8 then [measureSlot e b xs s] else []) ++ body)

/-- What follows the close of Bale `b`: hold-off, or the next Bale in continuous mode (R258, R260). -/
def afterClose (e : Nat) (b : Bale) (s : State) : State :=
  let x := { wit e s with busyTo := baleEnd e b s }
  let ho := (getR (oWitHoldoff e) s).toNat
  if bit b.ctl 9 then setWit e { x with st := .armed } s
  else if bit b.ctl 7 then
    witDrain e (setWit e { x with st := .holdoff, hoLeft := ho, hoEnd := if ho = 0 then some (baleLast e b s + 1) else none } s)
  else witDrain e (setWit e { x with st := .holdoff, hoLeft := 0, hoEnd := some (rearmPos e b s) } s)

/-- A closed Bale of engine `e` is written in its slots (R257, R261, R262). -/
def baleWrite (e : Nat) (b : Bale) (xs : List AdcTick) (s : State) : State :=
  match b.place with
  | some p =>
    setMem (wrSlots { base := p.base, length := p.length } s.gran.mem p.tail (baleSlots e b p.room (baleSamples e b xs s) s)) s
  | none => s

/-- The last sample of the open Bale has been written (R257). -/
def baleDone (e : Nat) (b : Bale) (s : State) : Bool := decide (baleEnd e b s ≤ (fullTime s).toNat)

/-- BALE_CLOSE of engine `e`: the oldest Bale that was closed early is written, else the open Bale once it has its last sample.
[log: 36 DEDUCED] -/
def baleCloseRow (e : Nat) (xs : List AdcTick) (s : State) : State :=
  let x := wit e s
  if 8 * nTiles s ≤ e then s
  else
    match x.closed, x.bale with
    | b :: t, _ => setWit e { x with closed := t } (baleWrite e b xs s)
    | [], some b =>
      if baleDone e b s then
        let (b, s) := baleShut e b s
        afterClose e b (baleWrite e b xs s)
      else s
    | [], none => s

/-- WITNESS_REARM: hold-off ends, and the engine arms for samples from there on (R258).
[log: 36 DEDUCED] -/
def witRearmRow (e : Nat) (s : State) : State :=
  let x := wit e s
  if e < 8 * nTiles s && x.st == .holdoff && witRuns e s then
    match x.hoEnd with
    | some p => if p / 16 ≤ ((fullTime s).toNat : Int) then witArmPos p e s else s
    | none => s
  else s

/-- WITNESS_TRIGGER_COMMIT. -/
def execWitnessTriggerCommit (e : Nat) (x : TrigFeed) (s : State) : Host.Outcome State Fault Refusal :=
  .next (witCommitRow e x.base x.t0 x.n x.xs s)
/-- BALE_CLOSE. -/
def execBaleClose (e : Nat) (xs : List AdcTick) (s : State) : Host.Outcome State Fault Refusal :=
  .next (baleCloseRow e xs s)
/-- WITNESS_REARM. -/
def execWitnessRearm (e : Nat) (s : State) : Host.Outcome State Fault Refusal := .next (witRearmRow e s)

end Sys2Proof.Machine
end

