-- ==== Sys2Proof/Machine/CeOps.lean ====
section
/-! DEFINITION. The Ceari engine: the opcode table, packet checks, parking, replies and buffers (R284-R299). -/

namespace Sys2Proof.Machine

/-! ### The opcode table (Table 14.4) -/

/-- What TARGET names. -/
inductive TargetK where
  | free    -- ignored
  | ring
  | tile
  | tileAll -- a tile, or 0xFF_FFFF for every tile
  | seq
  | core
  | slot
  | decoder
  | port
  | rest    -- a flux channel, or 0x1000 + tile
  | sense
  | source  -- a SENSE input or a sensor, as a monitor source
  deriving DecidableEq, Repr

/-- A row of Table 14.4: opcode, least and most parameters, TARGET, reserved to domain 0, states S, R, H, parks. -/
structure OpRow where
  op : Nat
  lo : Nat
  hi : Nat
  tk : TargetK
  dom0 : Bool
  inS : Bool
  inR : Bool
  inH : Bool
  parks : Bool

/-- Opcodes of families 0 to 3. -/
def opRowsA : List OpRow := [
  ⟨0x000, 0, 255, .free, false, true, true, true, false⟩,
  ⟨0x001, 0, 0, .free, false, true, true, true, false⟩,
  ⟨0x002, 0, 0, .free, true, true, false, false, false⟩,
  ⟨0x003, 0, 0, .free, true, false, true, false, true⟩,
  ⟨0x004, 2, 2, .free, true, true, true, false, false⟩,
  ⟨0x005, 0, 0, .free, true, false, true, false, false⟩,
  ⟨0x101, 1, 1, .ring, true, true, true, false, false⟩,
  ⟨0x102, 5, 5, .ring, false, true, true, false, false⟩,
  ⟨0x103, 2, 2, .ring, false, true, true, false, false⟩,
  ⟨0x104, 0, 0, .ring, false, true, true, false, false⟩,
  ⟨0x105, 0, 0, .ring, false, true, true, true, false⟩,
  ⟨0x201, 0, 0, .tile, false, true, false, false, true⟩,
  ⟨0x301, 3, 3, .seq, false, true, true, false, false⟩,
  ⟨0x302, 3, 3, .seq, false, true, true, true, false⟩,
  ⟨0x303, 3, 3, .tile, false, true, true, false, false⟩,
  ⟨0x304, 3, 3, .tile, false, true, true, true, false⟩,
  ⟨0x305, 4, 4, .core, false, true, true, false, false⟩,
  ⟨0x306, 4, 4, .core, false, true, true, true, false⟩]

/-- Opcodes of families 4 to 9. -/
def opRowsB : List OpRow := [
  ⟨0x401, 3, 3, .slot, false, true, true, false, false⟩,
  ⟨0x402, 3, 3, .decoder, true, true, true, false, false⟩,
  ⟨0x501, 0, 0, .tileAll, false, false, true, false, true⟩,
  ⟨0x601, 2, 2, .free, true, true, true, false, false⟩,
  ⟨0x602, 0, 0, .free, true, true, true, false, false⟩,
  ⟨0x603, 1, 1, .free, true, true, true, false, false⟩,
  ⟨0x604, 1, 1, .free, true, false, true, false, true⟩,
  ⟨0x605, 0, 0, .port, true, true, true, false, true⟩,
  ⟨0x701, 1, 14, .free, false, true, true, true, false⟩,
  ⟨0x702, 2, 2, .free, true, true, false, false, false⟩,
  ⟨0x703, 1, 1, .free, true, true, false, false, false⟩,
  ⟨0x704, 1, 1, .free, false, true, true, true, false⟩,
  ⟨0x801, 3, 3, .free, false, true, true, true, false⟩,
  ⟨0x802, 3, 3, .free, false, true, true, false, true⟩,
  ⟨0x803, 2, 2, .free, true, true, true, false, true⟩,
  ⟨0x804, 1, 1, .rest, true, true, true, false, true⟩,
  ⟨0x805, 25, 25, .sense, true, true, true, false, true⟩,
  ⟨0x901, 1, 1, .source, false, true, true, false, false⟩,
  ⟨0x902, 0, 0, .tile, false, true, false, false, true⟩]

/-- The row of an opcode. -/
def opRow? (op : Nat) : Option OpRow := (opRowsA ++ opRowsB).find? (fun r => r.op == op)

/-! ### Packet checks (Table 14.2) -/

/-- Check 4 for a unit number `t`, with `n` on this part and `most` on either: UNIT_ABSENT or PARAM_INVALID.
[log: 60 DEDUCED] -/
def unitCheck (t n most : Nat) : Option Nat := if t < n then none else if t < most then some 6 else some 4

/-- Whether monitor source `u` is on the part (R348). -/
def sourceHere (u : Nat) (s : State) : Bool :=
  if u < 16 then true
  else if u < 48 then decide ((u - 16) / 4 < nTiles s)
  else if u < 56 then true
  else if u < 58 then decide (u - 56 < nStacks s)
  else if 64 ≤ u ∧ u < 128 then decide ((u - 64) / 8 < nTiles s)
  else u == 128 || u == 129

/-- Check 4: TARGET exists.
[log: 56 DEDUCED] -/
def targetCheck (k : TargetK) (t : Nat) (s : State) : Option Nat :=
  match k with
  | .free => none
  | .ring => unitCheck t 1048576 1048576
  | .tile => unitCheck t (nTiles s) 8
  | .tileAll => if t = 0xFFFFFF then none else unitCheck t (nTiles s) 8
  | .seq => unitCheck t (nSeqs s) 768
  | .core => unitCheck t (16 * nTiles s) 128
  | .slot => unitCheck t (nSeqs s) 768
  | .decoder => unitCheck t 8 8
  | .port => unitCheck t (nPorts s) 6
  | .rest => if 0x1000 ≤ t then unitCheck (t - 0x1000) (nTiles s) 8 else unitCheck t (nSeqs s) 768
  | .sense => unitCheck t 16 16
  | .source => if 58 ≤ t then some 4 else if sourceHere t s then none else some 6

/-- Owner domain and SECURE of TARGET. -/
def targetOwner (k : TargetK) (t : Nat) (s : State) : Nat × Bool :=
  match k with
  | .ring => ((ring t s).owner, (ring t s).secure)
  | .tile => (tileDom t s, tileSec t s)
  | .seq => (seqDom t s, seqSec t s)
  | .slot => (seqDom t s, seqSec t s)
  | .core => (tileDom (t / 16) s, tileSec (t / 16) s)
  | .rest => if 0x1000 ≤ t then (tileDom (t - 0x1000) s, tileSec (t - 0x1000) s) else (seqDom t s, seqSec t s)
  | _ => (0, false)

/-- Check 5: domain `d` may issue the opcode on TARGET (R297); REST_SET reaches no SECURE channel or tile of another domain (R406). -/
def domainCheck (r : OpRow) (d t : Nat) (s : State) : Bool :=
  if r.dom0 then
    d == 0 && (r.tk != .rest || mayAct d (targetOwner .rest t s).1 (targetOwner .rest t s).2)
  else
    match r.tk with
    | .free => true
    | .tileAll => t == 0xFFFFFF || mayAct d (tileDom t s) (tileSec t s)
    | k => mayAct d (targetOwner k t s).1 (targetOwner k t s).2

/-- Check 6: the lifecycle state (Table 14.4); after a handler that does not return only packets that list H run (R301).
[log: 48 DEDUCED] -/
def stateCheck (r : OpRow) (s : State) : Bool :=
  if s.ce.hOnly then r.inH
  else match s.life with
    | .safe => r.inS
    | .ready => r.inR
    | .stopping => r.inH
    | .halted => r.inH
    | _ => false

/-- Routines that hold their units: the parked ones. -/
def heldRoutines (s : State) : List Routine := s.ce.parked.map (fun e => e.2)

/-- The unit that TARGET `t` of kind `k` names: a tile or a SENSE input may be named under two kinds. -/
def targetUnit (k : TargetK) (t : Nat) : TargetK × Nat :=
  match k with
  | .tileAll => (.tile, t)
  | .rest => if 0x1000 ≤ t then (.tile, t - 0x1000) else (.rest, t)
  | .source => if t < 16 then (.sense, t) else (.source, t)
  | k => (k, t)

/-- A routine with TARGET `t'` of kind `k'` holds TARGET `t` of kind `k` (R294). -/
def holdsTarget (k : TargetK) (t : Nat) (k' : TargetK) (t' : Nat) : Bool :=
  let a := targetUnit k t
  let b := targetUnit k' t'
  a.1 != .free && a.1 == b.1 && (a.2 == b.2 || (a.1 == .tile && (a.2 == 0xFFFFFF || b.2 == 0xFFFFFF)))

/-- Check 7: no routine holds TARGET, the NVM or the device (R294, R393). -/
def holdCheck (row : OpRow) (t : Nat) (s : State) : Bool :=
  let nvm := row.op / 256 = 8
  !(nvm && s.glean.rewriting.isSome) &&
  (heldRoutines s).all (fun r =>
    r.opcode != 0x003 && r.opcode != 0x601 && !(nvm && r.opcode / 256 == 8) &&
    (match opRow? r.opcode with
      | some x => !holdsTarget row.tk t x.tk r.target
      | none => true))

/-- Checks 1 to 7 of Table 14.2 for routine `r` with domain echo `echo`: the status of the first that fails.
[log: 48 DEDUCED] -/
def packetCheck (r : Routine) (echo : Nat) (s : State) : Option Nat :=
  if echo ≠ r.dom then some 3
  else match opRow? r.opcode with
    | none => some 5
    | some row =>
      if r.params.length < row.lo ∨ row.hi < r.params.length then some 4
      else match targetCheck row.tk r.target s with
        | some c => some c
        | none =>
          if !domainCheck row r.dom r.target s then some 3
          else if !stateCheck row s then some 2
          else if !holdCheck row r.target s then some 1
          else none

/-! ### Packets (R285-R290) -/

/-- REPLY_RING of a COMMAND ring. -/
def replyRing (r : Ring) : Nat := fld r.w6 19 0

/-- The REPLY_RING of ring `n` is a STATUS ring of its owner with nonzero LENGTH (R290). -/
def replyOk (n : Nat) (s : State) : Bool :=
  let r := ring n s
  let q := ring (replyRing r) s
  q.type == 1 && q.owner == r.owner && q.length != 0

/-- Word `i` of the packet at HEAD of a ring. -/
def packetWord (r : Ring) (s : State) (i : Nat) : W40 :=
  rdWord s.gran.mem (slotAddr r (plus r.head (i / 8)) + 5 * (i % 8))

/-- Slots of the head packet (R288). -/
def packetSlots (r : Ring) (s : State) : Nat := (2 + fld (packetWord r s 0) 23 16 + 7) / 8

/-- The engine runs: from entry to SAFE until the next entry to STAGING (R284). -/
def engineRuns (s : State) : Bool := s.life != .off && s.life != .staging

/-- The head packet of ring `n` can start now (R286, R287, R295).
[log: 50 DEDUCED] -/
def startable (s : State) (n : Nat) : Bool :=
  let r := ring n s
  let k := packetSlots r s
  let parks := match opRow? (fld (packetWord r s 0) 39 28) with | some x => x.parks | none => false
  r.type == 0 && r.length != 0 && level r != 0 && s.ce.parked.all (fun e => e.2.ring != n)
    && (decide (r.length < k) || (decide (k ≤ level r)
      && !(parks && replyOk n s && decide (4 ≤ s.ce.parked.length))))

/-- Ring `n` rejoins the back of the list if it holds slots beyond the `k` that a packet in progress occupies (R285). -/
def rejoin (n k : Nat) (s : State) : State :=
  if k < level (ring n s) ∧ !s.ce.list.contains n then { s with ce := { s.ce with list := s.ce.list ++ [n] } } else s

/-- HEAD of COMMAND ring `n` advances past `k` slots (R291). -/
def consumeSlots (n k : Nat) (s : State) : State :=
  let r := ring n s
  rejoin n 0 (watermark n (setRing n { r with head := plus r.head (min k (level r)) } s))

/-- A packet loses its reply: CE_NO_REPLY_RING (R290). -/
def noReply (n tag : Nat) (s : State) : State :=
  recordFor [(ring n s).owner] 0x9000 0x607 tag (w n) s

/-- A load begins to hold the commits of its unit (R299). -/
def beginHold (r : Routine) (s : State) : State :=
  if r.opcode = 0x401 then setSlot r.target { slot r.target s with loading := true } s
  else if r.opcode = 0x402 then setDecoder r.target { decoder r.target s with loading := true } s
  else s

/-- The engine takes the head packet of ring `n`; `e` is what the code finds in its slots. -/
def takePacket (n : Nat) (e : Ecc) (s : State) : State :=
  let r := ring n s
  let k := packetSlots r s
  let s := { s with ce := { s.ce with list := s.ce.list.filter (fun m => m != n) } }
  let w0 := packetWord r s 0
  let w1 := packetWord r s 1
  let big := decide (r.length < k)
  if !replyOk n s then
    consumeSlots n (if big then level r else k) (noReply n (fld w0 15 0) (eccCount e (slotAddr r r.head) (some n) s))
  else
    let pc := fld w0 23 16
    let x : Routine :=
      { ring := n, dom := r.owner, secure := r.secure, slots := if big then 2 ^ 40 else k, opcode := fld w0 39 28,
        flags := fld w0 27 24, tag := fld w0 15 0, target := fld w1 39 16,
        params := (upTo pc).map (fun i => packetWord r s (i + 2)), started := now s }
    let st := if big then some 4 else if eccBad e then some 9 else packetCheck x (fld w1 15 12) s
    let s := eccCount e (slotAddr r r.head) (some n) s
    match st with
    | some c => { s with ce := { s.ce with cur := some { x with ended := some (c, [], now s) } } }
    | none => beginHold x { s with ce := { s.ce with cur := some x } }

/-- PACKET_START: the first ring of the list whose head packet can start.
[log: 50 DEDUCED] -/
def packetStartRow (e : Ecc) (s : State) : State :=
  if !engineRuns s || s.ce.cur.isSome || !s.ce.handlers.isEmpty then s
  else match s.ce.list.find? (startable s) with
    | some n => takePacket n e s
    | none => s

/-! ### The running routine -/

/-- What comes for the running routine of opcode `op` acts on it. -/
def opDo (op : Nat) (f : Routine → State → State) (s : State) : State :=
  match s.ce.cur with
  | some r => if r.opcode = op ∧ r.ended.isNone then f r s else s
  | none => s

/-- The row of opcode `op` acts on the running routine, which no handler interrupts (R300). -/
def opRun (op : Nat) (f : Routine → State → State) (s : State) : State := if s.ce.handlers.isEmpty then opDo op f s else s

/-- The running routine ends at the present tick with a status and results; held commits act (R292, R299).
[log: 49 DEDUCED] -/
def finish (st : Nat) (res : List W40) (s : State) : State :=
  match s.ce.cur with
  | some r => releaseHold r.opcode r.target { s with ce := { s.ce with cur := some (closeRoutine st res (now s) r) } }
  | none => s

/-- Check 8 fails: the running routine ends with a status and no result.
[log: 49 DEDUCED] -/
def refuse (st : Nat) (s : State) : State :=
  match s.ce.cur with
  | some r =>
    releaseHold r.opcode r.target { s with ce := { s.ce with cur := some { r with ended := some (st, [], now s) } } }
  | none => s

/-- The first parking place that is free (R295). -/
def freePlace (s : State) : Nat := ((upTo 4).map (fun i => i + 1)).find? (fun i => (tget? i s.ce.parked).isNone) |>.getD 1

/-- The running routine parks (R295). -/
def park (s : State) : State :=
  match s.ce.cur with
  | some r =>
    rejoin r.ring r.slots
      { s with ce := { s.ce with cur := none, parked := tput (freePlace s) r s.ce.parked } }
  | none => s

/-! ### Replies (R290, R291, R296) -/

/-- The words of a reply (Table 14.3). -/
def replyWords (r : Routine) (st : Nat) (res : List W40) (t : Tick) : List W40 :=
  [w (r.tag * 2 ^ 24 + st * 2 ^ 8 + res.length), w (r.opcode * 2 ^ 28 + r.flags * 2 ^ 24 + r.ring), t] ++ res

/-- The routine leaves the engine: its packet is consumed (R278, R291). -/
def retire (r : Routine) (s : State) : State :=
  let s := { s with ce := { s.ce with cur := none } }
  if r.consume then consumeSlots r.ring r.slots s else rejoin r.ring 0 s

/-- Words of 40 bits that `n` units of a core's SPACE take. -/
def spaceWords (space n : Nat) : Nat := if space = 0 then 2 * n else n

/-- Sectors of 64 KiB that [a, a + n) touches. -/
def sectors (a n : Nat) : Nat := if n = 0 then 0 else (a + n - 1) / 0x10000 - a / 0x10000 + 1

/-- Integration time of a code of Table 18.2, in ns. -/
def integration (tcode : Nat) : Nat :=
  match tcode with
  | 0 => 50000
  | 1 => 200000
  | 2 => 1000000
  | 3 => 5000000
  | 4 => 20000000
  | _ => 100000000

/-- Parameter `i` of a routine. -/
def prm (r : Routine) (i : Nat) : W40 := nth 0 r.params i

/-- The worst-case duration of a routine in ns (Table 14.4); that of PAIR_HANDOVER runs from the boundary at which it ends. -/
def worstCase (r : Routine) : Nat :=
  let n := fun (i : Nat) => (prm r i).toNat
  match r.opcode with
  | 0x000 => 2000 + r.params.length
  | 0x002 => 10000
  | 0x003 => 100020000
  | 0x004 | 0x005 | 0x602 => 5000
  | 0x103 => 2000 + (5 * r.zeroed + 1) / 2
  | 0x201 => 25000000
  | 0x301 | 0x302 | 0x303 | 0x304 | 0x401 | 0x402 => 3000 + n 2
  | 0x305 | 0x306 => 3000 + spaceWords (n 3) (n 2)
  | 0x501 => 300000
  | 0x601 => 3000 + n 1
  | 0x603 => 20000
  | 0x604 => 2 ^ 40
  | 0x605 => 5000000
  | 0x701 => 25000000
  | 0x702 => 30000000
  | 0x703 => 50000000
  | 0x704 => 100000
  | 0x801 => 3000 + 10 * n 2
  | 0x802 => 1300000000 * sectors (n 1) (n 2)
  | 0x803 => 40000000 + 1300000000 * sectors 0 (n 1)
  | 0x804 | 0x805 => 1300000000
  | 0x901 => integration (n 0) + 10000
  | 0x902 => 10000000
  | _ => 2000

/-- CE_OVERRUN with the opcode and the duration of a routine that ended at tick `t`, where that exceeds its worst case; the time that it
spent in handlers does not count (R296).
[log: 109 DEDUCED] -/
def overrun (r : Routine) (t : Tick) (s : State) : State :=
  let d := (t - r.started).toNat - r.inHandlers
  recordIf (decide (worstCase r < d)) 0x9000 0x608 r.opcode (w d) s

/-- REPLY_WRITE: the reply of the routine that has ended is written once its STATUS ring has room; `e` is what the code finds in the
descriptor that the engine reads back, and one that it cannot correct stops the ring (R267).
[log: 108 DEDUCED, 109 DEDUCED] -/
def replyWriteRow (e : Ecc) (s : State) : State :=
  match s.ce.cur with
  | some r =>
    match r.ended with
    | some (st, res, t) =>
      if !s.ce.handlers.isEmpty then s
      else if r.flags.testBit 2 && st == 0 then retire r (overrun r t s)
      else if !replyOk r.ring s then retire r (noReply r.ring r.tag (overrun r t s))
      else
        let q := replyRing (ring r.ring s)
        let sl := toSlots (replyWords r st (res.take 255) t)
        if freeSlots (ring q s) < sl.length ∨ (ring q s).eccStop then s
        else
          let s := eccCount e (64 * q) (some q) s
          if eccBad e then setRing q { ring q s with eccStop := true } s
          else retire r (ringAppend q sl (overrun r t s))
    | none => s
  | none => s

/-! ### Buffers (R298) -/

/-- Why a buffer of `n` bytes is refused: OWNER_REFUSED or PARAM_INVALID (R298, R450). -/
def bufferCheck (r : Routine) (a n : Nat) (s : State) : Option Nat :=
  let len := min (max n 1) (memEnd s - a)
  if a < 0x04000000 then (if r.dom = 0 then some 4 else some 3)
  else if memEnd s ≤ a then some 4
  else if !blocksAll (fun o => o.1 == r.dom && o.2 == r.secure) a len s then some 3
  else if a % 8 ≠ 0 ∨ memEnd s < a + n then some 4
  else none

/-- The words of a buffer. -/
def bufWords (a n : Nat) (s : State) : List W40 := rdWords s.gran.mem a n

/-- Writes words into a buffer. -/
def putBuf (a : Nat) (ws : List W40) (s : State) : State := setMem (wrWords s.gran.mem a ws) s

/-- A routine that reads a buffer of `n` words at its first parameter ends MEM_ERROR on an uncorrectable error, else runs on
the words. -/
def withBuf (e : Ecc) (a n : Nat) (f : List W40 → State → State) (s : State) : State :=
  if n = 0 then f [] s
  else
    let s' := eccCount e a none s
    if eccBad e then finish 9 [] s' else f (bufWords a n s) s'

/-- PACKET_START. -/
def execPacketStart (e : Ecc) (s : State) : Host.Outcome State Fault Refusal := .next (packetStartRow e s)
/-- REPLY_WRITE. -/
def execReplyWrite (e : Ecc) (s : State) : Host.Outcome State Fault Refusal := .next (replyWriteRow e s)

end Sys2Proof.Machine
end

