-- ==== Sys2Proof/Machine/SlotFam.lean ====
section
/-! DEFINITION. Tone slots: detectors, the Thresher's integral and classification, the Winnow, posting of final, early and
absent verdicts, and the flush of half-filled result slots (R187, R190-R205). -/

namespace Sys2Proof.Machine

/-! ### Settings of a window -/

/-- A register of the slot as it stood at the window's launch tick (R190). -/
def winR (v : Win) (o : Nat) : W40 := tget 0 o v.snap
/-- D of a window. -/
def winD (v : Win) (g : Nat) : Nat := 2 ^ fld (winR v (oSlotCfg g)) 31 30
/-- V of Table 9.1: the chain (Table 8.5), 4 ns of up path, and 4 ns of final accumulation and classification (R196). -/
def winV (v : Win) (g : Nat) : Nat := chainDelay v.minPh (winD v g) + 4 + 4
/-- The reference tick of a window (R190), or of an absent one (R197).
[log: 26 DEDUCED] -/
def winRef (v : Win) : Tick := if v.w = 0 then v.t else plus v.t (v.w - 1)
/-- N, the window samples. -/
def winN (v : Win) (g : Nat) : Nat := v.w / winD v g

/-- The first `n` window samples of window `v`: stamps T + kD (R190). -/
def windowSamples (v : Win) (g n : Nat) (xs : List AdcTick) (s : State) : List Sample :=
  slotStream g (winD v g) n v.t xs s

/-- Their saturations count (R177). -/
def countWindow (v : Win) (g : Nat) (zs : List Sample) (s : State) : State :=
  noteSat g ((upTo zs.length).map (fun k => plus v.t (k * winD v g)) |>.zip zs) s

/-! ### Integration (R191, R192) -/

/-- The exact sums over samples against weights from index `k` on: weight 0 from KLEN on. -/
def integrate (kern : Tab W40) (klen : Nat) : Nat → List Sample → Int × Int
  | _, [] => (0, 0)
  | k, x :: xs =>
    let (ai, aq) := integrate kern klen (k + 1) xs
    let wd := if k < klen then tget 0 k kern else 0
    let wi := sx 20 (fld wd 39 20)
    let wq := sx 20 (fld wd 19 0)
    (ai + x.i.toInt * wi - x.q.toInt * wq, aq + x.i.toInt * wq + x.q.toInt * wi)

/-- I and Q of R192, and whether one saturated. -/
def integral (v : Win) (g : Nat) (xs : List Sample) : Int × Int × Bool :=
  let c := winR v (oThrCfg g)
  let (ai, aq) := integrate v.kern (fld c 39 27) 0 xs
  let i := roundShift ai (fld c 26 22)
  let q := roundShift aq (fld c 26 22)
  (satI 40 i, satI 40 q, satI 40 i != i || satI 40 q != q)

/-! ### Classification (R193-R195) -/

/-- The two least of a list of numbers, with the place of the least; ties go to the lower place. -/
def least2 : List (Nat × Int) → Option ((Nat × Int) × Option Int)
  | [] => none
  | (j, d) :: t =>
    match least2 t with
    | none => some ((j, d), none)
    | some ((k, e), r) =>
      if d ≤ e then some ((j, d), some e)
      else some ((k, e), some (match r with | some x => min x d | none => d))

/-- The largest margin. -/
def maxMargin : Int := 2 ^ 40 - 1

/-- b[j] of R193. -/
def boundaryOf (v : Win) (g : Nat) (i q : Int) (j : Nat) : Int :=
  let ab := winR v (oThrBab g j)
  roundShift (sx 20 (fld ab 39 20) * i + sx 20 (fld ab 19 0) * q) 19 - (winR v (oThrBc g j)).toInt

/-- The linear rule (R193): state and margin. -/
def classLinear (v : Win) (g n : Nat) (i q : Int) : Nat × Int :=
  let bs := (upTo (n - 1)).map (boundaryOf v g i q)
  let st := (bs.filter (fun b => decide (0 ≤ b))).length
  match bs with
  | [] => (0, maxMargin)
  | b :: t => (st, t.foldl (fun a x => min a (x.natAbs : Int)) (b.natAbs : Int))

/-- d[j] of R194. -/
def distanceOf (v : Win) (g : Nat) (i q : Int) (j : Nat) : Int :=
  (i - (winR v (oThrCi g j)).toInt) ^ 2 + (q - (winR v (oThrCq g j)).toInt) ^ 2

/-- The centroid rule (R194): state and margin. -/
def classCentroid (v : Win) (g n : Nat) (i q : Int) : Nat × Int :=
  match least2 ((upTo n).map (fun j => (j, distanceOf v g i q j))) with
  | some ((j, d), some e) => (j, min maxMargin (e - d))
  | some ((j, _), none) => (j, maxMargin)
  | none => (0, maxMargin)

/-- State and margin of a window's integral; with NSTATES 1, state 0 and the largest margin (R195). -/
def classify (v : Win) (g : Nat) (i q : Int) : Nat × Int :=
  let c := winR v (oThrCfg g)
  let n := fld c 15 14 + 1
  if n = 1 then (0, maxMargin)
  else if bit c 13 then classCentroid v g n i q
  else classLinear v g n i q

/-- The OR of a flag over samples. -/
def orFlags (xs : List Sample) : Flags :=
  ⟨xs.any (fun x => x.flags.ovr), xs.any (fun x => x.flags.cal), xs.any (fun x => x.flags.deg),
   xs.any (fun x => x.flags.mp), xs.any (fun x => x.flags.trn)⟩

/-- Confidence: margin shifted, at most 255, 0 under the flags of R195 or after a failed transfer (R15). -/
def confidence (m : Int) (sh : Nat) (f : Flags) (crcBad : Bool) : Nat :=
  if f.cal || f.deg || f.trn || crcBad then 0 else min 255 (m / (2 ^ sh : Nat)).toNat

/-- The five flags as a number: TRN, MP, DEG, CAL, OVR in bits 4..0. -/
def flagBits (f : Flags) : Nat := b2n f.ovr + 2 * b2n f.cal + 4 * b2n f.deg + 8 * b2n f.mp + 16 * b2n f.trn

/-! ### Order of the windows of a slot (R198) -/

/-- The list without the first occurrence of a window. -/
def dropWin (v : Win) (l : List Win) : List Win := l.erase v

/-- The posting tick of a verdict of slot `g` whose latency ends at `x`: no earlier than the verdict before it (R198).
[log: 142 DEDUCED] -/
def postAt (g : Nat) (x : Tick) (s : State) : Tick :=
  match (slot g s).lastPost with
  | some y => later x y
  | none => x

/-- A verdict of slot `g` is posted at tick `x`, and its record leaves (R196, R204, R205). -/
def slotPost (x : Tick) (v : Win) (g : Nat) (word : W40) (ref : Tick) (i q : Int) (rec : Bool) (s : State) : State :=
  let s := setR (oThrLast g) word (setSlot g { slot g s with lastPost := some x } s)
  let s := postVerdict x word ref s
  let r := winR v (oThrRing g)
  if rec then resMake x g (fld r 19 0) (seqDom g s) (fld r 35 20) [ref, wi i, wi q, word] s else s

/-! ### The Winnow (R199-R201) -/

/-- The samples of the partial window of step `m`. -/
def partN (v : Win) (g m : Nat) : Nat := 4 * m / winD v g

/-- Step `m` of a window is evaluated (R199, R200). -/
def stepEligible (v : Win) (g m : Nat) : Bool :=
  8 ≤ v.w && 0 < m && 4 * m < v.w && fld (winR v (oWinCtl g)) 39 28 ≤ 4 * m && 0 < partN v g m
    && winR v (oWinThr g) != 0

/-- The first step after those done that is evaluated, among the next `n`.
[log: 27 DEDUCED] -/
def nextStep (v : Win) (g : Nat) : Nat → Nat → Option Nat
  | 0, _ => none
  | n + 1, m => if stepEligible v g (m + 1) then some (m + 1) else nextStep v g n (m + 1)

/-- The step that the Winnow of a window evaluates next, if any is left. -/
def winnowNext (g : Nat) (v : Win) : Option Nat :=
  if v.early.isSome then none else nextStep v g (v.w / 4 + 1 - v.steps) v.steps

/-- L of R199. -/
def winnowL (v : Win) (g n : Nat) (i q : Int) : Int :=
  let ax := winR v (oWinAxis g)
  let p := roundShift (sx 20 (fld ax 39 20) * i + sx 20 (fld ax 19 0) * q) 19
  satI 40 (p - ((winR v (oWinOfs g)).toInt + n * (winR v (oWinSlope g)).toInt))

/-- The reference tick of what window `v` may post next: that of its next step, or that of its final or absent verdict. -/
def nextRef (g : Nat) (v : Win) : Tick :=
  match winnowNext g v with
  | some m => plus v.t (partN v g m * winD v g - 1)
  | none => winRef v

/-- The window of slot `g` that may post next: the one whose next reference tick is the earliest, the first of equals (R198). -/
def earliest (g : Nat) : List Win → Option Win
  | [] => none
  | v :: t =>
    match earliest g t with
    | some u => if notBefore (nextRef g u) (nextRef g v) then some v else some u
    | none => some v

/-- The windows of slot `g` with window `v` replaced by `u`. -/
def replaceWin (g : Nat) (v u : Win) (s : State) : State :=
  setSlot g { slot g s with wins := (slot g s).wins.map (fun x => if x = v then u else x) } s

/-- Step `m` of window `v` at its posting tick `x`: an early verdict where |L| reaches EARLY_THR (R200, R201).
[log: 26 DEDUCED] -/
def winnowEval (x : Tick) (v : Win) (m g : Nat) (xs : List AdcTick) (s : State) : State :=
  let n := partN v g m
  let zs := windowSamples v g n xs s
  let s := countWindow v g zs s
  let (i, q, _) := integral v g zs
  let l := winnowL v g n i q
  let ctl := winR v (oWinCtl g)
  let f := orFlags zs
  let bad := zs.any (fun z => z.crcBad)
  if ((winR v (oWinThr g)).toNat : Int) ≤ l.natAbs then
    let st := if 0 < l then fld ctl 21 20 else fld ctl 19 18
    let conf := confidence l.natAbs (fld ctl 27 22) f bad
    let ref := plus v.t (n * winD v g - 1)
    let word := verdictWord (ownIndex g s) st true false false f.ovr conf (fld v.shot 10 0)
    let s := replaceWin g v { v with steps := m, early := some st } s
    let s := bump (oThrStat g) 19 0 s
    let s := fireProd (640 * (g / 96) + 288 + g % 96) x 0 s
    slotPost x v g word ref i q (bit (winR v (oThrCfg g)) 12) s
  else replaceWin g v { v with steps := m } s

/-- The readout side posts (R449: not in HALTED). -/
def readoutRuns (g : Nat) (s : State) : Bool :=
  g < nSeqs s && s.life != .halted && s.life != .off && tilePowered (g / 96) s

/-- WINNOW_STEP `m` of the window of slot `g` that may post next: the verdicts of a slot are posted in the order of their
reference ticks (R198). -/
def winnowRow (g m : Nat) (xs : List AdcTick) (s : State) : State :=
  match earliest g (slot g s).wins with
  | some v =>
    let x := plus v.t (partN v g m * winD v g - 1 + winV v g)
    if readoutRuns g s && winnowNext g v == some m && due x s then winnowEval (postAt g x s) v m g xs s else s
  | none => s

/-! ### Final and absent verdicts (R195-R198, R202) -/

/-- The final verdict of window `v` at its posting tick. -/
def finalPost (v : Win) (g : Nat) (xs : List AdcTick) (s : State) : State :=
  let n := winN v g
  let zs := windowSamples v g n xs s
  let s := countWindow v g zs s
  let x := postAt g (plus (winRef v) (winV v g)) s
  let (i, q, sat) := integral v g zs
  let (st, m) := classify v g i q
  let f := orFlags zs
  let conf := confidence m (fld (winR v (oThrCfg g)) 21 16) f (v.crcBad || zs.any (fun z => z.crcBad))
  let rcn := match v.early with | some e => e != st | none => false
  let word := verdictWord (ownIndex g s) st false rcn false f.ovr conf (fld v.shot 10 0)
  let s := setSlot g { slot g s with wins := dropWin v (slot g s).wins } s
  let s := putF (oThrFlags g) 4 0 (flagBits f) (putB (oThrFlags g) 6 sat s)
  let s := if sat then bump (oThrFlags g) 39 20 s else s
  let s :=
    if rcn then
      let first := fR (oThrStat g) 39 20 s == 0
      let s := fireProd (640 * (g / 96) + 384 + g % 96) x 0 (bump (oThrStat g) 39 20 s)
      recordIf first (0x2000 + g) 0x505 0 (w (ownIndex g s * 2 ^ 24 + fld (winRef v) 23 0)) s
    else s
  slotPost x v g word (winRef v) i q true s

/-- FINAL_VERDICT_POST: the window that may post next, once its Winnow is done.
[log: 27 DEDUCED] -/
def finalRow (g : Nat) (xs : List AdcTick) (s : State) : State :=
  match earliest g (slot g s).wins with
  | some v =>
    if readoutRuns g s && 0 < v.w && (winnowNext g v).isNone && due (plus (winRef v) (winV v g)) s then
      finalPost v g xs s
    else s
  | none => s

/-- ABSENT_VERDICT_POST (R197). -/
def absentRow (g : Nat) (s : State) : State :=
  match earliest g (slot g s).wins with
  | some v =>
    let x := plus (winRef v) (winV v g)
    if readoutRuns g s && v.w == 0 && due x s then
      let s := setSlot g { slot g s with wins := dropWin v (slot g s).wins } s
      slotPost (postAt g x s) v g (verdictWord (ownIndex g s) 0 false false true false 0 (fld v.shot 10 0)) v.t 0 0 true s
    else s
  | none => s

/-- RESULT_FLUSH: the flush time of a producer's half-filled slot is over (R205). -/
def resultFlushRow (p : Nat) (s : State) : State :=
  match halfOf p s with
  | some h => if due h.flushAt s then resFlush p s else s
  | none => s

/-! ### Detectors (R187) -/

/-- The filter set of the samples that leave the chain of slot `g` at the present tick (R186, Table 8.5). -/
def detMin (g : Nat) (s : State) : Bool := setAt g (minus (now s) 19) s

/-- The detector settings of slot `g` of the sample that leaves the chain at the present tick (R186). -/
def detNow (g : Nat) (s : State) : ChainSet := chainAt g (minus (now s) (if detMin g s then 19 else 31)) s

/-- D and the samples of an interval. -/
def detShape (g : Nat) (s : State) : Nat × Nat := (chainD (detNow g s), 2 ^ fld (detNow g s).det 4 0)

/-- The first ball tick of the latest detector interval of slot `g` whose last sample has left the chain: intervals start at ball ticks
with τ mod (D × 2^SHIFT) = 0. -/
def detStart (g : Nat) (s : State) : Tick :=
  let (d, n) := detShape g s
  let next := plus (minus (now s) (stampDelay (detMin g s) d)) d
  minus next (next.toNat % (d * n) + d * n)

/-- The stamp of the last sample of that interval, which PEAK and RMS carry, and the tick at which it has left the chain. -/
def detStamp (g : Nat) (s : State) : Tick :=
  let (d, n) := detShape g s
  plus (detStart g s) (d * (n - 1))
/-- The tick at which PEAK and RMS of that interval update. -/
def detTick (g : Nat) (s : State) : Tick := plus (detStamp g s) (stampDelay (detMin g s) (chainD (detNow g s)))

/-- DETECTOR_UPDATE: the latest interval of slot `g` that has ended updates PEAK and RMS, once, and may fire DET 2 ticks after its update;
its samples count their saturations (R177). With EN 0 the detectors output 0; what a failed transfer carries is 0 on the control die (R15). -/
def detectorRow (g : Nat) (xs : List AdcTick) (s : State) : State :=
  let c := (detNow g s).det
  if !readoutRuns g s then s
  else if (slot g s).detAt == some (detStamp g s) then (if bit c 5 then s else setR (oSlotLevel g) 0 s)
  else
    let (d, n) := detShape g s
    let zs := chainStream g d n (detStart g s) xs s
    let x := detTick g s
    let (peak, rms) := levels zs
    let level := if (feedTick (feedFrom (detStart g s) xs) (detStamp g s)).crcBad then 0 else peak * 2 ^ 20 + rms
    let s := noteSat g ((upTo n).map (fun k => plus (detStart g s) (k * d)) |>.zip zs)
      (setSlot g { slot g s with detAt := some (detStamp g s) } s)
    if !bit c 5 then setR (oSlotLevel g) 0 s
    else
      let s := setR (oSlotLevel g) (w level) s
      if bit c 6 && fld c 39 20 ≤ peak then fireProd (640 * (g / 96) + 192 + g % 96) (plus x 2) 0 s else s

/-- DETECTOR_UPDATE. -/
def execDetectorUpdate (g : Nat) (xs : List AdcTick) (s : State) : Host.Outcome State Fault Refusal :=
  .next (detectorRow g xs s)
/-- WINNOW_STEP. -/
def execWinnowStep (g k : Nat) (xs : List AdcTick) (s : State) : Host.Outcome State Fault Refusal := .next (winnowRow g k xs s)
/-- FINAL_VERDICT_POST. -/
def execFinalVerdictPost (g : Nat) (xs : List AdcTick) (s : State) : Host.Outcome State Fault Refusal :=
  .next (finalRow g xs s)
/-- ABSENT_VERDICT_POST. -/
def execAbsentVerdictPost (g : Nat) (s : State) : Host.Outcome State Fault Refusal := .next (absentRow g s)
/-- RESULT_FLUSH. -/
def execResultFlush (p : Nat) (s : State) : Host.Outcome State Fault Refusal := .next (resultFlushRow p s)

end Sys2Proof.Machine
end

