-- ==== Sys2Proof/Machine/TimeOps.lean ====
section
/-! DEFINITION. The time count: time steps and what they carry, SYNC_IN and SYNC_OUT, PTM pairs, and acquisition
(R54, R58-R72, R451). -/

namespace Sys2Proof.Machine

/-- Sets FULLTIME. -/
def setFull (f : BitVec 64) (s : State) : State :=
  { s with time := { s.time with tick := BitVec.ofNat 40 f.toNat, epoch := BitVec.ofNat 24 (f.toNat / 2 ^ 40) } }

/-- The TICK count wraps: EPOCH advances with a record (R54). -/
def epochWrap (s : State) : State := record 0 0x204 0 0 { s with time := { s.time with epoch := s.time.epoch + 1 } }

/-! ### The clock phase (R59, R63, R68, R69) -/

/-- The part of a slew of `n` in 1/1024 ns that is done `k` ticks after its start: 0.5 ps to a tick, a tick being 1 ns (R59).
[log: 130 DESIGN CHOICE] -/
def slewDone (n : Int) (k : Nat) : Int := n.sign * (min n.natAbs (64 * k / 125) : Nat)

/-- The ticks since tick `a`, and 0 where it lies ahead. -/
def sinceTick (a : Tick) (s : State) : Nat := if due a s then (now s - a).toNat else 0

/-- The clock phase of the present tick, in 1/1024 ns. -/
def phaseNow (s : State) : Int :=
  match s.time.slew with
  | some (a, n) => s.time.phase + slewDone n (sinceTick a s)
  | none => s.time.phase

/-- A slew of the clock phase by `n` in 1/1024 ns begins at tick `a`; what is left of one under way joins it.
[log: 130 DESIGN CHOICE] -/
def slewBegin (a : Tick) (n : Int) (s : State) : State :=
  let left := match s.time.slew with
    | some (b, m) => m - slewDone m (sinceTick b s)
    | none => 0
  { s with time := { s.time with phase := phaseNow s, slew := if left + n = 0 then none else some (a, left + n) } }

/-- A slew that has reached its target ends. -/
def slewTick (s : State) : State :=
  match s.time.slew with
  | some (a, n) =>
    if slewDone n (sinceTick a s) = n then { s with time := { s.time with phase := s.time.phase + n, slew := none } } else s
  | none => s

/-! ### What a step carries -/

/-- A tick moved by a step of `d` ticks.
[log: 12 DEDUCED] -/
def moved (d : Int) (x : Tick) : Tick := x + BitVec.ofInt 40 d

/-- An optional tick moved. -/
def movedO (d : Int) (x : Option Tick) : Option Tick := x.map (moved d)

/-- A history moved. -/
def movedH {α : Type} (d : Int) (h : List (Tick × α)) : List (Tick × α) := h.map (fun e => (moved d e.1, e.2))

/-- An envelope under way, moved. -/
def movedEnv (d : Int) (e : Env) : Env := { e with start := moved d e.start, fin := moved d e.fin }

/-- A tone moved. -/
def movedTone (d : Int) (x : Tone) : Tone := { x with env := x.env.map (movedEnv d) }

/-- A bias output moved. -/
def movedBias (d : Int) (b : Bias) : Bias :=
  { b with
    nextAt := movedO d b.nextAt
    phase := match b.phase with
      | .dwellA f => .dwellA (moved d f)
      | .dwellB f => .dwellB (moved d f)
      | p => p }

/-- A tone slot moved. -/
def movedSlot (d : Int) (x : Slot) : Slot :=
  { x with
    wins := x.wins.map (fun v => { v with t := moved d v.t })
    trn := x.trn.map (fun e => (e.1, moved d e.2))
    probes := movedH d x.probes
    chain := movedH d x.chain
    sets := movedH d x.sets
    counted := movedO d x.counted
    lastPost := movedO d x.lastPost
    detAt := movedO d x.detAt
    fsetAt := movedO d x.fsetAt }

/-- A signal core moved. -/
def movedCore (d : Int) (c : Core) : Core :=
  { c with
    nextAt := moved d c.nextAt
    waitDl := movedO d c.waitDl
    metAt := movedO d c.metAt
    taps := c.taps.map (fun e => (e.1, { e.2 with wrote := e.2.wrote.map (fun q => (moved d q.1, q.2)) }))
    stored := c.stored.map (fun q => (moved d q.1, q.2)) }

/-- A position in FULLTIME moved. -/
def movedPos (d : Int) (p : Int) : Int := p + 16 * d

/-- A Bale moved. -/
def movedBale (d : Int) (b : Bale) : Bale := { b with pos := movedPos d b.pos, first := movedPos d b.first }

/-- A witness engine moved. -/
def movedWit (d : Int) (x : Wit) : Wit :=
  { x with
    armedAt := movedPos d x.armedAt
    enAt := movedPos d x.enAt
    hoEnd := x.hoEnd.map (movedPos d)
    lastEnd := x.lastEnd.map (movedPos d)
    bale := x.bale.map (movedBale d)
    closed := x.closed.map (movedBale d)
    busyTo := x.busyTo + d
    met := x.met.map (fun m => { m with pos := movedPos d m.pos, tick := m.tick + d })
    seen0 := movedPos d x.seen0
    seen1 := movedPos d x.seen1 }

/-- A routine moved. -/
def movedRoutine (d : Int) (r : Routine) : Routine :=
  { r with
    started := moved d r.started
    ended := r.ended.map (fun e => (e.1, e.2.1, moved d e.2.2)) }

/-- A port moved. -/
def movedPort (d : Int) (p : Port) : Port :=
  { p with phaseAt := moved d p.phaseAt, lastMsg := movedO d p.lastMsg, missAt := movedO d p.missAt }

/-- The Gleaner moved. -/
def movedGleaner (d : Int) (g : Gleaner) : Gleaner :=
  { g with
    run := g.run.map (fun e => (e.1, { e.2 with fin := moved d e.2.fin }))
    last := g.last.map (fun e => (e.1, moved d e.2))
    started := g.started.map (fun e => (e.1, moved d e.2)) }

/-- Thermal management moved. -/
def movedTherm (d : Int) (x : Therm) : Therm :=
  { x with
    schedAt := movedO d x.schedAt
    shutAt := movedO d x.shutAt
    graceAt := movedO d x.graceAt
    offAt := movedO d x.offAt
    railBad := x.railBad.map (fun e => (e.1, moved d e.2)) }

/-- What runs on in elapsed time keeps its distance from the present across a step of `d` ticks (R59, R451, log entry 12):
schedules of the analogue and housekeeping blocks, timers, and the start ticks of stopped sequencers. Ticks that a program
or the host states are left as they stand.
[log: 12 DEDUCED] -/
def shiftAll (d : Int) (s : State) : State :=
  { s with
    lbReq := s.lbReq.map (fun e => (moved d e.1, e.2))
    lbResume := movedO d s.lbResume
    armAfter := movedO d s.armAfter
    safePend := movedO d s.safePend
    holdHist := movedH d s.holdHist
    lbHist := movedH d s.lbHist
    ballHist := movedH d s.ballHist
    seqs := s.seqs.map (fun e => (e.1, { e.2 with
      start := if e.2.st == .stopped then moved d e.2.start else e.2.start
      cursor := if e.2.st == .stopped then moved d e.2.cursor else e.2.cursor
      hzn := if e.2.st == .stopped then moved d e.2.hzn else e.2.hzn
      roomAt := movedO d e.2.roomAt
      resumeB := moved d e.2.resumeB, quietTo := movedO d e.2.quietTo, quietAt := moved d e.2.quietAt }))
    drv := s.drv.map (fun e => (e.1, movedTone d e.2))
    prb := s.prb.map (fun e => (e.1, movedTone d e.2))
    flux := s.flux.map (fun e => (e.1, { e.2 with
      env := e.2.env.map (movedEnv d)
      hold := e.2.hold.map (fun h => (moved d h.1, h.2)) }))
    outs := s.outs.map (fun e => (e.1, { e.2 with
      crcAt := moved d e.2.crcAt
      ball := e.2.ball.map (fun b => (b.1, moved d b.2)) }))
    barriers := s.barriers.map (fun e => (e.1, { e.2 with lastRel := none }))
    bias := s.bias.map (fun e => (e.1, movedBias d e.2))
    adcs := s.adcs.map (fun e => (e.1, { e.2 with
      settle := movedO d e.2.settle, cal := movedO d e.2.cal, rotFrom := none, marks := movedH d e.2.marks }))
    slots := s.slots.map (fun e => (e.1, movedSlot d e.2))
    halves := s.halves.map (fun e => (e.1, { e.2 with flushAt := moved d e.2.flushAt }))
    bus := s.bus.map (fun p => { p with at_ := moved d p.at_ })
    gran := { s.gran with made := s.gran.made.map (fun r => { r with at_ := moved d r.at_ }) }
    cores := s.cores.map (fun e => (e.1, movedCore d e.2))
    binder := { s.binder with
      goAt := movedO d s.binder.goAt
      decs := s.binder.decs.map (fun e => (e.1, { e.2 with at_ := moved d e.2.at_ })) }
    wits := s.wits.map (fun e => (e.1, movedWit d e.2))
    log := { s.log with half := s.log.half.map (fun e => (e.1, { e.2 with flushAt := moved d e.2.flushAt })) }
    ce := { s.ce with
      cur := s.ce.cur.map (movedRoutine d)
      parked := s.ce.parked.map (fun e => (e.1, movedRoutine d e.2))
      handlers := s.ce.handlers.map (fun h => (h.1, moved d h.2)) }
    fabric := { s.fabric with fires := s.fabric.fires.map (fun f => { f with at_ := moved d f.at_ }) }
    ports := s.ports.map (fun e => (e.1, movedPort d e.2))
    fed := { s.fed with seen := s.fed.seen.map (fun e => (e.1, moved d e.2)) }
    pair := { s.pair with
      items := s.pair.items.map (fun i => { i with made := moved d i.made })
      twinHalf := s.pair.twinHalf.map (fun e => (e.1, moved d e.2))
      lastDiverge := movedO d s.pair.lastDiverge
      startAt := movedO d s.pair.startAt }
    mon := { s.mon with
      ovl := s.mon.ovl.map (fun e => (e.1, moved d e.2))
      urgent := s.mon.urgent.map (fun r => { r with at_ := moved d r.at_ })
      cur := s.mon.cur.map (fun c => { c with fin := moved d c.fin }) }
    senses := s.senses.map (fun e => (e.1, { e.2 with readyAt := movedO d e.2.readyAt }))
    therm := movedTherm d s.therm
    glean := movedGleaner d s.glean
    sec := { s.sec with safeAt := moved d s.sec.safeAt }
    time := { s.time with
      slew := s.time.slew.map (fun q => (moved d q.1, q.2))
      shifts := s.time.shifts.map (fun q => (moved d q.1, q.2))
      pulseEnd := movedO d s.time.pulseEnd
      lastEdge := s.time.lastEdge.map (fun p => BitVec.ofNat 64 (((p.toNat : Int) + 16 * d) % (2 ^ 44 : Nat)).toNat)
      refAt := movedO d s.time.refAt
      ptmOut := movedO d s.time.ptmOut
      ptmNext := movedO d s.time.ptmNext }
    agenda := s.agenda.map (fun e => (moved d e.1, e.2)) }

/-! ### Steps (R58-R61, R451) -/

/-- A step is requested at the present tick: pending, and quiet at once where no sequencer is inside a shot. -/
def requestStep (k : StepKind) (phase : Int) (sync : Bool) (s : State) : State :=
  let s := { s with time := { s.time with req := some { kind := k, phase := phase, at_ := now s, sync := sync } } }
  reasonsUpdate (stepQuiet (putB oTimeStatus 7 true s))

/-- The next scheduled pulse of SYNC_OUT at or after tick `x` (R64).
[log: 119 DEDUCED] -/
def nextFire (x : Tick) (s : State) : Option Tick :=
  let f := getR oSyncOutTime s
  let p := (getR oSyncOutPeriod s).toNat
  if fR oSyncOutCtl 1 0 s ≠ 1 then none
  else if notBefore f x then some f
  else if p = 0 then none
  else some (plus f (((x - f).toNat + p - 1) / p * p))

/-- The schedule of SYNC_OUT after a step from `old` to the present time (R60): a pulse that a forward step passes over does
not fire.
[log: 131 DESIGN CHOICE] -/
def fireAfterStep (old : Tick) (s : State) : State :=
  match s.time.fireNext with
  | some x =>
    let s := if notBefore x old && !notBefore x (now s) then putB oSyncOutCtl 13 true s else s
    { s with time := { s.time with fireNext := nextFire (now s) s } }
  | none => s

/-- The Binder at a time step (R224): no set with members is complete until its next decision. -/
def binderStep (s : State) : State :=
  foldS (fun e s =>
    let j := e.1
    if nMem j s = 0 then s
    else
      let s := cancelSet j (abandonRound j s)
      decsBreak j (setPset j { pset j s with st := .empty, shown := false, seqP := none } s)) s.binder.sets s

/-- The change of FULLTIME that a request makes, at its step tick `x`, in ticks. -/
def stepChange (r : StepReq) (x : Tick) (s : State) : Int :=
  match r.kind with
  | .load f => f.toNat - (fullTime s - BitVec.ofNat 64 (now s - x).toNat).toNat
  | .shift n => n
  | .acquire n => n

/-- The step tick S of a pending request: the first CK3 edge after Q (R59).
[log: 101 DEDUCED] -/
def stepAt (r : StepReq) : Option Tick := r.quiet.map ck3After

/-- A pending step is applied at S (R58-R60, R451); in READY, sequencers resume 10,000 ticks on.
[log: 101 DEDUCED] -/
def applyStep (r : StepReq) (x : Tick) (s : State) : State :=
  let d := stepChange r x s
  let old := now s
  let f := BitVec.ofInt 64 ((fullTime s).toNat + d)
  let s := shiftAll d (witStopAll true s)
  let s := setFull f { s with down := [] }
  let x' := moved d x
  let wide := decide (d < -(2 ^ 39 : Nat)) || decide ((2 ^ 39 : Nat) - 1 < d)
  let ep := BitVec.ofNat 24 ((f - BitVec.ofNat 64 (old - x).toNat).toNat / 2 ^ 40)
  let s := recordAt x' ep 0 [] 0 0x205 (b2n wide) (wi d) s
  let s := binderStep (fireAfterStep old s)
  let s := if r.sync then putB oSyncInStat 2 false s else s
  let s := { s with time := { s.time with
    shifts := (x', d) :: s.time.shifts
    req := none, resume := if s.life = .ready then some (plus x' 10000) else none,
    stepAcq := acqReq r } }
  let s := slewBegin x' r.phase s
  reasonsUpdate (putB oTimeStatus 7 false s)

/-- TIME_STEP: a pending step at its tick S. -/
def timeStepRow (s : State) : State :=
  match s.time.req with
  | some r =>
    match stepAt r with
    | some x => if due x s && s.time.counting && (s.life == .safe || s.life == .ready) then applyStep r x s else s
    | none => s
  | none => s

/-- TIME_STEP_WAIT: a step still pending after 1 ms writes its record once (R61). -/
def timeStepWaitRow (s : State) : State :=
  match s.time.req with
  | some r =>
    if !r.waited && due (plus r.at_ 1000000) s then
      record 0 0x206 0 0 { s with time := { s.time with req := some { r with waited := true } } }
    else s
  | none => s

/-- A completion notice that waited for ACQUIRED goes out once, with A_d the present tick (R93). -/
def barHeld (b : Nat) (s : State) : State :=
  let q := barrier b s
  if q.localAt.isSome && !q.sent && q.release.isNone && barRemote b s then
    let ad := now s
    let own := if (barMask b s).testBit (devNum s) then tput (devNum s) ad q.notices else q.notices
    barCheck ad b (barSend b ad (setBarrier b { q with localAt := some ad, notices := own, sent := true } s))
  else s

/-- An acquisition is complete and tracking begins (R68, R335), unless TIME_ERR, which TIME_REACQUIRE alone clears, keeps it stopped
(R69); the completion notices that waited go out (R93).
[log: 103 DEDUCED, 146 DEDUCED] -/
def acquired (s : State) : State :=
  let s := { s with time := { s.time with acquiring := false } }
  let s := s |> putB oTimeStatus 6 true |> putB oTimeStatus 5 (!bR oTimeStatus 3 s)
  foldS (fun e s => barHeld e.1 s) s.barriers s

/-- TIME_STEP_RESUME: 10,000 ticks after S the stopped sequencers may resume, witness engines re-arm (R59, R60), and an
acquisition that made the step is complete (R68).
[log: 103 DEDUCED] -/
def timeStepResumeRow (s : State) : State :=
  match s.time.resume with
  | some x =>
    if due x s then
      let acq := s.time.acquiring && s.time.stepAcq
      let s := witArmAll x { s with time := { s.time with resume := none, stepAcq := false } }
      reasonsUpdate (if acq then acquired s else s)
    else s
  | none => s

/-- An acquisition from an offset in 1/1024 ns (R68): no step below 500 ps, else a step of −N ticks and a phase of −r. -/
def acquire (off : Int) (s : State) : State :=
  if off.natAbs * 1000 < 500 * 1024 then acquired s
  else
    let n := (off + 5 * 1024) / (10 * 1024) * 10
    let r := off - n * 1024
    requestStep (.acquire (-n)) (-r) false (putB oTimeStatus 6 false s)

/-! ### SYNC_IN and SYNC_OUT (R62-R64) -/

/-- An armed edge may request its step: in SAFE and in READY, where FEDERATED is not in force and no other step is pending (R58, R63).
[log: 132 DESIGN CHOICE] -/
def mayLoad (s : State) : Bool :=
  (s.life == .safe || (s.life == .ready && !federated s)) && s.time.req.isNone

/-- A rising edge of SYNC_IN at the present tick, sample offset `o`; none counts before the entry to SAFE (R62, R63, R437).
[log: 133 DESIGN CHOICE] -/
def syncEdge (o : Nat) (s : State) : State :=
  if !bR oSyncInStat 0 s || s.life == .staging then s
  else
    let p := samplePos (now s) o
    let near := match s.time.lastEdge with
      | some e => decide (0 ≤ posDiff p e.toNat) && decide (posDiff p e.toNat < 1600)
      | none => false
    if near then bump oSyncInStat 23 8 s
    else
      let s := { s with time := { s.time with lastEdge := some (BitVec.ofNat 64 p) } }
      if 16 ≤ s.time.fifo.length then
        { s with time := { s.time with overflowed := true } } |> bump oSyncInStat 39 24
          |> recordIf (!s.time.overflowed) 0 0x207 0 0
      else
        let s := { s with time := { s.time with fifo := s.time.fifo ++ [⟨now s, s.time.epoch, o⟩] } }
        let s := if bR oSyncInStat 1 s then fireProd 5120 (plus (now s) 3) 0 s else s
        if bR oSyncInStat 2 s && mayLoad s then
          let dl := (getR oSyncInCtl s - now s).toInt
          let n := (dl + 5) / 10 * 10
          requestStep (.shift n) ((dl - n) * 1024) true s
        else s

/-- A read of SYNC_IN_STAMP pops the head of the FIFO (R63): the value read and the state after it. -/
def stampPop (s : State) : W40 × State :=
  match s.time.fifo with
  | [] => (0, setR oSyncInInfo (setBit (getR oSyncInInfo s) 4 false) s)
  | e :: t =>
    let s := { s with time := { s.time with fifo := t, overflowed := s.time.overflowed && !t.isEmpty } }
    (e.tick, setR oSyncInInfo (w (e.epoch.toNat * 2 ^ 16 + 2 ^ 4 + e.off)) s)

/-- SYNC_OUT has a pulse of tick `x`: 8 ns, which the ball shows 6 ns later (R64). -/
def pulseStart (x : Tick) (s : State) : State :=
  defer (plus x 14) .pulseEnd (defer (plus x 6) .pulseUp { s with time := { s.time with pulseEnd := some (plus x 8) } })

/-- A pulse of SYNC_OUT ends at its ball. -/
def pulseDown (s : State) : State :=
  { s with
    time := { s.time with pulseEnd := if dueO s.time.pulseEnd s then none else s.time.pulseEnd }
    pins := { s.pins with syncOut := false } }

/-- SYNC_OUT is held low, and no pulse is pending or in progress (MODE 0 and 3 of SYNC_OUT_CTL). -/
def syncOutOff (s : State) : State :=
  let mine := fun (d : Deferred) => d == .syncPulse || d == .pulseUp || d == .pulseEnd
  { s with
    agenda := s.agenda.filter (fun e => !mine e.2)
    time := { s.time with fireNext := none, pulseEnd := none }
    pins := { s.pins with syncOut := false } }

/-- SYNC_OUT_FIRE: TICK equals FIRE_TIME or a later multiple of PERIOD (R64). -/
def syncOutFireRow (s : State) : State :=
  match s.time.fireNext with
  | some x =>
    if due x s && fR oSyncOutCtl 1 0 s == 1 then
      let p := (getR oSyncOutPeriod s).toNat
      let s := pulseStart x s
      { s with time := { s.time with fireNext := if p = 0 then none else some (plus x p) } }
    else s
  | none => s

/-- SYNC_OUT_CTL takes the value `v` (R64). -/
def syncOutCtl (v : W40) (s : State) : State :=
  let s := setR oSyncOutCtl (w ((v.toNat &&& 0x1FF3) + (if bR oSyncOutCtl 13 s && !bit v 13 then 2 ^ 13 else 0))) s
  if fld v 1 0 = 1 then
    if notBefore (getR oSyncOutTime s) (now s) then
      { s with time := { s.time with fireNext := some (getR oSyncOutTime s) } }
    else putB oSyncOutCtl 13 true { s with time := { s.time with fireNext := none } }
  else if fld v 1 0 = 2 then { s with time := { s.time with fireNext := none } }
  else syncOutOff s

/-- SYNC_OUT_TIME takes the value `v`: in SCHEDULED mode a pulse fires when TICK equals the new FIRE_TIME (R64).
[log: 119 DEDUCED] -/
def syncOutTime (v : W40) (s : State) : State :=
  let s := setR oSyncOutTime v s
  if fR oSyncOutCtl 1 0 s = 1 then
    { s with time := { s.time with fireNext := if notBefore v (now s) then some v else none } }
  else s

/-- SYNC_OUT receives the event of a firing at tick `x` in EVENT mode at `x` + 1: the pulse follows 2 ticks after the firing, unless one is
pending or in progress as the event arrives (R64, R312, R313). -/
def syncOutEvent (x : Tick) (s : State) : State :=
  let busy := s.time.pulseEnd.any (fun e => !notBefore (plus x 1) e) || s.agenda.any (fun e => e.2 == .syncPulse)
  if busy then bump (oEvInCnt 1728) 19 0 s else defer (plus x 2) .syncPulse s

/-! ### PTM (R65, R66) -/

/-- A PTM dialog begins. -/
def ptmBegin (s : State) : State :=
  if s.host.ptmOn then
    let i := fR oPtmCtl 15 0 s
    { s with time := { s.time with
        ptmOut := some (now s)
        ptmNext := if i = 0 then none else some (plus (now s) (1000 * i)) } }
  else s

/-- No Response within 10 µs. -/
def ptmLost (s : State) : State :=
  match s.time.ptmOut with
  | some x =>
    if due (plus x 10000) s then record 0 0x208 0 0 { s with time := { s.time with ptmOut := none } } else s
  | none => s

/-- The pair of a Response that arrives at the present tick to a Request of tick `x` (R65): the root complex took the Request in at its
master time `host` and answered `turn` ns later, so half of the round trip without that turn has passed since the answer. -/
def ptmPairOf (x : Tick) (turn : BitVec 32) (host : BitVec 64) (s : State) : PtmPair :=
  { tick := now s, epoch := s.time.epoch, seq := (s.time.ptmCount + 1) % 65536
    host := BitVec.ofInt 64 ((host.toNat : Int) + turn.toNat + (sinceTick x s - turn.toNat) / 2) }

/-- A Response within 10 µs forms a correlated pair, which SEQ counts; one that comes later is none, and its dialog fails (R65, R66).
SEQ counts the dialogs that have formed a pair.
[log: 147 DESIGN CHOICE] -/
def ptmPairIn (turn : BitVec 32) (host : BitVec 64) (s : State) : State :=
  match s.time.ptmOut with
  | some x =>
    if due (plus x 10001) s then ptmLost s
    else
      let p := ptmPairOf x turn host s
      { s with time := { s.time with ptmOut := none, ptmCount := p.seq, ptm := p } }
  | none => s

/-- A read of PTM_TICK latches the rest of the same pair (R66): the value read and the state after it. -/
def ptmLatch (s : State) : W40 × State :=
  let p := s.time.ptm
  (p.tick, s |> setR oPtmInfo (w (p.epoch.toNat * 2 ^ 16 + p.seq)) |> setR oPtmHostLo (w (p.host.toNat % 2 ^ 32))
    |> setR oPtmHostHi (w (p.host.toNat / 2 ^ 32)))

/-- A read of TICK_NOW copies EPOCH into EPOCH_LATCH (R56). -/
def tickNowRead (s : State) : W40 × State := (now s, setR oEpochLatch (w s.time.epoch.toNat) s)

end Sys2Proof.Machine
end

