-- ==== Sys2Proof/Machine/TimeFam.lean ====
section
/-! DEFINITION. The commands of shared time that are events: time steps, SYNC_IN edges, SYNC_OUT pulses, PTM dialogs, and the
limit of DEV_ENTER_SAFE (R30, R59-R66). -/

namespace Sys2Proof.Machine

/-- SYNC_IN_EDGE: a rising edge at a sample offset of the present tick, while CK0 runs (R62). -/
def syncInEdgeRow (off : Nat) (s : State) : State := if s.time.counting then syncEdge (off % 16) s else s

/-- PTM_DIALOG: the periodic dialog begins once INTERVAL µs have passed since the last one (R65).
[log: 38 DEDUCED] -/
def ptmDialogRow (s : State) : State :=
  let first := s.time.ptmNext.isNone
  if fR oPtmCtl 15 0 s != 0 && s.time.ptmOut.isNone && (first || dueO s.time.ptmNext s) then ptmBegin s else s

/-- DEV_ENTER_SAFE_TIMEOUT: 100 ms after DEV_ENTER_SAFE began (R30). -/
def enterSafeTimeoutRow (s : State) : State :=
  match s.safePend with
  | some t => if s.life == .ready && due (plus t 100000000) s then enterSafeForced s else s
  | none => s

/-- TIME_STEP. -/
def execTimeStep (s : State) : Host.Outcome State Fault Refusal := .next (timeStepRow s)
/-- TIME_STEP_RESUME. -/
def execTimeStepResume (s : State) : Host.Outcome State Fault Refusal := .next (timeStepResumeRow s)
/-- TIME_STEP_WAIT. -/
def execTimeStepWait (s : State) : Host.Outcome State Fault Refusal := .next (timeStepWaitRow s)
/-- SYNC_IN_EDGE. -/
def execSyncInEdge (off : Nat) (s : State) : Host.Outcome State Fault Refusal := .next (syncInEdgeRow off s)
/-- SYNC_OUT_FIRE. -/
def execSyncOutFire (s : State) : Host.Outcome State Fault Refusal := .next (syncOutFireRow s)
/-- PTM_DIALOG. -/
def execPtmDialog (s : State) : Host.Outcome State Fault Refusal := .next (ptmDialogRow s)
/-- PTM_RESPONSE: the Response carries the root complex's turn, and its master time as two words. -/
def execPtmResponse (turn hi lo : BitVec 32) (s : State) : Host.Outcome State Fault Refusal :=
  .next (ptmPairIn turn (hi ++ lo) s)
/-- PTM_FAIL. -/
def execPtmFail (s : State) : Host.Outcome State Fault Refusal := .next (ptmLost s)
/-- DEV_ENTER_SAFE_TIMEOUT. -/
def execDevEnterSafeTimeout (s : State) : Host.Outcome State Fault Refusal := .next (enterSafeTimeoutRow s)

end Sys2Proof.Machine
end

