-- ==== Sys2Proof/Machine/CeFam.lean ====
section
/-! DEFINITION. The routines of the Ceari engine: device, ring, load, witness, security and NVM opcodes (Table 14.4; R29, R30,
R58, R68, R99, R117, R118, R245, R259, R277-R279, R346, R396-R403). -/

namespace Sys2Proof.Machine

/-! ### Device commands -/

/-- ECHO. -/
def doEcho (s : State) : State := opRun 0x000 (fun r s => finish 0 r.params s) s

/-- DEV_INFO. -/
def doDevInfo (s : State) : State := opRun 0x001 (fun _ s => finish 0 ((upTo 4).map (fun i => identWord i s)) s) s

/-- DEV_ENTER_READY (R29). -/
def doEnterReady (s : State) : State :=
  opRun 0x002 (fun _ s => if s.adcs.any (fun e => e.2.cal.isSome) then refuse 1 s else finish 0 [] (enterReady s)) s

/-- DEV_ENTER_SAFE begins: the sequencers inside a shot stop at their boundaries (R30). -/
def doEnterSafe (s : State) : State :=
  opRun 0x003 (fun _ s => quietCheck (reasonsUpdate (park { s with safePend := some (now s) }))) s

/-- TIME_SET (R58). -/
def doTimeSet (s : State) : State :=
  opRun 0x004 (fun r s =>
    let t := prm r 0
    if federated s then refuse 2 s
    else if s.time.req.isSome then refuse 1 s
    else if t.toNat % 10 ≠ 0 then refuse 4 s
    else finish 0 [] (requestStep (.load (BitVec.ofNat 64 (fld (prm r 1) 23 0 * 2 ^ 40 + t.toNat))) 0 false s)) s

/-- The host rejoins: with REACH equal to MEMBERS, ISOLATED clears and FROZEN becomes MEMBERS (R337).
[log: 55 DEDUCED] -/
def rejoinFed (s : State) : State :=
  if fR oFedReach 15 0 s = fR oFedStatus 31 16 s then
    putF oFedReach 31 16 (fR oFedStatus 31 16 s) (putB oFedStatus 1 false s)
  else s

/-- A follower begins to acquire time anew: its holdover ends (R68, R71, R345). -/
def beginAcquire (s : State) : State :=
  putF oTimeStatus 6 4 0 { s with
    time := { s.time with acquiring := true, stepAcq := false }, fed := { s.fed with depthBad := false } }

/-- TIME_REACQUIRE (R68, R69, R71, R337): it alone clears TIME_ERR, and holdover ends. The time master has no upstream port.
[log: 55 DEDUCED] -/
def doReacquire (s : State) : State :=
  opRun 0x005 (fun _ s =>
    if !federated s then refuse 2 s
    else
      let s := putF oTimeStatus 4 3 0 (rejoinFed s)
      finish 0 [] (if fR oTimeStatus 2 0 s = 1 then s else beginAcquire s)) s

/-! ### Rings (R277-R280, R346) -/

/-- A half-filled slot that waits for ring `n`. -/
def halvesOf (n : Nat) (s : State) : List Nat := (s.halves.filter (fun e => e.2.ring == n)).map (fun e => e.1)

/-- Engines with an open Bale for ring `n`. -/
def balesOf (n : Nat) (s : State) : List Nat :=
  (s.wits.filter (fun e => e.2.bale.any (fun b => baleRing b == n))).map (fun e => e.1)

/-- Packets taken from ring `n`, or whose reply goes to it, and not answered. -/
def packetsOf (n : Nat) (s : State) : Bool :=
  ((match s.ce.cur with | some r => [r] | none => []) ++ heldRoutines s).any
    (fun r => r.ring == n || replyRing (ring r.ring s) == n)

/-- Ring `n` is quiet (R278). -/
def ringQuiet (n : Nat) (s : State) : Bool :=
  level (ring n s) == 0 && (balesOf n s).isEmpty && (halvesOf n s).isEmpty && !packetsOf n s

/-- RING_ASSIGN. -/
def doRingAssign (s : State) : State :=
  opRun 0x101 (fun r s =>
    let n := r.target
    let v := prm r 0
    if bit v 0 && !bR oSecDomains (fld v 4 1) s then refuse 3 s
    else if (ring n s).length ≠ 0 then refuse 1 s
    else finish 0 [] (setRing n { ring n s with owner := fld v 4 1, secure := bit v 0 } s)) s

/-- A ring that reads a source ring: HOST or MIRROR. -/
def drains (type : Nat) : Bool := type == 5 || type == 6

/-- Clears DRAINED in the source that ring `n`, described by `x`, names, where it is set for that ring. -/
def undrain (n : Nat) (x : Ring) (s : State) : State :=
  let g := ring (srcRing x) s
  if drains x.type && g.drained && g.drainer == n then setRing (srcRing x) { g with drained := false } s else s

/-- The descriptor words 6..8 that a type keeps (Table 13.1, R284, R347). -/
def typeWords (type : Nat) (w6 w7 w8 : W40) : W40 × W40 × W40 :=
  match type with
  | 0 => (w (fld w6 19 0), 0, 0)
  | 5 => (w (fld w6 39 33 * 2 ^ 33 + fld w6 19 0), 0, w (fld w8 19 0))
  | 6 => (w6, w (fld w7 23 0), w (fld w8 19 0))
  | _ => (0, 0, 0)

/-- What a RING_CONFIG asks for. -/
structure RingAsk where
  type : Nat
  vector : Nat
  watermark : Nat
  w6 : W40
  w7 : W40
  w8 : W40

/-- The parameters of a RING_CONFIG (Table 14.4). -/
def ringAsk (r : Routine) : RingAsk :=
  let t := fld (prm r 0) 39 37
  let (a, b, c) := typeWords t (prm r 2) (prm r 3) (prm r 4)
  ⟨t, fld (prm r 0) 36 26, fld (prm r 1) 29 0, a, b, c⟩

/-- Ring `n` takes up reading a source under this configuration: it is to set DRAINED anew (R279).
[log: 46 DEDUCED] -/
def takesSource (n : Nat) (q : RingAsk) (s : State) : Bool :=
  let x := ring n s
  let g := ring (srcRing x) s
  drains q.type && !(q.type == x.type && q.w8 == x.w8 && (x.length != 0 || (g.drained && g.drainer == n)))

/-- Why RING_CONFIG of ring `n` by domain `m` is refused (Table 13.3, R279, R346, R406, R450).
[log: 46 DEDUCED] -/
def ringConfigRefusal (m n : Nat) (q : RingAsk) (s : State) : Option Nat :=
  let x := ring n s
  let g := fld q.w8 19 0
  let y := ring g s
  let take := takesSource n q s
  if (take || q.type == 5) && (y.owner != x.owner || !mayAct m y.owner y.secure) then some 3
  else if x.length != 0 && (q.type != x.type || (q.type == 6 && (q.w6 != x.w6 || q.w7 != x.w7)) || (drains q.type && q.w8 != x.w8))
    then some 1
  else if take && (!ringQuiet g s || (y.drained && y.drainer != n) || x.length != 0) then some 1
  else if q.type = 7 then some 4
  else if q.watermark ≠ 0 ∧ fR (oVecAlloc x.owner) 11 0 s ≤ q.vector then some 4
  else if drains q.type && !(1 ≤ y.type && y.type ≤ 4) then some 4
  else if q.type = 5 ∧ (nPorts s ≤ fld q.w6 35 33 ∨ fld q.w6 39 36 = devNum s) then some 4
  else none

/-- RING_CONFIG.
[log: 45 DEDUCED] -/
def doRingConfig (s : State) : State :=
  opRun 0x102 (fun r s =>
    let n := r.target
    let q := ringAsk r
    match ringConfigRefusal r.dom n q s with
    | some c => refuse c s
    | none =>
      let x := ring n s
      let take := takesSource n q s
      let s := if take || (drains x.type && q.type != x.type) then undrain n x s else s
      let s := if take then setRing (fld q.w8 19 0) { ring (fld q.w8 19 0) s with drained := true, drainer := n } s else s
      let x := ring n s
      finish 0 [] (setRing n { x with
        type := q.type, vector := q.vector, watermark := q.watermark, wmArmed := true, w6 := q.w6, w7 := q.w7, w8 := q.w8,
        base := if drains q.type then 0 else x.base } s)) s

/-- The body [base, base + 40 × length) of a ring with `dom` and `sec` lies where R272 puts it. -/
def bodyPlace (base len : Nat) (s : State) : Bool :=
  base % 8 == 0 && (len == 0 || (decide (0x04000000 ≤ base) && decide (base + 40 * len ≤ memEnd s)))

/-- The body overlaps that of another ring with nonzero LENGTH. -/
def bodyOverlap (n base len : Nat) (s : State) : Bool :=
  len != 0 && s.gran.rings.any (fun e => e.1 != n && hasBody e.2 && decide (e.2.base < base + 40 * len)
    && decide (base < e.2.base + 40 * e.2.length))

/-- Every byte of [a, b) satisfies `p` of its owner; the descriptor table is domain 0's (R268). -/
def bodyAll (p : Nat × Bool → Bool) (a b : Nat) (s : State) : Bool :=
  (decide (0x04000000 ≤ a) || decide (b ≤ a) || p (0, false)) &&
    (let lo := max a 0x04000000
     decide (b ≤ lo) || blocksAll p lo (b - lo) s)

/-- Why RING_RESIZE is refused, in the order of R450 (Table 13.3, R272, R346): a body in memory of another domain; a ring that is not quiet; a
LENGTH that the type does not take; a body outside R272, or on another ring's. -/
def resizeRefusal (n base len : Nat) (force : Bool) (s : State) : Option Nat :=
  let x := ring n s
  let hi := min (base + 40 * len) (memEnd s)
  if !drains x.type && !bodyAll (fun o => o.1 == x.owner) base hi s then some 3
  else if !force && !ringQuiet n s then some 1
  else if x.type = 5 then (if 1 < len then some 4 else none)
  else if x.type = 6 then none
  else if !bodyPlace base len s || !bodyAll (fun o => o.2 == x.secure) base hi s || bodyOverlap n base len s then some 4
  else none

/-- The open Bale of engine `e` for ring `n` is abandoned: it is not made, and takes its BALE_NO; in continuous mode the next one carries GAP
and follows its last sample (R260, R262, R278). -/
def baleAbandon (n e : Nat) (s : State) : State :=
  match (wit e s).bale with
  | some b =>
    if baleRing b = n then witArm (now s) e (baleNotMade e (baleTakes e b s) (setWit e { wit e s with bale := none } s)) else s
  | none => s

/-- What closed Bales still write in ring `n` is discarded with its slots. -/
def balesGone (n : Nat) (s : State) : State :=
  foldS (fun e s => setWit e.1 { wit e.1 s with closed := e.2.closed.filter (fun b => baleRing b != n) } s) s.wits s

/-- A forced resize drops what waits for ring `n` (R278). -/
def ringDiscard (n : Nat) (s : State) : State :=
  let x := ring n s
  let s := foldS (baleAbandon n) (balesOf n s) s
  let s := foldS (fun k s => producerDrop k (delHalf k s)) (halvesOf n s) s
  let keep := fun (r : Routine) => if r.ring = n then { r with consume := false } else r
  let s := { s with ce := { s.ce with cur := s.ce.cur.map keep, parked := s.ce.parked.map (fun e => (e.1, keep e.2)) } }
  if x.secure && hasBody x then setMem (zeroRange x.base (x.base + 40 * x.length) s.gran.mem) s else s

/-- RING_RESIZE; `e` is what the code finds in the descriptor.
[log: 44 DEDUCED] -/
def doRingResize (e : Ecc) (s : State) : State :=
  opRun 0x103 (fun r s =>
    let n := r.target
    let base := (prm r 0).toNat
    let len := fld (prm r 1) 29 0
    let force := r.flags.testBit 0
    match resizeRefusal n base len force s with
    | some c => refuse c s
    | none =>
      let s := eccCount e (64 * n) (some n) s
      if eccBad e then finish 9 [] (setRing n { ring n s with eccStop := true } s)
      else
        let x := ring n s
        let forced := !ringQuiet n s
        let items := (balesOf n s).length + (halvesOf n s).length
        let s := balesGone n (if forced then ringDiscard n s else s)
        let zeroed := if forced && x.secure && hasBody x then x.length else 0
        let s := { s with ce := { s.ce with cur := s.ce.cur.map (fun r => { r with zeroed := zeroed }) } }
        let s := if len = 0 ∧ x.length ≠ 0 then undrain n x s else s
        let x' := ring n s
        let s := setRing n { x' with
          base := if drains x.type then 0 else base, length := len, tail := 0, head := 0, forced := forced,
          eccStop := false } s
        let s := { s with ce := { s.ce with list := s.ce.list.filter (fun m => m != n) } }
        finish 0 [w (level x), w items] (watermark n s)) s

/-- RING_CLEAR. -/
def doRingClear (s : State) : State :=
  opRun 0x104 (fun r s =>
    finish 0 [] (setRing r.target { ring r.target s with fullDrops := 0, disDrops := 0, lastDrop := 0 } s)) s

/-- The descriptor of ring `n` holds an error that the code cannot correct: the stop of a HOST ring can also come from a slot that it drained. -/
def descrBad (n : Nat) (s : State) : Bool := (ring n s).eccStop && (ring n s).type != 6

/-- RING_QUERY: the descriptor's words, or MEM_ERROR where the code cannot correct it (R267). -/
def doRingQuery (s : State) : State :=
  opRun 0x105 (fun r s =>
    let n := r.target
    if descrBad n s then finish 9 [] (eccCount (.uncorrectable 0) (64 * n) (some n) s) else finish 0 (descrWords (ring n s)) s) s

/-! ### Loads and reads (R98, R99, R117, R118, R191, R221, R245) -/

/-- Check 8 of a load or read of `n` words of 5 bytes at BUFFER: its rules in the order of R450; with a BUFFER that passes, a count of 0 is
OK (R298). -/
def loadCheck (r : Routine) (n : Nat) (busy bad : Bool) (s : State) : Option Nat :=
  match bufferCheck r (prm r 0).toNat (5 * n) s with
  | some 3 => some 3
  | some _ => if busy then some 1 else some 4
  | none => if n = 0 then none else if busy then some 1 else if bad then some 4 else none

/-- Words written into a sparse memory from index `i` on. -/
def fillTab (i : Nat) : List W40 → Tab W40 → Tab W40
  | [], t => t
  | v :: vs, t => fillTab (i + 1) vs (tset 0 i v t)

/-- The words of a sparse memory from index `i` on. -/
def tabWords (i n : Nat) (t : Tab W40) : List W40 := (upTo n).map (fun k => tget 0 (i + k) t)

/-- The unbounded BRs of an instruction memory, by their first and second words (R117). -/
def unbounded (m : Tab W40) : List (W40 × W40) :=
  (m.filter (fun e => decide (e.1 < 8191) && fld e.2 39 34 == 0x12 && fld e.2 33 32 != 0 && bit (tget 0 (e.1 + 1) m) 9)).map
    (fun e => (e.2, tget 0 (e.1 + 1) m))

/-- An unbounded BR that a load refuses: SRC 2 or 3, or another device's index (R117). -/
def unbRefused (dev : Nat) (b : W40 × W40) : Bool := fld b.1 33 32 != 1 || fld b.2 39 36 != dev

/-- SEQ_LOAD. -/
def doSeqLoad (e : Ecc) (s : State) : State :=
  opRun 0x301 (fun r s =>
    let g := r.target
    let first := (prm r 1).toNat
    let n := (prm r 2).toNat
    let st := (seq g s).st
    match loadCheck r n (!(st == .idle || st == .done || st == .faulted)) (decide (8192 < first + n)) s with
    | some c => refuse c s
    | none =>
      if n = 0 then finish 0 [] s
      else withBuf e (prm r 0).toNat n (fun ws s =>
        let m := fillTab first ws (seq g s).imem
        let us := unbounded m
        if us.any (unbRefused (devNum s)) then refuse 4 s
        else finish 0 [] (modSeq g (fun q => { q with
          imem := m, unbHeld := !us.isEmpty, unbDev := if us.isEmpty then q.unbDev else devNum s }) s)) s) s

/-- SEQ_READ. -/
def doSeqRead (s : State) : State :=
  opRun 0x302 (fun r s =>
    let first := (prm r 1).toNat
    let n := (prm r 2).toNat
    match loadCheck r n false (decide (8192 < first + n)) s with
    | some c => refuse c s
    | none => finish 0 [] (putBuf (prm r 0).toNat (tabWords first n (seq r.target s).imem) s)) s

/-- WAVE_LOAD (R98, R293): every word acts as it is written, and the progress counts them; this step writes the next words of BUFFER, as many as `x`
says or are left. -/
def doWaveLoad (x : LoadTurn) (s : State) : State :=
  opRun 0x303 (fun r s =>
    let first := (prm r 1).toNat
    let n := (prm r 2).toNat
    let p := r.progress.toNat
    match (if p = 0 then loadCheck r n false (decide (2097152 < first + n)) s else none) with
    | some c => refuse c s
    | none => withBuf x.ecc ((prm r 0).toNat + 5 * p) (min x.words (n - p)) (fun ws s =>
        let s := progressRoutine 0x303 (w (p + ws.length)) { s with wave := fillTab (waveKey r.target (first + p)) ws s.wave }
        if p + ws.length = n then finish 0 [] s else s) s) s

/-- WAVE_READ. -/
def doWaveRead (s : State) : State :=
  opRun 0x304 (fun r s =>
    let first := (prm r 1).toNat
    let n := (prm r 2).toNat
    match loadCheck r n false (decide (2097152 < first + n)) s with
    | some c => refuse c s
    | none => finish 0 [] (putBuf (prm r 0).toNat (tabWords (waveKey r.target first) n s.wave) s)) s

/-- A core may be loaded and read: IDLE, HALTED or FAULTED (R245). -/
def coreLoadable (k : Nat) (s : State) : Bool :=
  (core k s).st == .idle || (core k s).st == .halted || (core k s).st == .faulted

/-- Instructions written into a program memory, two words each (R229). -/
def fillProg (i : Nat) : List W40 → Tab (BitVec 80) → Tab (BitVec 80)
  | a :: b :: vs, t => fillProg (i + 1) vs (tset 0 i (a ++ b) t)
  | _, t => t

/-- The words of `n` instructions of a program memory. -/
def progWords (i n : Nat) (t : Tab (BitVec 80)) : List W40 :=
  (upTo n).flatMap (fun k => let v := tget 0 (i + k) t; [w (v.toNat / 2 ^ 40), w v.toNat])

/-- Check 8 of CORE_LOAD and CORE_READ. -/
def coreCheck (r : Routine) (s : State) : Option Nat :=
  let first := (prm r 1).toNat
  let n := (prm r 2).toNat
  let sp := (prm r 3).toNat
  loadCheck r (spaceWords sp n) (!coreLoadable r.target s)
    (decide (2 < sp) || decide ((if sp = 0 then 8192 else 16384) < first + n)) s

/-- CORE_LOAD. -/
def doCoreLoad (e : Ecc) (s : State) : State :=
  opRun 0x305 (fun r s =>
    let k := r.target
    let first := (prm r 1).toNat
    let n := (prm r 2).toNat
    let sp := (prm r 3).toNat
    match coreCheck r s with
    | some c => refuse c s
    | none => withBuf e (prm r 0).toNat (spaceWords sp n) (fun ws s =>
        let c := core k s
        finish 0 [] (setCore k (match sp with
          | 0 => { c with prog := fillProg first ws c.prog }
          | 1 => { c with db0 := fillTab first ws c.db0 }
          | _ => { c with db1 := fillTab first ws c.db1 }) s)) s) s

/-- CORE_READ. -/
def doCoreRead (s : State) : State :=
  opRun 0x306 (fun r s =>
    let c := core r.target s
    let first := (prm r 1).toNat
    let n := (prm r 2).toNat
    match coreCheck r s with
    | some x => refuse x s
    | none =>
      let ws := match (prm r 3).toNat with
        | 0 => progWords first n c.prog
        | 1 => tabWords first n c.db0
        | _ => tabWords first n c.db1
      finish 0 [] (putBuf (prm r 0).toNat ws s)) s

/-- THR_KERNEL_LOAD: the shadow page of a slot. -/
def doKernelLoad (e : Ecc) (s : State) : State :=
  opRun 0x401 (fun r s =>
    let g := r.target
    let first := (prm r 1).toNat
    let n := (prm r 2).toNat
    match loadCheck r n false (decide (4096 < first + n)) s with
    | some c => refuse c s
    | none => withBuf e (prm r 0).toNat n (fun ws s =>
        let x := slot g s
        finish 0 [] (setSlot g (if kpage g s then { x with page0 := fillTab first ws x.page0 }
          else { x with page1 := fillTab first ws x.page1 }) s)) s) s

/-- BND_TABLE_LOAD: the shadow page of a decoder. -/
def doTableLoad (e : Ecc) (s : State) : State :=
  opRun 0x402 (fun r s =>
    let d := r.target
    let first := (prm r 1).toNat
    let n := (prm r 2).toNat
    match loadCheck r n false (decide (65536 < first + n)) s with
    | some c => refuse c s
    | none => withBuf e (prm r 0).toNat n (fun ws s =>
        let x := decoder d s
        finish 0 [] (setDecoder d (if x.page then { x with tab0 := fillTab first ws x.tab0 }
          else { x with tab1 := fillTab first ws x.tab1 }) s)) s) s

/-! ### Self-calibration and WIT_STOP -/

/-- ADC_SELF_CAL (R167): it runs for 24 ms from here. -/
def doSelfCal (s : State) : State := opRun 0x201 (fun r s => park (calBegin (now s) r.target s)) s

/-- The engines that WIT_STOP of a routine names (Table 14.4). -/
def stopEngines (r : Routine) (s : State) : List Nat :=
  (upTo (8 * nTiles s)).filter (fun e =>
    (r.target == 0xFFFFFF || e / 8 == r.target) && bR (oWitStatus e) 0 s && mayAct r.dom (tileDom (e / 8) s) (tileSec (e / 8) s))

/-- WIT_STOP: ENABLE clears on the engines named, whose Bales close at once (R259); the routine keeps their number, and none is left to
close. -/
def doWitStop (s : State) : State :=
  opRun 0x501 (fun r s =>
    let es := stopEngines r s
    let s := foldS witOff es s
    park { s with ce := { s.ce with cur := some { r with params := [w es.length], progress := 0 } } }) s

/-! ### NVM (R396, R399, R400, R403) -/

/-- The byte range [a, a + n) lies in the user partition of domain `m` (Table 21.1). -/
def inPartition (m a n : Nat) : Bool := decide (0x2000000 + 0x200000 * m ≤ a) && decide (a + n ≤ 0x2200000 + 0x200000 * m)

/-- Check 8 of an NVM access of `n` bytes at NVM address `a`. -/
def nvmCheck (r : Routine) (a n : Nat) (rd : Bool) (s : State) : Option Nat :=
  let own := inPartition r.dom a n || (rd && r.dom == 0)
  match bufferCheck r (prm r 0).toNat n s with
  | some 3 => some 3
  | c => if n = 0 && c.isNone then none else if !own then some 3 else if c.isSome || decide (0x4000000 < a + n) then some 4 else none

/-- NVM_READ. -/
def doNvmRead (s : State) : State :=
  opRun 0x801 (fun r s =>
    let a := (prm r 1).toNat
    let n := (prm r 2).toNat
    match nvmCheck r a n true s with
    | some c => refuse c s
    | none => finish 0 [] (setMem (wrBytes s.gran.mem (prm r 0).toNat ((upTo n).map (fun i => nvmByte s (a + i)))) s)) s

/-- Bytes of [a, a + n) in its first `k` sectors. -/
def bytesIn (a n k : Nat) : Nat := min n ((a / 0x10000 + k) * 0x10000 - a)

/-- A journaled write begins (R293, R380, R399): a number of sectors that the specification leaves open stands written where
it is interrupted; the journal holds the sector in progress.
[log: 19 DEDUCED, 51 DESIGN CHOICE] -/
def nvmBegin (op a : Nat) (bs : List Byte) (s : State) : State :=
  let k := (Config.freeWord s.free).toNat % (sectors a bs.length)
  let n := bytesIn a bs.length k
  let j := a + n
  let s := takeFree (setNvm (wrBytes s.sec.nvm a (bs.take n)) s)
  park (progressRoutine op (w n) { s with sec := { s.sec with journal := [(j, rdByte s.sec.nvm j)] } })

/-- A journaled write is complete.
[log: 51 DESIGN CHOICE] -/
def nvmCommit (a : Nat) (bs : List Byte) (s : State) : State :=
  setNvm (wrBytes s.sec.nvm a bs) { s with sec := { s.sec with journal := [] } }

/-- The bytes of a buffer. -/
def bufBytes (r : Routine) (n : Nat) (s : State) : List Byte := rdBytes s.gran.mem (prm r 0).toNat n

/-- A routine holds the bytes it has read as words of its parameters, one byte a word. -/
def keepBytes (bs : List Byte) (s : State) : State :=
  { s with ce := { s.ce with cur := s.ce.cur.map (fun r =>
    { r with params := r.params ++ bs.map (fun b => w b.toNat) }) } }

/-- The bytes that a routine keeps behind its first `n` parameters. -/
def keptBytes (n : Nat) (r : Routine) : List Byte := (r.params.drop n).map (fun v => BitVec.ofNat 8 v.toNat)

/-- NVM_WRITE begins. -/
def doNvmWrite (e : Ecc) (s : State) : State :=
  opRun 0x802 (fun r s =>
    let a := (prm r 1).toNat
    let n := (prm r 2).toNat
    match nvmCheck r a n false s with
    | some c => refuse c s
    | none =>
      if n = 0 then finish 0 [] s
      else
        let s := eccCount e (prm r 0).toNat none s
        if eccBad e then finish 9 [] s
        else nvmBegin 0x802 a (bufBytes r n s) (keepBytes (bufBytes r n s) s)) s

/-- The copy that is not running: 0 A, 1 B. -/
def otherCopy (s : State) : Nat := 1 - fR oSecStatus 16 16 s

/-- The checks of Table 21.3 on an image of at most `n` bytes. -/
def bufImageCheck (kind : Nat) (x : ImageAt) (n : Nat) (s : State) : Option Nat :=
  if n < imgLength x then some 1 else imgCheck kind x s

/-- FW_INSTALL begins. -/
def doFwInstall (e : Ecc) (s : State) : State :=
  opRun 0x803 (fun r s =>
    let n := (prm r 1).toNat
    let x : ImageAt := ⟨s.gran.mem, (prm r 0).toNat⟩
    match bufferCheck r (prm r 0).toNat n s with
    | some c => refuse c s
    | none =>
      if 0x800000 < n then refuse 4 s
      else if n = 0 then finish 0 [w (otherCopy s)] s
      else
        let s := eccCount e (prm r 0).toNat none s
        if eccBad e then finish 9 [] s
        else match bufImageCheck 0 x n s with
          | some k => finish 10 [w k] s
          | none => nvmBegin 0x803 (0x800000 * otherCopy s) (bufBytes r n s) (keepBytes (bufBytes r n s) s)) s

/-- REST_SET begins. -/
def doRestSet (s : State) : State :=
  opRun 0x804 (fun _ s =>
    park { s with sec := { s.sec with journal := [(0x1100000, rdByte s.sec.nvm 0x1100000)] } }) s

/-- The set number of LIN_SET for SENSE input `n` and range `k`. -/
def linKey (n k : Nat) : Nat := 8 * n + k

/-- LIN_SET begins. -/
def doLinSet (_e : Ecc) (s : State) : State :=
  opRun 0x805 (fun r s =>
    if fld (prm r 0) 2 0 = 7 ∨ 39 < fld (prm r 0) 13 8 then refuse 4 s
    else park { s with sec := { s.sec with journal := [(0x1100000, rdByte s.sec.nvm 0x1100000)] } }) s

/-- The NVM has taken what routine `r` writes: its effect and its results.
[log: 52 DEDUCED] -/
def nvmEffect (r : Routine) (s : State) : State × List W40 :=
  match r.opcode with
  | 0x802 => (nvmCommit (prm r 1).toNat (keptBytes 3 r) s, [])
  | 0x803 =>
    let c := otherCopy s
    let s := nvmCommit (0x800000 * c) (keptBytes 2 r) s
    ({ s with sec := { s.sec with selector := c } }, [w c])
  | 0x804 =>
    let v := prm r 0
    let s := { s with sec := { s.sec with journal := [] } }
    (if 0x1000 ≤ r.target then
      { s with sec := { s.sec with slewNvm := tset 0 (r.target - 0x1000) (w (fld v 31 0)) s.sec.slewNvm } }
    else
      { s with sec := { s.sec with restNvm := tset 0 r.target (w (fld v 39 38 * 2 ^ 38 + fld v 19 0)) s.sec.restNvm } }, [])
  | _ =>
    let s := { s with sec := { s.sec with journal := [] } }
    let set : LinSet := ⟨fld (prm r 0) 13 8, (upTo 24).map (fun i => (prm r (i + 1)).toInt)⟩
    ({ s with lins := tput (linKey r.target (fld (prm r 0) 2 0)) set s.lins }, [])

/-- MON_SELFTEST ends (R369): the fault map that it keeps in its parameters, and a record for each faulty unit. -/
def selftestEnd (r : Routine) (s : State) : State :=
  let ws := r.params
  let mons := (upTo 96).filter (fun c => bit (nth 0 ws (c / 40)) (c % 40))
  let cmps := (upTo 8).filter (fun f => bit (nth 0 ws 2) (16 + f))
  let s := foldS (fun c s => record (0x3200 + 96 * r.target + c) 0x805 0 0 s) mons s
  foldS (fun f s => record (0x4000 + 8 * r.target + f) 0x805 0 0 s) cmps s

/-- The awaited condition of an open parked routine that has no step of its own: the NVM has written, or the engines have
closed. The routine ends OK.
[log: 52 DEDUCED] -/
def parkedDone (r : Routine) (s : State) : Option (Routine × State) :=
  if r.ended.isSome then some (r, s)
  else if r.opcode / 256 = 8 then
    let (s', res) := nvmEffect r s
    some (closeRoutine 0 res (now s) r, s')
  else if r.opcode = 0x902 then some (closeRoutine 0 r.params (now s) r, selftestEnd r s)
  else if r.opcode = 0x501 then some (closeRoutine 0 [prm r 0] (now s) r, s)
  else none

/-- ROUTINE_RESUME of parking place `i`: the routine takes the engine for its reply (R295). -/
def routineResumeRow (i : Nat) (s : State) : State :=
  if s.ce.cur.isSome || !s.ce.handlers.isEmpty then s
  else match tget? i s.ce.parked with
    | some r =>
      match parkedDone r s with
      | some (r', s') => { s' with ce := { s'.ce with cur := some r', parked := tdel i s'.ce.parked } }
      | none => s
    | none => s

/-- ROLLBACK_ADVANCE: the completion tick is the start of the fuse burst (R400). -/
def doRollback (s : State) : State :=
  opRun 0x703 (fun r s =>
    let v := (prm r 0).toNat
    let c := s.sec.rollback
    if 64 < v then refuse 4 s
    else if v ≤ c then finish 0 [0] s
    else if fR oSecStatus 24 19 s < v ∨ 16 * fR oSecStatus 18 17 s + 15 < v then refuse 4 s
    else
      let s := { s with sec := { s.sec with rollback := v, burst := some (s.sec.burst.getD c) } }
      finish 0 [w (v - c)] (putF oSecStatus 31 25 v s)) s

/-- LOFT_LOAD (R303, R304). -/
def doLoftLoad (e : Ecc) (s : State) : State :=
  opRun 0x702 (fun r s =>
    let n := (prm r 1).toNat
    let x : ImageAt := ⟨s.gran.mem, (prm r 0).toNat⟩
    match bufferCheck r (prm r 0).toNat n s with
    | some 3 => refuse 3 s
    | c =>
      if c.isNone && n == 0 then finish 0 [] s
      else if bR oLoftStatus 2 s then refuse 2 s
      else if c.isSome then refuse 4 s
      else
        let s := eccCount e (prm r 0).toNat none s
        if eccBad e then finish 9 [] s
        else match bufImageCheck 1 x n s with
          | some _ => finish 10 [] (putB oLoftStatus 3 true s)
          | none => if loftClash x then refuse 4 s else finish 0 [] (loftApply x s)) s

/-- IDENTITY_READ (R402, Table 21.4).
[log: 54 DEDUCED] -/
def doIdentity (s : State) : State :=
  opRun 0x704 (fun r s =>
    let bs := identityBundle s
    let n := bs.length
    match bufferCheck r (prm r 0).toNat n s with
    | some c => refuse c s
    | none => finish 0 [w n] (setMem (wrBytes s.gran.mem (prm r 0).toNat bs) s)) s

/-- Bytes 0..439 of the attestation report (Table 21.5). -/
def reportHead (r : Routine) (s : State) : List Byte :=
  let sec := getR oSecStatus s
  let nonce := wordBytes (r.params.drop 1)
  let flags := b2n (bR oLoftStatus 1 s) + 2 * b2n (bit sec 13) + 4 * b2n (bit sec 12) + 8 * b2n (bit sec 15)
  toLe 4 1 ++ toLe 4 3877 ++ toLe 16 s.fuses.serial.toNat ++ toLe 1 r.dom ++ toLe 1 (fld sec 16 16) ++ toLe 1 s.sec.rollback
    ++ toLe 1 (lifeCode s.life) ++ toLe 4 flags ++ toLe 8 (fullTime s).toNat ++ toLe 1 nonce.length ++ toLe 7 0
    ++ nonce ++ toLe (72 - nonce.length) 0 ++ toLe 64 Config.romDigest.toNat ++ toLe 64 s.sec.digest.toNat
    ++ toLe 64 s.sec.loftDigest.toNat ++ toLe 64 s.sec.factoryDigest.toNat
    ++ toLe 64 (Config.sha512 (toLe 5 (getR oSecDomains s).toNat)).toNat

/-- ATTEST (R401, R403). -/
def doAttest (s : State) : State :=
  opRun 0x701 (fun r s =>
    match bufferCheck r (prm r 0).toNat 3877 s with
    | some c => refuse c s
    | none =>
      if !bR oSecStatus 32 s then refuse 11 s
      else
        let h := reportHead r s
        let d := Config.sha512 h
        let sig := (upTo 64).map (Config.ed25519Byte d) ++ (upTo 3309).map (Config.mlDsa65Byte d s.free)
        finish 0 [3877] (takeFree (setMem (wrBytes s.gran.mem (prm r 0).toNat (h ++ toLe 64 d.toNat ++ sig)) s))) s

/-! ### Rows -/

/-- ECHO. -/
def execEcho (s : State) : Host.Outcome State Fault Refusal := .next (doEcho s)
/-- DEV_INFO. -/
def execDevInfo (s : State) : Host.Outcome State Fault Refusal := .next (doDevInfo s)
/-- DEV_ENTER_READY. -/
def execDevEnterReady (s : State) : Host.Outcome State Fault Refusal := .next (doEnterReady s)
/-- DEV_ENTER_SAFE. -/
def execDevEnterSafe (s : State) : Host.Outcome State Fault Refusal := .next (doEnterSafe s)
/-- TIME_SET. -/
def execTimeSet (s : State) : Host.Outcome State Fault Refusal := .next (doTimeSet s)
/-- TIME_REACQUIRE. -/
def execTimeReacquire (s : State) : Host.Outcome State Fault Refusal := .next (doReacquire s)
/-- RING_ASSIGN. -/
def execRingAssign (s : State) : Host.Outcome State Fault Refusal := .next (doRingAssign s)
/-- RING_CONFIG. -/
def execRingConfig (s : State) : Host.Outcome State Fault Refusal := .next (doRingConfig s)
/-- RING_RESIZE. -/
def execRingResize (e : Ecc) (s : State) : Host.Outcome State Fault Refusal := .next (doRingResize e s)
/-- RING_CLEAR. -/
def execRingClear (s : State) : Host.Outcome State Fault Refusal := .next (doRingClear s)
/-- RING_QUERY. -/
def execRingQuery (s : State) : Host.Outcome State Fault Refusal := .next (doRingQuery s)
/-- ADC_SELF_CAL. -/
def execAdcSelfCal (s : State) : Host.Outcome State Fault Refusal := .next (doSelfCal s)
/-- SEQ_LOAD. -/
def execSeqLoad (e : Ecc) (s : State) : Host.Outcome State Fault Refusal := .next (doSeqLoad e s)
/-- SEQ_READ. -/
def execSeqRead (s : State) : Host.Outcome State Fault Refusal := .next (doSeqRead s)
/-- WAVE_LOAD. -/
def execWaveLoad (x : LoadTurn) (s : State) : Host.Outcome State Fault Refusal := .next (doWaveLoad x s)
/-- WAVE_READ. -/
def execWaveRead (s : State) : Host.Outcome State Fault Refusal := .next (doWaveRead s)
/-- CORE_LOAD. -/
def execCoreLoad (e : Ecc) (s : State) : Host.Outcome State Fault Refusal := .next (doCoreLoad e s)
/-- CORE_READ. -/
def execCoreRead (s : State) : Host.Outcome State Fault Refusal := .next (doCoreRead s)
/-- THR_KERNEL_LOAD. -/
def execThrKernelLoad (e : Ecc) (s : State) : Host.Outcome State Fault Refusal := .next (doKernelLoad e s)
/-- BND_TABLE_LOAD. -/
def execBndTableLoad (e : Ecc) (s : State) : Host.Outcome State Fault Refusal := .next (doTableLoad e s)
/-- WIT_STOP. -/
def execWitStop (s : State) : Host.Outcome State Fault Refusal := .next (doWitStop s)
/-- NVM_READ. -/
def execNvmRead (s : State) : Host.Outcome State Fault Refusal := .next (doNvmRead s)
/-- NVM_WRITE. -/
def execNvmWrite (e : Ecc) (s : State) : Host.Outcome State Fault Refusal := .next (doNvmWrite e s)
/-- FW_INSTALL. -/
def execFwInstall (e : Ecc) (s : State) : Host.Outcome State Fault Refusal := .next (doFwInstall e s)
/-- REST_SET. -/
def execRestSet (s : State) : Host.Outcome State Fault Refusal := .next (doRestSet s)
/-- LIN_SET. -/
def execLinSet (e : Ecc) (s : State) : Host.Outcome State Fault Refusal := .next (doLinSet e s)
/-- ROUTINE_RESUME. -/
def execRoutineResume (i : Nat) (s : State) : Host.Outcome State Fault Refusal := .next (routineResumeRow i s)
/-- ROLLBACK_ADVANCE. -/
def execRollbackAdvance (s : State) : Host.Outcome State Fault Refusal := .next (doRollback s)
/-- LOFT_LOAD. -/
def execLoftLoad (e : Ecc) (s : State) : Host.Outcome State Fault Refusal := .next (doLoftLoad e s)
/-- IDENTITY_READ. -/
def execIdentityRead (s : State) : Host.Outcome State Fault Refusal := .next (doIdentity s)
/-- ATTEST. -/
def execAttest (s : State) : Host.Outcome State Fault Refusal := .next (doAttest s)

end Sys2Proof.Machine
end

