-- ==== Sys2Proof/Machine/Flags.lean ====
section
/-! DEFINITION. Flag computations of the programmable units: Z and N of a core's results, and wraps of its accumulators, and the
comparison flags of a sequencer (R124, R228, R231-R233, Table 11.6). -/

namespace Sys2Proof.Machine

/-- Z of a word. -/
def zFlag (v : W40) : Bool := v == 0
/-- N of a 40-bit word. -/
def nFlag (v : W40) : Bool := v.msb
/-- Z of an accumulator. -/
def zAcc (v : BitVec 88) : Bool := v == 0
/-- N of an accumulator. -/
def nAcc (v : BitVec 88) : Bool := v.msb
/-- An exact accumulator value wraps modulo 2^88 (ACC_WRAP). -/
def accWraps (x : Int) : Bool := decide (x < -(2 ^ 87 : Nat)) || decide ((2 ^ 87 : Nat) ≤ x)
/-- Bits 87:79 of an accumulator are not all equal: a store does not represent it (STORE_OVF, R232). -/
def storeOvf (v : BitVec 88) : Bool := v.toNat / 2 ^ 79 != 0 && v.toNat / 2 ^ 79 != 511

end Sys2Proof.Machine
end

