-- ==== Sys2Proof/Machine/Operands.lean ====
section
/-! DEFINITION. Operand forms of the signal cores: fields of the 80-bit word, accesses of the bank ports, and multiplier
parts (R229, R231, Tables 11.2, 11.3). -/

namespace Sys2Proof.Machine

/-- Bits hi:lo of an instruction word of a core. -/
def cf (v : BitVec 80) (hi lo : Nat) : Nat := (v.toNat >>> lo) % 2 ^ (hi + 1 - lo)

/-- An access field of Table 11.2. -/
structure PortField where
  kind : Nat
  reg : Nat
  ag : Nat
  pm : Bool
  deriving DecidableEq, Repr

/-- The access field of port `j`. -/
def portField (v : BitVec 80) (j : Nat) : PortField :=
  let b := if j = 0 then 20 else 0
  ⟨cf v (b + 19) (b + 17), cf v (b + 16) (b + 14), cf v (b + 13) (b + 11), cf v (b + 10) (b + 10) == 1⟩

/-- Both access fields have a defined KIND. -/
def portsOk (v : BitVec 80) : Bool := decide ((portField v 0).kind < 5) && decide ((portField v 1).kind < 5)

/-- A part of a word as a multiplier operand (Table 11.3), code/2^39. -/
def partOf (pt : Nat) (d : W40) : Int :=
  let lo := sx 20 (fld d 19 0)
  match pt with
  | 0 => d.toInt
  | 1 => sx 20 (fld d 39 20) * 2 ^ 20
  | 2 => lo * 2 ^ 20
  | _ => (if lo = -(2 ^ 19) then 2 ^ 19 - 1 else -lo) * 2 ^ 20

/-- A product of two parts: taken exactly and shifted left by one (R231). -/
def macProduct (a b : Int) : Int := a * b * 2

end Sys2Proof.Machine
end

