-- ==== Sys2Proof/Machine/CoreFam.lean ====
section
/-! DEFINITION. Signal cores: taps, bank accesses, address generators, the instructions, custom verdicts, and the commands of
CORE_CMD (R227-R248). Core `k` is 16t + k. -/

namespace Sys2Proof.Machine

/-! ### Parts of a core -/

/-- D[r]. -/
def coreD (c : Core) (r : Nat) : W40 := tget 0 r c.d
/-- Writes D[r]. -/
def putD (r : Nat) (v : W40) (c : Core) : Core := { c with d := tset 0 r v c.d }
/-- ACC[i]. -/
def coreAcc (c : Core) (i : Nat) : BitVec 88 := if i = 0 then c.acc0 else c.acc1
/-- Writes ACC[i]. -/
def putAcc (i : Nat) (v : BitVec 88) (c : Core) : Core := if i = 0 then { c with acc0 := v } else { c with acc1 := v }
/-- AG[g]. -/
def coreAg (c : Core) (g : Nat) : AG := tget {} g c.ag
/-- Writes AG[g]. -/
def putAg (g : Nat) (a : AG) (c : Core) : Core := { c with ag := tset {} g a c.ag }
/-- TAP[i]. -/
def coreTap (c : Core) (i : Nat) : Tap := tget {} i c.taps
/-- Writes TAP[i]. -/
def putTap (i : Nat) (x : Tap) (c : Core) : Core := { c with taps := tset {} i x c.taps }
/-- The word at an address of data bank `j`. -/
def bank (c : Core) (j a : Nat) : W40 := tget 0 a (if j = 0 then c.db0 else c.db1)
/-- Writes a word of data bank `j`. -/
def putBank (j a : Nat) (v : W40) (c : Core) : Core :=
  if j = 0 then { c with db0 := tset 0 a v c.db0 } else { c with db1 := tset 0 a v c.db1 }

/-- Bits 79:40 of an accumulator (R232). -/
def accWord (v : BitVec 88) : W40 := BitVec.ofNat 40 (v.toNat / 2 ^ 40)

/-- A tap as a core sees it at the start of tick `e`: a sample written at `e` or later is not yet visible (R228, R237). -/
def tapAt (e : Tick) (x : Tap) : Tap :=
  match x.wrote with
  | some (t, _) => if notBefore t e then { x with count := x.count - 1, stamp := x.oldStamp, flags := x.oldFlags } else x
  | none => x

/-- A tap whose flag set is read and cleared at tick `e`: the flags of a sample written at `e` or later stay (R237). -/
def tapClear (e : Tick) (x : Tap) : Tap :=
  let none5 : Flags := ⟨false, false, false, false, false⟩
  match x.wrote with
  | some (t, _) => { x with flags := if notBefore t e then x.newFlags else none5, oldFlags := none5 }
  | none => { x with flags := none5, oldFlags := none5 }

/-- The memory of tap `i` of core `k` (MEM). -/
def tapMem (k i : Nat) (s : State) : Nat := b2n (bR (oTapCfg k i) 39 s)

/-- The tap whose write of tick `e` or later stands at an address of bank `j`. -/
def tapOver (e : Tick) (j a k : Nat) (c : Core) (s : State) : Option Tap :=
  ((upTo 4).map (fun i => (i, coreTap c i))).findSome? (fun p =>
    match p.2.wrote with
    | some (t, b) => if b = a ∧ tapMem k p.1 s = j ∧ notBefore t e then some p.2 else none
    | none => none)

/-- A load reads the word as it stood at the start of tick `e` (R230, R237). -/
def bankAt (e : Tick) (j a k : Nat) (c : Core) (s : State) : W40 :=
  match tapOver e j a k c s with
  | some x => x.oldWord
  | none => bank c j a

/-! ### Bank accesses (R228-R230, R232, R238) -/

/-- The access of port `j` at tick `e`: `c0` holds the values at the start of the tick, `c` takes the writes. The numbers are
the sticky bits of CORE_STATUS that it sets. -/
def portAccess (e : Tick) (k j : Nat) (v : BitVec 80) (s : State) (c0 : Core) (x : Core × List Nat) : Core × List Nat :=
  let p := portField v j
  let a := (coreAg c0 p.ag).ptr
  let store := fun (val : W40) (bits : List Nat) =>
    match tapOver e j a k c0 s with
    | some _ => (x.1, x.2 ++ bits ++ [9])
    | none => ({ putBank j a val x.1 with stored := (e, j, a) :: x.1.stored }, x.2 ++ bits)
  match p.kind with
  | 1 => (putD p.reg (bankAt e j a k c0 s) x.1, x.2)
  | 2 => store (coreD c0 p.reg) []
  | 3 => store (accWord c0.acc0) (if storeOvf c0.acc0 then [10] else [])
  | 4 => store (accWord c0.acc1) (if storeOvf c0.acc1 then [10] else [])
  | _ => x

/-- The post-modify of AG[g] (R235). -/
def postModify (g : Nat) (x : Core × List Nat) : Core × List Nat :=
  let a := coreAg x.1 g
  if a.len = 0 then (x.1, x.2 ++ [12 + g])
  else
    let off := (a.ptr + 16384 - a.base % 16384) % 16384
    let n := (((off : Int) + a.mod) % (a.len : Int)).toNat
    (putAg g { a with ptr := (a.base + n) % 16384 } x.1, x.2)

/-- The address generators that the accesses post-modify, each once (R230). -/
def modified (v : BitVec 80) : List Nat :=
  (((if (portField v 0).pm then [(portField v 0).ag] else [])
    ++ (if (portField v 1).pm then [(portField v 1).ag] else [])).dedup)

/-! ### Running an instruction -/

/-- Cores run in SAFE and READY (R243). -/
def coresRun (s : State) : Bool := s.life == .safe || s.life == .ready

/-- A program fault (R248). -/
def coreFault (kind k : Nat) (s : State) : State :=
  let c := core k s
  setCore k { c with st := .faulted, kind := kind, waitDl := none } s
    |> record (0x5000 + k) 0x509 (kind * 2 ^ 17) (w (k * 2 ^ 20 + c.pc))

/-- Sets sticky bits of CORE_STATUS. -/
def stick (k : Nat) (bits : List Nat) (s : State) : State := foldS (fun b s => putB (oCoreStatus k) b true s) bits s

/-- Core `k` may take a row at the tick of its next instruction. -/
def coreReady (k : Nat) (s : State) : Bool :=
  decide (k < 16 * nTiles s) && coresRun s && (core k s).st == .running && due (core k s).nextAt s

/-- The instruction word at the PC. -/
def coreWord (c : Core) : BitVec 80 := tget 0 c.pc c.prog

/-- Where the core goes after the instruction at `pc` (R247): `c` stands as the instruction left it, with its own next PC.
[log: 31 DEDUCED] -/
def loopStep (pc : Nat) (c : Core) : Core :=
  match c.loops with
  | l :: t =>
    if l.fin = pc then
      if l.left ≤ 1 then { c with loops := t } else { c with pc := l.first, loops := { l with left := l.left - 1 } :: t }
    else c
  | [] => c

/-- What an operation does to a core: it reads the values at the start of the tick, writes after the bank accesses, and
answers the sticky bits it sets. -/
abbrev CoreOp := Core → Core → Core × List Nat

/-- An instruction executes at tick `e` with `ticks` to the next one: accesses, operation, post-modify (R228).
[log: 31 DEDUCED] -/
def coreExec (e : Tick) (ticks k : Nat) (f : CoreOp) (s : State) : State :=
  let c0 := core k s
  let v := coreWord c0
  let x := portAccess e k 1 v s c0 (portAccess e k 0 v s c0 ({ c0 with stored := [] }, []))
  let y := f c0 x.1
  let z := (modified v).foldl (fun a g => postModify g a) (y.1, x.2 ++ y.2)
  stick k z.2 (setCore k (loopStep c0.pc { z.1 with nextAt := plus e ticks }) s)

/-- The core goes on at the next address. -/
def nextPc (c : Core) : Core := { c with pc := c.pc + 1 }

/-- A row with opcode `op` for core `k`: a fetch beyond address 8,191 faults, and so does an undefined field (R248).
[log: 1 DEDUCED] -/
def coreRow (op k : Nat) (okField : BitVec 80 → Bool) (act : Tick → BitVec 80 → State → State) (s : State) : State :=
  let c := core k s
  if coreReady k s then
    if 8192 ≤ c.pc then coreFault 3 k s
    else if cf (coreWord c) 79 72 = op then
      if portsOk (coreWord c) && okField (coreWord c) then act c.nextAt (coreWord c) s else coreFault 1 k s
    else s
  else s

/-- A row whose operation always completes in one tick. -/
def simpleRow (op k : Nat) (okField : BitVec 80 → Bool) (f : BitVec 80 → CoreOp) (s : State) : State :=
  coreRow op k okField (fun e v s => coreExec e 1 k (fun c0 c => let r := f v c0 c; (nextPc r.1, r.2)) s) s

/-- Every field value is defined. -/
def anyField (_ : BitVec 80) : Bool := true

/-! ### Operations (Table 11.6) -/

/-- OPA or OPB on an accumulator: its new value and whether it wrapped (R231).
[log: 33 DEDUCED] -/
def macApply (op : Nat) (acc : BitVec 88) (p : Int) : BitVec 88 × Bool :=
  match op with
  | 1 => (BitVec.ofInt 88 p, false)
  | 2 => (BitVec.ofInt 88 (acc.toInt + p), accWraps (acc.toInt + p))
  | 3 => (BitVec.ofInt 88 (acc.toInt - p), accWraps (acc.toInt - p))
  | _ => (acc, false)

/-- MAC.
[log: 33 DEDUCED] -/
def opMac (v : BitVec 80) : CoreOp := fun c0 c =>
  let p0 := macProduct (partOf (cf v 64 63) (coreD c0 (cf v 67 65))) (partOf (cf v 59 58) (coreD c0 (cf v 62 60)))
  let p1 := macProduct (partOf (cf v 54 53) (coreD c0 (cf v 57 55))) (partOf (cf v 49 48) (coreD c0 (cf v 52 50)))
  let r0 := macApply (cf v 71 70) c0.acc0 p0
  let r1 := macApply (cf v 69 68) c0.acc1 p1
  ({ c with acc0 := r0.1, acc1 := r1.1 }, if r0.2 || r1.2 then [11] else [])

/-- The result of an ALU function. -/
def aluResult (fn : Nat) (a b : W40) : W40 :=
  let n := b.toNat % 64
  match fn with
  | 0 => b
  | 1 => a + b
  | 2 => a - b
  | 3 => a &&& b
  | 4 => a ||| b
  | 5 => a ^^^ b
  | 6 => a.sshiftRight n
  | _ => a <<< n

/-- ALU. -/
def opAlu (v : BitVec 80) : CoreOp := fun c0 c =>
  let b := if cf v 59 59 = 1 then wi (sx 19 (cf v 58 40)) else coreD c0 (cf v 62 60)
  let r := aluResult (cf v 71 69) (coreD c0 (cf v 65 63)) b
  ({ putD (cf v 68 66) r c with z := zFlag r, n := nFlag r }, [])

/-- ACC: the accumulator written, its value, and whether it wrapped; a shift to the left that loses bits is no wrap.
[log: 157 DESIGN CHOICE] -/
def accResult (v : BitVec 80) (c0 : Core) : Nat × BitVec 88 × Bool :=
  let sel := cf v 68 68
  let a := coreAcc c0 sel
  let sh := cf v 64 59
  let arith := fun (i : Nat) (x : Int) => (i, BitVec.ofInt 88 x, accWraps x)
  match cf v 71 69 with
  | 0 => (sel, 0, false)
  | 1 => (sel, BitVec.ofInt 88 ((coreD c0 (cf v 67 65)).toInt * 2 ^ 40), false)
  | 2 => arith 0 (c0.acc0.toInt + c0.acc1.toInt)
  | 3 => arith 0 (c0.acc0.toInt - c0.acc1.toInt)
  | 4 => (sel, a <<< sh, false)
  | 5 => (sel, a.sshiftRight sh, false)
  | _ => arith sel (a.toInt + 2 ^ 39)

/-- ACC. -/
def opAcc (v : BitVec 80) : CoreOp := fun c0 c =>
  let r := accResult v c0
  ({ putAcc r.1 r.2.1 c with z := zAcc r.2.1, n := nAcc r.2.1 }, if r.2.2 then [11] else [])

/-- The number of bits from bit `i` downward that equal `b` (R233). -/
def signRun (v : BitVec 88) (b : Bool) : Nat → Nat
  | 0 => 0
  | i + 1 => if v.getLsbD i == b then 1 + signRun v b i else 0

/-- The exponent e = g − 8 (R233). -/
def accExp (v : BitVec 88) : Int := (signRun v v.msb 87 : Int) - 8

/-- The accumulator after NORM. -/
def accNorm (v : BitVec 88) : BitVec 88 :=
  if v = 0 ∨ v = BitVec.ofInt 88 (-1) then v
  else if 0 ≤ accExp v then v <<< (accExp v).toNat
  else v.sshiftRight (-(accExp v)).toNat

/-- NORM.
[log: 30 DEDUCED] -/
def opNorm (v : BitVec 80) : CoreOp := fun c0 c =>
  let i := cf v 71 71
  let a := coreAcc c0 i
  let c := putAcc i (accNorm a) { c with z := zAcc (accNorm a), n := nAcc (accNorm a) }
  (if cf v 67 67 = 1 then putD (cf v 70 68) (wi (accExp a)) c else c, [])

/-- EXP (R233: it sets Z and N too).
[log: 30 DEDUCED] -/
def opExp (v : BitVec 80) : CoreOp := fun c0 c =>
  let a := coreAcc c0 (cf v 71 71)
  ({ putD (cf v 70 68) (wi (accExp a)) c with z := zAcc a, n := nAcc a }, [])

/-- LDI. -/
def opLdi (v : BitVec 80) : CoreOp := fun c0 c =>
  let r := cf v 71 69
  let imm := cf v 67 40
  let x := if cf v 68 68 = 0 then wi (sx 28 imm) else setFld (coreD c0 r) 39 28 (imm % 2 ^ 12)
  (putD r x c, [])

/-- The value that SETAG writes. -/
def setagValue (v : BitVec 80) (c0 : Core) : Nat :=
  if cf v 66 66 = 1 then cf v 62 40 else (coreD c0 (cf v 65 63)).toNat

/-- SETAG. -/
def opSetag (v : BitVec 80) : CoreOp := fun c0 c =>
  let g := cf v 71 69
  let x := setagValue v c0
  let a := coreAg c g
  let a := match cf v 68 67 with
    | 0 => { a with ptr := x % 2 ^ 14 }
    | 1 => { a with base := x % 2 ^ 14 }
    | 2 => { a with len := x % 2 ^ 15 }
    | _ => { a with mod := sx 15 x }
  (putAg g a c, [])

/-- The condition of BR. -/
def coreCond (cond : Nat) (c : Core) : Bool :=
  match cond with
  | 0 => true
  | 1 => c.z
  | 2 => !c.z
  | 3 => c.n
  | 4 => !c.n
  | 5 => c.tO
  | _ => !c.tO

/-! ### The rows of the instructions -/

/-- NOP. -/
def coreNopRow (k : Nat) (s : State) : State := simpleRow 0x01 k anyField (fun _ _ c => (c, [])) s
/-- MAC. -/
def coreMacRow (k : Nat) (s : State) : State := simpleRow 0x02 k anyField opMac s
/-- ALU. -/
def coreAluRow (k : Nat) (s : State) : State := simpleRow 0x03 k anyField opAlu s
/-- ACC: FN 7 is undefined. -/
def coreAccRow (k : Nat) (s : State) : State := simpleRow 0x04 k (fun v => cf v 71 69 != 7) opAcc s
/-- NORM. -/
def coreNormRow (k : Nat) (s : State) : State := simpleRow 0x05 k anyField opNorm s
/-- EXP. -/
def coreExpRow (k : Nat) (s : State) : State := simpleRow 0x06 k anyField opExp s
/-- LDI. -/
def coreLdiRow (k : Nat) (s : State) : State := simpleRow 0x07 k anyField opLdi s

/-- SETAG: a length above 16,384 faults (R234). -/
def setagRow (k : Nat) (s : State) : State :=
  coreRow 0x08 k anyField (fun e v s =>
    if cf v 68 67 = 2 ∧ 16384 < setagValue v (core k s) % 2 ^ 15 then coreFault 4 k s
    else coreExec e 1 k (fun c0 c => let r := opSetag v c0 c; (nextPc r.1, r.2)) s) s

/-- BR: 2 ticks when taken. -/
def coreBrRow (k : Nat) (s : State) : State :=
  coreRow 0x09 k (fun v => decide (cf v 71 68 < 7)) (fun e v s =>
    if coreCond (cf v 71 68) (core k s) then coreExec e 2 k (fun _ c => ({ c with pc := cf v 52 40 }, [])) s
    else coreExec e 1 k (fun _ c => (nextPc c, [])) s) s

/-- LOOP (R247). -/
def coreLoopRow (k : Nat) (s : State) : State :=
  let pc := (core k s).pc
  coreRow 0x0A k (fun v => decide (pc + 1 ≤ cf v 52 40)) (fun e v s =>
    let n := if cf v 71 71 = 1 then (coreD (core k s) (cf v 70 68)).toNat else cf v 67 53
    let fin := cf v 52 40
    if n = 0 then coreExec e 1 k (fun _ c => ({ c with pc := fin + 1 }, [])) s
    else if 4 ≤ (core k s).loops.length then coreFault 2 k s
    else coreExec e 1 k (fun _ c => (nextPc { c with loops := ⟨pc + 1, fin, n⟩ :: c.loops }, [])) s) s

/-- RDTAP: WHAT 3 is undefined. -/
def rdtapRow (k : Nat) (s : State) : State :=
  coreRow 0x0C k (fun v => cf v 66 65 != 3) (fun e v s =>
    coreExec e 1 k (fun c0 c =>
      let i := cf v 71 70
      let x := tapAt e (coreTap c0 i)
      let f := x.flags
      let bits := b2n f.ovr + 2 * b2n f.cal + 4 * b2n f.deg + 8 * b2n f.mp + 16 * b2n f.trn
      let val : W40 := match cf v 66 65 with
        | 0 => w x.count
        | 1 => x.stamp
        | _ => w bits
      let c := putD (cf v 69 67) val (nextPc c)
      (if cf v 66 65 = 2 then putTap i (tapClear e (coreTap c i)) c else c, [])) s) s

/-- The custom verdict word of POST (R240). -/
def postWord (v : BitVec 80) (e : Tick) (k : Nat) (s : State) : W40 :=
  let c := core k s
  let d := coreD c (cf v 70 68)
  let f := (tapAt e (coreTap c (cf v 66 65))).flags
  let force := cf v 61 61 == 1
  let d := setFld d 39 26 (ownIndex (768 + 2 * k + cf v 71 71) s)
  let d := setBit (setBit d 23 true) 21 false
  let d := if force && (f.cal || f.deg || f.trn) then setFld d 18 11 0 else d
  if force && f.ovr then setBit d 19 true else d

/-- The reference tick of POST (R241). -/
def postRef (v : BitVec 80) (e : Tick) (k : Nat) (s : State) : Tick :=
  let c := core k s
  if cf v 67 67 = 0 then (tapAt e (coreTap c (cf v 66 65))).stamp else coreD c (cf v 64 62)

/-- POST (R240-R242). -/
def postRow (k : Nat) (s : State) : State :=
  coreRow 0x0D k anyField (fun e v s =>
    let word := postWord v e k s
    let ref := postRef v e k s
    let rv := cf v 70 68
    let ws := [ref, coreD (core k s) ((rv + 1) % 8), coreD (core k s) ((rv + 2) % 8), word]
    let s := coreExec e 1 k (fun _ c => (nextPc c, [])) s
    let s := postVerdict (plus e 1) word ref s
    if bR (oCoreCtl k) 26 s then
      resMake (plus e 1) (0x2000 + k) (fR (oCoreCtl k) 19 0 s) (tileDom (k / 16) s) (1024 * fR (oCoreCtl k) 25 20 s) ws s
    else s) s

/-- EVENT: CORE_EV[N] fires at the tick after it executes (Table 15.1). -/
def coreEventRow (k : Nat) (s : State) : State :=
  coreRow 0x0E k anyField (fun e v s =>
    let s := coreExec e 1 k (fun _ c => (nextPc c, [])) s
    fireProd (640 * (k / 16) + 576 + 2 * (k % 16) + cf v 71 71) (plus e 1) 0 s) s

/-- HALT: no bank access acts (R229). -/
def coreHaltRow (k : Nat) (s : State) : State :=
  let c := core k s
  if coreReady k s then
    if 8192 ≤ c.pc then coreFault 3 k s
    else if cf (coreWord c) 79 72 = 0x0F then setCore k { nextPc c with st := .halted } s
    else s
  else s

/-- CORE_UNDEFINED_OPCODE. -/
def coreUndefinedRow (k : Nat) (s : State) : State :=
  let c := core k s
  if coreReady k s then
    if 8192 ≤ c.pc then coreFault 3 k s
    else if cf (coreWord c) 79 72 = 0 ∨ 0x0F < cf (coreWord c) 79 72 then coreFault 0 k s
    else s
  else s

/-! ### WAITT (R246) -/

/-- The target count of WAITT is reached with `n` samples. -/
def countMet (n : Nat) (c : Core) (v : BitVec 80) : Bool := notBefore (w n) (coreD c (cf v 69 67))

/-- The target count is reached at the start of tick `x`. -/
def waitMet (x : Tick) (c : Core) (v : BitVec 80) : Bool := countMet (tapAt x (coreTap c (cf v 71 70))).count c v

/-- WAITT completes at tick `x`: its accesses act, TO takes its value, and D[RS] increases with INC. -/
def waitDone (x : Tick) (tO : Bool) (v : BitVec 80) (k : Nat) (s : State) : State :=
  let s := setCore k { core k s with st := .running, waitDl := none, metAt := none } s
  coreExec x 1 k (fun c0 c =>
    let r := cf v 69 67
    let c := if cf v 49 49 = 1 then putD r (coreD c0 r + 1) c else c
    (nextPc { c with tO := tO }, [])) s

/-- The tick at which a core that enters WAITT at `e` sees its count reached by a sample already written at `e` or later. -/
def metSoon (e : Tick) (c : Core) (v : BitVec 80) : Option Tick :=
  let x := coreTap c (cf v 71 70)
  match x.wrote with
  | some (t, _) => if notBefore t e && countMet x.count c v then some (plus t 1) else none
  | none => none

/-- The count of a waiting core is reached no later than its deadline. -/
def metInTime (c : Core) : Option Tick :=
  match c.metAt, c.waitDl with
  | some x, some d => if notBefore d x then some x else none
  | x, _ => x

/-- WAITT: it issues, or a waiting core's count is reached.
[log: 37 DEDUCED] -/
def waittRow (k : Nat) (s : State) : State :=
  let c := core k s
  if c.st = .waiting then
    match metInTime c with
    | some x => if coresRun s && due x s then waitDone x false (coreWord c) k s else s
    | none => s
  else
    coreRow 0x0B k anyField (fun e v s =>
      if waitMet e (core k s) v then waitDone e false v k s
      else if cf v 50 50 = 0 ∧ cf v 66 51 = 0 then waitDone e true v k s
      else
        setCore k { core k s with
          st := .waiting
          metAt := metSoon e (core k s) v
          waitDl := if cf v 50 50 = 0 then some (plus e (cf v 66 51)) else none } s) s

/-- WAITT_TIMEOUT: issue tick + TIMEOUT comes first.
[log: 37 DEDUCED] -/
def waittTimeoutRow (k : Nat) (s : State) : State :=
  let c := core k s
  match c.waitDl with
  | some d =>
    if c.st == .waiting && coresRun s && due d s && (metInTime c).isNone then waitDone d true (coreWord c) k s else s
  | none => s

/-! ### Taps (R236-R238) -/

/-- A sample lies inside a window opened on slot `g` (R236). -/
def inWindow (stamp : Tick) (g : Nat) (s : State) : Bool :=
  (slot g s).wins.any (fun v => decide (0 < v.w) && notBefore stamp v.t && !notBefore stamp (plus v.t v.w))

/-- The word of a slot sample. -/
def sampleWord (x : Sample) : W40 := w (x.i.toNat * 2 ^ 20 + x.q.toNat)

/-- The OR of two flag sets. -/
def orSet (a b : Flags) : Flags :=
  ⟨a.ovr || b.ovr, a.cal || b.cal, a.deg || b.deg, a.mp || b.mp, a.trn || b.trn⟩

/-- Tap `i` of core `k` writes a sample at the present tick. -/
def tapPut (k i : Nat) (x : Sample) (stamp : Tick) (s : State) : State :=
  let c := core k s
  let t := now s
  let mem := tapMem k i s
  let tp := coreTap c i
  let a := (8 * fR (oTapCfg k i) 25 15 s + tp.count % fR (oTapCfg k i) 14 0 s) % 16384
  let same := fun (j : Nat) => j != i && tapMem k j s == mem && (coreTap c j).wrote == some (t, a)
  let lower := (upTo i).any same
  let before := match (upTo 4).find? same with | some j => (coreTap c j).oldWord | none => bank c mem a
  let clash := (upTo 4).any same || c.stored.contains (t, mem, a)
  let tp' : Tap := { count := tp.count + 1, stamp := stamp, flags := orSet tp.flags x.flags, wrote := some (t, a),
                     oldWord := before, oldStamp := tp.stamp, oldFlags := tp.flags, newFlags := x.flags }
  let c := putTap i tp' (if lower then c else putBank mem a (sampleWord x) c)
  let met := c.st == .waiting && cf (coreWord c) 71 70 == i && c.metAt.isNone && countMet tp'.count c (coreWord c)
  let c := if met then { c with metAt := some (plus t 1) } else c
  stick k (if clash then [9] else []) (setCore k c s)

/-- The slot sample stamped `stamp` on its way to tap `i` of core `k` is complete, and its tick at the tap has come: the control die has
it when the Thresher would, the tap one tick later (R183, R237). -/
def tapTick (minPh : Bool) (d : Nat) (stamp : Tick) (s : State) : Bool :=
  stamp.toNat % d == 0 && now s == plus stamp (stampDelay minPh d + 5)

/-- Tap `i` of core `k` takes samples (R236). -/
def tapRuns (k i : Nat) (stamp : Tick) (s : State) : Bool :=
  let st := (core k s).st
  k < 16 * nTiles s && i < 4 && coresRun s && (st == .running || st == .waiting) && fR (oTapCfg k i) 14 0 s != 0
    && (!bR (oTapCfg k i) 38 s || inWindow stamp (fR (oTapCfg k i) 37 28 s) s)

/-- TAP_WRITE: the slot sample stamped `stamp`, made of the ADC samples that the command brings, reaches tap `i` of core `k`. -/
def tapWriteRow (k i : Nat) (xs : List AdcTick) (stamp : Tick) (s : State) : State :=
  let g := fR (oTapCfg k i) 37 28 s
  let d := chainD (chainAt g stamp s)
  if tapRuns k i stamp s && tapTick (setAt g stamp s) d stamp s then
    let z := slotSample g d (feedFrom stamp xs) stamp s
    tapPut k i z stamp (noteSat g [(stamp, z)] s)
  else s

/-- What the cores keep of the past loses what is long ago. -/
def coresTidy (s : State) : State :=
  let t := now s
  foldS (fun e s =>
    let c := core e.1 s
    setCore e.1 { c with
      taps := c.taps.map (fun p => (p.1, { p.2 with wrote := p.2.wrote.filter (fun q => !longAgo q.1 t) }))
      stored := c.stored.filter (fun q => !longAgo q.1 t) } s) s.cores s

/-! ### CORE_CMD (R244) -/

/-- START of core `k`: the code of the refusal where it is ignored. -/
def coreStart (k : Nat) (s : State) : State × Option Nat :=
  let c := core k s
  if !coresRun s || c.st == .running || c.st == .waiting then (s, some 2)
  else if routineRuns 0x305 k s then (s, some 1)
  else
    let s := { s with agenda := s.agenda.filter (fun e => e.2 != .coreIdle k) }
    (setCore k { st := .running, pc := fR (oCoreCtl k) 39 27 s, prog := c.prog, db0 := c.db0, db1 := c.db1,
                 nextAt := plus (now s) 1 } s, none)

/-- STOP of core `k`: it takes the core to IDLE after the present tick. -/
def coreStop (k : Nat) (s : State) : State × Option Nat :=
  let c := core k s
  if c.st = .running ∨ c.st = .waiting then (defer (plus (now s) 1) (.coreIdle k) s, none) else (s, some 2)

/-- The tick of a STOP has passed: a core that still runs or waits enters IDLE. -/
def coreIdle (k : Nat) (s : State) : State :=
  let c := core k s
  if c.st = .running ∨ c.st = .waiting then setCore k { c with st := .idle, waitDl := none } s else s

/-- CORE_CMD as a write: the effect, or the record of the refusal.
[log: 110 DEDUCED] -/
def coreCmd (cmd k : Nat) (s : State) : State :=
  let r := match cmd with
    | 1 => coreStart k s
    | 2 => coreStop k s
    | _ => (s, some 4)
  match r with
  | (s', none) => s'
  | (s', some code) => record (0x5000 + k) code 0 0 s'

/-! ### The rows -/

/-- CORE_NOP. -/
def execCoreNop (k : Nat) (s : State) : Host.Outcome State Fault Refusal := .next (coreNopRow k s)
/-- CORE_MAC. -/
def execCoreMac (k : Nat) (s : State) : Host.Outcome State Fault Refusal := .next (coreMacRow k s)
/-- CORE_ALU. -/
def execCoreAlu (k : Nat) (s : State) : Host.Outcome State Fault Refusal := .next (coreAluRow k s)
/-- CORE_ACC. -/
def execCoreAcc (k : Nat) (s : State) : Host.Outcome State Fault Refusal := .next (coreAccRow k s)
/-- CORE_NORM. -/
def execCoreNorm (k : Nat) (s : State) : Host.Outcome State Fault Refusal := .next (coreNormRow k s)
/-- CORE_EXP. -/
def execCoreExp (k : Nat) (s : State) : Host.Outcome State Fault Refusal := .next (coreExpRow k s)
/-- CORE_LDI. -/
def execCoreLdi (k : Nat) (s : State) : Host.Outcome State Fault Refusal := .next (coreLdiRow k s)
/-- SETAG. -/
def execSetag (k : Nat) (s : State) : Host.Outcome State Fault Refusal := .next (setagRow k s)
/-- CORE_BR. -/
def execCoreBr (k : Nat) (s : State) : Host.Outcome State Fault Refusal := .next (coreBrRow k s)
/-- CORE_LOOP. -/
def execCoreLoop (k : Nat) (s : State) : Host.Outcome State Fault Refusal := .next (coreLoopRow k s)
/-- WAITT. -/
def execWaitt (k : Nat) (s : State) : Host.Outcome State Fault Refusal := .next (waittRow k s)
/-- WAITT_TIMEOUT. -/
def execWaittTimeout (k : Nat) (s : State) : Host.Outcome State Fault Refusal := .next (waittTimeoutRow k s)
/-- RDTAP. -/
def execRdtap (k : Nat) (s : State) : Host.Outcome State Fault Refusal := .next (rdtapRow k s)
/-- POST. -/
def execPost (k : Nat) (s : State) : Host.Outcome State Fault Refusal := .next (postRow k s)
/-- CORE_EVENT. -/
def execCoreEvent (k : Nat) (s : State) : Host.Outcome State Fault Refusal := .next (coreEventRow k s)
/-- CORE_HALT. -/
def execCoreHalt (k : Nat) (s : State) : Host.Outcome State Fault Refusal := .next (coreHaltRow k s)
/-- CORE_UNDEFINED_OPCODE. -/
def execCoreUndefinedOpcode (k : Nat) (s : State) : Host.Outcome State Fault Refusal := .next (coreUndefinedRow k s)
/-- TAP_WRITE. -/
def execTapWrite (k i : Nat) (xs : List AdcTick) (stamp : Tick) (s : State) : Host.Outcome State Fault Refusal :=
  .next (tapWriteRow k i xs stamp s)

end Sys2Proof.Machine
end

