-- ==== Sys2Proof/Machine/PortOps.lean ====
section
/-! DEFINITION. Yalan ports: loss of a port and of the pair link, holdover, training, and the frame as it is sent (R68-R72, R212,
R316-R332, R340, R345, R347). -/

namespace Sys2Proof.Machine

/-! ### Routines at a port -/

/-- The open routine with opcode `op` on target `tg` reports progress. -/
def progressRoutineAt (op tg : Nat) (p : W40) (s : State) : State :=
  let f := fun r => if isOpen op r && r.target == tg then { r with progress := p } else r
  { s with ce := { s.ce with cur := s.ce.cur.map f, parked := s.ce.parked.map (fun e => (e.1, f e.2)) } }

/-! ### Holdover and loss of the pair link (R70, R72, R345) -/

/-- Port `p` is the upstream port of this device (R67, R72). -/
def isUpstream (p : Nat) (s : State) : Bool :=
  (fR oTimeStatus 2 0 s == 2 || fR oTimeStatus 2 0 s == 4) && fR oTimeStatus 19 16 s == p

/-- The device enters holdover (R70): the phase is held, and no acquisition goes on.
[log: 67 DEDUCED] -/
def holdover (s : State) : State :=
  if bR oTimeStatus 4 s then s
  else
    let s := acquireStop { s with time := { s.time with phase := phaseNow s, slew := none } }
    reasonsUpdate (record 0 0x20A 0 0 (putB oTimeStatus 4 true (putB oTimeStatus 5 false s)))

/-- A handover that has not completed fails, and every output keeps its role (R343, R345). -/
def handoverFail (s : State) : State :=
  if s.pair.myN.isSome || s.pair.agreed.isSome then
    let s := { s with pair := { s.pair with myN := none, twinN := none, agreed := none, switching := false } }
    let s := foldS (fun e s => setOut e.1 { outp e.1 s with switched := false } s) s.outs s
    endRoutine 0x604 15 [] (putB oPairStatus 31 false s)
  else s

/-- The pair port has gone down (R345). -/
def pairLinkLost (p : Nat) (s : State) : State :=
  let s := record (0x7000 + p) 0x70F 0 0 s
  let s := cmpHalt { s with pair := { s.pair with sendQ := [] } }
  let s := handoverFail s
  if fR oTimeStatus 2 0 s = 4 then holdover s else s

/-! ### Port state (R329, R330) -/

/-- The phase of a port, in TRAIN_PHASE and in the progress word of PORT_RETRAIN. -/
def setPhase (p n : Nat) (s : State) : State :=
  setPort p { port p s with phase := n, phaseAt := now s } s
    |> putF (oPortStatus p) 39 36 n |> progressRoutineAt 0x605 p (w n)

/-- The port loses what it held for its peer and from it; the misses of the upstream port count on (R70). -/
def portEmpty (p : Nat) (s : State) : State :=
  setPort p { port p s with
    rx := [], out := [], data := [], tseg := [], missRun := if isUpstream p s then (port p s).missRun else 0, rxDown := 0, goodRun := 0, lastMsg := none,
    sentTx := [], ansTx := [], discarded := false, mismatch := false } s
    |> putB (oPortStatus p) 25 false

/-- A port trains (Table 16.6). -/
def training (p : Nat) (s : State) : Bool := decide (1 ≤ (port p s).phase) && decide ((port p s).phase ≤ 5)

/-- Port `p` goes down for a cause of Table 16.5 (R329); where it trains, its training has failed (R330). -/
def portDown (p cause : Nat) (s : State) : State :=
  let was := portUp p s
  let s := if training p s then endRoutineAt 0x605 p 13 [] s else s
  let s := portEmpty p (putB (oPortStatus p) 0 false (putF (oPortStatus p) 35 32 cause s))
  let s := setPort p { port p s with missAt := some (now s) } s
  let s := record (0x7000 + p) 0x706 cause 0 (setPhase p 0 s)
  if was && bR oPairStatus 35 s && pairPort s == p then pairLinkLost p s else s

/-- LANES_OK and REBUILDING show the data lanes that are lost. -/
def lanesShow (p : Nat) (s : State) : State :=
  let l := (port p s).lost
  let ok := (upTo 5).foldl (fun a i => if l.contains i then a else a + 2 ^ i) 0
  putF (oPortStatus p) 31 27 ok (putB (oPortStatus p) 1 (!l.isEmpty) s)

/-- The band of Table 6.4 that the highest reading of the control die selects (R331). -/
def seedBand (s : State) : Nat :=
  let h := (highest s ((upTo 8).map (fun i => 32 + i))).2
  if h < 45 * 256 then 0 else if h < 75 * 256 then 1 else if h < 95 * 256 then 2 else 3

/-- The clock recovery and DFE of data lanes start from their seed values (R328, R331). -/
def seedLanes (p : Nat) (lanes : List Nat) (s : State) : State :=
  setPort p { port p s with bands := lanes.foldl (fun t l => tput l (seedBand s) t) (port p s).bands } s

/-- Training begins at the phase CLOCK (R330). -/
def trainStart (p : Nat) (s : State) : State :=
  let s := setPort p { port p s with lost := [], rxBad := [], clean := 0 } (portEmpty p s)
  setPhase p 1 (lanesShow p s)

/-- The limit of a training phase in ns (Table 16.6). -/
def phaseLimit (n : Nat) : Nat :=
  match n with
  | 1 => 100000
  | 2 => 200000
  | 3 => 2000000
  | 4 => 100000
  | _ => 2500000

/-- Training fails (R330).
[log: 68 DEDUCED] -/
def trainFail (p : Nat) (s : State) : State := portDown p 7 (record (0x7000 + p) 0xD 0 0 s)

/-- Data lanes of port `p` are lost: counted, and shown. -/
def lanesGone (p : Nat) (ls : List Nat) (s : State) : State :=
  setPort p { port p s with lost := ls ++ (port p s).lost, clean := 0 } s |> lanesShow p
    |> bumpBy (oPortCounts p) 39 30 ls.length

/-- Data lane `l` of port `p` is lost while the rest of the frame can be rebuilt; it retrains in the background (R328). -/
def laneLost (p l : Nat) (s : State) : State :=
  seedLanes p [l] (lanesGone p [l] s) |> record (0x7000 + p) 0x704 l 0

/-- The eye widths of the five data lanes, and the record of a narrow one (R331). -/
def eyesPut (p : Nat) (eyes : List Nat) (s : State) : State :=
  if eyes.length ≠ 5 then s
  else
    let v := (upTo 5).foldl (fun a i => a + min 255 (nth 0 eyes i) * 2 ^ (8 * i)) 0
    let least := eyes.foldl min 255
    let s := setR (oPortEye p) (w v) s
    if least < 16 && !(port p s).eyeLow then
      record (0x7000 + p) 0x708 0 0 (setPort p { port p s with eyeLow := true } s)
    else if 20 ≤ least then setPort p { port p s with eyeLow := false } s
    else s

/-- The least eye width of a port's data lanes. -/
def leastEye (p : Nat) (s : State) : Nat := ((upTo 5).map (fun i => fR (oPortEye p) (8 * i + 7) (8 * i) s)).foldl min 255

/-- The port comes up (R326, R330).
[log: 69 DEDUCED] -/
def portComesUp (p : Nat) (s : State) : State :=
  let s := portEmpty p s
  let s := setPort p { port p s with
    missRun := if 3 ≤ (port p s).missRun then 0 else (port p s).missRun, missAt := some (plus (now s) 1000) } s
  let s := setPhase p 6 (putF (oPortStatus p) 35 32 0 (putB (oPortStatus p) 0 true s))
  record (0x7000 + p) 0x707 0 0 (endRoutineAt 0x605 p 0 [w (leastEye p s)] s)

/-- A training phase completes (R330, Table 16.6). -/
def phaseDone (p : Nat) (unaligned eyes : List Nat) (s : State) : State :=
  match (port p s).phase with
  | 1 => setPhase p 2 (putB (oPortStatus p) 26 true s)
  | 2 => setPhase p 3 (seedLanes p (upTo 5) s)
  | 3 => setPhase p 4 (eyesPut p eyes s)
  | 4 =>
    match unaligned.dedup with
    | [] => setPhase p 5 (lanesShow p s)
    | [l] => setPhase p 5 (laneLost p l s)
    | _ => trainFail p s
  | 5 => if 1024 ≤ (port p s).goodRun then portComesUp p (eyesPut p eyes s) else s
  | _ => s

/-! ### The frame as sent (R212, R317-R325, R340, R347) -/

/-- CRC-32 of a frame: over W0, W1, bits 39:32 of W2, and W3..W11, in byte order (Table 16.1). -/
def frameCrc (ws : List W40) : Nat :=
  let bytes := (ws.take 2).flatMap (fun v => toLe 5 v.toNat) ++ [BitVec.ofNat 8 (fld (nth 0 ws 2) 39 32)]
    ++ (ws.drop 3).flatMap (fun v => toLe 5 v.toNat)
  bytes.foldl (fun c b => crcByte c b.toNat) 0xFFFFFFFF ^^^ 0xFFFFFFFF

/-- A place of a frame: KIND, OFS, word, 20-bit field (R319). -/
structure Place where
  kind : Nat := 0
  ofs : Nat := 0
  word : W40 := 0
  field : Nat := 0

/-- The twelve words of a frame (Table 16.1). -/
def frameWords (seq tseg : Nat) (rxUp : Bool) (tdata : W40) (ps : List Place) : List W40 :=
  let pl := fun i => nth ({} : Place) ps i
  let w0 := seq % 1024 * 2 ^ 30 + (upTo 6).foldl (fun a i => a + (pl i).kind * 2 ^ (28 - 2 * i) + (pl i).ofs * 2 ^ (15 - 3 * i)) 0
  let body := (upTo 3).flatMap (fun j =>
    [(pl (2 * j)).word, (pl (2 * j + 1)).word, w ((pl (2 * j)).field * 2 ^ 20 + (pl (2 * j + 1)).field)])
  let h := tseg * 2 ^ 36 + b2n rxUp * 2 ^ 35
  let c := frameCrc ([w w0, tdata, w h] ++ body)
  [w w0, tdata, w (h + c)] ++ body

/-- The K codes of symbol 0: K27.7 at a frame start, K28.5 in the idle slot (R317). -/
def k277 : Nat := 0x1FB
/-- K28.5. -/
def k285 : Nat := 0x1BC

/-- Byte `b` of the 60 bytes of a frame: word `w` occupies bytes 5w..5w + 4, least significant byte first (R317). -/
def frameByte (ws : List W40) (b : Nat) : Nat := (nth 0 ws (b / 5)).toNat / 2 ^ (8 * (b % 5)) % 256

/-- Symbol `k` of data lane `l` of the frame with words `ws`, before 8b/10b encoding: the K code of its frame number at symbol 0; byte `b`
on lane b mod 4 at symbol 1 + ⌊b/4⌋; on the parity lane the bytewise XOR of lanes 0..3 (R317, R318). -/
def frameSymbol (ws : List W40) (l k : Nat) : Nat :=
  let byte := fun l => frameByte ws (4 * (k - 1) + l)
  if k = 0 then (if fld (nth 0 ws 0) 39 30 = 0 then k285 else k277)
  else if l < 4 then byte l
  else byte 0 ^^^ byte 1 ^^^ byte 2 ^^^ byte 3

/-- A forwarded item: its source is another device. -/
def isFwd (it : Item) (s : State) : Bool := it.src != devNum s

/-- The rank of an item in the filling order of R212, and its place within the rank. -/
def itemRank (it : Item) (s : State) : Nat :=
  if it.kind = 2 then fld it.word 35 28
  else if isFwd it s then 0x10000 + vIndex it.word
  else 0x20000 + vIndex it.word

/-- An item in its place of the filling order. -/
def rankInsert (s : State) (it : Item) : List Item → List Item
  | [] => [it]
  | y :: t => if itemRank it s < itemRank y s then it :: y :: t else y :: rankInsert s it t

/-- Items in the filling order of R212. -/
def rankSort (s : State) (xs : List Item) : List Item := xs.foldl (fun a it => rankInsert s it a) []

/-- The place of an item in the frame that starts at `x` (R320, R321). -/
def itemPlace (x : Tick) (it : Item) : Place :=
  { kind := it.kind, ofs := (x - it.posted).toNat - 1, word := it.word, field := unsx 20 (tdiff it.posted it.ref) }

/-- The place of a data-stream message (R323, R340). -/
def dataPlace (d : DataPlace) : Place := { kind := 3, word := d.word, field := d.type * 2 ^ 16 + d.field.toNat }

/-- The 336 bits of a mirror slot, most significant first, in six continuation places (Table 17.3).
[log: 62 DEDUCED] -/
def mirrorPlaces (slot : List W40) (adv : Nat) : List DataPlace :=
  let n := (slot.take 8).foldl (fun a v => a * 2 ^ 40 + v.toNat) 0 * 2 ^ 16
  (upTo 6).map (fun i =>
    let c := n / 2 ^ (56 * (5 - i)) % 2 ^ 56
    { type := 7, word := w (c / 2 ^ 16), field := BitVec.ofNat 16 c, adv := if i = 5 then some adv else none, mirror := true })

/-- A MIRROR ring of port `p` that may send (R347). -/
def mirrorSends (p : Nat) (s : State) (e : Nat × Ring) : Bool :=
  e.2.type == 5 && e.2.length != 0 && fld e.2.w6 35 33 == p && fld e.2.w6 39 36 == fedPeer p s
    && readsSource e.1 s && level (ring (srcRing e.2) s) != 0 && !(ring (srcRing e.2) s).eccStop

/-- The next mirror slot of port `p` joins its data stream where none waits; where the mirror has to wait, what is left of one goes, and
the source keeps that slot (R347).
[log: 62 DEDUCED] -/
def mirrorLoad (p : Nat) (s : State) : State :=
  if !federated s || !usable p s then setPort p { port p s with data := (port p s).data.filter (fun d => !d.mirror) } s
  else if (port p s).data.any (fun d => d.mirror) then s
  else match s.gran.rings.find? (mirrorSends p s) with
    | some (_, m) =>
      let src := srcRing m
      let r := ring src s
      let slot := rdWords s.gran.mem (slotAddr r r.head) 8
      let head : DataPlace :=
        { type := 2, word := w (devNum s * 2 ^ 36 + fld m.w6 19 0), field := BitVec.ofNat 16 r.head.toNat, mirror := true }
      setPort p { port p s with data := (port p s).data ++ head :: mirrorPlaces slot src } s
    | none => s

/-- Reach and MODE messages go before the messages that wait, in the order in which they arise, but not into one that has begun (R340). -/
def dataFront (d : DataPlace) (q : List DataPlace) : List DataPlace :=
  let ahead := fun (x : DataPlace) => x.type == 7 || x.type == 1 || x.type == 5
  q.takeWhile ahead ++ d :: q.dropWhile ahead

/-- The messages of the µs: reach on a usable port, MODE on the pair port (R42, R336, R340). -/
def usMessages (p : Nat) (s : State) : State :=
  let s := if usable p s then
      let d : DataPlace :=
        { type := 1, word := w (devNum s * 2 ^ 36 + s.fuses.serial.toNat % 2 ^ 32), field := BitVec.ofNat 16 s.fed.reachNo }
      setPort p { port p s with data := dataFront d (port p s).data }
        { s with fed := { s.fed with reachNo := (s.fed.reachNo + 1) % 65536 } }
    else s
  if bR oPairStatus 35 s && pairPort s == p then
    setPort p { port p s with data := dataFront { type := 5, word := w (fR oMode 5 0 s), field := 0 } (port p s).data } s
  else s

/-- The messages for the twin join the data stream of the pair port.
[log: 61 DESIGN CHOICE, 63 DEDUCED] -/
def pairLoad (p : Nat) (s : State) : State :=
  if bR oPairStatus 35 s && pairPort s == p then
    let ds := s.pair.sendQ.map (fun m => ({ type := m.1, word := m.2.1, field := m.2.2 } : DataPlace))
    setPort p { port p s with data := (port p s).data ++ ds } { s with pair := { s.pair with sendQ := [] } }
  else s

/-- A stamp in 1/256 ns as a tick and a fraction.
[log: 64 DEDUCED] -/
def stampTick (x : Int) : W40 := wi (x / 256)
/-- The fraction of a stamp. -/
def stampFrac (x : Int) : Nat := (x % 256).toNat

/-- The five segments of a time message that starts in the frame at `x` (Table 16.4), and what the port keeps of it (R325, R326):
the stamp is taken as the frame start leaves the balls, 8 ns on.
[log: 64 DEDUCED] -/
def timeMessage (p : Nat) (x : Tick) (s : State) : State :=
  let q := port p s
  let ts := getR oTimeStatus s
  let flags := b2n (bit ts 4) * 8 + b2n (bit ts 6) * 4 + b2n (fld ts 2 0 == 1 || fld ts 2 0 == 3) * 2 + b2n (bit ts 3)
  let tx := ((plus x 8).toNat : Int) * 256
  let seg0 := w (2 ^ 36 + devNum s * 2 ^ 32 + fld ts 15 12 * 2 ^ 28 + flags * 2 ^ 24 + q.mseq)
  let (rm, rt, rf, s) := match q.lastMsg with
    | some _ => (q.peerMseq, stampTick q.peerRx, stampFrac q.peerRx, s)
    | none => ((Config.freeWord s.free).toNat % 2 ^ 20, Config.freeWord (s.free + 1),
        (Config.freeWord (s.free + 2)).toNat % 256, takeFree (takeFree (takeFree s)))
  let segs := [seg0, stampTick tx, w (stampFrac tx * 2 ^ 32 + rm * 2 ^ 12), rt, w (rf * 2 ^ 32)]
  let ans := if q.lastMsg.isSome then tput q.mseq (q.peerTx, q.peerRx) q.ansTx else q.ansTx
  setPort p { q with tseg := segs, mseq := (q.mseq + 1) % 2 ^ 20, sentTx := tput q.mseq tx q.sentTx, ansTx := ans } s

/-- FULLTIME is a multiple of `n` at the present tick. -/
def fullMod (n : Nat) (s : State) : Bool := (s.time.epoch.toNat * 2 ^ 40 + s.time.tick.toNat) % n == 0

/-- A source ring gives up a slot that a mirror has sent (R347). -/
def mirrorAdvance (n : Nat) (s : State) : State :=
  let r := ring n s
  if level r = 0 then s else watermark n (setRing n { r with head := r.head + 1 } s)

/-- The frame of an UP port at the present tick; a federation port that is not usable sends no items (R334).
[log: 63 DEDUCED] -/
def sendUp (p : Nat) (s : State) : State :=
  let x := now s
  let s := pairLoad p s
  let s := if fullMod 1000 s then usMessages p (timeMessage p x s) else s
  let s := mirrorLoad p s
  let q := port p s
  let ready := if usable p s then q.out.filter (fun it => !notBefore it.posted x) else []
  let sorted := rankSort s (ready.filter (fun it => notBefore (plus it.posted 5) x))
  let items := sorted.take 6
  let s := foldS (fun it s => exportDrop p (isFwd it s && it.kind == 1)
    (if it.kind = 2 then fld it.word 35 28 else vIndex it.word) it.posted s) (sorted.drop 6) s
  let room := 6 - items.length
  let ds := q.data.take room
  let idle := if bR oPairStatus 35 s && pairPort s == p then
      (upTo (room - ds.length)).map (fun _ => ({ kind := 3 } : Place)) else []
  let ps := items.map (itemPlace x) ++ ds.map dataPlace ++ idle
  let seg := if q.tseg.isEmpty then 15 else 5 - q.tseg.length
  let ws := frameWords ((fullTime s).toNat / 5) seg true (q.tseg.headD 0) ps
  let s := setPort p { port p s with
    tx := ws, tseg := q.tseg.drop 1, data := q.data.drop room, out := q.out.filter (fun it => notBefore it.posted x) } s
  foldS (fun d s => match d.adv with | some n => mirrorAdvance n s | none => s) ds s

/-- FRAME_TRANSMIT: port `p` sends the frame that starts at the present tick (R317, R329, Table 16.6). -/
def frameTransmitRow (p : Nat) (s : State) : State :=
  if !bR (oPortCtl p) 0 s || !fullMod 5 s || !s.time.counting then s
  else
    match (port p s).phase with
    | 6 => sendUp p s
    | 5 => setPort p { port p s with tx := frameWords ((fullTime s).toNat / 5) 15 true 0 [] } s
    | 4 => setPort p { port p s with tx := frameWords ((fullTime s).toNat / 5) 15 false 0 [] } s
    | 0 => setPort p { port p s with tx := frameWords ((fullTime s).toNat / 5) 15 false 0 [] } s
    | _ => setPort p { port p s with tx := [], txAt := fullTime s } s

end Sys2Proof.Machine
end

