-- ==== Sys2Proof/Machine/PortFam.lean ====
section
/-! DEFINITION. The commands of Yalan ports: frames received, items released, time messages, heartbeats, loss of the clock lane,
and training (R26, R67-R71, R209, R213, R316-R332, R334-R337). -/

namespace Sys2Proof.Machine

/-! ### Frames received (R321, R324, R328, R329) -/

/-- F of port `p` (R321). -/
def flightF (p : Nat) (s : State) : Nat := fR (oPortFlight p) 15 0 s

/-- The frame start with number `seq` nearest to FULLTIME `c` (R321). -/
def nearStart (seq c : Nat) : Nat :=
  let b := c / 5120 * 5120 + 5 * seq
  let dist := fun x => (max x c - min x c : Nat)
  let lo := if 5120 ≤ b then b - 5120 else b
  let best := if dist lo ≤ dist b then lo else b
  if dist (b + 5120) < dist best then b + 5120 else best

/-- A received frame after the rebuild (R324): its words, whether every symbol 0 was a K code, the bytes rebuilt, and whether two erasures
met at one symbol position. -/
structure RxWords where
  words : List W40
  kOk : Bool
  rebuilt : Nat
  twoErasures : Bool

/-- Symbol `k` of lane `l` for the frame check: every symbol of a lost lane is an erasure (R324, R328). -/
def rxSymbol (lost : List Nat) (x : RxFrame) (l k : Nat) : Option Nat :=
  if lost.contains l then none else nth none (nth [] x.lanes l) k

/-- The lanes that hold an erasure at symbol `k`. -/
def rxErased (lost : List Nat) (x : RxFrame) (k : Nat) : List Nat := (upTo 5).filter (fun l => (rxSymbol lost x l k).isNone)

/-- The byte at symbol `k` of lane `l`; one that is erased is rebuilt from the other three lanes and the parity lane. -/
def rxByte (lost : List Nat) (x : RxFrame) (l k : Nat) : Nat :=
  match rxSymbol lost x l k with
  | some v => v % 256
  | none => (upTo 5).foldl (fun a i => if i = l then a else a ^^^ (rxSymbol lost x i k).getD 0 % 256) 0

/-- A frame as the receiver reads it with the lanes `lost` (R317, R324). -/
def rxRead (lost : List Nat) (x : RxFrame) : RxWords :=
  let sym := (upTo 15).map (· + 1)
  { words := (upTo 12).map (fun i => BitVec.ofNat 40 ((upTo 5).foldl (fun a j =>
      a + rxByte lost x ((5 * i + j) % 4) (1 + (5 * i + j) / 4) * 2 ^ (8 * j)) 0))
    kOk := (upTo 5).all (fun l => match rxSymbol lost x l 0 with | some v => v == k277 || v == k285 | none => true)
    rebuilt := (sym.filter (fun k => match rxErased lost x k with | [l] => l != 4 | _ => false)).length
    twoErasures := (upTo 16).any (fun k => decide (2 ≤ (rxErased lost x k).length)) }

/-- A received frame as port `p` reads it. -/
def rxFrame (p : Nat) (x : RxFrame) (s : State) : RxWords := rxRead (port p s).lost x

/-- Place `j` of a received frame. -/
def rxPlace (ws : List W40) (j : Nat) : Place :=
  let w0 := nth 0 ws 0
  let f := nth 0 ws (5 + 3 * (j / 2))
  { kind := fld w0 (29 - 2 * j) (28 - 2 * j), ofs := fld w0 (17 - 3 * j) (15 - 3 * j),
    word := nth 0 ws (3 + 3 * (j / 2) + j % 2), field := if j % 2 = 0 then fld f 39 20 else fld f 19 0 }

/-- An item of a received place: posting tick, reference tick and release tick (R321). -/
def rxItem (p : Nat) (start : Nat) (pl : Place) (s : State) : Item :=
  let posted := BitVec.ofNat 40 (start + 2 ^ 40 - 1 - pl.ofs)
  { kind := pl.kind, word := pl.word, posted := posted, ref := posted - BitVec.ofInt 40 (sx 20 pl.field),
    src := if pl.kind = 2 then fld pl.word 39 36 else vIndex pl.word / 1024,
    release := plus posted (32 + flightF p s), checked := now s }

/-- A received item waits for its release tick; a late one is counted and never released (R321). -/
def rxAccept (p : Nat) (it : Item) (s : State) : State :=
  if notBefore it.release it.checked then setPort p { port p s with rx := (port p s).rx ++ [it] } s
  else bump (oPortCounts p) 19 10 s |> recordIf (fR (oPortCounts p) 19 10 s = 0) (0x7000 + p) 0x701 0 0

/-- The mirror slots that a discarded frame carried (R347): their headers, and the rest of one that began in a good frame.
[log: 70 DEDUCED] -/
def mirrorsLost (p : Nat) (ws : List W40) (s : State) : Nat :=
  let ds := ((upTo 6).map (rxPlace ws)).filter (fun pl => pl.kind == 3)
  let heads := (ds.filter (fun pl => pl.field / 2 ^ 16 == 2)).length
  let open_ := match ds with
    | d :: _ => d.field / 2 ^ 16 == 7 && !(port p s).discarded
    | [] => false
  heads + b2n open_

/-- A frame is discarded whole (R324). -/
def frameDiscard (p : Nat) (ws : List W40) (s : State) : State :=
  let n := mirrorsLost p ws s
  let s := bump (oPortCounts p) 29 20 s |> recordIf (fR (oPortCounts p) 29 20 s = 0) (0x7000 + p) 0x702 0 0
  bumpBy oFedCounts 19 0 n (setPort p { port p s with goodRun := 0, rxDown := 0, discarded := true } s)

/-- A good frame (R321, R329, R330); a federation port that is not usable discards its items (R334). -/
def frameGood (p : Nat) (arrival : Tick) (ws : List W40) (s : State) : State :=
  let up := bit (nth 0 ws 2) 35
  let s := putB (oPortStatus p) 24 up (setPort p { port p s with discarded := false } s)
  let q := port p s
  if q.phase = 5 then setPort p { q with goodRun := if up then q.goodRun + 1 else 0 } s
  else if q.phase ≠ 6 then s
  else
    let s := setPort p { q with rxDown := if up then 0 else q.rxDown + 1 } s
    if 4 ≤ (port p s).rxDown then portDown p 4 s
    else
      let full := (fullTime s).toNat - (now s - arrival).toNat
      let start := nearStart (fld (nth 0 ws 0) 39 30) (full - (26 + flightF p s))
      foldS (fun j s =>
        let pl := rxPlace ws j
        if (pl.kind = 1 ∨ pl.kind = 2) ∧ usable p s then rxAccept p (rxItem p start pl s) s else s) (upTo 6) s

/-- What a frame shows of its lanes (R328): twice the lane for an erasure on it, one more for a symbol 0 that is no K code. -/
def laneFaults (x : RxFrame) : List Nat :=
  (upTo 5).flatMap (fun l =>
    let syms := (upTo 16).map (rxSymbol [] x l)
    (if syms.contains none then [2 * l] else []) ++
      (if syms.headD none = some k277 ∨ syms.headD none = some k285 then [] else [2 * l + 1]))

/-- Lane `l` is lost: it has no signal, or 4 of 16 consecutive frames hold an erasure on it, or 4 have a symbol 0 of it that is no K code
(R328). -/
def laneGone (x : RxFrame) (bad : List (List Nat)) (l : Nat) : Bool :=
  let n := fun c => (bad.filter (fun b => b.contains c)).length
  x.noSignal.contains l || decide (4 ≤ n (2 * l)) || decide (4 ≤ n (2 * l + 1))

/-- The frames of a port in HANDSHAKE or UP show which lanes are lost, and a lost lane returns after 1,024 consecutive frames without an
erasure (R328): a second lost lane takes the port down (Table 16.5). -/
def laneChange (p : Nat) (x : RxFrame) (s : State) : State :=
  let q := port p s
  let faults := laneFaults x
  let bad := (faults :: q.rxBad).take 16
  let ok := fun l => !faults.contains (2 * l) && !x.noSignal.contains l
  let q := { q with rxBad := bad, clean := if q.lost.all ok then min 1024 (q.clean + 1) else 0 }
  let s := setPort p q s
  match (upTo 5).filter (fun l => !q.lost.contains l && laneGone x bad l), q.lost with
  | [], _ :: _ =>
    if q.clean = 1024 then
      lanesShow p (setPort p { q with lost := [], clean := 0 } s) |> record (0x7000 + p) 0x705 0 0
    else s
  | [], [] => s
  | [l], [] => laneLost p l s
  | ls, _ => portDown p 2 (lanesGone p ls s)

/-- FRAME_RECEIVE: a frame is decoded, rebuilt and checked (R324).
[log: 69 DEDUCED, 71 DESIGN CHOICE] -/
def frameReceiveRow (p : Nat) (x : RxFrame) (s : State) : State :=
  let ph := (port p s).phase
  if !bR (oPortCtl p) 0 s || !(ph == 0 || ph == 4 || ph == 5 || ph == 6) then s
  else
    let s := if ph = 5 ∨ ph = 6 then laneChange p x s else s
    let y := rxFrame p x s
    let s := bumpBy (oPortCorr p) 39 0 y.rebuilt s
    let bad := y.twoErasures || !y.kOk || frameCrc y.words != fld (nth 0 y.words 2) 31 0
    if bad then frameDiscard p y.words s else frameGood p x.arrival y.words s

/-! ### Items released (R26, R213, R321, R322, R334, R337) -/

/-- The item whose release tick comes first among those that are due. -/
def firstItem (s : State) : List Item → Option Item → Option Item
  | [], b => b
  | it :: t, b =>
    if due it.release s then
      match b with
      | some y => firstItem s t (if notBefore it.release y.release then b else some it)
      | none => firstItem s t (some it)
    else firstItem s t b

/-- An item released at tick `x` goes on to the peers of FWD, as posted at `x` + 4 (R322, R334); an echo forwards nothing (R43). -/
def forwardItem (p : Nat) (x : Tick) (it : Item) (s : State) : State :=
  if isEcho s then s
  else foldS (fun q s =>
    if q != p && fedFwd it.src q s && usable q s then
      toPort q (it.kind == 1) (if it.kind = 2 then fld it.word 35 28 else vIndex it.word) { it with posted := plus x 4 } s
    else s) (upTo (nPorts s)) s

/-- A received item is released at its tick (R209, R213, R334, R337). -/
def releaseItem (p : Nat) (it : Item) (s : State) : State :=
  let s := setPort p { port p s with rx := (port p s).rx.erase it } s
  if !federated s || !usable p s then s
  else if it.src = devNum s then bump oVbStat 11 0 s
  else if bR oFedStatus 1 s && !bR oFedReach (16 + it.src) s then bump oFedCounts 39 20 s
  else
    let x := it.release
    let s := forwardItem p x it s
    if it.kind = 2 then barNotice x (fld it.word 35 28) it.src it.ref s
    else { s with bus := s.bus ++ [{ at_ := x, word := it.word, ref := it.ref, remote := true }] }

/-- ITEM_RELEASE: the earliest item that is due. -/
def itemReleaseRow (p : Nat) (s : State) : State :=
  match firstItem s (port p s).rx none with
  | some it => releaseItem p it s
  | none => s

/-! ### Time messages and heartbeats (R67-R71, R325-R327, R334, R335) -/

/-- The difference of two stamps in 1/256 ns, modulo 2^48. -/
def stampDiff (a b : Int) : Int := sx 48 (unsx 48 (a - b))

/-- ASYM of port `p`. -/
def portAsym (p : Nat) (s : State) : Int := sx 20 (fR (oTimePortAsym p) 19 0 s)

/-- A measured delay in 1/1024 ns enters PORT_FLIGHT and F (R321, R326).
[log: 66 DEDUCED] -/
def flightPut (p : Nat) (delay : Int) (s : State) : State :=
  let m := 2 * delay + portAsym p s
  let up := ((m + 2047) / 2048).toNat % 65536
  let f := flightF p s
  let s := putF (oPortFlight p) 39 16 (clampI 0 0xFFFFFF delay).toNat s
  if !bR (oPortStatus p) 25 s then putF (oPortFlight p) 15 0 up (putB (oPortStatus p) 25 true s)
  else if (f : Int) * 2048 < m ∨ m < ((f : Int) - 1) * 2048 then
    putF (oPortFlight p) 15 0 up s |> record (0x7000 + p) 0x703 0 (w (f * 2 ^ 16 + up))
  else s

/-- A round trip: the delay and the offset in 1/1024 ns from the four stamps (R67). -/
def roundTrip (t1 t2 t3 t4 : Int) : Int × Int :=
  (2 * (stampDiff t2 t1 + stampDiff t4 t3), 2 * (stampDiff t2 t1 - stampDiff t4 t3))

/-- A device outside holdover, in SAFE or READY, acquires from a measured offset unless its upstream port lies too deep (R68, R71,
R335). -/
def acquireAt (off : Int) (hops : Nat) (s : State) : State :=
  if s.time.req.isSome || s.time.resume.isSome || bR oTimeStatus 4 s || !(s.life == .safe || s.life == .ready) then s
  else if 4 ≤ hops then
    if s.fed.depthBad then s else record 0x700F 0x70A 0 0 { s with fed := { s.fed with depthBad := true } }
  else acquire off s

/-- Tracking (R69): the phase slews towards zero offset by at most 1/1024 ns in the µs, or tracking stops.
[log: 66 DEDUCED] -/
def track (off : Int) (s : State) : State :=
  if 500 * 1024 < off.natAbs * 1000 then
    record 0 0x209 0 0 (putB oTimeStatus 3 true (putB oTimeStatus 5 false s))
  else slewBegin (now s) (clampI (-1) 1 (-off)) s

/-- A measured offset of the upstream port (R67-R71, R335). -/
def offsetPut (off : Int) (hops : Nat) (s : State) : State :=
  let s := putF oTimeStatus 39 20 (unsx 20 (satI 20 off)) s
  if s.time.acquiring then acquireAt off hops s
  else if bR oTimeStatus 5 s && !bR oTimeStatus 4 s then track off s
  else s

/-- The peer number of a federation port is compared with PEER (R334). -/
def peerCheck (p dev : Nat) (s : State) : State :=
  let bad := bR oFedStatus 0 s && fedLink p s && dev != fedPeer p s
  let was := (port p s).mismatch
  let s := setPort p { port p s with mismatch := bad } s
  recordIf (bad && !was) (0x7000 + p) 0x709 0 0 s

/-- TIME_MESSAGE_RECEIVE: a complete time message passes frame check (R67, R325-R327).
[log: 138 DESIGN CHOICE] -/
def timeMessageRow (p : Nat) (x : TimeMsg) (s : State) : State :=
  if !portUp p s then s
  else
    let q := port p s
    let s := setPort p { q with
      lastMsg := some (now s), missRun := 0, missAt := some (plus (now s) 1000), peerMseq := x.mseq % 2 ^ 20, peerTx := x.tx, peerRx := x.arrival } s
    let s := peerCheck p x.dev (putF (oPortStatus p) 23 20 x.dev (putF (oPortStatus p) 19 16 x.hops s))
    let up := isUpstream p s
    let s := if up then putF oTimeStatus 15 12 (x.hops + 1) s else s
    match tget? x.rxMseq q.sentTx, tget? x.rxMseq q.ansTx with
    | some t3, some (t1, t2) =>
      let (delay, off) := roundTrip t1 t2 t3 x.rx
      let s := flightPut p delay s
      if up then offsetPut (off - portAsym p s / 2) x.hops s else s
    | _, _ => s

/-- HEARTBEAT_MISS: no message has come within 1 µs of the one that was expected (R70, R327). The upstream port is watched while it is
down or trains as well.
[log: 67 DEDUCED] -/
def heartbeatRow (p : Nat) (s : State) : State :=
  let q := port p s
  let up := portUp p s
  let from_ := q.missAt.getD q.phaseAt
  if !(up || (isUpstream p s && !bR oTimeStatus 4 s)) || !due (plus from_ 1000) s then s
  else
    let s := bump (oPortCounts p) 9 0
      (setPort p { q with missRun := q.missRun + 1, missAt := some (plus from_ 1000) } s)
    if 3 ≤ q.missRun + 1 then
      let s := if up then portDown p 3 s else s
      if isUpstream p s then holdover s else s
    else s

/-- CLOCK_LANE_LOSS: a port that is UP, or trains with its clock lane locked, goes down with cause 1; in every phase CLK_OK shows that the
lane is not locked, and loss of the clock lane of the upstream port starts holdover (R70, R327). -/
def clockLossRow (p : Nat) (s : State) : State :=
  let had := bR (oPortStatus p) 26 s
  let up := portUp p s
  let s := putB (oPortStatus p) 26 false s
  let s := if up || (had && training p s) then portDown p 1 s else s
  if isUpstream p s && (up || had) then holdover s else s

/-! ### Training (R330, R332) -/

/-- PORT_RETRAIN (R330, R332). -/
def doRetrain (s : State) : State :=
  opRun 0x605 (fun r s =>
    let p := r.target
    if !bR (oPortCtl p) 0 s then refuse 2 s
    else
      let s := if portUp p s then portDown p 5 s else s
      trainStart p (park s)) s

/-- A write of EN (R329, R332).
[log: 68 DEDUCED] -/
def portEnable (p : Nat) (en : Bool) (s : State) : State :=
  let was := bR (oPortCtl p) 0 s
  let s := putB (oPortCtl p) 0 en s
  if en && !was then trainStart p s
  else if !en && was then
    let s := if (port p s).phase = 0 then s else portDown p 6 s
    putB (oPortStatus p) 26 false (setPort p { port p s with tx := [] } s)
  else s

/-- TRAIN_AUTOSTART: a down port with EN 1 has seen K28.5 on all five lanes for 1 µs (R330). -/
def autostartRow (p : Nat) (s : State) : State :=
  if bR (oPortCtl p) 0 s && (port p s).phase == 0 then trainStart p s else s

/-- The phase of port `p` has exceeded its limit. -/
def phaseOver (p : Nat) (s : State) : Bool :=
  let e := plus (port p s).phaseAt (phaseLimit (port p s).phase)
  due e s && now s != e

/-- TRAIN_PHASE_COMPLETE (R330). -/
def phaseCompleteRow (p : Nat) (unaligned eyes : List Nat) (s : State) : State :=
  if training p s && !phaseOver p s then phaseDone p unaligned eyes s else s

/-- TRAIN_TIMEOUT (R330). -/
def trainTimeoutRow (p : Nat) (s : State) : State := if training p s && phaseOver p s then trainFail p s else s

/-- LINK_EYE_LOW: the receiver measures the eyes of an UP port (R331). -/
def eyeRow (p : Nat) (eyes : List Nat) (s : State) : State := if portUp p s then eyesPut p eyes s else s

/-! ### Rows -/

/-- FRAME_TRANSMIT. -/
def execFrameTransmit (p : Nat) (s : State) : Host.Outcome State Fault Refusal := .next (clocked (frameTransmitRow p) s)
/-- FRAME_RECEIVE. -/
def execFrameReceive (p : Nat) (x : RxFrame) (s : State) : Host.Outcome State Fault Refusal := .next (clocked (frameReceiveRow p x) s)
/-- ITEM_RELEASE. -/
def execItemRelease (p : Nat) (s : State) : Host.Outcome State Fault Refusal := .next (clocked (itemReleaseRow p) s)
/-- TIME_MESSAGE_RECEIVE. -/
def execTimeMessageReceive (p : Nat) (x : TimeMsg) (s : State) : Host.Outcome State Fault Refusal :=
  .next (clocked (timeMessageRow p x) s)
/-- HEARTBEAT_MISS. -/
def execHeartbeatMiss (p : Nat) (s : State) : Host.Outcome State Fault Refusal := .next (clocked (heartbeatRow p) s)
/-- CLOCK_LANE_LOSS. -/
def execClockLaneLoss (p : Nat) (s : State) : Host.Outcome State Fault Refusal := .next (clocked (clockLossRow p) s)
/-- PORT_RETRAIN. -/
def execPortRetrain (s : State) : Host.Outcome State Fault Refusal := .next (doRetrain s)
/-- TRAIN_AUTOSTART. -/
def execTrainAutostart (p : Nat) (s : State) : Host.Outcome State Fault Refusal := .next (clocked (autostartRow p) s)
/-- TRAIN_PHASE_COMPLETE. -/
def execTrainPhaseComplete (p : Nat) (unaligned eyes : List Nat) (s : State) : Host.Outcome State Fault Refusal :=
  .next (clocked (phaseCompleteRow p unaligned eyes) s)
/-- TRAIN_TIMEOUT. -/
def execTrainTimeout (p : Nat) (s : State) : Host.Outcome State Fault Refusal := .next (clocked (trainTimeoutRow p) s)
/-- LINK_EYE_LOW. -/
def execLinkEyeLow (p : Nat) (eyes : List Nat) (s : State) : Host.Outcome State Fault Refusal := .next (clocked (eyeRow p eyes) s)

end Sys2Proof.Machine
end

