-- ==== Sys2Proof/Machine/FedFam.lean ====
section
/-! DEFINITION. Federations and pairs: configuration, reach, pair start, comparison, handover and mirror slots (R72, R118,
R333-R347). -/

namespace Sys2Proof.Machine

/-! ### Federation configuration (R333) -/

/-- A sequencer that holds an unbounded BR is started (R118). -/
def unbStarted (s : State) : Bool :=
  s.seqs.any (fun e => e.2.unbHeld && !(e.2.st == .idle || e.2.st == .done || e.2.st == .faulted))

/-- LINK[p] of a buffer. -/
def bufLink (ws : List W40) (p : Nat) : Bool := bit (nth 0 ws 1) (5 * p + 4)

/-- Ports that a FWD word of a buffer names and that hold no LINK. -/
def fwdBad (ws : List W40) (d : Nat) : Bool :=
  (upTo 6).any (fun p => bit (nth 0 ws (2 + d)) p && !bufLink ws p)

/-- Why the contents of a FED_LOAD buffer are refused (R333). -/
def fedContents (ws : List W40) (s : State) : Option Nat :=
  let w0 := nth 0 ws 0
  let dev := fld w0 39 36
  let master := fld w0 35 32
  let up := fld w0 31 28
  if (upTo 6).any (fun p => bufLink ws p && decide (nPorts s ≤ p)) then some 6
  else if !bit w0 dev || !bit w0 master then some 4
  else if (up == 15) != (dev == master) then some 4
  else if up != 15 && !(decide (up < 6) && bufLink ws up) then some 4
  else if bR oPairStatus 35 s && bufLink ws (pairPort s) then some 4
  else if (upTo 16).any (fwdBad ws) || fld (nth 0 ws (2 + dev)) 5 0 != 0 then some 4
  else none

/-- ROLE of the ports follows LINK; the pair port keeps its own (PORT_STATUS). -/
def fedRoles (link : Nat → Bool) (s : State) : State :=
  foldS (fun p s =>
    if fR (oPortStatus p) 3 2 s = 2 then s else putF (oPortStatus p) 3 2 (b2n (link p)) s) (upTo (nPorts s)) s

/-- REACH of a new configuration: the own device, and those from which a reach message has come within the last 3 µs (R336). -/
def fedReachOwn (s : State) : State :=
  let seen := s.fed.seen.filter (fun e => !due (plus e.2 3000) s)
  let r := seen.foldl (fun a e => a ||| 2 ^ e.1) (2 ^ devNum s)
  putF oFedReach 15 0 r { s with fed := { s.fed with seen := seen, clash := false, depthBad := false } }

/-- A configuration comes into force (R333). -/
def fedApply (ws : List W40) (s : State) : State :=
  let w0 := nth 0 ws 0
  let s := { s with fed := { s.fed with words := ws } }
  let s := s |> putF oFedStatus 39 36 (fld w0 39 36) |> putF oFedStatus 35 32 (fld w0 35 32)
    |> putF oFedStatus 31 16 (fld w0 15 0) |> putB oFedStatus 0 true
  fedReachOwn (fedRoles (bufLink ws) s)

/-- FED_LOAD. -/
def doFedLoad (e : Ecc) (s : State) : State :=
  opRun 0x601 (fun r s =>
    let a := (prm r 0).toNat
    if federated s then refuse 2 s
    else match bufferCheck r a 90 s with
      | some c => refuse c s
      | none =>
        if (prm r 1).toNat ≠ 18 then refuse 4 s
        else withBuf e a 18 (fun ws s =>
          if fld (nth 0 ws 0) 39 36 ≠ devNum s ∧ unbStarted s then refuse 1 s
          else match fedContents ws s with
            | some c => refuse c s
            | none => finish 0 [] (fedApply ws s)) s) s

/-- FED_CLEAR. -/
def doFedClear (s : State) : State :=
  opRun 0x602 (fun _ s =>
    if federated s then refuse 2 s
    else if devNum s ≠ 0 ∧ unbStarted s then refuse 1 s
    else
      let s := { s with fed := { s.fed with words := [] } }
      let s := putF oFedStatus 39 16 0 (putB oFedStatus 0 false s)
      finish 0 [] (fedReachOwn (fedRoles (fun _ => false) s))) s

/-! ### Reach (R336-R338) -/

/-- REACH equals MEMBERS. -/
def fedWhole (s : State) : Bool := fR oFedReach 15 0 s == fR oFedStatus 31 16 s

/-- REACH changes: where it no longer equals MEMBERS under FEDERATED, the device is isolated (R336).
[log: 65 DEDUCED] -/
def reachSet (d : Nat) (b : Bool) (s : State) : State :=
  let was := fedWhole s
  let s := putB oFedReach d b s
  if was && !fedWhole s && federated s && !bR oFedStatus 1 s then
    let r := fR oFedReach 15 0 s
    let s := putB oFedStatus 1 true (putF oFedReach 31 16 r s)
    let s := record 0x700F 0x70B r 0 s
    barFailAll (now s) (fun x => barLost x s) s
  else s

/-- A reach message whose source has the own number (R338). -/
def reachOwn (p : Nat) (serial : Nat) (s : State) : State :=
  let twin := bR oPairStatus 35 s && serial == s.pair.twinSerial.toNat
  if serial = s.fuses.serial.toNat % 2 ^ 32 ∨ twin ∨ s.fed.clash then s
  else record (0x7000 + p) 0x700 0 (w (p * 2 ^ 32 + serial)) { s with fed := { s.fed with clash := true } }

/-- REACH_MESSAGE: a reach message arrives at port `p` (R334, R336-R338).
[log: 65 DEDUCED] -/
def reachRow (p : Nat) (x : WireMsg) (s : State) : State :=
  if !usable p s then s
  else
    let v := x.word
    let d := fld v 39 36
    let hops := fld v 35 32 + 1
    if d = devNum s then reachOwn p (fld v 31 0) s
    else
      let again := bR oFedStatus 1 s && !bR oFedReach d s
      let s := reachSet d true { s with fed := { s.fed with seen := tput d (now s) s.fed.seen } }
      let s := recordIf again (0x7000 + p) 0x70C 0 0 s
      if 4 < hops then s
      else
        let m : DataPlace := { type := 1, word := setFld v 35 32 hops, field := x.field }
        foldS (fun q s =>
          if q != p && fedFwd d q s && usable q s then
            setPort q { port q s with data := dataFront m (port q s).data } s
          else s) (upTo (nPorts s)) s

/-- REACH_TIMEOUT: no reach message of device `d` within 3 µs (R94, R336). -/
def reachTimeoutRow (d : Nat) (s : State) : State :=
  match tget? d s.fed.seen with
  | some t =>
    let e := plus t 3000
    if d != devNum s && bR oFedReach d s && due e s then
      let s := reachSet d false { s with fed := { s.fed with seen := tdel d s.fed.seen } }
      if federated s then barFailAll (now s) (fun x => (barMask x s).testBit d) s else s
    else s
  | none => s

/-! ### Pair start (R72, R339) -/

/-- The own half of the pair-start checks for a start with role and time-master bit (Table 17.2). -/
def ownHalf (p : Nat) (role tm : Bool) (s : State) : PairHalf :=
  { part := match s.fuses.part with | .q512 => 512 | .q256 => 256
    role := role, tmaster := tm, rot := (upTo (nTiles s)).map (fun t => getR (oAdcRotCtl t) s)
    loaded := bR oFedStatus 0 s, devnum := devNum s, portFree := !(bR oFedStatus 0 s && fedLink p s)
    serial := BitVec.ofNat 32 s.fuses.serial.toNat }

/-- The first check of Table 17.2 that fails; none where every check passes. -/
def pairFailed (a b : PairHalf) : Option Nat :=
  if a.part ≠ b.part then some 1
  else if a.role = b.role ∨ a.tmaster = b.tmaster then some 2
  else if a.rot ≠ b.rot then some 3
  else if !((!a.loaded && !b.loaded) || a.devnum == b.devnum) then some 4
  else if !a.portFree || !b.portFree then some 5
  else none

/-- The pair starts (R339): the pair port, the roles, and time under R72. -/
def pairApply (p : Nat) (role tm : Bool) (b : PairHalf) (s : State) : State :=
  let s := if bR oPairStatus 35 s && pairPort s != p then putF (oPortStatus (pairPort s)) 3 2 0 s else s
  let s := putF (oPortStatus p) 3 2 2 s
  let s := s |> putF oPairStatus 39 36 p |> putB oPairStatus 35 true |> putB oPairStatus 30 tm
  let s := putB oModeStatus 6 role (putB oMode 6 role s)
  let s := { s with pair := { s.pair with twinSerial := b.serial, twinHalf := none, startAt := none } }
  if federated s then s
  else if tm then putF oTimeStatus 2 0 3 (putF oTimeStatus 19 16 15 (putF oTimeStatus 15 12 0 s))
  else beginAcquire (putF oTimeStatus 2 0 4 (putF oTimeStatus 19 16 p s))

/-- Port, role and time-master bit that PAIR_START names. -/
def pairAsk (r : Routine) : Nat × Bool × Bool := (fld (prm r 0) 3 0, bit (prm r 0) 4, bit (prm r 0) 5)

/-- The 20 µs that a PAIR_START of tick `t` has are over (R339). -/
def pairOver (t : Tick) (s : State) : Bool := due (plus t 20001) s

/-- The twin's half, where it arrived within the last 20 µs. -/
def twinFresh (s : State) : Option PairHalf :=
  match s.pair.twinHalf with
  | some (h, t) => if pairOver t s then none else some h
  | none => none

/-- A PAIR_START that runs replies OK once every check passes within 20 µs.
[log: 58 DEDUCED] -/
def pairTry (s : State) : State :=
  opRun 0x603 (fun r s =>
    let (p, role, tm) := pairAsk r
    match s.pair.startAt, twinFresh s with
    | some t, some b =>
      if !pairOver t s && (pairFailed (ownHalf p role tm s) b).isNone then finish 0 [] (pairApply p role tm b s) else s
    | _, _ => s) s

/-- PAIR_START: the own half goes to the twin.
[log: 60 DEDUCED] -/
def doPairStart (s : State) : State :=
  opRun 0x603 (fun r s =>
    let (p, role, tm) := pairAsk r
    if s.pair.startAt.any (fun t => notBefore t r.started) then s
    else if nPorts s ≤ p then refuse (if p < 6 then 6 else 4) s
    else if !portUp p s then refuse 2 s
    else pairTry { s with pair := { s.pair with startAt := some (now s), halfOut := some (ownHalf p role tm s) } }) s

/-- PAIR_START_CHECKS_MESSAGE: the twin's half arrives.
[log: 58 DEDUCED] -/
def pairHalfRow (h : PairHalf) (s : State) : State :=
  pairTry { s with pair := { s.pair with twinHalf := some (h, now s) } }

/-- PAIR_START_TIMEOUT: 20 µs have passed; the first failed check is the result (R339). -/
def pairStartTimeoutRow (s : State) : State :=
  opRun 0x603 (fun r s =>
    let (p, role, tm) := pairAsk r
    match s.pair.startAt with
    | some t =>
      if due (plus t 20000) s then
        let n := match s.pair.twinHalf with
          | some (b, _) => (pairFailed (ownHalf p role tm s) b).getD 1
          | none => 1
        finish 14 [w n] { s with pair := { s.pair with startAt := none, twinHalf := none } }
      else s
    | none => s) s

/-! ### Comparison (R341, R342) -/

/-- The output that a TYPE 3 field names (Table 17.3). -/
def crcOutput (f : BitVec 16) : Nat :=
  let o := f.toNat / 16 % 1024
  match f.toNat / 2 ^ 14 with
  | 0 => o
  | 1 => 256 + o
  | _ => 512 + o

/-- OUTPUT_CRC_MESSAGE: the voice's CRC of a compared shot. -/
def outputCrcRow (v : W40) (f : BitVec 16) (s : State) : State :=
  if cmpRuns s && isEcho s then cmpAdd ⟨0, crcOutput f, w (fld v 39 32), w (fld v 31 0), now s, false⟩ s else s

/-- PAIR_VERDICT_MESSAGE: a verdict that the voice has posted. -/
def pairVerdictRow (v : W40) (f : BitVec 16) (s : State) : State :=
  if cmpRuns s && isEcho s && !vcmpOff s then cmpAdd ⟨1, vIndex v, w f.toNat, v, now s, false⟩ s else s

/-- CMP_WAIT in ns. -/
def cmpWait (s : State) : Nat := 1000 * max 1 (fR oPairCmp 15 8 s)

/-- COMPARE_TIMEOUT of item `i`: an own item without a message of the voice counts in CMP_MISS; a verdict of the voice that this
half has not posted is a divergence. -/
def compareTimeoutRow (i : Nat) (s : State) : State :=
  match s.pair.items[i]? with
  | some it =>
    if due (plus it.made (cmpWait s)) s then
      let s := { s with pair := { s.pair with items := s.pair.items.eraseIdx i } }
      if it.ours then bump oPairCounts 19 0 s
      else if it.kind = 1 && cmpRuns s && !vcmpOff s then diverge 1 it.key it.val s
      else s
    else s
  | none => s

/-! ### Handover (R343, R344) -/

/-- Both halves' messages are held: the agreed tick, or failure where they name different shots (R343). -/
def handoverAgree (s : State) : State :=
  match s.pair.myN, s.pair.twinN with
  | some (n, a), some (m, b) =>
    if n ≠ m then handoverFail s
    else
      let t := plus (later a b) 2000
      setR oPairHandoverTick t { s with pair := { s.pair with agreed := some (n, t), myN := none, twinN := none } }
  | _, _ => s

/-- A twin's message that arrived more than 8 µs before `x` no longer counts (R343).
[log: 59 DEDUCED] -/
def twinStale (x : Tick) (s : State) : State :=
  match s.pair.twinN with
  | some (_, b) => if notBefore (plus b 8000) x then s else { s with pair := { s.pair with twinN := none } }
  | none => s

/-- PAIR_HANDOVER (R343).
[log: 59 DEDUCED] -/
def doHandover (s : State) : State :=
  opRun 0x604 (fun r s =>
    if !bR oPairStatus 35 s || !portUp (pairPort s) s then refuse 2 s
    else if s.pair.myN.isSome || s.pair.agreed.isSome then refuse 1 s
    else
      let x := now s
      let n := prm r 0
      let s := pairSend 7 x 0 (pairSend 6 n (BitVec.ofNat 16 x.toNat) (twinStale x (park s)))
      handoverAgree { s with pair := { s.pair with myN := some (n, x) } }) s

/-- The own PAIR_HANDOVER has waited longer than the 8 µs it has for its twin's message (R343). -/
def handoverOver (s : State) : Bool :=
  match s.pair.myN with
  | some (_, x) => due (plus x 8001) s
  | none => false

/-- HANDOVER_MESSAGE: the twin's shot number and receive tick (R343); one that comes after the 8 µs of the own command fixes nothing. -/
def handoverRow (n : W40) (recv : Tick) (s : State) : State :=
  if bR oPairStatus 35 s && portUp (pairPort s) s then
    if handoverOver s then handoverFail s
    else handoverAgree { s with pair := { s.pair with twinN := some (n, recv) } }
  else s

/-- PAIR_HANDOVER_TIMEOUT: 8 µs without the twin's message (R343). -/
def handoverTimeoutRow (s : State) : State :=
  match s.pair.myN with
  | some (_, x) => if s.pair.agreed.isNone && due (plus x 8000) s then handoverFail s else s
  | none => s

/-- The outputs of the part (class 3 of Table 24.2) with their lead sequencers. -/
def allOutputs (s : State) : List (Nat × Nat) :=
  (upTo (16 * nTiles s)).map (fun o => (o, 96 * (o / 16) + 4 * (o % 16)))
    ++ (upTo (8 * nTiles s)).map (fun o => (256 + o, 96 * (o / 8) + 12 * (o % 8)))
    ++ (upTo (nSeqs s)).map (fun o => (512 + o, o))

/-- HANDOVER_AGREED_TICK: at A, the outputs whose lead sequencers are outside a shot switch (R344). -/
def agreedTickRow (s : State) : State :=
  match s.pair.agreed with
  | some (_, a) =>
    if !s.pair.switching && due a s then
      let s := putB oPairStatus 31 true { s with pair := { s.pair with switching := true } }
      foldS (fun e s => if inShot e.2 s then s else switchOut e.2 e.1 s) (allOutputs s) s
    else s
  | none => s

/-! ### Mirror slots (R347) -/

/-- MIRROR_HEADER: a whole slot arrives at a usable port and goes to the REMOTE ring; a ring that is full, disabled or absent drops it
(R274), and so does one that is no RESULT ring.
[log: 70 DEDUCED] -/
def mirrorRow (p : Nat) (v : W40) (sl : List W40) (s : State) : State :=
  let n := fld v 19 0
  if !usable p s then s
  else if (ring n s).type == 2 || (ring n s).length == 0 then (ringPut n (sl.take 8) s).1
  else ringDrop n s

/-! ### Rows -/

/-- FED_LOAD. -/
def execFedLoad (e : Ecc) (s : State) : Host.Outcome State Fault Refusal := .next (doFedLoad e s)
/-- FED_CLEAR. -/
def execFedClear (s : State) : Host.Outcome State Fault Refusal := .next (doFedClear s)
/-- PAIR_START. -/
def execPairStart (s : State) : Host.Outcome State Fault Refusal := .next (doPairStart s)
/-- PAIR_HANDOVER. -/
def execPairHandover (s : State) : Host.Outcome State Fault Refusal := .next (doHandover s)
/-- HANDOVER_AGREED_TICK. -/
def execHandoverAgreedTick (s : State) : Host.Outcome State Fault Refusal := .next (clocked agreedTickRow s)
/-- PAIR_HANDOVER_TIMEOUT. -/
def execPairHandoverTimeout (s : State) : Host.Outcome State Fault Refusal := .next (clocked handoverTimeoutRow s)
/-- REACH_MESSAGE. -/
def execReachMessage (p : Nat) (x : WireMsg) (s : State) : Host.Outcome State Fault Refusal := .next (clocked (reachRow p x) s)
/-- REACH_TIMEOUT. -/
def execReachTimeout (d : Nat) (s : State) : Host.Outcome State Fault Refusal := .next (clocked (reachTimeoutRow d) s)
/-- OUTPUT_CRC_MESSAGE. -/
def execOutputCrcMessage (v : W40) (f : BitVec 16) (s : State) : Host.Outcome State Fault Refusal := .next (clocked (outputCrcRow v f) s)
/-- PAIR_VERDICT_MESSAGE. -/
def execPairVerdictMessage (v : W40) (f : BitVec 16) (s : State) : Host.Outcome State Fault Refusal :=
  .next (clocked (pairVerdictRow v f) s)
/-- COMPARE_TIMEOUT. -/
def execCompareTimeout (i : Nat) (s : State) : Host.Outcome State Fault Refusal := .next (clocked (compareTimeoutRow i) s)
/-- HANDOVER_MESSAGE. -/
def execHandoverMessage (n : W40) (recv : Tick) (s : State) : Host.Outcome State Fault Refusal := .next (clocked (handoverRow n recv) s)
/-- MIRROR_HEADER. -/
def execMirrorHeader (p : Nat) (v : W40) (sl : List W40) (s : State) : Host.Outcome State Fault Refusal :=
  .next (clocked (mirrorRow p v sl) s)
/-- PAIR_START_CHECKS_MESSAGE. -/
def execPairStartChecksMessage (h : PairHalf) (s : State) : Host.Outcome State Fault Refusal := .next (clocked (pairHalfRow h) s)
/-- PAIR_START_TIMEOUT. -/
def execPairStartTimeout (s : State) : Host.Outcome State Fault Refusal := .next (clocked pairStartTimeoutRow s)

end Sys2Proof.Machine
end

