-- ==== Sys2Proof/Machine/MonFam.lean ====
section
/-! DEFINITION. The monitor ADC, SENSE inputs, window monitors and RF overload comparators (R348-R371). -/

namespace Sys2Proof.Machine

/-! ### Conversions (R349, R350) -/

/-- The monitor ADC runs from SAFE on (R348). -/
def monRuns (s : State) : Bool := s.life != .off && s.life != .staging

/-- RANGE_EFF and SEARCH of SENSE_STAT. -/
def senseShow (n : Nat) (s : State) : State :=
  let q := sense n s
  putF (oSenseStat n) 2 0 (if bit q.cfg 1 then 6 else q.range) (putB (oSenseStat n) 4 q.search s)

/-- SENSE input `n` takes its configuration at a conversion boundary (R359). -/
def senseAdopt (n : Nat) (s : State) : State :=
  let q := sense n s
  let v := getR (oSenseCfg n) s
  if v = q.cfg then s
  else
    let changed := bit v 1 != bit q.cfg 1 || fld v 5 3 != fld q.cfg 5 3 || fld v 7 6 != fld q.cfg 7 6
    let r := if bit v 2 then q.range else fld v 5 3
    senseShow n (setSense n { q with
      cfg := v, range := r, settling := q.settling || changed || r != q.range, search := q.search && bit v 2,
      low := if r = q.range then q.low else 0 } s)

/-- A conversion of source `u` begins at tick `x`; a SENSE input's first one waits until its excitation has run 1 ms (R358). -/
def convStart (x : Tick) (u tcode : Nat) (urgent host : Bool) (s : State) : State :=
  let s := if u < 16 then senseAdopt u s else s
  let x := if u < 16 then ((sense u s).readyAt.map (later x)).getD x else x
  let c : MonConv := { src := u, tcode := tcode, fin := plus x (6000 + integration tcode), urgent := urgent, host := host }
  { s with mon := { s.mon with cur := some c } }

/-- A scan entry is skipped: its source is a disabled SENSE input or absent (R350). -/
def scanSkip (e : Nat) (s : State) : Bool :=
  let u := fR (oMonScan e) 7 0 s
  if u < 16 then !bR (oSenseCfg u) 0 s else !sourceHere u s

/-- The next scan entry from `e` on among `n` tries; the scan wraps at SCAN_LEN. -/
def scanFrom (len : Nat) (s : State) : Nat → Nat → Option Nat
  | 0, _ => none
  | n + 1, e => if scanSkip (e % len) s then scanFrom len s n (e + 1) else some (e % len)

/-- The next conversion begins at tick `x`: urgent requests first, then a conversion that was aborted, then the scan
(R350, R352, R353).
[log: 72 DEDUCED] -/
def convNext (x : Tick) (s : State) : State :=
  let s := { s with mon := { s.mon with cur := none } }
  let len := fR oMonCtl 32 27 s
  match s.mon.urgent with
  | r :: t => convStart x r.src r.tcode true r.host { s with mon := { s.mon with urgent := t } }
  | [] =>
    match s.mon.aborted, s.mon.fresh with
    | some (u, c), false => convStart x u c false false { s with mon := { s.mon with aborted := none } }
    | _, _ =>
      let e0 := if s.mon.fresh then 0 else s.mon.entry
      let s := { s with mon := { s.mon with fresh := false, aborted := none } }
      if len = 0 then s
      else match scanFrom len s len e0 with
        | some e => convStart x (fR (oMonScan e) 7 0 s) (fR (oMonScan e) 10 8 s) false false
            { s with mon := { s.mon with entry := e + 1 } }
        | none => s

/-- An idle ADC begins at the present tick, as the tick ends: requests that reach it in the tick have then found their order (R353).
[log: 72 DEDUCED] -/
def convKick (s : State) : State := if monRuns s && s.mon.cur.isNone then convNext (now s) s else s

/-- The scan restarts at entry 0 at the next conversion boundary (R350). -/
def scanRestart (s : State) : State := { s with mon := { s.mon with fresh := true } }

/-! ### Urgent requests (R352, R353) -/

/-- A request in its place: in order of arrival, thermal ones first among those of one tick, by source. -/
def urgInsert (r : UrgReq) : List UrgReq → List UrgReq
  | [] => [r]
  | y :: t =>
    if !r.host && y.at_ == r.at_ && (y.host || decide (r.src < y.src)) then r :: y :: t else y :: urgInsert r t

/-- An urgent request reaches the ADC (R352): the running conversion is aborted unless it is urgent itself. The first of the queue begins as
the tick ends. -/
def urgentPut (r : UrgReq) (s : State) : State :=
  let s := { s with mon := { s.mon with urgent := urgInsert r s.mon.urgent } }
  match s.mon.cur with
  | none => s
  | some c =>
    if c.urgent then s
    else bump oMonStatus 19 12 { s with mon := { s.mon with aborted := some (c.src, c.tcode), cur := none } }

/-- MON_URGENT.
[log: 56 DEDUCED] -/
def doMonUrgent (s : State) : State :=
  opRun 0x901 (fun r s =>
    let running := match s.mon.cur with | some c => c.host | none => false
    if running || s.mon.urgent.any (fun q => q.host) then s
    else if 4 ≤ s.mon.urgent.length then refuse 1 s
    else if 5 < (prm r 0).toNat then refuse 4 s
    else urgentPut ⟨r.target, (prm r 0).toNat, true, now s⟩ s) s

/-- The sensor of a temperature source (Table 18.1, THERM_SENSOR). -/
def sensorOf (u : Nat) : Nat := u - 16

/-- URGENT_REQUEST: the request of a temperature sensor (R352): the micro-trap of priority 5 starts it, once the engine can take it and the
ADC runs (R300, R348). -/
def urgentRow (u : Nat) (s : State) : State :=
  let k := sensorOf u
  let q := tget {} k s.therm.sensors
  if 16 ≤ u && u < 58 && q.urgentPend && monRuns s && trapPends 5 s && trapFree 5 s then
    let s := { s with therm := { s.therm with sensors := tset {} k { q with urgentPend := false } s.therm.sensors } }
    let s := takeTrap 5 s
    let s := if s.therm.sensors.any (fun e => e.2.urgentPend) then raiseTrap 5 s else s
    if s.mon.urgent.any (fun r => r.src == u) || 4 ≤ s.mon.urgent.length then s
    else urgentPut ⟨u, 0, false, now s⟩ s
  else s

/-! ### Samples (R351, R354-R363) -/

/-- The tracking reading of the reference sensor. -/
def tref (s : State) : Int := (tget {} 32 s.therm.sensors).reading

/-- The terms of R360 over the common denominator 2^24 · 2^161 · 12,800². -/
def linSum (raw tr : Int) : Nat → List Int → Int
  | _, [] => 0
  | k, c :: cs =>
    c * raw ^ (k / 3) * 2 ^ (23 * (7 - k / 3)) * (tr - 12800) ^ (k % 3) * 12800 ^ (2 - k % 3) + linSum raw tr (k + 1) cs

/-- The linearised value of a raw code (R360). -/
def linearise (q : LinSet) (raw tr : Int) : W40 :=
  let den : Int := 2 ^ 185 * 12800 ^ 2
  wi (satI 40 ((linSum raw tr 0 q.c * 2 ^ q.frac * 2 + den) / (2 * den)))

/-- Thresholds of a magnitude in resistance mode, full scale 0.8 · 2^23 (R354, R356, R357, R363). -/
def above95 (m : Int) : Bool := decide (76 * 8388608 < m * 100)
/-- Below 8 %. -/
def below8 (m : Int) : Bool := decide (m * 1000 < 64 * 8388608)
/-- At least 1 %. -/
def from1 (m : Int) : Bool := decide (8 * 8388608 ≤ m * 1000)
/-- Below 0.05 %. -/
def below005 (m : Int) : Bool := decide (m * 10000 < 4 * 8388608)

/-- Autoranging of a channel in resistance mode with AUTO 1 after a sample of magnitude `m` (R357, R358). -/
def autorange (q : Sense) (m : Int) (ovr decides : Bool) : Sense :=
  let up := ovr || (decides && above95 m)
  if up then
    if q.range < 5 then { q with range := q.range + 1, settling := true, low := 0 }
    else { q with low := 0, search := q.search && !decides }
  else if !decides then q
  else if below8 m then
    if q.range = 0 then { q with low := 0, search := false }
    else if q.search || q.low + 1 = 4 then { q with range := q.range - 1, settling := true, low := 0 }
    else { q with low := q.low + 1 }
  else { q with low := 0, search := false }

/-- What a conversion delivers: its raw code, linearised value and tag word. -/
structure MonSample where
  raw : Int
  lin : W40
  tag : W40

/-- The tag word (Table 18.4); `flags` are bits 24:16. -/
def monTag (src tcode range : Nat) (lin : Bool) (flags : Nat) : W40 :=
  w (src * 2 ^ 32 + tcode * 2 ^ 29 + range * 2 ^ 26 + b2n lin * 2 ^ 25 + flags * 2 ^ 16 + 2 ^ 15)

/-- The flags of a tag word, bits 24:16. -/
def tagFlags (urgent settling ovr rev openI openV short ovv search : Bool) : Nat :=
  b2n urgent * 256 + b2n settling * 128 + b2n ovr * 64 + b2n rev * 32 + b2n openI * 16 + b2n openV * 8 + b2n short * 4
    + b2n ovv * 2 + b2n search

/-- What a conversion of SENSE input `n` comes to: in resistance mode half the difference of its two halves (R349).
[log: 144 DESIGN CHOICE] -/
def convValue (n : Nat) (x : Conv) (s : State) : Int := if bit (sense n s).cfg 1 then x.raw else (x.raw - x.neg + 1) / 2

/-- SENSE input `n` delivers a sample (R354-R358, R360-R363). -/
def senseSample (c : MonConv) (x : Conv) (n : Nat) (s : State) : MonSample × State :=
  let q := sense n s
  let volt := bit q.cfg 1
  let auto := bit q.cfg 2 && !volt
  let openI := q.open_ || c.openI
  let wire := openI || x.openV
  let v := convValue n x s
  let raw := if wire then 0 else clampI (-8388608) 8388607 v
  let m : Int := raw.natAbs
  let ovr := !wire && decide (8388608 ≤ v.natAbs)
  let rev := !wire && !volt && decide (raw < 0) && from1 m
  let decides := auto && !wire && !q.settling
  let run := if decides then (if q.range = 0 ∧ below005 m then min 4 (q.shortRun + 1) else 0) else q.shortRun
  let short := x.leadShort || (decides && run == 4)
  let range := if volt then 6 else q.range
  let set := tget? (linKey n range) s.lins
  let ok := set.isSome && !q.settling && !ovr && !wire
  let lin := match set with
    | some l => if ok then linearise l raw (tref s) else 0
    | none => 0
  let tag := monTag n c.tcode range ok (tagFlags c.urgent q.settling ovr rev openI x.openV short c.clamp q.search)
  let st := getR (oSenseStat n) s
  let s := recordIf (rev && !bit st 5) (0xB000 + n) 0x800 0 0 s
  let s := recordIf (openI && !q.openRec) (0xB000 + n) 0x801 1 0 s
  let s := recordIf (x.openV && !bit st 7) (0xB000 + n) 0x801 2 0 s
  let s := recordIf (short && !bit st 8) (0xB000 + n) 0x802 0 0 s
  let s := if rev then putB (oSenseStat n) 5 true s else s
  let s := if x.openV then putB (oSenseStat n) 7 true s else s
  let s := if short then putB (oSenseStat n) 8 true s else s
  let q := { q with shortRun := run, openRec := q.openRec || openI }
  let settled := { q with settling := false }
  let q := if auto && !wire then autorange settled m ovr decides else settled
  (⟨raw, lin, tag⟩, senseShow n (setSense n q s))

/-- A source other than a SENSE input delivers a sample: factory sets (Linearisation). -/
def plainSample (c : MonConv) (x : Conv) (s : State) : MonSample :=
  let raw := clampI (-8388608) 8388607 x.raw
  ⟨raw, linearise ⟨16, (upTo 24).map (fun k => (Config.factoryCoef c.src k).toInt)⟩ raw (tref s),
    monTag c.src c.tcode 7 true (tagFlags c.urgent false false false false false false false false)⟩

/-- A sample is delivered (R351): registers, the record, and the reply of MON_URGENT. -/
def deliverSample (c : MonConv) (y : MonSample) (s : State) : State :=
  let s := s |> setR (oMonLastRaw c.src) (wi y.raw) |> setR (oMonLastLin c.src) y.lin |> setR (oMonLastTag c.src) y.tag
  let s := if bR oMonCtl 26 s then
      resPut 0x3000 (fR oMonCtl 19 0 s) 0 (1024 * fR oMonCtl 25 20 s) [c.fin, wi y.raw, y.lin, y.tag] s
    else s
  if c.host then opDo 0x901 (fun _ s => finish 0 [if bit y.tag 25 then y.lin else wi y.raw, y.tag] s) s else s

/-- MON_CONVERSION_DONE: the running conversion ends its closing check, and the next one starts (R349). -/
def conversionRow (x : Conv) (s : State) : State :=
  match s.mon.cur with
  | some c =>
    if monRuns s && due c.fin s then
      let (y, s) := if c.src < 16 then senseSample c x c.src s else (plainSample c x s, s)
      convNext c.fin (deliverSample c y s)
    else s
  | none => s

/-! ### SENSE inputs (R358, R359, R361, R364) -/

/-- The running conversion of SENSE input `n`, changed. -/
def onConv (n : Nat) (f : MonConv → MonConv) (s : State) : State :=
  { s with mon := { s.mon with cur := s.mon.cur.map (fun c => if c.src = n then f c else c) } }

/-- SENSE_CFG[n] takes the value `v` (R358, R359). -/
def senseWrite (n : Nat) (v : W40) (s : State) : State :=
  let was := bR (oSenseCfg n) 0 s
  let s := setR (oSenseCfg n) (w (fld v 7 0)) s
  let q := sense n s
  if bit v 0 && !was then
    let auto := bit v 2 && !bit v 1
    senseShow n (setSense n { q with
      cfg := w (fld v 7 0), range := if bit v 2 then 5 else fld v 5 3, search := auto, settling := false, low := 0,
      shortRun := 0, failed := 0, open_ := false, readyAt := some (plus (now s) 1000000) } s)
  else if !bit v 0 && was then
    let s := senseShow n (setSense n { q with cfg := w (fld v 7 0), search := false } s)
    let s := if s.mon.aborted.any (fun e => e.1 == n) then { s with mon := { s.mon with aborted := none } } else s
    match s.mon.cur with
    | some c => if c.src = n ∧ c.urgent = false then convNext (now s) s else s
    | none => s
  else s

/-- SENSE_COMPLIANCE_CHECK: one check of the excitation source (R361). -/
def complianceRow (n : Nat) (ok : Bool) (s : State) : State :=
  if !monRuns s || !bR (oSenseCfg n) 0 s then s
  else
    let q := sense n s
    if ok then setSense n { q with failed := 0, open_ := false } s
    else if q.failed + 1 < 2 then setSense n { q with failed := 1 } s
    else
      let fresh := !bR (oSenseStat n) 6 s
      let s := setSense n { q with failed := 2, open_ := true, openRec := q.openRec && !fresh } s
      putB (oSenseStat n) 6 true (onConv n (fun c => { c with openI := true }) s)

/-- SENSE_OVERVOLT: a clamp of SENSE input `n` acts (R364). -/
def overvoltRow (n : Nat) (s : State) : State :=
  if monRuns s then
    let first := !bR (oSenseStat n) 9 s
    onConv n (fun c => { c with clamp := true }) (putB (oSenseStat n) 9 true s) |> recordIf first (0xB000 + n) 0x803 0 0
  else s

/-! ### Window monitors and overload comparators (R365-R369) -/

/-- MON_SELFTEST runs on tile `t`: its monitors are off their balls (R369).
[log: 73 DESIGN CHOICE] -/
def selfTesting (t : Nat) (s : State) : Bool :=
  !(openRoutines (fun r => r.opcode == 0x902 && r.target == t) s).isEmpty

/-- The OR that TRIP[t] follows (R367); under MON_SELFTEST the tile drives none (R369). -/
def tripOr (t : Nat) (s : State) : Bool :=
  !selfTesting t s &&
    ((upTo 96).any (fun c => bR (oWmonCfg (96 * t + c)) 21 s && bR (oWmonStat (96 * t + c)) 0 s)
      || (upTo 8).any (fun f => bR (oOvlCfg (8 * t + f)) 11 s && (tget? (8 * t + f) s.mon.ovl).isSome))

/-- The OR of tile `t` reaches its pin 20 ns on (R367). -/
def tripSend (t : Nat) (s : State) : State := defer (plus (now s) 20) (.trip t (tripOr t s)) s

/-- MON_SELFTEST: `wmon` and `ovl` are the units that give a wrong result; how many are checked when it is broken off is open.
[log: 73 DESIGN CHOICE] -/
def doSelftest (wmon ovl : List Nat) (s : State) : State :=
  opRun 0x902 (fun r s =>
    let sum := fun (a b : Nat) => ((wmon.dedup).filter (fun c => a ≤ c && c < b)).foldl (fun x c => x + 2 ^ (c - a)) 0
    let cmp := ((ovl.dedup).filter (fun f => f < 8)).foldl (fun x f => x + 2 ^ (16 + f)) 0
    let k := (Config.freeWord s.free).toNat % 105
    let s := { s with ce := { s.ce with cur := some { r with params := [w (sum 0 40), w (sum 40 80), w (sum 80 96 + cmp)] } } }
    tripSend r.target (park (progressRoutine 0x902 (w k) (takeFree s)))) s

/-- TRIP[t] takes the OR (R367). -/
def tripPin (t : Nat) (b : Bool) (s : State) : State :=
  let on := { s with pins := { s.pins with trip := insNat t s.pins.trip } }
  if bR (oWmonTile t) 14 s then
    if b then putB (oWmonTile t) 15 true on else s
  else if b then on
  else { s with pins := { s.pins with trip := s.pins.trip.filter (fun k => k != t) } }

/-- A ball voltage in µV is at or above threshold code `k` (R365). -/
def atLeast (uv : Int) (k : Nat) : Bool := decide (-6000000 * 1024 + (k : Int) * 12000000 ≤ uv * 1024)

/-- Window monitor `g` samples its ball (R365, R367).
[log: 74 DEDUCED] -/
def wmonSample (uv : Int) (g : Nat) (s : State) : State :=
  let cfg := getR (oWmonCfg g) s
  let high := atLeast uv (fld cfg 19 10)
  let low := !atLeast uv (fld cfg 9 0)
  let out := bit cfg 20 && (high || low)
  let trip := out && !bR (oWmonStat g) 0 s
  let s := putB (oWmonStat g) 0 out s
  if trip then
    let s := bump (oWmonStat g) 39 20 s
    let s := if high then putB (oWmonStat g) 2 true s else s
    let s := if low then putB (oWmonStat g) 1 true s else s
    fireProd (640 * (g / 96) + 480 + g % 96) (now s) 0 s
  else s

/-- WMON_TICK of tile `t`: the ball voltages of its channels in µV (R366, R367). -/
def wmonRow (t : Nat) (uv : List Int) (s : State) : State :=
  let rate := fR (oWmonTile t) 13 0 s
  if rate = 0 || (now s).toNat % (100 * rate) != 0 || !tilePowered t s || selfTesting t s then s
  else tripSend t (foldS (fun c s => wmonSample (nth 0 uv c) (96 * t + c) s) (upTo 96) s)

/-- RF_OVERLOAD: the comparator of READ_IN[t][f] sees a peak of `uv` µV in the present tick, an overload tick where that exceeds THR mV
(R368). -/
def overloadRow (t f uv : Nat) (s : State) : State :=
  let a := 8 * t + f
  let first := tget? a s.mon.ovl != some (minus (now s) 1)
  if uv ≤ 1000 * fR (oOvlCfg a) 9 0 s || !bR (oOvlCfg a) 10 s || !tilePowered t s || selfTesting t s || tget? a s.mon.ovl == some (now s) then s
  else
    let fresh := !bR (oOvlStat a) 0 s
    let s := bump (oOvlStat a) 39 20 (putB (oOvlStat a) 0 true s) |> recordIf fresh (0x4000 + a) 0x804 0 0
    let s := if first then fireProd (640 * t + 624 + f) (now s) 0 s else s
    tripSend t { s with mon := { s.mon with ovl := tput a (now s) s.mon.ovl } }

/-- The overload of a comparator has ended: no overload tick at the tick before the present one (R367). -/
def overloadEnds (s : State) : State :=
  foldS (fun e s =>
    if e.2 != now s && e.2 != minus (now s) 1 then
      let s := { s with mon := { s.mon with ovl := tdel e.1 s.mon.ovl } }
      defer (plus (now s) 19) (.trip (e.1 / 8) (tripOr (e.1 / 8) s)) s
    else s) s.mon.ovl s

/-! ### Rows -/

/-- MON_URGENT. -/
def execMonUrgent (s : State) : Host.Outcome State Fault Refusal := .next (doMonUrgent s)
/-- MON_SELFTEST. -/
def execMonSelftest (wmon ovl : List Nat) (s : State) : Host.Outcome State Fault Refusal := .next (doSelftest wmon ovl s)
/-- MON_CONVERSION_DONE. -/
def execMonConversionDone (x : Conv) (s : State) : Host.Outcome State Fault Refusal := .next (conversionRow x s)
/-- URGENT_REQUEST. -/
def execUrgentRequest (src : Nat) (s : State) : Host.Outcome State Fault Refusal := .next (urgentRow src s)
/-- SENSE_COMPLIANCE_CHECK. -/
def execSenseComplianceCheck (n : Nat) (ok : Bool) (s : State) : Host.Outcome State Fault Refusal := .next (complianceRow n ok s)
/-- SENSE_OVERVOLT. -/
def execSenseOvervolt (n : Nat) (s : State) : Host.Outcome State Fault Refusal := .next (overvoltRow n s)
/-- WMON_TICK. -/
def execWmonTick (t : Nat) (uv : List Int) (s : State) : Host.Outcome State Fault Refusal := .next (wmonRow t uv s)
/-- RF_OVERLOAD. -/
def execRfOverload (t f uv : Nat) (s : State) : Host.Outcome State Fault Refusal := .next (overloadRow t f uv s)

end Sys2Proof.Machine
end

