-- ==== Sys2Proof/Machine/EventFam.lean ====
section
/-! DEFINITION. The event fabric: firings of channels, and events at the inputs that select them (R306-R315). -/

namespace Sys2Proof.Machine

/-! ### Selections (R309, R312) -/

/-- A selection of the two-channel form names channel `v`: EN, CHAN_A at bit `a`, CHAN_B at bit `a` + 9, OR2 at bit `a` + 18. -/
def selects (x : W40) (en : Bool) (a v : Nat) : Bool :=
  en && (fld x (a + 8) a == v || (bit x (a + 18) && fld x (a + 17) (a + 9) == v))

/-- The indexes of the entry at `off` of an array of registers from `base`. -/
def arrayIdx (base : Nat) (dims : List (Nat × Nat)) (off : Nat) : Option (List Nat) :=
  if base ≤ off then rowIdx dims (off - base) else none

/-- The input that a register selects for, if it is a selection register: its number of Table 15.2. -/
def evselInput (off : Nat) : Option Nat :=
  match arrayIdx 0x1200048 [(8, 0x400000), (96, 0x100), (2, 0x8)] off with
  | some [t, q, i] => some (2 * (96 * t + q) + i)
  | _ =>
    match arrayIdx 0x10D0100 [(8, 0x400000), (16, 0x8)] off with
    | some [t, g] => some (1536 + 16 * t + g)
    | _ =>
      match arrayIdx 0x1120040 [(8, 0x400000), (8, 0x100)] off, arrayIdx 0x1120000 [(8, 0x400000), (8, 0x100)] off with
      | some [t, f], _ => some (1664 + 8 * t + f)
      | _, some [t, f] => some (1664 + 8 * t + f)
      | _, _ => none

/-- The value of input `i`'s selection that is in force, its enable, and where its fields begin (SEQ_EVSEL, BIAS_EVSEL, WIT_SRC2,
WIT_CTL). -/
def selection (i : Nat) (s : State) : W40 × Bool × Nat :=
  if i < 1536 then
    let v := getF (oSeqEvsel (i / 2) (i % 2)) s
    (v, bit v 0, 2)
  else if i < 1664 then
    let v := getR (oBiasEvsel ((i - 1536) / 16) ((i - 1536) % 16)) s
    (v, bit v 0, 2)
  else (getR (oWitSrc2 (i - 1664)) s, bR (oWitCtl (i - 1664)) 5 s, 8)

/-- Input `i` selects channel `v`. -/
def inputHas (v i : Nat) (s : State) : Bool :=
  let (x, en, a) := selection i s
  selects x en a v

/-- The inputs that select channel `v`: only a register that has been written can.
[log: 87 DEDUCED] -/
def inputsOf (v : Nat) (s : State) : List Nat :=
  let offs := s.force.map (fun e => e.1) ++ s.regs.map (fun e => e.1)
  ((offs.filterMap evselInput).dedup).filter (fun i => inputHas v i s)

/-- Input `i` stands on a tile die: a strobe group. -/
def onTile (i : Nat) : Bool := decide (1536 ≤ i) && decide (i < 1664)

/-! ### Events at inputs (R313) -/

/-- An event reaches input `i` at tick `x` (Table 15.2, Table 15.3).
[log: 75 DEDUCED] -/
def eventArrive (x : Tick) (i depth dom : Nat) (s : State) : State :=
  if i < 1536 then evReach x (i % 2) depth (i / 2) s
  else if i < 1664 then
    { s with fabric := { s.fabric with evStrobes := s.fabric.evStrobes ++ [((i - 1536) / 16, (i - 1536) % 16, dom)] } }
  else witCauseAt (i - 1664) 3 x depth s

/-- The event strobes of the tick that ends act, after its register writes and its timeline entries (R151); one on a group that
another strobe acts on in the tick is coalesced into it (Table 15.3).
[log: 11 DESIGN CHOICE] -/
def evStrobesAct (s : State) : State :=
  foldS (fun e s =>
    let busy := isStrobed e.1 e.2.1 s && !(s.life == .safe || modeOn 5 s)
    let s := if busy then bump (oEvInCnt (1536 + 16 * e.1 + e.2.1)) 19 0 s else s
    strobeGroup e.1 e.2.1 e.2.2 false (now s) s) s.fabric.evStrobes { s with fabric := { s.fabric with evStrobes := [] } }

/-- The event of channel `v` that fires at tick `x` is on its way to input `i` (R312): with the other channel's event of the same
tick it is one, a coincidence. -/
def eventSend (x : Tick) (v depth i : Nat) (s : State) : State :=
  let at_ := plus x (if onTile i then 6 else 1)
  let mine := fun (e : Tick × Deferred) => match e with
    | (t, .eventAtInput j _ _) => t == at_ && j == i
    | _ => false
  if s.agenda.any mine then
    let join := fun (e : Tick × Deferred) => match e with
      | (t, .eventAtInput j d o) => if t == at_ && j == i then (t, .eventAtInput j (max d depth) o) else e
      | _ => e
    bump (oEvInCnt i) 39 20 { s with agenda := s.agenda.map join }
  else defer at_ (.eventAtInput i depth (chanDom v s)) s

/-! ### Firings (R307, R310, R315) -/

/-- The firings of channel `v` at tick `x`. -/
def firesAt (x : Tick) (v : Nat) (s : State) : List Fire := s.fabric.fires.filter (fun f => f.at_ == x && fireRoute f s == some v)

/-- The earliest firing of a channel that is due. -/
def firstFire (v : Nat) (s : State) : Option Fire :=
  (s.fabric.fires.filter (fun f => due f.at_ s && fireRoute f s == some v)).foldl (fun b f =>
    match b with
    | some y => if notBefore f.at_ y.at_ then b else some f
    | none => some f) none

/-- Channel `v` fires at tick `x` with the largest depth of its sources (R307, R310, R312, R315).
[log: 75 DEDUCED] -/
def chanFire (x : Tick) (v : Nat) (s : State) : State :=
  let fs := firesAt x v s
  let depth := fs.foldl (fun a f => max a f.depth) 0
  let s := { s with fabric := { s.fabric with fires := s.fabric.fires.filter (fun f => !(f.at_ == x && fireRoute f s == some v)) } }
  let s := if 1 < fs.length then bump (oEvChanStat v) 15 8 s else s
  let s := putF (oEvChanStat v) 7 4 depth (putB (oEvChanStat v) 0 true (bump (oEvChanStat v) 39 16 s))
  let s := if depth = 15 then
      let u := ((fs.filter (fun f => f.depth == 15)).filterMap (fun f => f.prod)).foldl min 8191
      putB (oEvChanStat v) 1 true s
        |> recordIf (!bR (oEvChanStat v) 1 s) (0xA000 + v) 0x609 0 (w (u * 2 ^ 16 + v))
    else s
  let s := foldS (eventSend x v depth) (inputsOf v s) s
  if fR oSyncOutCtl 1 0 s = 2 ∧ fR oSyncOutCtl 12 4 s = v then syncOutEvent x s else s

/-- EVENT_CHANNEL_FIRE: the earliest firing of channel `v` that is due. -/
def channelFireRow (v : Nat) (s : State) : State :=
  match firstFire v s with
  | some f => if fabricRuns s then chanFire f.at_ v s else s
  | none => s

/-- EVENT_CHANNEL_FIRE. -/
def execEventChannelFire (v : Nat) (s : State) : Host.Outcome State Fault Refusal := .next (channelFireRow v s)

end Sys2Proof.Machine
end

