-- ==== Sys2Proof/Machine/LifeFam.lean ====
section
/-! DEFINITION. Power, reset, clocks and boot: entry to STAGING and OFF, resets of PCIe functions, the root PLL and REF_IN,
the power-up schedule, NVM load, secure boot, completion of STAGING, die links, rails, and the FATAL micro-trap (R15, R16,
R28, R31, R50-R54, R160, R266, R300-R302, R372-R374, R386, R398-R401, R410, R413). -/

namespace Sys2Proof.Machine

/-! ### OFF, STAGING and resets -/

/-- POWER_ON_RESET_RELEASE: VAUX and the main rails are present and RESET_N is released (Table 2.1). -/
def powerOnRow (s : State) : State :=
  if s.life == .off && s.pins.vaux then enterStaging 0 s else s

/-- POWER_LOSS.
[log: 15 DEDUCED] -/
def powerLossRow (s : State) : State := if powered s || s.pins.vaux then enterOff s else s

/-- RESET_N_CYCLE: RESET_N asserted and released in STOPPING or HALTED (Table 2.1). -/
def resetNRow (s : State) : State :=
  if s.life == .stopping || s.life == .halted then enterStaging (lifeCode s.life) s else s

/-- What a function's reset discards: latches and MSI-X state (R413). -/
def fnDiscard (m : Nat) (s : State) : State :=
  let other := fun (k : Nat) => k / 2048 != m
  { s with host := { s.host with
      stage := tdel m s.host.stage
      rlatch := tdel m s.host.rlatch
      msixOn := s.host.msixOn.filter (fun k => k != m)
      fmask := s.host.fmask.filter (fun k => k != m)
      busMaster := s.host.busMaster.filter (fun k => k != m)
      unmasked := s.host.unmasked.filter other
      pba := s.host.pba.filter other } }

/-- The engine takes the trap of a Function Level Reset that pends, if it can: its handler ends the parked routines of the domain at once,
and the interrupted one when it returns (R302). -/
def flrKick (s : State) : State :=
  match s.ce.flrWait with
  | m :: rest =>
    if trapPends 6 s && trapFree 6 s then
      let s := takeTrap 6 s
      let s := { s with ce := { s.ce with flrWait := rest, flrRun := [m] } }
      let s := if rest.isEmpty then s else raiseTrap 6 s
      abortRoutines (fun r => r.dom == m && s.ce.cur != some r) s
    else s
  | [] => s

/-- The handler that runs innermost returns at its tick; the interrupted routine of the domain of a Function Level Reset ends then (R301,
R302). -/
def handlerReturns (s : State) : State :=
  match s.ce.handlers with
  | (p, x) :: rest =>
    if due x s then
      let doms := s.ce.flrRun
      let s := { s with ce := { s.ce with handlers := rest } }
      if p = 6 then
        abortRoutines (fun r => doms.contains r.dom && s.ce.cur == some r) { s with ce := { s.ce with flrRun := [] } }
      else s
    else s
  | [] => s

/-- The micro-trap of a Function Level Reset of the function of domain `m` (R300, R302). -/
def flrTrap (m : Nat) (s : State) : State :=
  flrKick (raiseTrap 6 { s with ce := { s.ce with flrWait := s.ce.flrWait ++ [m] } })

/-- A Function Level Reset of one function. -/
def flrOne (m : Nat) (s : State) : State := flrTrap m (fnDiscard m s)

/-- A reset of the physical function that clears VF Enable resets every virtual function (R413). -/
def vfOff (s : State) : State :=
  if s.host.vfEnable then
    foldS (fun i s => flrOne (i + 1) s) (upTo 15) { s with host := { s.host with vfEnable := false } }
  else s

/-- FUNCTION_LEVEL_RESET of function `m`.
[log: 16 PRESUMED] -/
def flrRow (m : Nat) (s : State) : State :=
  if !powered s || !fnExists m s then s
  else if m = 0 then vfOff (flrOne 0 { s with host := { s.host with ptmOn := false, payload := 0, readRequest := 2 } })
  else flrOne m s

/-- PERST_N resets the PCIe endpoint, and no running unit (R31).
[log: 16 PRESUMED] -/
def perstRow (s : State) : State :=
  if powered s then
    let s := foldS fnDiscard (if s.host.vfEnable then upTo 16 else [0]) s
    { s with host := { s.host with ptmOn := false, vfEnable := false, payload := 0, readRequest := 2 }, time := { s.time with ptmOut := none } }
  else s

/-! ### The root PLL and REF_IN (R50-R53) -/

/-- A tracking reading at or above the shutdown threshold less 6 °C (R374). -/
def hotForPower (s : State) : Bool :=
  s.therm.sensors.any (fun e => decide ((((fld s.therm.thr 23 16 : Int) - 6) * 256) ≤ e.2.reading))

/-- The sensors of the part (Temperature sensors): four to a tile, eight on the control die, one to a stack. -/
def sensorsOf (s : State) : List Nat :=
  upTo (4 * nTiles s) ++ (upTo 8).map (fun i => 32 + i) ++ (upTo (nStacks s)).map (fun n => 40 + n)

/-- The sensor that holds the highest reading (SMAX). -/
def hottest (s : State) : Nat := (highest s (sensorsOf s)).1

/-- PLL_LOCK: the first lock in STAGING (R51, R54), and the start of the power-up schedule, or its hold (R374). -/
def pllLockRow (s : State) : State :=
  if s.life == .staging && !s.time.everLocked then
    let s := { s with time := { s.time with
      locked := true, counting := true, everLocked := true, refValid := true, refAt := none, tick := 0, epoch := 0 } }
    let s := railTick (putF oClkStatus 1 0 3 s)
    if hotForPower s then
      record (0xC000 + hottest s) 0x807 0 0 (putB oThermStatus 6 true { s with therm := { s.therm with hold := true } })
    else { s with therm := { s.therm with schedAt := some (now s) } }
  else s

/-- PLL_NO_LOCK: 10 ms without lock (R52); `refValid` says that REF_IN was valid at some time in them besides those at which REF_PRESENT
shows it. -/
def pllNoLockRow (refValid : Bool) (s : State) : State :=
  if s.life == .staging && !s.time.everLocked then fatal 0 0x200 (b2n (!(refValid || refFree s))) 0 s else s

/-- PLL_UNLOCK: lock is lost after it was acquired; TICK stops (R52). -/
def pllUnlockRow (s : State) : State :=
  if powered s && s.time.locked then
    let s := putB oClkStatus 0 false { s with time := { s.time with locked := false, counting := false } }
    fatal 0 0x201 0 0 s
  else s

/-- REF_LOST after lock (R53). -/
def refLostRow (s : State) : State :=
  if powered s && s.time.locked && s.time.refValid then
    { s with time := { s.time with refValid := false, refAt := some (now s) } } |> putF oClkStatus 2 1 2 |> bump oClkStatus 15 8
      |> record 0 0x202 0 0
  else s

/-- 10 ms have passed since the tick of REF_LOST. -/
def refBack (s : State) : Bool :=
  match s.time.refAt with
  | some x => due (plus x 10000000) s
  | none => true

/-- REF_RESTORED: REF_IN has returned and has been valid for 10 ms (R53). -/
def refRestoredRow (s : State) : State :=
  if powered s && s.time.locked && !s.time.refValid && refBack s then
    { s with time := { s.time with refValid := true, refAt := none } } |> putF oClkStatus 2 1 1 |> record 0 0x203 0 0
  else s

/-! ### Power-up (R160, R266, R374, R386) -/

/-- The time of a step of Table 19.2 in ticks after the schedule starts. -/
def stepTime : PwrStep → Nat
  | .bias t => 3000000 * t
  | .flux t => 3000000 * t + 500000
  | .rf t => 3000000 * t + 1000000
  | .adc t => 3000000 * t + 1500000
  | .stack n => 3000000 * n + 2250000

/-- The part has the unit of a step. -/
def stepPresent (p : PwrStep) (s : State) : Bool :=
  match p with
  | .bias t | .flux t | .rf t | .adc t => decide (t < nTiles s)
  | .stack n => decide (n < nStacks s)

/-- Every step of Table 19.2 on this part. -/
def allSteps (s : State) : List PwrStep :=
  (upTo (nTiles s)).flatMap (fun t => [.bias t, .flux t, .rf t, .adc t]) ++ (upTo (nStacks s)).map .stack

/-- The bias outputs of tile `t` connect at tick `x` (R160). -/
def tileConnect (x : Tick) (t : Nat) (s : State) : State :=
  foldS (biasConnect x) ((upTo 96).map (fun c => 96 * t + c)) s

/-- The action of a step of Table 19.2 at its tick `x`.
[log: 17 DEDUCED] -/
def stepAct (x : Tick) (p : PwrStep) (s : State) : State :=
  match p with
  | .bias t =>
    let s := putB oPowerStatus (20 + t) true s
    if s.sec.nvmDone then tileConnect x t s else s
  | .flux _ => s
  | .rf _ => s
  | .adc t => calBegin x t (foldS (fun f s => putB (oAdcStatus (8 * t + f)) 0 (bR (oAdcCtl (8 * t + f)) 0 s) s) (upTo 8) s)
  | .stack n => putF oGrStatus 1 0 (nStacks s) (putB oPowerStatus (28 + n) true s)

/-- POWERUP_STEP: the time of a step has come. -/
def powerupStepRow (p : PwrStep) (s : State) : State :=
  match s.therm.schedAt with
  | some x =>
    let at_ := plus x (stepTime p)
    if s.life == .staging && stepPresent p s && !s.therm.steps.contains p && due at_ s then
      stepAct at_ p { s with therm := { s.therm with steps := s.therm.steps ++ [p] } }
    else s
  | none => s

/-- The unit that a trim set of Table 20.1 belongs to: its quality-figure register, if it has one, and the SOURCE of its record. -/
def trimUnit (v : TrimSet) : Option Nat × Nat :=
  let rf := fun (o : Nat) => (some (if o < 256 then oDacQf (o / 16) (o % 16) else oDacQf ((o - 256) / 8) (16 + (o - 256) % 8)), 0x3000 + o)
  match v with
  | .tone p g _ => rf (toneOut p g)
  | .cell o _ => rf o
  | .slice a _ => (some (oAdcQf a), 0x4000 + a)
  | .flux g | .bias g _ => (some (oBiasQf g), 0x3200 + g)
  | .sensor u => (none, 0xC000 + u)
  | .overload a => (none, 0x4000 + a)
  | .monitor g => (none, 0x3200 + g)
  | .lane p _ _ => (none, 0x7000 + p)

/-- A trim set fails its NVM check (R386): FACTORY_BAD and the record. -/
def trimBad (v : TrimSet) (s : State) : State :=
  let u := trimUnit v
  let s := match u.1 with | some o => putB o 39 true s | none => s
  record u.2 0x900 0 0 s

/-- The start values of the corrections of the slices of ADC `a` (R167, R386): the factory ones, or the nominal 0x8000 for a set that fails.
[log: 163 DEDUCED] -/
def slicesLoad (bad : List TrimSet) (a : Nat) (s : State) : State :=
  foldS (fun j s =>
    setR (oAdcSlice a j) (if bad.contains (.slice a j) then 0x8000 else w ((Config.factorySlice a j).toNat % 2 ^ 38)) s) (upTo 33) s

/-- IMAGE of output `o` of tile `t` shows the factory figure for the band (Table 20.4). -/
def imageShow (t o : Nat) (s : State) : State :=
  putF (oDacQf t o) 29 20 (Config.factoryImage (24 * t + o) (tileBand t s)).toNat s

/-- The registers that reset from NVM take their values (R160, R385, R386).
[log: 6 DESIGN CHOICE, 80 DEDUCED] -/
def nvmRegisters (s : State) : State :=
  let s := foldS (fun g s => setR (oBiasRest g) (tget 0 g s.sec.restNvm) s) (upTo (nSeqs s)) s
  let s := foldS (fun t s => setR (oBiasRestSlew t) (tget 0 t s.sec.slewNvm) s) (upTo (nTiles s)) s
  let s := foldS (fun b s => setR (oThermLife b) (nth 0 s.sec.ledger b) s) (upTo 6) s
  let s := setR oThermInteg (nth 0 s.sec.ledger 6) s
  let s := foldS (fun t s => foldS (imageShow t) (upTo 24) s) (upTo (nTiles s)) s
  let s := foldS (slicesLoad s.sec.trimBad) (upTo (8 * nTiles s)) s
  let s := foldS (fun a s => putF (oAdcQf a) 29 20 (Config.factoryFigure a).toNat s) (upTo (8 * nTiles s)) s
  foldS (fun g s => putF (oBiasQf g) 35 20 (Config.factoryFigure (1000 + 4 * g + fld (getR (oBiasRest g) s) 39 38)).toNat s)
    (upTo (nSeqs s)) s

/-- NVM_LOAD_DONE: the NVM has loaded, and the bias outputs of the tiles that have powered up connect (R160).
[log: 80 DEDUCED] -/
def nvmLoadRow (bad : List TrimSet) (s : State) : State :=
  if s.life == .staging && !s.sec.nvmDone then
    let s := nvmRegisters { s with sec := { s.sec with nvmDone := true, trimBad := bad } }
    let s := foldS trimBad bad s
    foldS (fun t s => if s.therm.steps.contains (.bias t) then tileConnect (now s) t s else s) (upTo (nTiles s)) s
  else s

/-- GRANARY_ZERO_DONE: all of memory is zero (R266). -/
def zeroDoneRow (s : State) : State :=
  if s.life == .staging && (upTo (nStacks s)).all (fun n => s.therm.steps.contains (.stack n)) then
    putB oGrStatus 2 true { s with gran := { s.gran with mem := [], rings := [] } }
  else s

/-! ### Secure boot (R397, R398) -/

/-- Copy `n` boots: what SEC_STATUS and the measurements show, and its Loft section (R304, R398).
[log: 18 DEDUCED] -/
def bootCopy (n : Nat) (fallback : Bool) (s : State) : State :=
  let x := nvmCopy n s
  let s := { s with sec := { s.sec with
    booted := true, slot := imgSlot x, digest := imgDigest x, factoryDigest := Config.sha512 (factoryRegion s) } }
  let s := s |> putF oSecStatus 24 19 (imgVersion x) |> putF oSecStatus 18 17 (imgSlot x) |> putF oSecStatus 16 16 n
    |> putB oSecStatus 15 fallback |> putB oSecStatus 32 (!s.sec.trngBad)
  if imgNat x 20 4 = 0 then s
  else if loftClash x then record 0x9000 0x906 0 0 (putB oLoftStatus 3 true s)
  else loftApply x s

/-- SECURE_BOOT: the copy of the boot selector, else the other, else HALTED.
[log: 18 DEDUCED, 57 DESIGN CHOICE] -/
def secureBootRow (s : State) : State :=
  if s.life == .staging && s.time.locked && !s.sec.booted then
    let s := journalRestore s
    let a := s.sec.selector % 2
    match imgCheck 0 (nvmCopy a s) s with
    | none => bootCopy a false s
    | some k =>
      match imgCheck 0 (nvmCopy (1 - a) s) s with
      | none => record 0xD000 0x904 (a * 16 + k) 0 (bootCopy (1 - a) true s)
      | some _ => fatal 0xD000 0x905 0 0 s
  else s

/-- STAGING_COMPLETE: power-up, self-calibration, the NVM load, zeroing and secure boot are complete (R374). -/
def stagingCompleteRow (s : State) : State :=
  if s.life == .staging && (allSteps s).all (fun p => s.therm.steps.contains p)
      && s.adcs.all (fun e => e.2.cal.isNone) && s.sec.nvmDone && bR oGrStatus 2 s && s.sec.booted then
    fsetAll (allRest true (now s) (lifeTo .safe { s with sec := { s.sec with safeAt := now s } }))
  else s

/-- ALT_IMAGE_CHECK: the copy that was not booted (R398).
[log: 21 DEDUCED] -/
def altImageRow (s : State) : State :=
  if (s.life == .safe || s.life == .ready) && !bR oSecStatus 14 s then
    let x := nvmCopy (1 - fR oSecStatus 16 16 s) s
    let ok := (imgCheck 0 x s).isNone
    putB oSecStatus 13 ok (putB oSecStatus 14 true s)
  else s

/-- ROLLBACK_BURST_DONE: ALT_VALID is set again by check 6 alone on the copy that was not booted, as it then stands (R400).
[log: 21 DEDUCED] -/
def burstDoneRow (s : State) : State :=
  match s.sec.burst with
  | some _ =>
    let s := { s with sec := { s.sec with burst := none } }
    putB oSecStatus 13 (decide (s.sec.rollback ≤ imgVersion (nvmCopy (1 - fR oSecStatus 16 16 s) s))) s
  | none => s

/-- TRNG_FAIL: a health test fails (R401). -/
def trngFailRow (s : State) : State :=
  if powered s then record 0xD000 0x00B 0 0 (putB oSecStatus 32 false { s with sec := { s.sec with trngBad := true } }) else s

/-- SCAN_EXTEST (R410). -/
def scanExtestRow (s : State) : State :=
  if powered s then fatal 0xD000 0x907 0 0 (putB oSecStatus 12 true s)
  else s

/-! ### The FATAL micro-trap (R300, R301) -/

/-- A parity error in a ROM or Loft fetch: the engine fetches from entry to SAFE on (Table 14.5).
[log: 24 DESIGN CHOICE] -/
def fetchParity (s : State) : State := if powered s && s.life != .staging then fatal 0x9000 0x107 0 0 s else s

/-- MICRO_TRAP_FATAL: the trap of priority 1 is taken, for a FATAL record that waits for it or else for a parity error. -/
def microTrapFatalRow (s : State) : State :=
  let s := if trapPends 1 s then s else fetchParity s
  if trapPends 1 s then ceAbortAll (takeTrap 1 s) else s

/-! ### Die links (R15, R16) -/

/-- The actions of a down-path transfer that reaches tile `t` at the present tick.
[log: 22 DEDUCED] -/
def inTransfer (t : Nat) (x : Tick) (e : Nat × QEntry) : Bool := e.1 / 96 == t && e.2.launch == x

/-- An event strobe of tile `t` that the transfer of the present tick brings: it acts 1 tick after it reaches the tile (R150). -/
def strobeInTransfer (t : Nat) (s : State) (e : Tick × Deferred) : Bool :=
  match e with
  | (x, .eventAtInput i _ _) => decide (1536 ≤ i) && decide (i < 1664) && (i - 1536) / 16 == t && x == plus (now s) 1
  | _ => false

/-- DIE_LINK_CRC: a transfer of tile `t` fails its check. A failed down-path transfer is discarded, with the timeline entries, event
strobes and register writes that it carries; the samples of a failed up-path transfer reach the other commands marked, and count as zeros
(R15).
[log: 22 DEDUCED, 57 DESIGN CHOICE] -/
def dieLinkCrcRow (t : Nat) (down : Bool) (s : State) : State :=
  if t < nTiles s && tilePowered t s then
    let s := record (0xF000 + t) 0x101 (t * 2 ^ 17 + b2n down * 2 ^ 16 + (now s).toNat % 2 ^ 16) (now s) s
    if down then
      { s with
        down := s.down.filter (fun e => !inTransfer t (now s) e)
        fabric := { s.fabric with acts := s.fabric.acts.filter (fun e => !inTransfer t (now s) e) }
        agenda := s.agenda.filter (fun e => !strobeInTransfer t s e)
        crcDown := insNat t s.crcDown }
    else s
  else s

/-- TILE_LINK_TIMEOUT: tile `t` mutes its RF outputs, zeroes flux, rests bias and returns its relays (R16).
[log: 137 DESIGN CHOICE] -/
def tileLinkTimeoutRow (t : Nat) (s : State) : State :=
  if t < nTiles s && tilePowered t s && !s.cutTiles.contains t then
    tileRest true (now s) t { s with cutTiles := insNat t s.cutTiles }
  else s

/-- DIE_LINK_LOST (R16). -/
def dieLinkLostRow (t : Nat) (s : State) : State :=
  if t < nTiles s && tilePowered t s then fatal (0xF000 + t) 0x102 0 0 s else s

/-! ### Rails and VAUX (R372, R373, R424) -/

/-- RAIL_TOLERANCE_CHANGE: main rail `r` leaves or returns to its tolerance. In OFF the management port shows it (R424). -/
def railChangeRow (r : Nat) (ok : Bool) (s : State) : State :=
  if (powered s || s.pins.vaux) && r < 10 then
    let s := putB oPowerStatus r ok s
    let t := if ok then tdel r s.therm.railBad else
      match tget? r s.therm.railBad with
      | some _ => s.therm.railBad
      | none => tput r (now s) s.therm.railBad
    { s with therm := { s.therm with railBad := t } }
  else s

/-- RAIL_FAULT: a main rail has stayed out of tolerance for 10 µs; before lock no TICK counts them. -/
def railFaultRow (r : Nat) (s : State) : State :=
  match tget? r s.therm.railBad with
  | some x =>
    if powered s && r < 9 && (!s.time.counting || due (plus x 10000) s) then fatal (0xC100 + r) 0x806 r 0 s else s
  | none => s

/-- VAUX_POWER_UP: VAUX is within tolerance, the straps are sampled, and the management port answers. -/
def vauxPowerUpRow (straps : Nat) (s : State) : State :=
  if s.life == .off && !s.pins.vaux then { s with pins := { s.pins with vaux := true, straps := straps % 4 } } |> putB oPowerStatus 9 true else s

/-! ### The rows -/

/-- POWER_ON_RESET_RELEASE. -/
def execPowerOnResetRelease (s : State) : Host.Outcome State Fault Refusal := .next (powerOnRow s)
/-- POWER_LOSS. -/
def execPowerLoss (s : State) : Host.Outcome State Fault Refusal := .next (powerLossRow s)
/-- RESET_N_CYCLE. -/
def execResetNCycle (s : State) : Host.Outcome State Fault Refusal := .next (resetNRow s)
/-- PERST_N. -/
def execPerstN (s : State) : Host.Outcome State Fault Refusal := .next (perstRow s)
/-- FUNCTION_LEVEL_RESET. -/
def execFunctionLevelReset (m : Nat) (s : State) : Host.Outcome State Fault Refusal := .next (flrRow m s)
/-- PLL_LOCK. -/
def execPllLock (s : State) : Host.Outcome State Fault Refusal := .next (pllLockRow s)
/-- PLL_NO_LOCK. -/
def execPllNoLock (refValid : Bool) (s : State) : Host.Outcome State Fault Refusal := .next (pllNoLockRow refValid s)
/-- PLL_UNLOCK. -/
def execPllUnlock (s : State) : Host.Outcome State Fault Refusal := .next (pllUnlockRow s)
/-- REF_LOST. -/
def execRefLost (s : State) : Host.Outcome State Fault Refusal := .next (refLostRow s)
/-- REF_RESTORED. -/
def execRefRestored (s : State) : Host.Outcome State Fault Refusal := .next (refRestoredRow s)
/-- POWERUP_STEP. -/
def execPowerupStep (p : PwrStep) (s : State) : Host.Outcome State Fault Refusal := .next (powerupStepRow p s)
/-- NVM_LOAD_DONE. -/
def execNvmLoadDone (bad : List TrimSet) (s : State) : Host.Outcome State Fault Refusal := .next (nvmLoadRow bad s)
/-- GRANARY_ZERO_DONE. -/
def execGranaryZeroDone (s : State) : Host.Outcome State Fault Refusal := .next (zeroDoneRow s)
/-- SECURE_BOOT. -/
def execSecureBoot (s : State) : Host.Outcome State Fault Refusal := .next (secureBootRow s)
/-- STAGING_COMPLETE. -/
def execStagingComplete (s : State) : Host.Outcome State Fault Refusal := .next (stagingCompleteRow s)
/-- ALT_IMAGE_CHECK. -/
def execAltImageCheck (s : State) : Host.Outcome State Fault Refusal := .next (altImageRow s)
/-- ROLLBACK_BURST_DONE. -/
def execRollbackBurstDone (s : State) : Host.Outcome State Fault Refusal := .next (burstDoneRow s)
/-- TRNG_FAIL. -/
def execTrngFail (s : State) : Host.Outcome State Fault Refusal := .next (trngFailRow s)
/-- SCAN_EXTEST. -/
def execScanExtest (s : State) : Host.Outcome State Fault Refusal := .next (scanExtestRow s)
/-- MICRO_TRAP_FATAL. -/
def execMicroTrapFatal (s : State) : Host.Outcome State Fault Refusal := .next (microTrapFatalRow s)
/-- DIE_LINK_CRC. -/
def execDieLinkCrc (t : Nat) (down : Bool) (s : State) : Host.Outcome State Fault Refusal := .next (dieLinkCrcRow t down s)
/-- TILE_LINK_TIMEOUT. -/
def execTileLinkTimeout (t : Nat) (s : State) : Host.Outcome State Fault Refusal := .next (tileLinkTimeoutRow t s)
/-- DIE_LINK_LOST. -/
def execDieLinkLost (t : Nat) (s : State) : Host.Outcome State Fault Refusal := .next (dieLinkLostRow t s)
/-- RAIL_FAULT. -/
def execRailFault (r : Nat) (s : State) : Host.Outcome State Fault Refusal := .next (railFaultRow r s)
/-- RAIL_TOLERANCE_CHANGE. -/
def execRailToleranceChange (r : Nat) (ok : Bool) (s : State) : Host.Outcome State Fault Refusal :=
  .next (railChangeRow r ok s)
/-- VAUX_POWER_UP. -/
def execVauxPowerUp (straps : Nat) (s : State) : Host.Outcome State Fault Refusal := .next (vauxPowerUpRow straps s)
/-- LOOPBACK_SWITCH. -/
def execLoopbackSwitch (s : State) : Host.Outcome State Fault Refusal := .next (loopbackSwitchRow s)
/-- LOOPBACK_WAIT. -/
def execLoopbackWait (s : State) : Host.Outcome State Fault Refusal := .next (loopbackWaitRow s)
/-- LOOPBACK_RESUME. -/
def execLoopbackResume (s : State) : Host.Outcome State Fault Refusal := .next (loopbackResumeRow s)
/-- PAIR_MODE_MESSAGE. -/
def execPairModeMessage (bits : Nat) (s : State) : Host.Outcome State Fault Refusal := .next (pairModeRow bits s)

end Sys2Proof.Machine
end

