-- ==== Sys2Proof/Machine/GleanFam.lean ====
section
/-! DEFINITION. The Gleaner: its measurements in quiet intervals, their reports and application, and the rewrite of weak NVM
sectors (R387-R394). -/

namespace Sys2Proof.Machine

/-- Changes the Gleaner's state. -/
def modGlean (f : Gleaner → Gleaner) (s : State) : State := { s with glean := f s.glean }

/-- Duration of a measurement in ns (Table 20.2). -/
def gleanTime (task : Nat) : Nat := match task with | 0 => 1800 | 1 => 1200 | _ => 1500

/-- The tone that a LO_LEAK unit names on tile `t`: probe or drive, and its number in the device. -/
def gleanToneOf (t unit : Nat) : Bool × Nat := if unit < 64 then (false, 96 * t + unit) else (true, 96 * t + (unit - 64))

/-- A unit of a task on tile `t` exists, and a tone is enabled (Table 20.2). -/
def gleanUnit (t task unit : Nat) (s : State) : Bool :=
  match task with
  | 0 => decide (unit < 24)
  | 1 => decide (unit < 160) && bF (oCtl (gleanToneOf t unit).1 (gleanToneOf t unit).2) 23 s
  | 2 => decide (unit < 0x4000)
  | _ => false

/-- The owners of a measurement (R388). -/
def gleanOwners (t task unit : Nat) (s : State) : List Nat :=
  if task = 2 then upTo (nSeqs s) else ownersOf (tileOutput t (gleanOutput task unit))

/-- The start Q of the quiet interval of a list of owners: the latest tick at which one fell quiet, or the entry to SAFE.
[log: 84 DEDUCED] -/
def quietStart (s : State) (gs : List Nat) : Tick := gs.foldl (fun a g => later a (seq g s).quietAt) s.sec.safeAt

/-- An owner leaves the measurement its time: no known next shot start lies before `fin` + 100 (R389). -/
def gapHolds (fin : Tick) (s : State) (g : Nat) : Bool :=
  if inShot g s then
    match (seq g s).quietTo with
    | some y => notBefore y (plus fin 100)
    | none => true
  else true

/-- Under LOOPBACK, DAC_CELL does not run on a PROBE_OUT or on the coupled XY output (R389). -/
def loopFree (t task unit : Nat) (s : State) : Bool :=
  !(relays s && task == 0 && (16 ≤ unit || unit == fF (oLbCtl t) 3 0 s))

/-- The key of a unit for a task. -/
def gleanKey (t task unit : Nat) : Nat := ((if task = 2 then 0 else t) * 4 + task) * 65536 + unit

/-- PERIOD has passed since the unit was last measured for the task (R387). -/
def periodOver (x : Tick) (key : Nat) (s : State) : Bool :=
  match tget? key s.glean.last with
  | some l => notBefore x (plus l (1000000 * fR oGleanCtl 39 28 s))
  | none => true

/-- The tile's receiver is free at tick `x`. -/
def receiverFree (x : Tick) (t : Nat) (s : State) : Bool :=
  (tget? t s.glean.run).isNone &&
  (match tget? t s.glean.started with
    | some y => notBefore x y
    | none => true)

/-- The conditions on a start that do not depend on the tick.
[log: 84 DEDUCED] -/
def gleanMay (t task unit : Nat) (s : State) : Bool :=
  (s.life == .safe || s.life == .ready) && !throttled s && fR oGleanCtl 39 28 s != 0 && tilePowered t s
    && gleanUnit t task unit s && loopFree t task unit s

/-- The places of units in the order in which a tile visits them: task by task, each in ascending order of its units (R387). -/
def gleanPlace (task unit : Nat) : Nat := match task with | 0 => unit | 1 => 24 + unit | _ => 184 + unit

/-- The number of places. -/
def gleanPlaces : Nat := 184 + 0x4000

/-- The task and the unit of a place. -/
def gleanAt (k : Nat) : Nat × Nat := if k < 24 then (0, k) else if k < 184 then (1, k - 24) else (2, k - 184)

/-- A measurement of the unit may start on tile `t` at the present tick: it is Q + 20 of its quiet interval, which leaves it its time (R387,
R389). -/
def gleanReady (t task unit : Nat) (s : State) : Bool :=
  let gs := gleanOwners t task unit s
  let x := plus (quietStart s gs) 20
  gleanMay t task unit s && x == now s && receiverFree x t s && gs.all (fun g => ownerQuiet x g s)
    && gs.all (gapHolds (plus x (gleanTime task)) s) && periodOver x (gleanKey t task unit) s

/-- The unit is the first that may start, in the order of places from the one that the tile visited last (R387). -/
def gleanFirst (t task unit : Nat) (s : State) : Bool :=
  let from_ := match tget? t s.glean.order with | some k => k + 1 | none => 0
  let n := (gleanPlace task unit + gleanPlaces - from_) % gleanPlaces
  (upTo n).all (fun i => let u := gleanAt ((from_ + i) % gleanPlaces); !gleanReady t u.1 u.2 s)

/-- A measurement starts at tick `x`. -/
def gleanBegin (x : Tick) (t task unit : Nat) (s : State) : State :=
  let fin := plus x (gleanTime task)
  let s := modGlean (fun y => { y with
    run := tput t ⟨task, unit, fin⟩ y.run, started := tput t fin y.started
    last := tput (gleanKey t task unit) x y.last, order := tput t (gleanPlace task unit) y.order }) s
  if task = 0 then setOut (tileOutput t unit) { outp (tileOutput t unit) s with gleanMute := true } s else s

/-- GLEAN_START: a measurement of a unit starts at Q + 20 of its quiet interval (R389), in its turn (R387). -/
def gleanStartRow (t task unit : Nat) (s : State) : State :=
  if gleanReady t task unit s && gleanFirst t task unit s then gleanBegin (now s) t task unit s else s

/-! ### Reports and application (R391-R394) -/

/-- APPLY for the unit of a measurement (R392).
[log: 85 DEDUCED] -/
def gleanApplies (t : Nat) (m : Glean) (s : State) : Bool :=
  if m.task = 2 then bR oGleanCtl 27 s else bR (oGleanApply t) (gleanOutput m.task m.unit) s

/-- Word 1 of the report (Table 20.3).
[log: 85 DEDUCED] -/
def gleanWord1 (t : Nat) (m : Glean) (pend : Bool) : W40 :=
  let o := if m.task = 2 then 0 else gleanOutput m.task m.unit
  let d := if m.task = 1 && m.unit < 64 then m.unit % 4 else 0
  let sl := if m.task = 1 && 64 ≤ m.unit then (m.unit - 64) % 12 else 0
  let pg := if m.task = 2 then m.unit else 0
  w (m.task * 2 ^ 38 + t * 2 ^ 35 + o * 2 ^ 30 + d * 2 ^ 28 + sl * 2 ^ 24 + b2n pend * 2 ^ 23 + 2 ^ 22 + pg)

/-- The least figure of a list, zeros (not yet measured) left out. -/
def leastFigure (l : List Nat) : Nat :=
  (l.filter (fun x => x != 0)).foldl (fun a x => if a = 0 then x else min a x) 0

/-- The quality figure of the unit takes the figure measured (Table 20.4). -/
def gleanFigure (t : Nat) (m : Glean) (after : Nat) (s : State) : State :=
  match m.task with
  | 0 => putF (oDacQf t m.unit) 9 0 after s
  | 1 =>
    let k := gleanToneOf t m.unit
    let s := setTone k.1 k.2 { tone k.1 k.2 s with figure := after % 1024 } s
    let o := gleanOutput m.task m.unit
    let ts := tonesOf (tileOutput t o)
    putF (oDacQf t o) 19 10 (leastFigure (ts.2.map (fun g => (tone ts.1 g s).figure))) s
  | _ => s

/-- A LO_LEAK result of a tone is pending for the boundary of its sequencer, or applies at once outside a shot (R392). -/
def leakPend (t unit : Nat) (w1 w2 : W40) (s : State) : State :=
  let k := gleanToneOf t unit
  let s := setTone k.1 k.2 { tone k.1 k.2 s with
    glean := some (w1, BitVec.ofNat 20 (fld w2 39 20), BitVec.ofNat 20 (fld w2 19 0)) } s
  if inShot k.2 s then arrive (if k.1 then 7 else 6) k.2 s else gleanTone k.1 k.2 s

/-- A result that APPLY lets act (R392, R393). -/
def gleanTake (t : Nat) (m : Glean) (w1 w2 : W40) (s : State) : State :=
  match m.task with
  | 0 =>
    arrive 8 (tileOutput t m.unit)
      (setOut (tileOutput t m.unit) { outp (tileOutput t m.unit) s with cellPend := some (w1, w2) } s)
  | 1 => leakPend t m.unit w1 w2 s
  | _ => if w2 = 0 then s else modGlean (fun y => { y with pages := tput m.unit w1 y.pages }) s

/-- A result that can be applied: for a page, weak bits (R393). -/
def gleanNews (m : Glean) (w2 : W40) : Bool := m.task != 2 || w2 != 0

/-- The measurement on tile `t` ends with result `r` at its end tick. -/
def gleanEnd (t : Nat) (m : Glean) (r : GleanResult) (s : State) : State :=
  let ap := gleanApplies t m s
  let w1 := gleanWord1 t m (ap && gleanNews m r.word2)
  let s := modGlean (fun y => { y with run := tdel t y.run }) s
  let s := putF oGleanStat 11 0 (fR oGleanStat 11 0 s + 1) s
  let s := if m.task = 0 then setOut (tileOutput t m.unit) { outp (tileOutput t m.unit) s with gleanMute := false } s else s
  let s := gleanFigure t m r.after.toNat s
  let s := resPut 0x3001 (fR oGleanCtl 19 0 s) 0 (1024 * fR oGleanCtl 25 20 s)
    [m.fin, w1, r.word2, w (r.before.toNat * 2 ^ 20 + r.after.toNat)] s
  if ap then gleanTake t m w1 r.word2 s else s

/-- GLEAN_COMPLETE. -/
def gleanCompleteRow (t : Nat) (r : GleanResult) (s : State) : State :=
  match tget? t s.glean.run with
  | some m => if due m.fin s then gleanEnd t m r s else s
  | none => s

/-! ### Weak sectors (R393) -/

/-- No NVM routine holds the NVM. -/
def nvmFree (s : State) : Bool := (heldRoutines s ++ s.ce.cur.toList).all (fun r => r.opcode / 256 != 8)

/-- NVM_SECTOR_REWRITE: the rewrite of the first weak page's sector begins.
[log: 86 DESIGN CHOICE] -/
def sectorRewriteRow (s : State) : State :=
  match s.glean.pages, s.glean.rewriting with
  | (p, _) :: _, none =>
    if (s.life == .safe || s.life == .ready) && quiet s && nvmFree s && bR oGleanCtl 27 s && s.therm.shutAt.isNone then
      let s := modGlean (fun y => { y with rewriting := some p }) s
      { s with sec := { s.sec with journal := [(0x1000 * p, rdByte s.sec.nvm (0x1000 * p))] } }
    else s
  | _, _ => s

/-- NVM_REWRITE_DONE: the rewrite ends while no sequencer is inside a shot, which makes it wait, and its result is applied (R392, R393); `weak`
says that the page still has weak bits.
[log: 86 DESIGN CHOICE] -/
def rewriteDoneRow (weak : Bool) (s : State) : State :=
  match s.glean.rewriting with
  | some p =>
    if quiet s then
      let w1 := tget 0 p s.glean.pages
      let s := modGlean (fun y => { y with rewriting := none, pages := tdel p y.pages }) s
      recordIf weak 0xD000 0x902 0 0 (record 0xD000 0x901 0 w1 { s with sec := { s.sec with journal := [] } })
    else s
  | none => s

/-! ### The rows -/

/-- GLEAN_START. -/
def execGleanStart (t task unit : Nat) (s : State) : Host.Outcome State Fault Refusal := .next (gleanStartRow t task unit s)
/-- GLEAN_COMPLETE. -/
def execGleanComplete (t : Nat) (r : GleanResult) (s : State) : Host.Outcome State Fault Refusal :=
  .next (gleanCompleteRow t r s)
/-- NVM_SECTOR_REWRITE. -/
def execNvmSectorRewrite (s : State) : Host.Outcome State Fault Refusal := .next (sectorRewriteRow s)
/-- NVM_REWRITE_DONE. -/
def execNvmRewriteDone (weak : Bool) (s : State) : Host.Outcome State Fault Refusal := .next (rewriteDoneRow weak s)

end Sys2Proof.Machine
end

