-- ==== Sys2Proof/Machine/ThermFam.lean ====
section
/-! DEFINITION. Thermal management and service life: tracking readings and their thresholds, the throttle, the shutdown
sequence, power-off, the analogue trip, and the life ledger (R136, R137, R374-R385). -/

namespace Sys2Proof.Machine

/-- A whole number of °C in the unit of a reading. -/
def deg (c : Int) : Int := c * 256

/-- The threshold in force in bits hi:lo of THERM_THR, in °C. -/
def thr (hi lo : Nat) (s : State) : Int := (fld s.therm.thr hi lo : Nat)

/-- Changes the thermal state. -/
def modTherm (f : Therm → Therm) (s : State) : State := { s with therm := f s.therm }

/-- Every sensor of the part lies below `x`. -/
def allBelow (x : Int) (s : State) : Bool := (sensorsOf s).all (fun u => decide (readingOf u s < x))

/-! ### One update of a sensor (R375-R377) -/

/-- The rate of sensor `u` after a reading (R375). -/
def fastAfter (r : Int) (was : Bool) (s : State) : Bool :=
  if deg (thr 15 8 s - 5) ≤ r then true else if r < deg (thr 15 8 s - 8) then false else was

/-- The reading and the rate of sensor `u` enter the registers (THERM_SENSOR, THERM_STATUS). -/
def sensorShow (u : Nat) (s : State) : State :=
  let q := tget {} u s.therm.sensors
  let h := highest s (sensorsOf s)
  s |> setR (oThermSensor u) (w (unsx 16 q.reading * 256 + b2n q.fast))
    |> putF oThermStatus 39 32 (clampI 0 255 (h.2 / 256)).toNat
    |> putF oThermStatus 31 26 h.1
    |> putB oThermStatus 4 (s.therm.sensors.any (fun e => e.2.fast))

/-- Sensor `u` takes reading `r`; a thermal urgent request arises where it reaches the throttle threshold less 5 °C, once until
it has fallen below that threshold less 8 °C (R352, R375). -/
def sensorTake (u : Nat) (r : Int) (s : State) : State :=
  let q := tget {} u s.therm.sensors
  let hot := decide (deg (thr 15 8 s - 5) ≤ r)
  let cold := decide (r < deg (thr 15 8 s - 8))
  let ask := q.urgentArmed && hot
  let n : Sensor := { reading := r, fast := fastAfter r q.fast s, urgentArmed := (q.urgentArmed && !hot) || cold
                      urgentPend := q.urgentPend || ask }
  let s := modTherm (fun x => { x with sensors := tset {} u n x.sensors }) s
  sensorShow u (if ask then raiseTrap 5 s else s)

/-- The warning threshold sets or clears (R377); without main power no record is written. -/
def warnCheck (u : Nat) (r : Int) (s : State) : State :=
  let on := bR oThermStatus 1 s
  let p := powered s
  if !on && decide (deg (thr 7 0 s) ≤ r) then
    recordIf p (0xC000 + u) 0x808 (unsx 16 r) 0 (putB oThermStatus 1 true s)
  else if on && allBelow (deg (thr 7 0 s - 6)) s then
    recordIf p (0xC000 + u) 0x809 0 0 (putB oThermStatus 1 false s)
  else s

/-- The throttle threshold sets or clears: the micro-trap of priority 3 pends (R378, R379). -/
def throttleCheck (r : Int) (s : State) : State :=
  if !s.therm.thrSet && decide (deg (thr 15 8 s) ≤ r) then raiseTrap 3 (modTherm (fun x => { x with thrSet := true }) s)
  else if s.therm.thrSet && allBelow (deg (thr 15 8 s - 6)) s then
    raiseTrap 3 (modTherm (fun x => { x with thrSet := false }) s)
  else s

/-- The shutdown threshold sets or clears (R376), and a reading 5 °C above it cuts the sequence short (R380, R381). What clears before the
trap can be taken leaves no trap.
[log: 76 DEDUCED] -/
def shutCheck (r : Int) (s : State) : State :=
  let s := if !s.therm.shutSet && decide (deg (thr 23 16 s) ≤ r) then
      raiseTrap 2 (modTherm (fun x => { x with shutSet := true }) s)
    else if s.therm.shutSet && allBelow (deg (thr 23 16 s - 6)) s then
      let s := modTherm (fun x => { x with shutSet := false }) s
      if trapLive 2 s then s else { s with ce := { s.ce with traps := s.ce.traps.filter (fun q => q != 2) } }
    else s
  if s.therm.shutSet && !s.therm.cut && (s.life == .safe || s.life == .ready) && decide (deg (thr 23 16 s + 5) ≤ r) then
    let s := modTherm (fun x => { x with cut := true }) s
    if s.therm.graceAt.isSome then allFreeze s else s
  else s

/-! ### Bands of a tile (R136, R137, R392) -/

/-- The band after a highest reading `h`, from band `b` (Table 6.4).
[log: 77 DEDUCED] -/
def bandAfter (h : Int) (b : Nat) : Nat :=
  let up := b2n (decide (deg 45 ≤ h)) + b2n (decide (deg 75 ≤ h)) + b2n (decide (deg 95 ≤ h))
  let down := b2n (decide (deg 42 < h)) + b2n (decide (deg 72 < h)) + b2n (decide (deg 92 < h))
  max up (min b down)

/-- A band set is pending for the tones of sequencer `g`, or applies at once outside a shot (R137). -/
def bandPending (g : Nat) (s : State) : State :=
  if inShot g s then
    if (seq g s).bandPend then s else arrive 5 g (modSeq g (fun q => { q with bandPend := true }) s)
  else applyBand g s

/-- The handler of the band trap of tile `t`: the band set becomes pending; each RF DAC of the tile loads the factory cell trims of the
band (R137, R392). -/
def bandLoad (t : Nat) (s : State) : State :=
  let s := foldS (fun o s => setOut (tileOutput t o) { outp (tileOutput t o) s with cell := 0 } (imageShow t o s)) (upTo 24) s
  foldS bandPending ((upTo 96).map (fun c => 96 * t + c)) s

/-- The engine takes the trap of a tile's band change that pends, if it can (R300). -/
def bandKick (s : State) : State :=
  match s.ce.bandWait with
  | t :: rest =>
    if trapPends 4 s && trapFree 4 s then
      let s := takeTrap 4 s
      let s := { s with ce := { s.ce with bandWait := rest } }
      bandLoad t (if rest.isEmpty then s else raiseTrap 4 s)
    else s
  | [] => s

/-- The micro-trap of priority 4 on tile `t` (R136, R300). -/
def bandTrap (t : Nat) (s : State) : State :=
  bandKick (raiseTrap 4 { s with ce := { s.ce with bandWait := insNat t s.ce.bandWait } })

/-- Tile `t` takes the band of its highest reading (R136). -/
def bandCheck (t : Nat) (s : State) : State :=
  let old := tileBand t s
  let h := (highest s ((upTo 4).map (fun i => 4 * t + i))).2
  let new := bandAfter h old
  let s := putF (oTileBand t) 15 8 (clampI 0 255 (h / 256)).toNat s
  if new = old then s
  else
    let s := bump (oTileBand t) 23 16 (putF (oTileBand t) 1 0 new s)
    bandTrap t (record (0xF000 + t) 0x401 (t * 16 + old * 4 + new) 0 s)

/-- Memory stack `n` doubles its refresh, or returns to the normal rate (REFRESH_2X). -/
def refreshCheck (n : Nat) (r : Int) (s : State) : State :=
  let on := s.therm.refresh.contains n
  let set := fun (l : List Nat) (s : State) =>
    record (0xC000 + 40 + n) 0x80F 0 0 (putB oThermStatus 5 (!l.isEmpty) (modTherm (fun x => { x with refresh := l }) s))
  if !on && decide (deg 85 ≤ r) then set (insNat n s.therm.refresh) s
  else if on && decide (r < deg 82) then set (s.therm.refresh.filter (fun k => k != n)) s
  else s

/-- PWRUP_HOLD ends once every reading lies below the shutdown threshold less 6 °C (R374). -/
def pwrupCheck (s : State) : State :=
  if s.therm.hold && s.life == .staging && !hotForPower s then
    putB oThermStatus 6 false (modTherm (fun x => { x with hold := false, schedAt := some (now s) }) s)
  else s

/-- THERMAL_SENSOR_UPDATE: sensor `u` takes a reading in 1/256 °C, and every threshold is compared with it (R375). The sensors and their thresholds run on VAUX (R425). -/
def sensorUpdateRow (u : Nat) (reading : Int) (s : State) : State :=
  if s.pins.vaux && (sensorsOf s).contains u then
    let r := satI 16 reading
    let s := modTherm (fun x => { x with thr := getR oThermThr s }) s
    let s := warnCheck u r (sensorTake u r s)
    if powered s then
      let s := s |> throttleCheck r |> shutCheck r
      let s := if u < 32 then bandCheck (u / 4) s else s
      let s := if 40 ≤ u then refreshCheck (u - 40) r s else s
      pwrupCheck s
    else s
  else s

/-! ### Throttle (R378, R379) -/

/-- The throttle comes into force: witness engines close their Bales, the Gleaner stops, and sequencers stop at their
boundaries. -/
def throttleOn (s : State) : State :=
  let s := record 0xC000 0x80A 0 0 (putB oThermStatus 2 true s)
  reasonsUpdate (gleanAbandonIf (fun _ _ => true) (witStopAll false s))

/-- The throttle is lifted at the present tick U; engines re-arm, and stopped sequencers take the reason that remains. -/
def throttleOff (s : State) : State :=
  let s := record 0xC000 0x80B 0 0 (putB oThermStatus 2 false s)
  witArmAll (now s) (reasonsUpdate s)

/-- The priority-3 trap pends, and the engine can take it. -/
def throttleTrap (s : State) : Bool := powered s && trapPends 3 s && trapFree 3 s

/-- THERMAL_THROTTLE: the trap finds the threshold set. -/
def throttleRow (s : State) : State :=
  if throttleTrap s && s.therm.thrSet then
    let s := takeTrap 3 s
    if bR oThermStatus 2 s then s else throttleOn s
  else s

/-- THERMAL_THROTTLE_CLEAR: the trap finds the threshold clear. -/
def throttleClearRow (s : State) : State :=
  if throttleTrap s && !s.therm.thrSet then
    let s := takeTrap 3 s
    if bR oThermStatus 2 s then throttleOff s else s
  else s

/-! ### Shutdown (R380-R382) -/

/-- THERMAL_SHUTDOWN: the trap of priority 2 is taken at tick D. -/
def shutdownRow (s : State) : State :=
  if (s.life == .safe || s.life == .ready) && trapPends 2 s && trapFree 2 s && !bR oThermStatus 3 s then
    let s := record 0xC000 0x80C 0 0 (putB oThermStatus 3 true (takeTrap 2 s))
    let s := ceAbortAll s
    let s := if bR oThermStatus 2 s then s else throttleOn s
    let s := { s with glean := { s.glean with rewriting := none } }
    graceCheck (ledgerSave (modTherm (fun x => { x with shutAt := some (now s) }) s))
  else s

/-- AT_REST of channel `g` (R161). -/
def atRest (g : Nat) (s : State) : Bool :=
  let b := biasC g s
  b.connected && b.rest && b.phase == .idle && decide (b.out = b.restCode) && b.span == b.restSpan

/-- The channels of powered tiles whose bias output is not at rest. -/
def notAtRest (s : State) : List Nat :=
  (upTo (nSeqs s)).filter (fun g => tilePowered (g / 96) s && (biasC g s).connected && !atRest g s)

/-- The grace ends: at its limit of 10 ms, or because it is cut short (R380, R381). -/
def graceEnds (d : Tick) (s : State) : Bool := s.therm.cut || due (plus d 10000000) s

/-- The limit of step 2: 50 ms after G with an output not at rest (R380). -/
def restEnds (g : Tick) (s : State) : Bool :=
  !s.therm.restOver && !s.therm.cut && due (plus g 50000000) s && !(notAtRest s).isEmpty

/-- THERMAL_GRACE_EXPIRED: the forced stop of the sequencers still inside a shot, or the end of the wait for the bias
outputs; the record counts them. -/
def graceExpiredRow (s : State) : State :=
  if s.life == .safe || s.life == .ready then
    match s.therm.shutAt, s.therm.graceAt with
    | some d, none =>
      if graceEnds d s then
        let n := (s.seqs.filter (fun e => insideShot e.2)).length
        graceOutputs (record 0xC000 0x80D n 0 (forcedStop insideShotB s))
      else s
    | some _, some g =>
      if restEnds g s then
        record 0xC000 0x80D ((notAtRest s).length * 2 ^ 10) 0 (modTherm (fun x => { x with restOver := true }) s)
      else s
    | _, _ => s
  else s
where
  insideShotB (g : Nat) : Bool := inShot g s

/-- Tile `t` loses power (R161, R380, R383). -/
def tileOff (t : Nat) (s : State) : State :=
  foldS biasOff ((upTo 96).map (fun c => 96 * t + c)) (putB oPowerStatus (20 + t) false s)

/-- Steps 2 and 3 of the shutdown are complete (R380, R381); the sender of the row waits for step 3, which no register shows. -/
def offReady (s : State) : Bool :=
  s.therm.graceAt.isSome && (s.therm.cut || s.therm.restOver || (notAtRest s).isEmpty)

/-- The last powered tile.
[log: 81 DEDUCED] -/
def lastTile (s : State) : Option Nat := ((upTo (nTiles s)).filter (fun t => tilePowered t s)).getLast?

/-- Tile `t` powers off in STOPPING; after the last one STOP_DONE sets (R32, R380).
[log: 81 DEDUCED] -/
def stopTile (t : Nat) (s : State) : State :=
  let s := tileOff t s
  if (lastTile s).isNone then putB oLifecycle 8 true s else s

/-- SHUTDOWN_POWER_OFF: the state becomes STOPPING and the last tile powers off; each further step of the row takes the next
tile, 0.5 ms on. -/
def powerOffRow (s : State) : State :=
  if (s.life == .safe || s.life == .ready) && offReady s then
    let cut := s.therm.cut
    let s := enterStopping s
    let s := modTherm (fun x => { x with offAt := some (now s) }) (if cut then allFreeze s else s)
    match lastTile s with
    | some t => stopTile t s
    | none => putB oLifecycle 8 true s
  else if s.life == .stopping then
    match s.therm.offAt, lastTile s with
    | some x, some t => if due (plus x (500000 * (nTiles s - 1 - t))) s then stopTile t s else s
    | _, _ => s
  else s

/-- THERMAL_TRIP of tile die `die`, or of the control die as 8 (R383).
[log: 102 DESIGN CHOICE] -/
def tripRow (die : Nat) (s : State) : State :=
  if powered s && (die < nTiles s || die = 8) then
    let s := fatal (0xC000 + 4 * die) 0x80E 0 0 s
    if die = 8 then
      foldS tileOff (upTo (nTiles s)) s |> putF oPowerStatus 29 28 0 |> takeFree
    else tileOff die s
  else s

/-! ### The life ledger (R385) -/

/-- The bin of a highest reading (THERM_LIFE). -/
def lifeBin (h : Int) : Nat :=
  b2n (decide (deg 45 ≤ h)) + b2n (decide (deg 75 ≤ h)) + b2n (decide (deg 85 ≤ h)) + b2n (decide (deg 95 ≤ h))
    + b2n (decide (deg 105 ≤ h))

/-- Adds to a register, modulo 2^40. -/
def addReg (o : Nat) (x : Int) (s : State) : State := setR o (getR o s + wi x) s

/-- A nanosecond with powered tiles: it counts in the bin of the highest reading, and that reading is integrated over it; the registers show
whole seconds and whole °C x s (R385).
[log: 82 DEDUCED] -/
def lifeTick (s : State) : State :=
  if fR oPowerStatus 27 20 s != 0 && s.sec.nvmDone then
    let h := (highest s (sensorsOf s)).2
    let b := lifeBin h
    let n := tget 0 b s.therm.lifeNs + 1
    let i := s.therm.integNs + h
    let s := modTherm (fun x => { x with
      lifeNs := tset 0 b (n % 1000000000) x.lifeNs, integNs := i % 256000000000, saveNs := x.saveNs + 1 }) s
    let s := if n = 1000000000 then addReg (oThermLife b) 1 s else s
    if i / 256000000000 = 0 then s else addReg oThermInteg (i / 256000000000) s
  else s

/-- LIFE_LEDGER_WRITE: 24 hours with powered tiles after the last write the ledger is written to NVM (R385); from D of a shutdown on no
operation of the NVM starts (R380). Where the write is cut, the NVM keeps what it held, and the write is due again.
[log: 82 DEDUCED] -/
def ledgerRow (cut : Bool) (s : State) : State :=
  if powered s && decide (86400000000000 ≤ s.therm.saveNs) && s.therm.shutAt.isNone && !cut then
    ledgerSave (modTherm (fun x => { x with saveNs := 0 }) s)
  else s

/-! ### The rows -/

/-- THERMAL_SENSOR_UPDATE. -/
def execThermalSensorUpdate (u : Nat) (reading : Int) (s : State) : Host.Outcome State Fault Refusal :=
  .next (sensorUpdateRow u reading s)
/-- THERMAL_THROTTLE. -/
def execThermalThrottle (s : State) : Host.Outcome State Fault Refusal := .next (throttleRow s)
/-- THERMAL_THROTTLE_CLEAR. -/
def execThermalThrottleClear (s : State) : Host.Outcome State Fault Refusal := .next (throttleClearRow s)
/-- THERMAL_SHUTDOWN. -/
def execThermalShutdown (s : State) : Host.Outcome State Fault Refusal := .next (shutdownRow s)
/-- THERMAL_GRACE_EXPIRED. -/
def execThermalGraceExpired (s : State) : Host.Outcome State Fault Refusal := .next (graceExpiredRow s)
/-- SHUTDOWN_POWER_OFF. -/
def execShutdownPowerOff (s : State) : Host.Outcome State Fault Refusal := .next (powerOffRow s)
/-- THERMAL_TRIP. -/
def execThermalTrip (die : Nat) (s : State) : Host.Outcome State Fault Refusal := .next (tripRow die s)
/-- LIFE_LEDGER_WRITE. -/
def execLifeLedgerWrite (cut : Bool) (s : State) : Host.Outcome State Fault Refusal := .next (ledgerRow cut s)

end Sys2Proof.Machine
end

