-- ==== Sys2Proof/Machine/RegView.lean ====
section
/-! DEFINITION. What a read of a BAR0 register returns: the stored bits, with the fields that follow from the state put in
their places, the owners whose reads it serves, and the side effects of a read (R56, R63, R66, R406, R417, R418, R421,
and the register tables of the chapters). -/

namespace Sys2Proof.Machine

/-! ### The unit of a register -/

/-- The sequencer, channel or slot that two indices name. -/
def unit96 (is : List Nat) : Nat := 96 * nth 0 is 0 + nth 0 is 1

/-- The feedline that two indices name. -/
def unit8 (is : List Nat) : Nat := 8 * nth 0 is 0 + nth 0 is 1

/-- The core or XY output that two indices name. -/
def unit16 (is : List Nat) : Nat := 16 * nth 0 is 0 + nth 0 is 1

/-- The tile window that an offset lies in. -/
def tileOf (off : Nat) : Option Nat :=
  if 0x1000000 ≤ off ∧ off < 0x3000000 then some ((off - 0x1000000) / 0x400000) else none

/-- The port window that an offset lies in. -/
def portOf (off : Nat) : Option Nat :=
  if 0x300000 ≤ off ∧ off < 0x306000 then some ((off - 0x300000) / 0x1000) else none

/-- The tile that an event number of the routes or inputs belongs to, for the units of a tile. -/
def tileOfInput (i : Nat) : Option Nat :=
  if i < 1536 then some (i / 192) else if i < 1664 then some ((i - 1536) / 16)
  else if i < 1728 then some ((i - 1664) / 8) else none

/-- An offset in the drive tone block of a sequencer with q ≥ 64 of tile `t`, which does not exist: the sequencer's SOURCE.
[log: 100 DEDUCED] -/
def driveAbsent (t off : Nat) : Option Nat :=
  let q := (off - 0x1080000 - 0x400000 * t) / 0x100
  if 0x1080000 + 0x400000 * t ≤ off ∧ 64 ≤ q ∧ q < 96 then some (0x1000 + 96 * t + q) else none

/-- The unit that an offset lies in is absent on this part (R2, R306): its SOURCE.
[log: 100 DEDUCED] -/
def absentAt (off : Nat) (s : State) : Option Nat :=
  match tileOf off with
  | some t => if nTiles s ≤ t then some (0xF000 + t) else driveAbsent t off
  | none =>
    match portOf off with
    | some p => if nPorts s ≤ p then some (0x7000 + p) else none
    | none =>
      if off = 0x2A0 ∨ off = 0x2A8 then (if nPorts s ≤ (off - 0x280) / 8 then some (0x7000 + (off - 0x280) / 8) else none)
      else if 0x204000 ≤ off ∧ off < 0x204000 + 8 * 5120 ∧ nTiles s ≤ (off - 0x204000) / 8 / 640 then
        some (0xF000 + (off - 0x204000) / 8 / 640)
      else if 0x210000 ≤ off ∧ off < 0x210000 + 8 * 1728 then
        match tileOfInput ((off - 0x210000) / 8) with
        | some t => if nTiles s ≤ t then some (0xF000 + t) else none
        | none => none
      else none

/-- The tile of an offset is not powered (R421). -/
def unpoweredAt (off : Nat) (s : State) : Bool :=
  match tileOf off with
  | some t => !tilePowered t s
  | none => false

/-- The owner domain and SECURE of the unit of event input `i` (Table 15.2). -/
def inputOwner (i : Nat) (s : State) : Nat × Bool :=
  if i < 1536 then (seqDom (i / 2) s, seqSec (i / 2) s)
  else match tileOfInput i with
    | some t => (tileDom t s, tileSec t s)
    | none => (0, false)

/-- The owner domain and SECURE of the unit that a register belongs to (R420). -/
def regOwner (row : RegRow) (is : List Nat) (s : State) : Nat × Bool :=
  match row.own with
  | .seq => (seqDom (unit96 is) s, seqSec (unit96 is) s)
  | .tile => (tileDom (nth 0 is 0) s, tileSec (nth 0 is 0) s)
  | .func => (nth 0 is 0, false)
  | .chan => (chanDom (nth 0 is 0) s, chanSec (nth 0 is 0) s)
  | .input => inputOwner (nth 0 is 0) s
  | .any => (0, false)
  | .dom0 => match row.k with
    | .evChanCfg => (chanDom (nth 0 is 0) s, chanSec (nth 0 is 0) s)
    | _ => (0, false)

/-- Domain `m` reads something else than zeros from a unit (R406). The routes and channels of domain 0 are open to all. -/
def mayRead (m : Nat) (row : RegRow) (is : List Nat) (s : State) : Bool :=
  let o := regOwner row is s
  if row.k = .hostStatus then m == 0 || m == nth 0 is 0 else !o.2 || m == o.1

/-! ### Fields that follow from the state -/

/-- The code of a sequencer's state (Table 4.1). -/
def seqCode : SeqSt → Nat
  | .idle => 0 | .armed => 1 | .running => 2 | .waiting => 3
  | .stopped => 4 | .stalled => 5 | .done => 6 | .faulted => 7

/-- A commit of unit `u` of sequencer `g` waits for its boundary. -/
def commitWaits (u g : Nat) (s : State) : Bool := (seq g s).commits.contains u

/-- SEQ_STATUS. -/
def seqStatusView (g : Nat) (s : State) : W40 :=
  let q := seq g s
  w (b2n q.unbHeld * 2 ^ 37 + b2n (commitWaits 0 g s) * 2 ^ 36 + b2n q.orphan * 2 ^ 35 + q.calls.length * 2 ^ 31
    + q.loops.length * 2 ^ 27 + q.pc % 8192 * 2 ^ 14 + q.queue.length * 2 ^ 7
    + (if q.st = .stopped then q.stopReason else 0) * 2 ^ 4 + seqCode q.st)

/-- MODE_STATUS. -/
def modeStatusView (s : State) : W40 :=
  let v := getR oModeStatus s
  let n := (s.seqs.filter (fun e => e.2.modePend)).length
  w (n * 2 ^ 30 + fld v 9 6 * 2 ^ 6 + bitsNat ((upTo 6).map (fun b => effective b s)))

/-- DRV_TRIM, PRB_TRIM. -/
def trimView (probe : Bool) (g : Nat) (s : State) : W40 :=
  let x := tone probe g s
  w (x.ptrim.toNat * 2 ^ 20 + x.gain.toNat)

/-- DRV_CARRIER, PRB_CARRIER: the sum with a gleaned correction (R392). -/
def carrierView (probe : Bool) (g : Nat) (s : State) : W40 :=
  let x := tone probe g s
  w ((addS20 x.carI x.di).toNat * 2 ^ 20 + (addS20 x.carQ x.dq).toNat)

/-- DRV_STATUS, PRB_STATUS. -/
def toneStatusView (probe : Bool) (g : Nat) (s : State) : W40 :=
  let x := tone probe g s
  w (x.vz.toNat * 2 ^ 20 + x.band % 4 * 2 ^ 18 + b2n x.stale * 2 ^ 17
    + b2n (commitWaits (if probe then 2 else 1) g s) * 2 ^ 16 + b2n (bF (oCtl probe g) 23 s) * 2 ^ 3 + bankOf probe g s)

/-- BIAS_STATUS. -/
def biasStatusView (g : Nat) (s : State) : W40 :=
  let b := biasC g s
  w (unsx 20 b.out * 2 ^ 20 + b.span % 4 * 2 ^ 18 + b2n (slewing b) * 2 ^ 17 + b2n (spanBusy b) * 2 ^ 16
    + b2n (atRest g s) * 2 ^ 15 + b2n (biasDisconnected g s) * 2 ^ 14 + fR (oBiasStatus g) 13 11 s * 2 ^ 11
    + fF (oBiasCfg g) 39 36 s)

/-- OUT_OF_BAND of slot `g` (R176): the fine word lies beyond 200 MHz, 2^40/80. -/
def outOfBand (g : Nat) (s : State) : Bool :=
  let fw := fF (oPrbFreq g (bankOf true g s)) 39 0 s
  let fc := (2 * fF (oSlotCfg g) 39 35 s + 1) * 2 ^ 33
  let d := (wi (Int.ofNat fw - Int.ofNat fc)).toInt
  decide (2 ^ 40 < 80 * d.natAbs)

/-- SLOT_STATUS. -/
def slotStatusView (g : Nat) (s : State) : W40 :=
  let v := getR (oSlotStatus g) s
  w (b2n (outOfBand g s) * 2 ^ 12 + fld v 11 10 * 2 ^ 10 + b2n (commitWaits 3 g s || (slot g s).held) * 2 ^ 9)

/-- BARRIER_STAT. -/
def barrierView (b : Nat) (s : State) : W40 :=
  let q := barrier b s
  w (b2n (bR (oBarrierStat b) 26 s) * 2 ^ 26
    + (q.notices.map (fun e => 2 ^ (e.1 % 16))).foldl (fun a x => a + x) 0 * 2 ^ 10 + q.now.length + q.solo.length)

/-- BND_SET_STAT. -/
def setStatView (j : Nat) (s : State) : W40 :=
  let v := getR (oBndSetStat j) s
  w (fld v 39 9 * 2 ^ 9 + b2n ((pset j s).st == .opn) * 8 + b2n (setA j s) * 4 + b2n (setP j s) * 2 + b2n (setComplete j s))

/-- BND_DEC_STAT. -/
def decStatView (e : Nat) (s : State) : W40 :=
  w (b2n (decoder e s).page * 2 ^ 18 + b2n (decComplete e s && decAbs e s) * 2 ^ 17 + b2n (decComplete e s) * 2 ^ 16 + syndrome e s)

/-- The code of a core's state (Table 11.1). -/
def coreCode : CoreSt → Nat
  | .idle => 0 | .running => 1 | .waiting => 2 | .halted => 3 | .faulted => 4

/-- CORE_STATUS. -/
def coreStatusView (k : Nat) (s : State) : W40 :=
  let c := core k s
  w (coreCode c.st * 2 ^ 37 + c.kind % 8 * 2 ^ 34 + c.pc % 8192 * 2 ^ 20 + fR (oCoreStatus k) 19 1 s * 2)

/-- The code of a witness engine's state (WIT_STATUS). -/
def witCode : WitSt → Nat
  | .off => 0 | .holdoff => 1 | .armed => 2 | .recording => 3

/-- WIT_STATUS. -/
def witStatusView (e : Nat) (s : State) : W40 := setFld (getR (oWitStatus e) s) 3 2 (witCode (wit e s).st)

/-- GR_BW_WIT. -/
def bwView (s : State) : W40 :=
  w ((s.wits.filter (fun e => e.2.res != 0)).length * 2 ^ 31 + witHeld s)

/-- The routine of entry `i` of the engine's slots: 0 the running one, 1..4 the parking places (R295). -/
def ceEntry (i : Nat) (s : State) : Option Routine := if i = 0 then s.ce.cur else tget? i s.ce.parked

/-- CE_SLOT_ID as domain `m` reads it. -/
def ceIdView (m i : Nat) (s : State) : W40 :=
  match ceEntry i s with
  | some r =>
    if m = 0 ∨ m = r.dom then
      w (r.opcode % 4096 * 2 ^ 28 + r.dom % 16 * 2 ^ 24 + r.ring % 2 ^ 20 * 2 ^ 4 + b2n (i != 0) * 4
        + b2n (progressive r.opcode) * 2 + 1)
    else 0
  | none => 0

/-- CE_SLOT_PROG as domain `m` reads it. -/
def ceProgView (m i : Nat) (s : State) : W40 :=
  match ceEntry i s with
  | some r => if (m = 0 ∨ m = r.dom) ∧ progressive r.opcode then progressAt (now s) r else 0
  | none => 0

/-- CE_TRAP: TRAPS, the pending micro-traps, and the handlers that run.
[log: 93 DEDUCED] -/
def trapView (s : State) : W40 :=
  w (fR oCeTrap 39 20 s * 2 ^ 20 + bitsNat ((upTo 6).map (fun i => s.ce.traps.contains (i + 1))) * 2 ^ 8 + min 2 s.ce.handlers.length)

/-- REFS of channel `v` (R309): enabled routes, consumer inputs, and SYNC_OUT in EVENT mode.
[log: 87 DEDUCED] -/
def refs (v : Nat) (s : State) : Nat :=
  (s.regs.filter (fun e => decide (oEvRoute 0 ≤ e.1) && decide (e.1 ≤ oEvRoute 5120) && bit e.2 9 && fld e.2 8 0 == v)).length
    + (inputsOf v s).length + b2n (fR oSyncOutCtl 1 0 s == 2 && fR oSyncOutCtl 12 4 s == v)

/-- MON_STATUS. -/
def monStatusView (s : State) : W40 :=
  let run := match s.mon.cur with | some c => b2n c.urgent * 2 ^ 8 + c.src % 256 | none => 0
  w (fR oMonStatus 39 12 s * 2 ^ 12 + min 4 s.mon.urgent.length * 2 ^ 9 + run)

/-- CLK_STATUS: while the root PLL is not locked, or holds without REF_IN, whether REF_IN is valid is open (R50, R52, R53).
[log: 122 DESIGN CHOICE] -/
def clkStatusView (s : State) : W40 :=
  let v := getR oClkStatus s
  if bit v 0 && !bit v 2 then v else setBit v 1 (powered s && refFree s && !(bit v 2 && s.time.refAt == some (now s)))

/-- PAIR_STATUS. -/
def pairStatusView (s : State) : W40 :=
  let v := setFld (getR oPairStatus s) 34 32 0
  w (v.toNat + b2n (vcmpOff s) * 2 ^ 32 + b2n (portUp (pairPort s) s && bit v 35) * 2 ^ 34 + b2n (cmpRuns s) * 2 ^ 33)

/-- The registers of the device, of time and of the command path. -/
def viewA (m : Nat) (row : RegRow) (is : List Nat) (off : Nat) (s : State) : Option W40 :=
  match row.k with
  | .devId => some (identWord 0 s)
  | .devSerialLo => some (identWord 1 s)
  | .devSerialHi => some (identWord 2 s)
  | .devCaps => some (identWord 3 s)
  | .lifecycle => some (setFld (getR off s) 2 0 (lifeCode s.life))
  | .mode => some (if mode 3 s then getR off s else setBit (getR off s) 6 false)
  | .modeStatus => some (modeStatusView s)
  | .clkStatus => some (clkStatusView s)
  | .tickNow => some (now s)
  | .syncInStat => some (setFld (getR off s) 7 3 s.time.fifo.length)
  | .syncInStamp => some (match s.time.fifo with | e :: _ => e.tick | [] => 0)
  | .ptmTick => some s.time.ptm.tick
  | .barrierStat => some (barrierView (nth 0 is 0) s)
  | .grStatus => some (setBit (getR off s) 3 (drainStall s))
  | .grBwWit => some (bwView s)
  | .ceTrap => some (trapView s)
  | .ceSlotId => some (ceIdView m (nth 0 is 0) s)
  | .ceSlotProg => some (ceProgView m (nth 0 is 0) s)
  | .evChanCfg => some (setFld (getR off s) 23 14 (min 1023 (refs (nth 0 is 0) s)))
  | .pairStatus => some (pairStatusView s)
  | .monStatus => some (monStatusView s)
  | _ => none

/-- The registers of sequencers, tones, outputs, slots, the Binder, cores and engines. -/
def viewB (row : RegRow) (is : List Nat) (off : Nat) (s : State) : Option W40 :=
  let g := unit96 is
  match row.k with
  | .seqStatus => some (seqStatusView g s)
  | .seqShot => some (seq g s).shot
  | .seqCursor => some (seq g s).cursor
  | .seqGreg => some (tget 0 (nth 0 is 2) (seq g s).g)
  | .drvTrim => some (trimView false g s)
  | .prbTrim => some (trimView true g s)
  | .drvCarrier => some (carrierView false g s)
  | .prbCarrier => some (carrierView true g s)
  | .drvStatus => some (toneStatusView false g s)
  | .prbStatus => some (toneStatusView true g s)
  | .fluxStatus => some (setBit (getR off s) 0 (commitWaits 4 g s))
  | .biasStatus => some (biasStatusView g s)
  | .biasTarget => some (w (unsx 20 (if (biasC g s).rest then (biasC g s).restCode else (biasC g s).target)))
  | .slotStatus => some (slotStatusView g s)
  | .slotLevel => some (if bit (chainAt g (minus (now s) 31) s).det 5 then getR off s else 0)
  | .bndSetStat => some (setStatView (nth 0 is 0) s)
  | .bndSetHzn => some (pset (nth 0 is 0) s).hb
  | .bndDecStat => some (decStatView (nth 0 is 0) s)
  | .bndDecOut => some (decOut (nth 0 is 0) s)
  | .vbLast => some (vent (nth 0 is 0) s).word
  | .vbLastRef => some (vent (nth 0 is 0) s).ref
  | .coreStatus => some (coreStatusView (unit16 is) s)
  | .tapCount => some (w (tget {} (nth 0 is 2) (core (unit16 is) s).taps).count)
  | .tapStamp => some (tget {} (nth 0 is 2) (core (unit16 is) s).taps).stamp
  | .coreD => some (tget 0 (nth 0 is 2) (core (unit16 is) s).d)
  | .witStatus => some (witStatusView (unit8 is) s)
  | _ => none

/-- The value of a register as domain `m` sees it, without side effects. -/
def regView (m : Nat) (row : RegRow) (is : List Nat) (off : Nat) (s : State) : W40 :=
  match viewA m row is off s with
  | some v => v
  | none =>
    match viewB row is off s with
    | some v => v
    | none => getR off s

/-- The register that a read of offset `off` by domain `m` reaches (R2, R406, R421). -/
def readable (m off : Nat) (s : State) : Option (RegRow × List Nat) :=
  if (absentAt off s).isSome || unpoweredAt off s then none
  else match findReg off with
    | some (row, is) => if mayRead m row is s then some (row, is) else none
    | none => none

/-- The value at offset `off` without side effects. -/
def peek (m off : Nat) (s : State) : W40 :=
  match readable m off s with
  | some (row, is) => regView m row is off s
  | none => 0

/-- A read of the whole register at `off` by domain `m`, with its side effects (R418). -/
def regRead (m off : Nat) (s : State) : W40 × State :=
  match readable m off s with
  | some (row, is) =>
    match row.k with
    | .tickNow => tickNowRead s
    | .syncInStamp => stampPop s
    | .ptmTick => ptmLatch s
    | .grStatus => (regView m row is off s, { s with gran := { s.gran with unmapped := false } })
    | _ => (regView m row is off s, s)
  | none => (0, s)

/-- The byte of the register image at BAR0 address `a` (R9). -/
def imageByte (m a : Nat) (s : State) : Byte :=
  BitVec.ofNat 8 ((peek m (a / 8 * 8) s).toNat / 256 ^ (a % 8))

end Sys2Proof.Machine
end

