-- ==== Sys2Proof/Machine/RegWrite.lean ====
section
/-! DEFINITION. Writes of BAR0 registers: who may write, what refuses a write and in which order, and what an accepted write
does (R7, R9, R33, R63, R64, R90, R95, R97-R101, R145, R149-R154, R171, R207, R214, R215, R219, R223, R225, R239, R244, R253,
R268, R275, R282, R306-R310, R332, R350, R359, R376, R405-R409, R415, R420-R423, R450). -/

namespace Sys2Proof.Machine

/-- The SOURCE of the record of a refused write of `v` (Table 24.2): the unit of the register.
[log: 10 DEDUCED] -/
def regSource (row : RegRow) (is : List Nat) (v : W40) : Nat :=
  let i := nth 0 is 0
  match row.k with
  | .seqCtl | .seqCmd | .seqCommit | .seqStatus | .seqShot | .seqCursor | .seqLate | .seqCounts | .seqOwner | .seqGreg
  | .seqEvsel => 0x1000 + unit96 is
  | .slotCfg | .slotGain | .slotDet | .slotCommit | .slotStatus | .slotLevel | .slotCounts | .thrCfg | .thrRing | .thrBab
  | .thrBc | .thrCi | .thrCq | .winAxis | .winCtl | .winThr | .winOfs | .winSlope | .thrStat | .thrFlags | .thrLast =>
    0x2000 + unit96 is
  | .drvFreq | .drvPhase | .drvCtl | .drvTrim | .drvCarrier | .drvStatus | .drvCommit => 0x3000 + toneOut false (unit96 is)
  | .prbFreq | .prbPhase | .prbCtl | .prbTrim | .prbCarrier | .prbStatus | .prbCommit => 0x3000 + toneOut true (unit96 is)
  | .xyCfg | .xyStat => 0x3000 + unit16 is
  | .probeCfg | .probeStat => 0x3100 + unit8 is
  | .fluxGain | .fluxIir | .fluxFir | .fluxCommit | .fluxStatus | .biasCode | .biasCfg | .biasCheck | .biasStatus
  | .biasTarget | .biasLoad | .biasRest | .biasQf | .wmonCfg | .wmonStat => 0x3200 + unit96 is
  | .adcCtl | .adcStatus | .adcCounts | .adcSlice | .adcQf | .ovlCfg | .ovlStat => 0x4000 + unit8 is
  | .coreCtl | .coreCmd | .coreStatus | .tapCfg | .tapCount | .tapStamp | .coreD => 0x5000 + unit16 is
  | .witCtl | .witPre | .witPost | .witHoldoff | .witTrig | .witLvl | .witSrc2 | .witMeas | .witForce | .witStatus =>
    0x6000 + unit8 is
  | .portCtl | .portStatus | .portFlight | .portEye | .portCounts | .portCorr => 0x7000 + i
  | .fedStatus | .fedReach | .fedCounts | .pairStatus | .pairCmp | .pairCounts | .pairHandoverTick => 0x700F
  | .grStatus | .grBwWit | .grEcc | .grEccAddr | .grEvlog | .ringHeadAdv | .grRegion => 0x8000
  | .cmdDoorbell | .ceTrap | .loftStatus | .ceSlotId | .ceSlotProg | .loftMatch => 0x9000
  | .evChanCfg | .evChanStat => 0xA000 + i
  | .evFire | .evRoute => 0xA000 + fld v 8 0
  | .evInCnt => if i < 1536 then 0x1000 + i / 2 else if i < 1664 then 0xF000 + (i - 1536) / 16 else if i < 1728 then 0x6000 + (i - 1664) else 0
  | .bndSetCfg | .bndSetStat | .bndSetHzn | .bndMember => 0xA800 + i
  | .bndDecSel | .bndDecCfg | .bndDecStat | .bndDecOut | .bndCommit | .bndArm | .bndStatus | .vbExport | .vbStat | .vbLast
  | .vbLastRef => 0xA800
  | .monCtl | .monScan | .monStatus => 0xB000
  | .monLastRaw | .monLastLin | .monLastTag | .senseCfg | .senseStat => 0xB000 + i
  | .thermSensor => 0xC000 + i
  | .thermThr | .thermStatus | .powerStatus | .thermLife | .thermInteg => 0xC000
  | .secStatus | .secDomains => 0xD000
  | .hostStatus | .vecAlloc => 0xE000 + i
  | .tileBand | .lbCtl | .biasRestSlew | .biasStrobe | .biasDiscard | .biasEvsel | .adcRotCtl | .adcRotLog | .gleanApply
  | .dacQf | .tileOwner | .waveDesc | .waveCommit | .wmonTile => 0xF000 + i
  | _ => 0

/-! ### Owners (R308, R405, R406, R420) -/

/-- The unit of producer `u` and whether the table lists it (Table 15.1): its owner domain and SECURE.
[log: 90 DEDUCED] -/
def producerOwner (u : Nat) (s : State) : Option (Nat × Bool) :=
  let t := u / 640
  let r := u % 640
  if u = 5120 then some (0, false)
  else if 5120 < u then none
  else if r < 576 then some (seqDom (96 * t + r % 96) s, seqSec (96 * t + r % 96) s)
  else if r < 633 then some (tileDom t s, tileSec t s)
  else none

/-- Domain `m` may connect a unit to channel `v` (R308, R406): it owns both, or is domain 0 and neither is SECURE; the owners agree; and a
unit with SECURE 0 meets no channel with SECURE 1.
[log: 88 DEDUCED] -/
def mayJoin (m : Nat) (o : Nat × Bool) (v : Nat) (s : State) : Bool :=
  (m == o.1 || (m == 0 && !o.2 && !chanSec v s)) && o.1 == chanDom v s && (o.2 || !chanSec v s)

/-- Domain `m` may disconnect a unit from channel `v` (R308). -/
def mayPart (m : Nat) (o : Nat × Bool) (v : Nat) (s : State) : Bool := m == 0 || m == o.1 || m == chanDom v s

/-- A selection value names its channels: CHAN_A at bit `a`, and CHAN_B with OR2. -/
def selChans (v : W40) (a : Nat) : List Nat :=
  fld v (a + 8) a :: (if bit v (a + 18) then [fld v (a + 17) (a + 9)] else [])

/-- Domain `m` may write a selection (R308, R312): `en` says that the write leaves it enabled. The owner of the unit, the owner of a channel
that it names and domain 0 may always disable it.
[log: 88 DEDUCED] -/
def maySelect (m : Nat) (o : Nat × Bool) (en : Bool) (a : Nat) (old v : W40) (s : State) : Bool :=
  if en then (selChans v a).all (fun c => mayJoin m o c s)
  else (selChans old a).any (fun c => mayPart m o c s)

/-- What a write of `v` by domain `m` asks of WIT_CTL[e]: a domain that may not command the engine only clears EV_EN (R308, R312). -/
def witCtlAsk (m e : Nat) (v : W40) (s : State) : W40 :=
  if mayAct m (tileDom (e / 8) s) (tileSec (e / 8) s) then v else setBit (getR (oWitCtl e) s) 5 false

/-- Domain `m` may write a route (R308).
[log: 90 DEDUCED] -/
def mayRoute (m u : Nat) (v : W40) (s : State) : Bool :=
  match producerOwner u s with
  | some o => if bit v 9 then mayJoin m o (fld v 8 0) s else mayPart m o (fR (oEvRoute u) 8 0 s) s
  | none => m == 0

/-- Domain `m` owns a sequencer of tile `t` (R420). -/
def ownsOnTile (m t : Nat) (s : State) : Bool := (upTo 96).any (fun q => mayAct m (seqDom (96 * t + q) s) (seqSec (96 * t + q) s))

/-- Domain `m` may write the register, besides what its value decides (R405, R406, R420). -/
def mayWrite (m : Nat) (row : RegRow) (is : List Nat) (off : Nat) (v : W40) (s : State) : Bool :=
  let o := regOwner row is s
  match row.k with
  | .seqOwner | .tileOwner => m == 0 && (!bit v 4 || bR oSecDomains (fld v 3 0) s)
  | .evChanCfg => m == 0 && (!bit v 4 || bR oSecDomains (fld v 3 0) s)
  | .biasStrobe => m == 0 || ownsOnTile m (nth 0 is 0) s
  | .seqEvsel => maySelect m o (bit v 0) 2 (getR off s) v s
  | .biasEvsel => maySelect m o (bit v 0) 2 (getR off s) v s
  | .witSrc2 => mayAct m o.1 o.2
      && (!bR (oWitCtl (unit8 is)) 5 s || maySelect m o true 8 (getR off s) v s)
  | .witCtl =>
    let sel := getR (oWitSrc2 (unit8 is)) s
    if bit v 5 then mayAct m o.1 o.2 && maySelect m o true 8 0 sel s else mayAct m o.1 o.2 || maySelect m o false 8 sel 0 s
  | .syncOutCtl => m == 0 && (fld v 1 0 != 2 || mayJoin 0 (0, false) (fld v 12 4) s)
  | .evRoute => mayRoute m (nth 0 is 0) v s
  | .evFire => mayAct m (chanDom (fld v 8 0) s) (chanSec (fld v 8 0) s)
  | .ringHeadAdv | .cmdDoorbell => true
  | .tapCfg => mayAct m o.1 o.2 && (m == 0 || !decide (fld v 37 28 < nSeqs s) || seqDom (fld v 37 28) s == o.1)
  | _ => match row.own with
    | .dom0 => m == 0
    | .func => m == 0 || m == nth 0 is 0
    | _ => mayAct m o.1 o.2

/-! ### What refuses a write (R450) -/

/-- A core that may be configured and loaded (R239, R245). -/
def coreStopped (k : Nat) (s : State) : Bool :=
  match (core k s).st with | .idle => true | .halted => true | .faulted => true | _ => false

/-- A sequencer that may change hands (R407). -/
def seqRests (g : Nat) (s : State) : Bool :=
  match (seq g s).st with | .idle => true | .done => true | .faulted => true | _ => false

/-- Every sequencer and core of tile `t` may change hands (R407). -/
def tileRests (t : Nat) (s : State) : Bool :=
  (upTo 96).all (fun q => seqRests (96 * t + q) s) && (upTo 16).all (fun k => coreStopped (16 * t + k) s)

/-- An owner field takes a resource out of SECURE or to another domain while it is SECURE (R407). -/
def movesSecure (old v : W40) : Bool := bit old 4 && (!bit v 4 || fld old 3 0 != fld v 3 0)

/-- DEV_ENTER_SAFE or FED_LOAD holds the device as a whole (R294, R408).
[log: 145 DEDUCED] -/
def deviceHeld (s : State) : Bool := (heldRoutines s ++ s.ce.cur.toList).any (fun r => r.opcode == 0x003 || r.opcode == 0x601)

/-- A routine holds unit `t` of the kind until its reply, by itself or with the device (R294, R408). -/
def heldBy (k : TargetK) (t : Nat) (s : State) : Bool :=
  deviceHeld s || (heldRoutines s ++ s.ce.cur.toList).any (fun r => match opRow? r.opcode with
    | some x => holdsTarget k t x.tk r.target
    | none => false)

/-- A routine holds tile `t` or a core of it, whose owner is the tile's.
[log: 145 DEDUCED] -/
def tileHeld (t : Nat) (s : State) : Bool := heldBy .tile t s || (upTo 16).any (fun k => heldBy .core (16 * t + k) s)

/-- Some resource of domain `d` has SECURE 1 (R405). -/
def holdsSecure (d : Nat) (s : State) : Bool :=
  (upTo (nSeqs s)).any (fun g => seqSec g s && seqDom g s == d) || (upTo (nTiles s)).any (fun t => tileSec t s && tileDom t s == d)
    || (upTo 512).any (fun v => chanSec v s && chanDom v s == d) || s.gran.rings.any (fun e => e.2.secure && e.2.owner == d)
    || (upTo 64).any (fun r => bR (oGrRegion r) 6 s && fR (oGrRegion r) 3 0 s == d)

/-- STATE_REFUSED of a register. -/
def stateRefused (row : RegRow) (is : List Nat) (v : W40) (s : State) : Bool :=
  match row.k with
  | .mode => !(s.life == .safe || s.life == .ready)
  | .syncInStat => bit v 2 && s.life != .safe
  | .seqGreg => inShot (unit96 is) s
  | .xyCfg => (ownersOf (unit16 is)).any (fun g => inShot g s)
  | .probeCfg => (ownersOf (256 + unit8 is)).any (fun g => inShot g s)
  | .adcCtl => fld v 7 2 != adcExclude (unit8 is) s && s.life != .safe
  | .adcRotCtl => s.life != .safe
  | .coreCtl | .tapCfg => !coreStopped (unit16 is) s
  | .witPre | .witPost | .witHoldoff | .witTrig | .witLvl | .witSrc2 | .witMeas => bR (oWitStatus (unit8 is)) 0 s
  | _ => false

/-- BUSY of a register.
[log: 89 DEDUCED] -/
def busyRefused (row : RegRow) (is : List Nat) (off : Nat) (v : W40) (s : State) : Bool :=
  let i := nth 0 is 0
  match row.k with
  | .syncInCtl => bR oSyncInStat 2 s
  | .barrierCfg => !(barrier i s).now.isEmpty || !(barrier i s).solo.isEmpty || !(barrier i s).notices.isEmpty
  | .evChanCfg => (refs i s != 0 || deviceHeld s) && fld v 4 0 != fR off 4 0 s
  | .secDomains => (upTo 16).any (fun d => bR oSecDomains d s && !bit v d && holdsSecure d s)
  | .seqOwner =>
    (movesSecure (getR off s) v && !seqRests (unit96 is) s) || heldBy .seq (unit96 is) s || heldBy .slot (unit96 is) s
      || heldBy .rest (unit96 is) s
  | .tileOwner => (movesSecure (getR off s) v && !tileRests i s) || tileHeld i s
  | .vecAlloc => s.gran.rings.any (fun e => e.2.owner == i && e.2.watermark != 0 && decide (fld v 11 0 ≤ e.2.vector))
  | _ => false

/-- The devices a barrier may name: the members of a loaded federation configuration, else device 0 (R95). -/
def barMembers (s : State) : Nat := if bR oFedStatus 0 s then fR oFedStatus 31 16 s else 1

/-- The sum of the COUNT fields with VEC_ALLOC[d] at `c`. -/
def vecSum (d c : Nat) (s : State) : Nat :=
  (upTo 16).foldl (fun a i => a + (if i = d then c else fR (oVecAlloc i) 11 0 s)) 0

/-- PARAM_INVALID of a register of the device and its shared units. -/
def paramA (row : RegRow) (is : List Nat) (v : W40) (s : State) : Bool :=
  let i := nth 0 is 0
  match row.k with
  | .syncOutPeriod => decide (1 ≤ v.toNat) && decide (v.toNat ≤ 15)
  | .barrierCfg => (fld v 39 24 != 0 && (fld v 39 24 &&& (0xFFFF ^^^ barMembers s)) != 0) || decide (nSeqs s < fld v 9 0)
  | .evRoute => (producerOwner i s).isNone
  | .thermThr =>
    decide (95 < fld v 7 0) || decide (105 < fld v 15 8) || decide (115 < fld v 23 16)
      || decide (fld v 15 8 < fld v 7 0 + 6) || decide (fld v 23 16 < fld v 15 8 + 6)
  | .vecAlloc => decide (2048 < vecSum i (fld v 11 0) s)
  | .monCtl => decide (32 < fld v 32 27)
  | .monScan => decide (6 ≤ fld v 10 8)
  | .senseCfg => decide (6 ≤ fld v 5 3)
  | .wmonTile => decide (10000 < fld v 13 0)
  | _ => false

/-- PARAM_INVALID of a register of a sequencer, output, slot, set, core or engine. -/
def paramB (row : RegRow) (is : List Nat) (v : W40) (s : State) : Bool :=
  match row.k with
  | .waveDesc => decide (2097152 < 8 * fld v 37 20 + fld v 19 2)
  | .seqCmd => fld v 2 0 == 0 || decide (6 ≤ fld v 2 0)
  | .xyCfg | .probeCfg => decide (5 ≤ fld v 2 0)
  | .adcCtl => decide (33 ≤ fld v 7 2) && decide (fld v 7 2 ≤ 62)
  | .adcRotCtl => decide (fld v 4 0 < 19) || decide (30 < fld v 4 0)
  | .slotDet => decide (16 < fld v 4 0)
  | .thrCfg => decide (4096 < fld v 39 27) || decide (24 < fld v 26 22)
  | .bndSetCfg =>
    fld v 22 21 == 3 || decide (2 ≤ fld v 19 18) || decide (nSeqs s ≤ fld v 17 8) || decide (64 < fld v 6 0)
  | .bndDecCfg => decide (16 < fld v 39 35)
  | .tapCfg => decide (nSeqs s ≤ fld v 37 28) || decide (16384 < fld v 14 0)
  | .witTrig => decide (6 ≤ fld v 39 37)
  | _ => (fun (_ : List Nat) => false) is

/-- The code that refuses a write, in the order of R450; UNIT_ABSENT stands before it. -/
def writeRefusal (m : Nat) (row : RegRow) (is : List Nat) (off : Nat) (v : W40) (s : State) : Option Nat :=
  if !mayWrite m row is off v s then some 3
  else match row.k with
    | .witCtl => witCtlRefusal (unit8 is) (witCtlAsk m (unit8 is) v s) s
    | .grRegion => (regionRefusal (nth 0 is 0) v s).orElse (fun _ => if deviceHeld s then some 1 else none)
    | _ =>
      if stateRefused row is v s then some 2
      else if busyRefused row is off v s then some 1
      else if paramA row is v s || paramB row is v s then some 4
      else none

/-! ### What an accepted write does -/

/-- The bits of a write that the register stores, and those that a 1 clears (Table 0.4, R7).
[log: 104 DEDUCED] -/
def storeReg (row : RegRow) (off : Nat) (v : W40) (s : State) : State :=
  let old := (getR off s).toNat
  let x := v.toNat
  let keep := old &&& (2 ^ 40 - 1 - row.rw) &&& (2 ^ 40 - 1 - (x &&& row.w1c))
  setR off (w (keep ||| (x &&& row.rw))) s

/-- SEQ_OWNER changes (R407): what leaves SECURE is zeroed. -/
def seqOwnerSet (g : Nat) (v : W40) (s : State) : State :=
  let z := movesSecure (getR (oSeqOwner g) s) v
  let s := if z then modSeq g (fun q => { q with imem := [], g := [], unbHeld := false }) s else s
  setR (oSeqOwner g) (w (fld v 4 0)) s

/-- Waveform memory, descriptors and core memories of tile `t` are zeroed (R407). -/
def tileZero (t : Nat) (s : State) : State :=
  let s := { s with wave := s.wave.filter (fun e => e.1 / 0x200000 != t) }
  let desc := fun (o : Nat) => decide (oWaveDesc t 0 ≤ o) && decide (o ≤ oWaveDesc t 4095)
  let s := { s with regs := s.regs.filter (fun e => !desc e.1), force := s.force.filter (fun e => !desc e.1) }
  foldS (fun k s => setCore (16 * t + k) { core (16 * t + k) s with prog := [], db0 := [], db1 := [] } s) (upTo 16) s

/-- TILE_OWNER changes (R407). -/
def tileOwnerSet (t : Nat) (v : W40) (s : State) : State :=
  let z := movesSecure (getR (oTileOwner t) s) v
  setR (oTileOwner t) (w (fld v 4 0)) (if z then tileZero t s else s)

/-- PTM_CTL: INTERVAL, and NOW for one dialog (R65).
[log: 38 DEDUCED, 136 DESIGN CHOICE] -/
def ptmCtlSet (v : W40) (s : State) : State :=
  let changed := fld v 15 0 != fR oPtmCtl 15 0 s
  let s := setR oPtmCtl (w (fld v 15 0)) s
  let s := if changed then { s with time := { s.time with ptmNext := none } } else s
  if bit v 16 && s.time.ptmOut.isNone then ptmBegin s else s

/-- ADC_ROT_CTL of tile `t`: the tile rotates with the new settings from now on (R169). -/
def rotCtlSet (t : Nat) (row : RegRow) (off : Nat) (v : W40) (s : State) : State :=
  let s := storeReg row off v s
  foldS (fun f s => setAdc (8 * t + f) { adc (8 * t + f) s with rotFrom := some (now s), whole := false } s) (upTo 8) s

/-- WAVE_COMMIT: every descriptor shadow of tile `t` moves into force (R98). -/
def waveCommit (t : Nat) (s : State) : State :=
  let mine := fun (o : Nat) => decide (oWaveDesc t 0 ≤ o) && decide (o ≤ oWaveDesc t 4095)
  let s := arrive 15 t s
  commitRegs (((s.regs ++ s.force).map (fun e => e.1)).filter mine) s

/-- BIAS_STROBE[t]: the groups named (R150); from domain 0 it loads every channel, also one whose sequencer is SECURE (R152).
[log: 151 DESIGN CHOICE] -/
def strobeWrite (m t : Nat) (v : W40) (s : State) : State :=
  foldS (fun grp s => if bit v grp then strobeGroup t grp m (m == 0) (now s) s else s) (upTo 16) s

/-- SENSE_STAT: OPEN_I clears only where the last check passed (R361). -/
def senseStatSet (n : Nat) (row : RegRow) (off : Nat) (v : W40) (s : State) : State :=
  let keep := bit v 6 && (sense n s).open_
  let s := storeReg row off (if keep then setBit v 6 false else v) s
  if bit v 6 && !keep then setSense n { sense n s with openRec := false } s else s

/-- RATE 0 of tile `t`: its window monitors hold OUT at 0, and TRIP[t] follows (R366, R367). -/
def wmonIdle (t : Nat) (s : State) : State :=
  tripSend t (foldS (fun c s =>
    if bR (oWmonStat (96 * t + c)) 0 s then putB (oWmonStat (96 * t + c)) 0 false s else s) (upTo 96) s)

/-- WMON_TILE: RATE 0 releases every monitor (R366); TRIP_HELD clears only while no source holds the pin; with LATCH 0 the pin follows 20 ns on
(R367).
[log: 74 DEDUCED] -/
def wmonTileSet (t : Nat) (row : RegRow) (off : Nat) (v : W40) (s : State) : State :=
  let s := if fld v 13 0 = 0 then wmonIdle t s else s
  let clears := bit v 15 && !tripOr t s
  let s := storeReg row off (if clears then v else setBit v 15 false) s
  if !bit v 14 then tripSend t s
  else if clears then { s with pins := { s.pins with trip := s.pins.trip.filter (fun k => k != t) } }
  else s

/-- HOST_STATUS: a cleared DROPPED lets its record be written again.
[log: 92 DEDUCED] -/
def hostStatusSet (d : Nat) (row : RegRow) (off : Nat) (v : W40) (s : State) : State :=
  let s := storeReg row off v s
  if fR off 39 20 s = 0 then { s with host := { s.host with dropSeen := s.host.dropSeen.filter (fun k => k != d) } } else s

/-- GR_EVLOG: the first EN of [0] delivers the early log (R442). -/
def evlogSet (d : Nat) (row : RegRow) (off : Nat) (v : W40) (s : State) : State :=
  let s := storeReg row off v s
  if d = 0 && bit v 20 then earlyEnd s else s

/-- The first frame start after the present tick (R317, R423).
[log: 91 DEDUCED] -/
def nextFrame (s : State) : Tick := plus (now s) (5 - (fullTime s).toNat % 5)

/-- PORT_CTL takes effect at the port's next frame start (R423).
[log: 91 DEDUCED] -/
def portCtlSet (p : Nat) (v : W40) (s : State) : State := defer (nextFrame s) (.portEn p (bit v 0)) s

/-- The writes that act on the device and its shared units; the rest are stored. -/
def effectA (m : Nat) (row : RegRow) (is : List Nat) (off : Nat) (v : W40) (s : State) : Option State :=
  let i := nth 0 is 0
  match row.k with
  | .mode => some (modeWrite v s)
  | .syncOutCtl => some (syncOutCtl v s)
  | .syncOutTime => some (syncOutTime v s)
  | .ptmCtl => some (ptmCtlSet v s)
  | .bndCommit => some (if bit v 0 then bndGo s else s)
  | .bndArm => some (bndArm v s)
  | .bndSetStat => some (setStatSet i v (storeReg row off v s))
  | .grEvlog => some (evlogSet i row off v s)
  | .ringHeadAdv => some (ringHeadAdv m v s)
  | .cmdDoorbell => some (doorbell m v s)
  | .grRegion => some (regionSet i (w (v.toNat &&& row.rw)) s)
  | .evFire => some (fireChan (fld v 8 0) (now s) 0 s)
  | .portCtl => some (portCtlSet i v s)
  | .adcRotCtl => some (rotCtlSet i row off v s)
  | .monCtl => some (if fld v 32 27 = fR off 32 27 s then storeReg row off v s else scanRestart (storeReg row off v s))
  | .monScan => some (scanRestart (storeReg row off v s))
  | .senseCfg => some (senseWrite i v s)
  | .senseStat => some (senseStatSet i row off v s)
  | .wmonTile => some (wmonTileSet i row off v s)
  | .hostStatus => some (hostStatusSet i row off v s)
  | _ => none

/-- The writes that act on a sequencer, output, slot, core, engine or tile. -/
def effectB (m : Nat) (row : RegRow) (is : List Nat) (v : W40) (s : State) : Option State :=
  let g := unit96 is
  match row.k with
  | .waveCommit => some (if bit v 0 then waveCommit (nth 0 is 0) s else s)
  | .seqCmd => some (seqCmdWrite (fld v 2 0) g s)
  | .seqCommit => some (if bit v 0 then commitReq 0 g s else s)
  | .drvCommit => some (if bit v 0 then commitReq 1 g s else s)
  | .prbCommit => some (if bit v 0 then commitReq 2 g s else s)
  | .slotCommit => some (if bit v 0 then commitReq 3 g s else s)
  | .fluxCommit => some (if bit v 0 then commitReq 4 g s else s)
  | .seqGreg => some (modSeq g (fun q => { q with g := tset 0 (nth 0 is 2) v q.g }) s)
  | .seqOwner => some (seqOwnerSet g v s)
  | .tileOwner => some (tileOwnerSet (nth 0 is 0) v s)
  | .biasStrobe => some (strobeWrite m (nth 0 is 0) v s)
  | .adcCtl => some (adcCtlSet (unit8 is) v s)
  | .coreCmd => some (coreCmd (fld v 1 0) (unit16 is) s)
  | .witCtl => some (witCtlSet (unit8 is) (witCtlAsk m (unit8 is) v s) s)
  | .witForce => some (if bit v 0 then witForce (unit8 is) s else s)
  | _ => none

/-- An accepted write acts. -/
def regEffect (m : Nat) (row : RegRow) (is : List Nat) (off : Nat) (v : W40) (s : State) : State :=
  match effectA m row is off v s with
  | some s' => s'
  | none =>
    match effectB m row is v s with
    | some s' => s'
    | none => joinCommit off (storeReg row off v s)

/-! ### The write (R420, R421, R450) -/

/-- A write in the window of an unpowered tile: counted, with its record once until cleared (R421).
[log: 92 DEDUCED] -/
def unpoweredDrop (m off : Nat) (v : W40) (s : State) : State :=
  let src := match tileOf off with | some t => 0xF000 + t | none => 0
  let s' := bump (oHostStatus m) 39 20 s
  let owns := match findReg off with
    | some (row, is) => mayWrite m row is off v s
    | none => true
  if !owns then record src 3 0 0 s'
  else if s.host.dropSeen.contains m then s'
  else record src 2 0 0 { s' with host := { s'.host with dropSeen := insNat m s'.host.dropSeen } }

/-- DETAIL of the record of a refused write: the barrier number of a barrier's register (Table 24.2). -/
def regDetail (row : RegRow) (is : List Nat) : Nat :=
  match row.k with
  | .barrierCfg | .barrierStat => nth 0 is 0
  | _ => 0

/-- The unit of the register has an owner of its own, whoever may write the register (R405, R406).
[log: 40 DEDUCED] -/
def hasOwner (row : RegRow) : Bool :=
  match row.k with
  | .seqOwner | .tileOwner | .evChanCfg | .evFire | .evRoute | .evInCnt | .ringHeadAdv | .cmdDoorbell => true
  | _ => row.own != .dom0 && row.own != .func

/-- The record of a write of `v` by function `m` that is refused with `code` (R283, R438, R439): its SOURCE is the unit of the
register. Where the domain may not write it and the unit has no owner, function `m` reports it (DEDUCED, log entry 40). LOAD_ARM reads
0 after a write refused outside SAFE (R63).
[log: 10 DEDUCED, 40 DEDUCED, 99 DEDUCED] -/
def refuseWrite (m code : Nat) (row : RegRow) (is : List Nat) (v : W40) (s : State) : State :=
  if code = 3 && !hasOwner row then record (0xE000 + m) 3 0 0 s
  else
    let o := match row.own with | .seq => regOwner row is s | _ => srcOwner (regSource row is v) s
    let s := if code = 2 && row.k == .syncInStat then putB oSyncInStat 2 false s else s
    recordOwned o (regSource row is v) code (regDetail row is) 0 s

/-- The unit of a register stands on its tile die (R13): the outputs with their memory, bias, the ADCs, the slot paths and the monitors. -/
def tileDie (k : RegK) : Bool :=
  match k with
  | .waveDesc | .waveCommit | .drvFreq | .prbFreq | .drvPhase | .prbPhase | .drvCtl | .prbCtl | .drvTrim | .prbTrim | .drvCarrier
  | .prbCarrier | .drvStatus | .prbStatus | .drvCommit | .prbCommit | .xyCfg | .probeCfg | .xyStat | .probeStat | .fluxGain | .fluxIir
  | .fluxFir | .fluxCommit | .fluxStatus | .tileBand | .lbCtl | .biasCode | .biasCfg | .biasCheck | .biasStatus | .biasStrobe
  | .biasDiscard | .adcCtl | .adcStatus | .adcCounts | .adcRotCtl | .slotCfg | .slotGain | .slotDet | .slotCommit | .slotStatus
  | .slotCounts | .wmonCfg | .wmonStat | .wmonTile | .ovlCfg | .ovlStat => true
  | _ => false

/-- The write of a register at `off` crosses a down path whose transfer of the present tick has failed (R15).
[log: 22 DEDUCED] -/
def writeLost (k : RegK) (off : Nat) (s : State) : Bool := tileDie k && s.crcDown.contains ((off - 0x1000000) / 0x400000)

/-- A 64-bit register write by function `m` reaches its unit. -/
def regWrite (m off : Nat) (v : W40) (s : State) : State :=
  match absentAt off s with
  | some src => record src 6 0 0 s
  | none =>
    if unpoweredAt off s then unpoweredDrop m off v s
    else match findReg off with
      | none => bump (oHostStatus m) 39 20 s
      | some (row, is) =>
        match writeRefusal m row is off v s with
        | some code => refuseWrite m code row is v s
        | none => if writeLost row.k off s then s else regEffect m row is off v s

end Sys2Proof.Machine
end

