-- ==== Sys2Proof/Machine/HostFam.lean ====
section
/-! DEFINITION. Accesses of the host to BAR0, whole and in halves, every register write that has a row of its own, the bits of
PCIe configuration space, and the management port (R9, R412-R425, R450). -/

namespace Sys2Proof.Machine

/-! ### Halves and partial accesses (R417-R419) -/

/-- `n` writes of function `m` are lost: PARTIAL counts them, with its record once until it is cleared (R417, R419).
[log: 95 DEDUCED] -/
def partialLost (m n : Nat) (s : State) : State :=
  if n = 0 then s
  else bumpBy (oHostStatus m) 19 8 n (recordIf (fR (oHostStatus m) 19 8 s == 0) (0xE000 + m) 0x106 0 0 s)

/-- Function `m` reaches the block: the device is powered and the function exists. -/
def fnReaches (m : Nat) (s : State) : Bool := powered s && decide (m < 16) && fnExists m s

/-- The low half that function `m` has staged. -/
def staged (m : Nat) (s : State) : Option (Nat × BitVec 32) := tget? m s.host.stage

/-- The staged half of function `m` is gone. -/
def unstage (m : Nat) (s : State) : State := { s with host := { s.host with stage := tdel m s.host.stage } }

/-- A staged half that another write of the function meets is discarded (R419). -/
def dropStaged (m : Nat) (s : State) : State :=
  match staged m s with
  | some _ => partialLost m 1 (unstage m s)
  | none => s

/-- A whole register write by function `m` (R417, R420). -/
def hostWrite (m off : Nat) (v : W40) (s : State) : State :=
  if fnReaches m s then regWrite m off v (dropStaged m s) else s

/-- A low half is staged (R419). -/
def lowWrite (m off : Nat) (v : BitVec 32) (s : State) : State :=
  if fnReaches m s then
    let s := dropStaged m s
    { s with host := { s.host with stage := tput m (off, v) s.host.stage } }
  else s

/-- A high half completes the register whose low half is staged, or is dropped with whatever is staged (R419).
[log: 95 DEDUCED] -/
def highWrite (m off : Nat) (v : BitVec 32) (s : State) : State :=
  if fnReaches m s then
    match staged m s with
    | some (o, lo) =>
      if o = off then regWrite m off (w (v.toNat % 256 * 2 ^ 32 + lo.toNat)) (unstage m s)
      else partialLost m 1 (unstage m s)
    | none => partialLost m 1 s
  else s

/-- The answer of a read, with the read latch of function `m` as it is afterwards.
[log: 115 DESIGN CHOICE] -/
def answer (m : Nat) (v : W40) (latch : Option (Nat × W40)) (s : State) : State :=
  let l := match latch with
    | some x => tput m x s.host.rlatch
    | none => tdel m s.host.rlatch
  { s with host := { s.host with readOut := v, readBytes := [], poisoned := false, rlatch := l } }

/-- A read of the whole register (R418). -/
def hostRead (m off : Nat) (s : State) : State :=
  if fnReaches m s then
    let (v, s) := regRead m off s
    answer m v none s
  else s

/-- A read of the low half reads the register once and fills the read latch (R418).
[log: 116 DEDUCED] -/
def lowRead (m off : Nat) (s : State) : State :=
  if fnReaches m s then
    let (v, s) := regRead m off s
    answer m (w (v.toNat % 2 ^ 32)) (some (off, v)) s
  else s

/-- A read of the high half: from the latch, or afresh without a side effect (R418).
[log: 116 DEDUCED] -/
def highRead (m off : Nat) (s : State) : State :=
  if fnReaches m s then
    let v := match tget? m s.host.rlatch with
      | some (o, x) => if o = off then x else peek m off s
      | none => peek m off s
    answer m (w (v.toNat / 2 ^ 32)) none s
  else s

/-- An access of another size or alignment: a read returns the bytes it covers, a write is dropped (R417). -/
def partialRow (m : Nat) (wr : Bool) (off size : Nat) (s : State) : State :=
  if fnReaches m s then
    if wr then partialLost m 1 (dropStaged m s)
    else
      let bs := (upTo size).map (fun i => imageByte m (off + i) s)
      let s := answer m 0 none s
      { s with host := { s.host with readBytes := bs } }
  else s

/-- An owner field stands at `off` (R405, R407). -/
def ownerField (off : Nat) : Bool :=
  match findReg off with
  | some (row, _) => match row.k with
    | .seqOwner | .tileOwner => true
    | _ => false
  | none => false

/-! ### PCIe configuration space (R65, R280, R413, R416) -/

/-- A number enters or leaves a set. -/
def toggleNat (m : Nat) (on : Bool) (l : List Nat) : List Nat := if on then insNat m l else l.filter (fun k => k != m)

/-- Vendor ID, Device ID and class code of function `m` (Table 22.1).
[log: 164 PRESUMED] -/
def pcieIdent (m : Nat) (s : State) : Nat × Nat × Nat :=
  (0x1F3C, (match s.fuses.part with | .q512 => 0x0512 | .q256 => 0x0256) + b2n (m != 0), 0x120000)

/-- A write of configuration space changes one field of function `m`; payloads of at most 512 bytes and read requests of at most 4,096 are
supported (R411).
[log: 164 PRESUMED] -/
def pcieConfig (m : Nat) (b : PcieBit) (on : Bool) (s : State) : State :=
  if !fnReaches m s then s
  else match b with
    | .busMaster => { s with host := { s.host with busMaster := toggleNat m on s.host.busMaster } }
    | .msixEnable => msixReleaseAll m { s with host := { s.host with msixOn := toggleNat m on s.host.msixOn } }
    | .functionMask => msixReleaseAll m { s with host := { s.host with fmask := toggleNat m on s.host.fmask } }
    | .vfEnable =>
      if m ≠ 0 then s else if on then { s with host := { s.host with vfEnable := true } } else vfOff s
    | .ptmEnable => if m ≠ 0 then s else { s with host := { s.host with ptmOn := on } }
    | .payload k => if m ≠ 0 || 3 ≤ k then s else { s with host := { s.host with payload := k } }
    | .readRequest k => if m ≠ 0 || 6 ≤ k then s else { s with host := { s.host with readRequest := k } }

/-! ### The management port (R424, R425) -/

/-- The port answers while VAUX is present; without it nothing comes back.
[log: 96 DEDUCED] -/
def mgmtAnswer (bs : Option (List Byte)) (s : State) : State :=
  { s with host := { s.host with mgmt := if s.pins.vaux then bs else none } }

/-- A word of two bytes. -/
def mgmtWord (x : Nat) : Option (List Byte) := some (toLe 2 x)

/-- Command 0x00. -/
def mgmtIdentBytes (s : State) : List Byte :=
  toLe 2 (fld (identWord 0 s) 39 24) ++ toLe 1 s.fuses.stepping ++ toLe 10 s.fuses.serial.toNat

/-- Command 0x01.
[log: 96 DEDUCED] -/
def mgmtStateByte (s : State) : Nat :=
  lifeCode s.life + b2n (bR oLifecycle 8 s) * 8 + fR oThermStatus 3 1 s * 16 + b2n (powered s && alert s) * 128

/-- Command 0x40 + u.
[log: 29 DESIGN CHOICE] -/
def mgmtReading (u : Nat) (s : State) : Option (List Byte) :=
  if 42 ≤ u then none
  else if !(sensorsOf s).contains u || (decide (u < 32) && !tilePowered (u / 4) s) then mgmtWord 0x8000
  else mgmtWord (unsx 16 (readingOf u s))

/-! ### The rows -/

/-- REGISTER_WRITE. -/
def execRegisterWrite (m off : Nat) (v : W40) (s : State) : Host.Outcome State Fault Refusal := .next (hostWrite m off v s)
/-- BAR0_LOW_WRITE. -/
def execBar0LowWrite (m off : Nat) (v : BitVec 32) (s : State) : Host.Outcome State Fault Refusal := .next (lowWrite m off v s)
/-- BAR0_HIGH_WRITE: `off` is the offset of the register. -/
def execBar0HighWrite (m off : Nat) (v : BitVec 32) (s : State) : Host.Outcome State Fault Refusal :=
  .next (highWrite m off v s)
/-- BAR0_LOW_READ. -/
def execBar0LowRead (m off : Nat) (s : State) : Host.Outcome State Fault Refusal := .next (lowRead m off s)
/-- BAR0_HIGH_READ: `off` is the offset of the register. -/
def execBar0HighRead (m off : Nat) (s : State) : Host.Outcome State Fault Refusal := .next (highRead m off s)
/-- REG_PARTIAL. -/
def execRegPartial (m : Nat) (write : Bool) (off size : Nat) (s : State) : Host.Outcome State Fault Refusal :=
  .next (partialRow m write off size s)

/-- A write of MODE by function `m` that changes bit `i` alone. -/
def modeBit (m i : Nat) (b : Bool) (s : State) : State := hostWrite m oMode (setBit (getR oMode s) i b) s

/-- MODE_SEQUENCE. -/
def execModeSequence (m : Nat) (b : Bool) (s : State) : Host.Outcome State Fault Refusal := .next (modeBit m 0 b s)
/-- MODE_WITNESS. -/
def execModeWitness (m : Nat) (b : Bool) (s : State) : Host.Outcome State Fault Refusal := .next (modeBit m 1 b s)
/-- MODE_LOOPBACK. -/
def execModeLoopback (m : Nat) (b : Bool) (s : State) : Host.Outcome State Fault Refusal := .next (modeBit m 2 b s)
/-- MODE_PAIRED. -/
def execModePaired (m : Nat) (b : Bool) (s : State) : Host.Outcome State Fault Refusal := .next (modeBit m 3 b s)
/-- MODE_FEDERATED. -/
def execModeFederated (m : Nat) (b : Bool) (s : State) : Host.Outcome State Fault Refusal := .next (modeBit m 4 b s)
/-- MODE_HOLD. -/
def execModeHold (m : Nat) (b : Bool) (s : State) : Host.Outcome State Fault Refusal := .next (modeBit m 5 b s)

/-- TICK_NOW_READ. -/
def execTickNowRead (m : Nat) (s : State) : Host.Outcome State Fault Refusal := .next (hostRead m oTickNow s)
/-- SYNC_IN_STAMP_READ. -/
def execSyncInStampRead (m : Nat) (s : State) : Host.Outcome State Fault Refusal := .next (hostRead m oSyncInStamp s)
/-- PTM_TICK_READ. -/
def execPtmTickRead (m : Nat) (s : State) : Host.Outcome State Fault Refusal := .next (hostRead m oPtmTick s)
/-- LOAD_ARM: SYNC_IN_STAT with LOAD_ARM at 1. -/
def execLoadArm (m : Nat) (s : State) : Host.Outcome State Fault Refusal :=
  .next (hostWrite m oSyncInStat (w (fR oSyncInStat 1 0 s + 4)) s)
/-- SYNC_OUT_CTL_WRITE. -/
def execSyncOutCtlWrite (m : Nat) (v : W40) (s : State) : Host.Outcome State Fault Refusal :=
  .next (hostWrite m oSyncOutCtl v s)
/-- SYNC_OUT_PERIOD_WRITE. -/
def execSyncOutPeriodWrite (m : Nat) (v : W40) (s : State) : Host.Outcome State Fault Refusal :=
  .next (hostWrite m oSyncOutPeriod v s)
/-- PTM_NOW: PTM_CTL with NOW at 1. -/
def execPtmNow (m : Nat) (s : State) : Host.Outcome State Fault Refusal :=
  .next (hostWrite m oPtmCtl (w (fR oPtmCtl 15 0 s + 2 ^ 16)) s)

/-- START: SEQ_CMD of sequencer `g`. -/
def execStart (m g : Nat) (s : State) : Host.Outcome State Fault Refusal := .next (hostWrite m (oSeqCmd g) 1 s)
/-- STOP. -/
def execStop (m g : Nat) (s : State) : Host.Outcome State Fault Refusal := .next (hostWrite m (oSeqCmd g) 2 s)
/-- ABORT. -/
def execAbort (m g : Nat) (s : State) : Host.Outcome State Fault Refusal := .next (hostWrite m (oSeqCmd g) 3 s)
/-- RESUME_SKIP. -/
def execResumeSkip (m g : Nat) (s : State) : Host.Outcome State Fault Refusal := .next (hostWrite m (oSeqCmd g) 4 s)
/-- RESUME_RETIME. -/
def execResumeRetime (m g : Nat) (s : State) : Host.Outcome State Fault Refusal := .next (hostWrite m (oSeqCmd g) 5 s)
/-- SEQ_COMMIT. -/
def execSeqCommit (m g : Nat) (s : State) : Host.Outcome State Fault Refusal := .next (hostWrite m (oSeqCommit g) 1 s)
/-- SEQ_GREG_WRITE. -/
def execSeqGregWrite (m g i : Nat) (v : W40) (s : State) : Host.Outcome State Fault Refusal :=
  .next (hostWrite m (oSeqGreg g i) v s)
/-- BARRIER_CFG_WRITE. -/
def execBarrierCfgWrite (m b : Nat) (v : W40) (s : State) : Host.Outcome State Fault Refusal :=
  .next (hostWrite m (oBarrierCfg b) v s)
/-- WAVE_COMMIT. -/
def execWaveCommit (m t : Nat) (s : State) : Host.Outcome State Fault Refusal := .next (hostWrite m (oWaveCommit t) 1 s)
/-- DRV_COMMIT. -/
def execDrvCommit (m g : Nat) (s : State) : Host.Outcome State Fault Refusal := .next (hostWrite m (oDrvCommit g) 1 s)
/-- PRB_COMMIT. -/
def execPrbCommit (m g : Nat) (s : State) : Host.Outcome State Fault Refusal := .next (hostWrite m (oPrbCommit g) 1 s)
/-- FLUX_COMMIT. -/
def execFluxCommit (m g : Nat) (s : State) : Host.Outcome State Fault Refusal := .next (hostWrite m (oFluxCommit g) 1 s)
/-- SLOT_COMMIT. -/
def execSlotCommit (m g : Nat) (s : State) : Host.Outcome State Fault Refusal := .next (hostWrite m (oSlotCommit g) 1 s)
/-- XY_CFG_WRITE of output `x` of tile `t`. -/
def execXyCfgWrite (m t x : Nat) (v : W40) (s : State) : Host.Outcome State Fault Refusal :=
  .next (hostWrite m (oXyCfg (16 * t + x)) v s)
/-- BIAS_CODE_WRITE. -/
def execBiasCodeWrite (m c : Nat) (v : W40) (s : State) : Host.Outcome State Fault Refusal :=
  .next (hostWrite m (oBiasCode c) v s)
/-- BIAS_STROBE. -/
def execBiasStrobe (m t : Nat) (v : W40) (s : State) : Host.Outcome State Fault Refusal :=
  .next (hostWrite m (oBiasStrobe t) v s)
/-- ADC_CTL_WRITE of feedline `f` of tile `t`. -/
def execAdcCtlWrite (m t f : Nat) (v : W40) (s : State) : Host.Outcome State Fault Refusal :=
  .next (hostWrite m (oAdcCtl (8 * t + f)) v s)
/-- ADC_ROT_CTL_WRITE. -/
def execAdcRotCtlWrite (m t : Nat) (v : W40) (s : State) : Host.Outcome State Fault Refusal :=
  .next (hostWrite m (oAdcRotCtl t) v s)
/-- BND_ARM_SET. -/
def execBndArmSet (m j : Nat) (s : State) : Host.Outcome State Fault Refusal := .next (hostWrite m oBndArm (w (j % 256)) s)
/-- BND_ARM_ALL. -/
def execBndArmAll (m : Nat) (s : State) : Host.Outcome State Fault Refusal := .next (hostWrite m oBndArm (w 256) s)
/-- BND_COMMIT. -/
def execBndCommit (m : Nat) (s : State) : Host.Outcome State Fault Refusal := .next (hostWrite m oBndCommit 1 s)
/-- CORE_START: CORE_CMD of core `k`. -/
def execCoreStart (m k : Nat) (s : State) : Host.Outcome State Fault Refusal := .next (hostWrite m (oCoreCmd k) 1 s)
/-- CORE_STOP. -/
def execCoreStop (m k : Nat) (s : State) : Host.Outcome State Fault Refusal := .next (hostWrite m (oCoreCmd k) 2 s)
/-- TAP_CFG_WRITE: tap `i` of core `k`; place 4 stands for CORE_CTL, which the row also names. -/
def execTapCfgWrite (m k i : Nat) (v : W40) (s : State) : Host.Outcome State Fault Refusal :=
  .next (hostWrite m (if i < 4 then oTapCfg k i else oCoreCtl k) v s)
/-- WITNESS_ENABLE: a write of WIT_CTL. -/
def execWitnessEnable (m e : Nat) (v : W40) (s : State) : Host.Outcome State Fault Refusal :=
  .next (hostWrite m (oWitCtl e) v s)
/-- WIT_FORCE. -/
def execWitForce (m e : Nat) (s : State) : Host.Outcome State Fault Refusal := .next (hostWrite m (oWitForce e) 1 s)
/-- GR_REGION_WRITE. -/
def execGrRegionWrite (m r : Nat) (v : W40) (s : State) : Host.Outcome State Fault Refusal :=
  .next (hostWrite m (oGrRegion r) v s)
/-- RING_HEAD_ADV. -/
def execRingHeadAdv (m : Nat) (v : W40) (s : State) : Host.Outcome State Fault Refusal := .next (hostWrite m oRingHeadAdv v s)
/-- GR_EVLOG_WRITE. -/
def execGrEvlogWrite (m d : Nat) (v : W40) (s : State) : Host.Outcome State Fault Refusal :=
  .next (hostWrite m (oGrEvlog d) v s)
/-- CMD_DOORBELL. -/
def execCmdDoorbell (m : Nat) (v : W40) (s : State) : Host.Outcome State Fault Refusal := .next (hostWrite m oCmdDoorbell v s)
/-- EV_FIRE. -/
def execEvFire (m : Nat) (v : W40) (s : State) : Host.Outcome State Fault Refusal := .next (hostWrite m oEvFire v s)
/-- EV_ROUTE_WRITE. -/
def execEvRouteWrite (m u : Nat) (v : W40) (s : State) : Host.Outcome State Fault Refusal :=
  .next (hostWrite m (oEvRoute u) v s)
/-- EV_CHAN_CFG_WRITE. -/
def execEvChanCfgWrite (m c : Nat) (v : W40) (s : State) : Host.Outcome State Fault Refusal :=
  .next (hostWrite m (oEvChanCfg c) v s)
/-- PORT_CTL_WRITE. -/
def execPortCtlWrite (m p : Nat) (v : W40) (s : State) : Host.Outcome State Fault Refusal :=
  .next (hostWrite m (oPortCtl p) v s)
/-- SENSE_CFG_WRITE. -/
def execSenseCfgWrite (m n : Nat) (v : W40) (s : State) : Host.Outcome State Fault Refusal :=
  .next (hostWrite m (oSenseCfg n) v s)
/-- MON_SCAN_WRITE. -/
def execMonScanWrite (m e : Nat) (v : W40) (s : State) : Host.Outcome State Fault Refusal :=
  .next (hostWrite m (oMonScan e) v s)
/-- THERM_THR_WRITE. -/
def execThermThrWrite (m : Nat) (v : W40) (s : State) : Host.Outcome State Fault Refusal := .next (hostWrite m oThermThr v s)
/-- OWNER_FIELD_WRITE: SEQ_OWNER or TILE_OWNER at `off`. -/
def execOwnerFieldWrite (m off : Nat) (v : W40) (s : State) : Host.Outcome State Fault Refusal :=
  .next (if ownerField off then hostWrite m off v s else s)
/-- SEC_DOMAINS_WRITE. -/
def execSecDomainsWrite (m : Nat) (v : W40) (s : State) : Host.Outcome State Fault Refusal :=
  .next (hostWrite m oSecDomains v s)
/-- VEC_ALLOC_WRITE. -/
def execVecAllocWrite (m d : Nat) (v : W40) (s : State) : Host.Outcome State Fault Refusal :=
  .next (hostWrite m (oVecAlloc d) v s)

/-- PCIE_CONFIG_WRITE. -/
def execPcieConfigWrite (m : Nat) (b : PcieBit) (on : Bool) (s : State) : Host.Outcome State Fault Refusal :=
  .next (pcieConfig m b on s)

/-- MGMT_IDENTITY. -/
def execMgmtIdentity (s : State) : Host.Outcome State Fault Refusal := .next (mgmtAnswer (some (mgmtIdentBytes s)) s)
/-- MGMT_STATE. -/
def execMgmtState (s : State) : Host.Outcome State Fault Refusal := .next (mgmtAnswer (some (toLe 1 (mgmtStateByte s))) s)
/-- MGMT_HALT_CODE. -/
def execMgmtHaltCode (s : State) : Host.Outcome State Fault Refusal := .next (mgmtAnswer (mgmtWord (fR oLifecycle 39 24 s)) s)
/-- MGMT_TMAX. -/
def execMgmtTmax (s : State) : Host.Outcome State Fault Refusal :=
  .next (mgmtAnswer (mgmtWord (unsx 16 (highest s (sensorsOf s)).2)) s)
/-- MGMT_RAIL_OK. -/
def execMgmtRailOk (s : State) : Host.Outcome State Fault Refusal := .next (mgmtAnswer (mgmtWord (fR oPowerStatus 9 0 s)) s)
/-- MGMT_PWR_TILES. -/
def execMgmtPwrTiles (s : State) : Host.Outcome State Fault Refusal :=
  .next (mgmtAnswer (some (toLe 1 (fR oPowerStatus 27 20 s))) s)
/-- MGMT_INPUT_POWER: `q` is what the rail current monitors give, in 0.25 W. -/
def execMgmtInputPower (q : BitVec 16) (s : State) : Host.Outcome State Fault Refusal := .next (mgmtAnswer (mgmtWord q.toNat) s)
/-- MGMT_SENSOR. -/
def execMgmtSensor (u : Nat) (s : State) : Host.Outcome State Fault Refusal := .next (mgmtAnswer (mgmtReading u s) s)
/-- MGMT_WRITE_NAK: a write, or a command code without a meaning, is not acknowledged. -/
def execMgmtWriteNak (_code : Nat) (s : State) : Host.Outcome State Fault Refusal := .next (mgmtAnswer none s)

end Sys2Proof.Machine
end

