-- ==== Sys2Proof/Machine/SeqInstr.lean ====
section
/-! DEFINITION. The sequencer's instructions (R102-R127). Each row names the sequencer `g` whose next instruction it is:
it comes about while the sequencer is RUNNING, awaits no boundary, its issue tick is due and the word at its PC has the
row's opcode; otherwise nothing happens (log entry 1). A fetch beyond address 8,191 faults whichever row names it. -/

namespace Sys2Proof.Machine

/-- Sequencer `g` may issue now. -/
def mayIssue (g : Nat) (s : State) : Bool :=
  g < nSeqs s && (seq g s).st == .running && (seq g s).bound.isNone && due (seq g s).issueAt s

/-- A row with opcode `op` for sequencer `g`: `act` takes the first word and the issue tick of a one-tick instruction.
[log: 1 DEDUCED] -/
def issueRow (op g : Nat) (act : W40 → Tick → State → State) (s : State) : State :=
  let q := seq g s
  if mayIssue g s then
    if 8192 ≤ q.pc then seqFault 6 q.pc g s
    else if fld (tget 0 q.pc q.imem) 39 34 = op then act (tget 0 q.pc q.imem) q.issueAt s
    else s
  else s

/-- The sequencer goes on: `n` words further, the next instruction `k` ticks after the first issue tick. -/
def goOn (g n k : Nat) (s : State) : State :=
  modSeq g (fun q => { q with pc := q.pc + n, issueAt := plus q.issueAt k }) s

/-- The sequencer goes on at address `a`, `k` ticks on. -/
def goTo (g a k : Nat) (s : State) : State :=
  modSeq g (fun q => { q with pc := a, issueAt := plus q.issueAt k }) s

/-- General register `i` of sequencer `g`. -/
def gReg (g i : Nat) (s : State) : W40 := tget 0 i (seq g s).g

/-- Writes a general register. -/
def setGReg (g i : Nat) (v : W40) (s : State) : State := modSeq g (fun q => { q with g := tset 0 i v q.g }) s

/-- Sets the cursor. -/
def setCursor (g : Nat) (c : Tick) (s : State) : State := modSeq g (fun q => { q with cursor := c }) s

/-- What a two-tick instruction does at its second issue tick, its last (R105). -/
def second (g : Nat) (act : State → State) (s : State) : State := if due (plus (seq g s).issueAt 1) s then act s else s

/-- The second word of a two-word instruction; its fetch beyond 8,191 faults (R104): at the first issue tick, with address 8,192.
[log: 127 DESIGN CHOICE] -/
def withWord1 (g : Nat) (act : W40 → State → State) (s : State) : State :=
  let q := seq g s
  if 8192 ≤ q.pc + 1 then seqFault 6 (q.pc + 1) g s else act (tget 0 (q.pc + 1) q.imem) s

/-- A fault at the present instruction. -/
def faultHere (kind g : Nat) (s : State) : State := seqFault kind (seq g s).pc g s

/-! ### Time and shot instructions (R107-R110) -/

/-- NOP (R109). -/
def doNop (g : Nat) (s : State) : State := issueRow 0x01 g (fun _ _ s => goOn g 1 1 s) s

/-- SHOT and HALT declare a boundary (R87, R88). -/
def declare (g gap : Nat) (halt : Bool) (e : Tick) (s : State) : State :=
  let q := seq g s
  let b0 := later q.cursor (plus e 1)
  let b := match q.ends with | some x => later x b0 | none => b0
  modSeq g (fun q => { q with pc := q.pc + 1, bound := some ⟨b, gap, halt⟩ }) s

/-- HALT (R88). -/
def doHalt (g : Nat) (s : State) : State := issueRow 0x02 g (fun _ e s => declare g 0 true e s) s

/-- SHOT (R87). -/
def doShot (g : Nat) (s : State) : State := issueRow 0x03 g (fun v e s => declare g (fld v 23 0) false e s) s

/-- WAIT (R107). -/
def doWait (g : Nat) (s : State) : State :=
  issueRow 0x04 g (fun v _ s =>
    let n := if bit v 33 then gReg g (fld v 32 29) s else w (fld v 28 0)
    goOn g 1 1 (setCursor g ((seq g s).cursor + n) s)) s

/-- AT (R108). -/
def doAt (g : Nat) (s : State) : State :=
  issueRow 0x05 g (fun v _ s =>
    match fld v 33 32 with
    | 0 => goOn g 1 1 (setCursor g (gReg g (fld v 31 28) s) s)
    | 1 => goOn g 1 1 (setCursor g (plus (seq g s).start (fld v 27 0)) s)
    | 2 => withWord1 g (fun v1 => second g (fun s => goOn g 2 2 (setCursor g v1 s))) s
    | _ => faultHere 1 g s) s

/-- FENCE (R110): held until the latest end tick of the shot's actions. -/
def doFence (g : Nat) (s : State) : State :=
  issueRow 0x06 g (fun _ e s =>
    modSeq g (fun q => { q with
      pc := q.pc + 1, st := .waiting,
      wait := .fence (match q.ends with | some x => later x e | none => e) }) s) s

/-- A FENCE completes at its tick X (R82, R110). -/
def doFenceComplete (g : Nat) (s : State) : State :=
  match (seq g s).wait with
  | .fence x => if g < nSeqs s && due x s then completeAt x 1 g s else s
  | _ => s

/-- SYNC issues at tick `x`: the sequencer arrives at barrier `b` and waits for its release (R92, R121). -/
def syncIssue (b : Nat) (x : Tick) (g : Nat) (s : State) : State :=
  barArrive x b g (modSeq g (fun q => { q with pc := q.pc + 1, st := .waiting, wait := .sync b }) s)

/-- SYNC (R121): held, in WAITING, until the later of its fetch and the cursor tick, and issued then (Table 4.1, Table 5.1). -/
def doSync (g : Nat) (s : State) : State :=
  match (seq g s).wait with
  | .hold b x => if g < nSeqs s && due x s then syncIssue b x g s else s
  | _ =>
    issueRow 0x07 g (fun v e s =>
      let x := later e (seq g s).cursor
      if due x s then syncIssue (fld v 7 0) x g s
      else modSeq g (fun q => { q with st := .waiting, wait := .hold (fld v 7 0) x }) s) s

/-- EVWAIT (R120). -/
def doEvwait (g : Nat) (s : State) : State :=
  issueRow 0x08 g (fun v e s =>
    let i := fld v 33 33
    let dl := if bit v 32 then none else some (later e (plus (seq g s).cursor (fld v 31 16)))
    let s := modSeq g (fun q => { q with pc := q.pc + 1, st := .waiting, wait := .ev i dl }) s
    if (latchOf i (seq g s)).set then evComplete e i g s else s) s

/-- An EVWAIT reaches its deadline (R120, R314). -/
def doEvwaitDeadline (g : Nat) (s : State) : State :=
  match (seq g s).wait with
  | .ev _ (some dl) =>
    if g < nSeqs s && due dl s then completeAt dl 1 g (modSeq g (fun q => { q with tO := true, depth := 0 }) s) else s
  | _ => s

/-! ### Action instructions (R111-R115) -/

/-- The issue tick of an action instruction: not before the tick after an entry left a full queue (R78). -/
def roomTick (q : Seq) : Tick :=
  match q.roomAt with
  | some x => later x q.issueAt
  | none => q.issueAt

/-- An action instruction with opcode `op` (R78): it waits while the queue holds 64 entries. -/
def actionRow (op g : Nat) (act : W40 → Tick → State → State) (s : State) : State :=
  issueRow op g (fun v _ s =>
    let e := roomTick (seq g s)
    if 64 ≤ (seq g s).queue.length || !due e s then s
    else act v e (modSeq g (fun q => { q with issueAt := e, roomAt := none }) s)) s

/-- The instruction puts an action into the queue with launch tick C and end tick C + `ext` (Table 4.2), and the
sequencer goes on. -/
def launch (g : Nat) (e : Tick) (ext : Nat) (a : Act) (s : State) : State :=
  let c := (seq g s).cursor
  enqueue e ⟨c, a, plus c ext⟩ g (goOn g 1 1 s)

/-- The drive tone is missing on a sequencer with q ≥ 64 (fault kind 7). -/
def noDrive (probe : Bool) (g : Nat) : Bool := !probe && 64 ≤ g % 96

/-- LENGTH in force of the descriptor `wid` of the tile of sequencer `g`. -/
def descLen (g wid : Nat) (s : State) : Nat := fF (oWaveDesc (g / 96) wid) 19 2 s

/-- The extent of a PLAY of LENGTH `len` that lasts `n` ticks (Table 4.2): one tick more with a sample offset or a fractional
delay; none for LENGTH 0 (R127). -/
def extent (len n o u : Nat) : Nat := if len = 0 then 0 else if o = 0 ∧ u = 0 then n else n + 1

/-- PLAY (R111). -/
def doPlay (g : Nat) (s : State) : State :=
  actionRow 0x09 g (fun v e s =>
    let probe := bit v 33
    let o := fld v 32 29
    let u := fld v 28 25
    if noDrive probe g then faultHere 7 g s
    else launch g e (extent (descLen g (fld v 24 13) s) ((descLen g (fld v 24 13) s + 1) / 2) o u) (.play probe o u (fld v 24 13)) s) s

/-- PLAYF (R111). -/
def doPlayf (g : Nat) (s : State) : State :=
  actionRow 0x0A g (fun v e s =>
    let len := descLen g (fld v 24 13) s
    launch g e (extent len len (fld v 32 29) (fld v 28 25))
      (.playf (fld v 32 29) (fld v 28 25) (fld v 24 13)) s) s

/-- ACQ (R112). -/
def doAcq (g : Nat) (s : State) : State :=
  actionRow 0x0B g (fun v e s =>
    if 4096 < fld v 33 21 then faultHere 1 g s
    else launch g e (fld v 33 21) (.acq (fld v 33 21) (seq g s).shot) s) s

/-- TGT of SETF, SETP, VZ and SETA: 2 and 3 fault with kind 1, a missing drive tone with kind 7 (R113, R114). -/
def withTgt (g : Nat) (v : W40) (act : Bool → State → State) (s : State) : State :=
  match fld v 33 32 with
  | 0 => if noDrive false g then faultHere 7 g s else act false s
  | 1 => act true s
  | _ => faultHere 1 g s

/-- SETF (R113). -/
def doSetf (g : Nat) (s : State) : State :=
  actionRow 0x0C g (fun v e s => withTgt g v (fun p s =>
    launch g e 0 (.setf p (fld v 31 29) (if bit v 28 then some (gReg g (fld v 27 24) s) else none)) s) s) s

/-- VAL of SETP, VZ and SETA (Table 5.5). -/
def valOf (g : Nat) (v : W40) (s : State) : BitVec 20 :=
  BitVec.ofNat 20 (if bit v 31 then fld (gReg g (fld v 30 27) s) 19 0 else fld v 19 0)

/-- SETP (R114). -/
def doSetp (g : Nat) (s : State) : State :=
  actionRow 0x0D g (fun v e s => withTgt g v (fun p s => launch g e 0 (.setp p (valOf g v s)) s) s) s

/-- VZ (R114). -/
def doVz (g : Nat) (s : State) : State :=
  actionRow 0x0E g (fun v e s => withTgt g v (fun p s => launch g e 0 (.vz p (valOf g v s)) s) s) s

/-- SETA (R114). -/
def doSeta (g : Nat) (s : State) : State :=
  actionRow 0x0F g (fun v e s => withTgt g v (fun p s => launch g e 0 (.seta p (valOf g v s)) s) s) s

/-- BIAS (R115). -/
def doBias (g : Nat) (s : State) : State :=
  actionRow 0x10 g (fun v e s =>
    launch g e 0 (.bias (BitVec.ofNat 20 (if bit v 33 then fld (gReg g (fld v 32 29) s) 19 0 else fld v 19 0))) s) s

/-- STROBE (R115). -/
def doStrobe (g : Nat) (s : State) : State := actionRow 0x11 g (fun _ e s => launch g e 0 .strobe s) s

/-! ### Branches (R116) -/

/-- The condition codes of BR with SRC 0 (Table 5.9). -/
def condHolds (c : Nat) (q : Seq) : Bool :=
  match c with
  | 0 => true
  | 1 => q.z
  | 2 => !q.z
  | 3 => q.lt
  | 4 => !q.lt
  | 5 => q.ltu
  | 6 => !q.ltu
  | 7 => q.later
  | 8 => !q.later
  | 9 => q.tO
  | 10 => !q.tO
  | 11 => q.orphan
  | _ => !q.orphan

/-- BR on the condition flags: 1 issue tick, or 2 if taken (R116, Table 5.1). -/
def doBrFlags (g : Nat) (s : State) : State :=
  issueRow 0x12 g (fun v _ s =>
    if fld v 33 32 ≠ 0 then s
    else if 13 ≤ fld v 26 23 then faultHere 1 g s
    else if condHolds (fld v 26 23) (seq g s) != bit v 29 then second g (goTo g (fld v 12 0) 2) s
    else goOn g 1 1 s) s

/-- The wait of a two-word BR issued at tick `e` (R84, Tables 5.7, 5.8). -/
def brWait (v v1 : W40) (e c : Tick) (pc : Nat) : BrWait :=
  let src := fld v 33 32
  { src := src
    index := if src = 1 then fld v1 39 26 else if src = 2 then fld v1 39 32 else fld v1 39 37
    bit := fld v1 36 31
    final := bit v 30
    test := fld v 28 27
    cond := fld v 26 23
    conf := fld v1 7 0
    neg := bit v 29
    abs := bit v 31
    target := fld v 12 0
    next := pc + 2
    dl := if bit v1 9 then none else some (later e (plus c (fld v1 25 10))) }

/-- BR on a verdict, a parity bit or a lookup output: 2 issue ticks, then it waits (R84, R116). A lookup bit above 39 faults at the first
issue tick.
[log: 127 DESIGN CHOICE] -/
def doBrVerdict (g : Nat) (s : State) : State :=
  issueRow 0x12 g (fun v e s =>
    if fld v 33 32 = 0 then s
    else
      withWord1 g (fun v1 s =>
        let e1 := plus e 1
        let b := brWait v v1 e1 (seq g s).cursor (seq g s).pc
        if b.src = 3 ∧ 40 ≤ b.bit then faultHere 1 g s
        else if due e1 s then brTry e1 g (modSeq g (fun q => { q with pc := q.pc + 2, st := .waiting, wait := .br b }) s)
        else s) s) s

/-- A waiting BR reaches its deadline: it takes its absent path (R84). -/
def doBrDeadline (g : Nat) (s : State) : State :=
  match (seq g s).wait with
  | .br b =>
    match b.dl with
    | some dl => if g < nSeqs s && due dl s then brResolve dl b.abs b g s else s
    | none => s
  | _ => s

/-! ### Flow of control (R122, R123) -/

/-- The target of JMP and CALL (Table 5.11). -/
def jumpTarget (g : Nat) (v : W40) (s : State) : Nat :=
  if bit v 33 then fld (gReg g (fld v 32 29) s) 12 0 else fld v 12 0

/-- JMP (R122). -/
def doJmp (g : Nat) (s : State) : State := issueRow 0x13 g (fun v _ => second g (fun s => goTo g (jumpTarget g v s) 2 s)) s

/-- CALL (R122). -/
def doCall (g : Nat) (s : State) : State :=
  issueRow 0x14 g (fun v _ => second g (fun s =>
    if 8 ≤ (seq g s).calls.length then faultHere 4 g s
    else goTo g (jumpTarget g v s) 2 (modSeq g (fun q => { q with calls := (q.pc + 1) :: q.calls }) s))) s

/-- RET (R122). -/
def doRet (g : Nat) (s : State) : State :=
  issueRow 0x15 g (fun _ _ => second g (fun s =>
    match (seq g s).calls with
    | [] => faultHere 5 g s
    | a :: t => goTo g a 2 (modSeq g (fun q => { q with calls := t }) s))) s

/-- LOOP begin (R123). -/
def doLoopBegin (g : Nat) (s : State) : State :=
  issueRow 0x16 g (fun v _ s =>
    if bit v 33 then s
    else
      let n := if bit v 32 then gReg g (fld v 19 16) s else w (fld v 31 16)
      if n = 0 then second g (goTo g (fld v 12 0 + 1) 2) s
      else if 8 ≤ (seq g s).loops.length then faultHere 2 g s
      else goOn g 1 1 (modSeq g (fun q => { q with loops := ⟨q.pc + 1, n⟩ :: q.loops }) s)) s

/-- LOOP end (R123). -/
def doLoopEnd (g : Nat) (s : State) : State :=
  issueRow 0x16 g (fun v _ s =>
    if !bit v 33 then s
    else
      match (seq g s).loops with
      | [] => faultHere 3 g s
      | l :: t =>
        if l.left - 1 ≠ 0 then
          second g (fun s => goTo g l.first 2 (modSeq g (fun q => { q with loops := { l with left := l.left - 1 } :: t }) s)) s
        else goOn g 1 1 (modSeq g (fun q => { q with loops := t }) s)) s

/-! ### Registers and marks (R124, R125) -/

/-- LDI (R124, Table 5.12). -/
def doLdi (g : Nat) (s : State) : State :=
  issueRow 0x18 g (fun v _ s =>
    if bit v 29 then withWord1 g (fun v1 => second g (fun s => goOn g 2 2 (setGReg g (fld v 33 30) v1 s))) s
    else goOn g 1 1 (setGReg g (fld v 33 30) (wi (sx 29 (fld v 28 0))) s)) s

/-- The second operand of the five arithmetic instructions (Table 5.12). -/
def opB (g : Nat) (v : W40) (s : State) : W40 :=
  if bit v 25 then wi (sx 25 (fld v 24 0)) else gReg g (fld v 3 0) s

/-- An arithmetic instruction that writes G[RD] (R124). -/
def doArith (op : Nat) (f : W40 → W40 → W40) (g : Nat) (s : State) : State :=
  issueRow op g (fun v _ s => goOn g 1 1 (setGReg g (fld v 33 30) (f (gReg g (fld v 29 26) s) (opB g v s)) s)) s

/-- CMP (R124). -/
def doCmp (g : Nat) (s : State) : State :=
  issueRow 0x1D g (fun v _ s =>
    let a := gReg g (fld v 29 26) s
    let b := opB g v s
    goOn g 1 1 (modSeq g (fun q => { q with
      z := a == b, lt := decide (a.toInt < b.toInt), ltu := decide (a.toNat < b.toNat),
      later := decide (1 ≤ (a - b).toNat) && decide ((a - b).toNat < 2 ^ 39) }) s)) s

/-- The value that MARK captures (Table 5.13). -/
def markValue (src : Nat) (e : Tick) (g : Nat) (s : State) : W40 :=
  match src with
  | 0 => (seq g s).cursor
  | 1 => (seq g s).start
  | 2 => (seq g s).shot
  | 3 => e
  | 4 => w s.time.epoch.toNat
  | 5 => w (fR (oSeqLate g) 39 20 s)
  | _ => w (devNum s)

/-- MARK (R125). -/
def doMark (g : Nat) (s : State) : State :=
  issueRow 0x1E g (fun v e s =>
    let src := fld v 29 27
    let s := if src = 7 then s else setGReg g (fld v 33 30) (markValue src e g s) s
    let s := if bit v 26 then modSeq g (fun q => { q with hzn := q.cursor }) s else s
    let s := if bit v 25 then fireProd (640 * (g / 96) + 96 + g % 96) (later e (seq g s).cursor) (seq g s).depth s else s
    goOn g 1 1 s) s

/-- The opcodes that Table 5.1 defines. -/
def definedOp (op : Nat) : Bool := (1 ≤ op && op ≤ 0x16) || (0x18 ≤ op && op ≤ 0x1E)

/-- An undefined opcode (R75, R102). -/
def doUndefined (g : Nat) (s : State) : State :=
  let q := seq g s
  if mayIssue g s then
    if 8192 ≤ q.pc then seqFault 6 q.pc g s
    else if definedOp (fld (tget 0 q.pc q.imem) 39 34) then s
    else faultHere 0 g s
  else s

/-! ### The rows -/

/-- NOP. -/
def execNop (g : Nat) (s : State) : Host.Outcome State Fault Refusal := .next (doNop g s)
/-- HALT. -/
def execHalt (g : Nat) (s : State) : Host.Outcome State Fault Refusal := .next (doHalt g s)
/-- SHOT. -/
def execShot (g : Nat) (s : State) : Host.Outcome State Fault Refusal := .next (doShot g s)
/-- WAIT. -/
def execWait (g : Nat) (s : State) : Host.Outcome State Fault Refusal := .next (doWait g s)
/-- AT. -/
def execAtCursor (g : Nat) (s : State) : Host.Outcome State Fault Refusal := .next (doAt g s)
/-- FENCE. -/
def execFence (g : Nat) (s : State) : Host.Outcome State Fault Refusal := .next (doFence g s)
/-- FENCE_COMPLETE. -/
def execFenceComplete (g : Nat) (s : State) : Host.Outcome State Fault Refusal := .next (doFenceComplete g s)
/-- SYNC. -/
def execSync (g : Nat) (s : State) : Host.Outcome State Fault Refusal := .next (doSync g s)
/-- EVWAIT. -/
def execEvwait (g : Nat) (s : State) : Host.Outcome State Fault Refusal := .next (doEvwait g s)
/-- EVWAIT_DEADLINE. -/
def execEvwaitDeadline (g : Nat) (s : State) : Host.Outcome State Fault Refusal := .next (doEvwaitDeadline g s)
/-- PLAY. -/
def execPlay (g : Nat) (s : State) : Host.Outcome State Fault Refusal := .next (doPlay g s)
/-- PLAYF. -/
def execPlayf (g : Nat) (s : State) : Host.Outcome State Fault Refusal := .next (doPlayf g s)
/-- ACQ. -/
def execAcq (g : Nat) (s : State) : Host.Outcome State Fault Refusal := .next (doAcq g s)
/-- SETF. -/
def execSetf (g : Nat) (s : State) : Host.Outcome State Fault Refusal := .next (doSetf g s)
/-- SETP. -/
def execSetp (g : Nat) (s : State) : Host.Outcome State Fault Refusal := .next (doSetp g s)
/-- VZ. -/
def execVz (g : Nat) (s : State) : Host.Outcome State Fault Refusal := .next (doVz g s)
/-- SETA. -/
def execSeta (g : Nat) (s : State) : Host.Outcome State Fault Refusal := .next (doSeta g s)
/-- BIAS. -/
def execBias (g : Nat) (s : State) : Host.Outcome State Fault Refusal := .next (doBias g s)
/-- STROBE. -/
def execStrobe (g : Nat) (s : State) : Host.Outcome State Fault Refusal := .next (doStrobe g s)
/-- BR on the flags. -/
def execBrFlags (g : Nat) (s : State) : Host.Outcome State Fault Refusal := .next (doBrFlags g s)
/-- BR on a verdict, a parity bit or a lookup output. -/
def execBrVerdict (g : Nat) (s : State) : Host.Outcome State Fault Refusal := .next (doBrVerdict g s)
/-- BR at its deadline. -/
def execBrDeadline (g : Nat) (s : State) : Host.Outcome State Fault Refusal := .next (doBrDeadline g s)
/-- JMP. -/
def execJmp (g : Nat) (s : State) : Host.Outcome State Fault Refusal := .next (doJmp g s)
/-- CALL. -/
def execCall (g : Nat) (s : State) : Host.Outcome State Fault Refusal := .next (doCall g s)
/-- RET. -/
def execRet (g : Nat) (s : State) : Host.Outcome State Fault Refusal := .next (doRet g s)
/-- LOOP begin. -/
def execLoopBegin (g : Nat) (s : State) : Host.Outcome State Fault Refusal := .next (doLoopBegin g s)
/-- LOOP end. -/
def execLoopEnd (g : Nat) (s : State) : Host.Outcome State Fault Refusal := .next (doLoopEnd g s)
/-- LDI. -/
def execLdi (g : Nat) (s : State) : Host.Outcome State Fault Refusal := .next (doLdi g s)
/-- ADD: modulo 2^40 (R124). -/
def execAdd (g : Nat) (s : State) : Host.Outcome State Fault Refusal := .next (doArith 0x19 (fun a b => a + b) g s)
/-- SUB: modulo 2^40 (R124). -/
def execSub (g : Nat) (s : State) : Host.Outcome State Fault Refusal := .next (doArith 0x1A (fun a b => a - b) g s)
/-- AND (R124). -/
def execAnd (g : Nat) (s : State) : Host.Outcome State Fault Refusal := .next (doArith 0x1B (fun a b => a &&& b) g s)
/-- XOR (R124). -/
def execXor (g : Nat) (s : State) : Host.Outcome State Fault Refusal := .next (doArith 0x1C (fun a b => a ^^^ b) g s)
/-- CMP. -/
def execCmp (g : Nat) (s : State) : Host.Outcome State Fault Refusal := .next (doCmp g s)
/-- MARK. -/
def execMark (g : Nat) (s : State) : Host.Outcome State Fault Refusal := .next (doMark g s)
/-- UNDEFINED_OPCODE. -/
def execUndefinedOpcode (g : Nat) (s : State) : Host.Outcome State Fault Refusal := .next (doUndefined g s)

end Sys2Proof.Machine
end

