-- ==== Sys2Proof/Machine/OutTick.lean ====
section
/-! DEFINITION. The output chains in time: the mute gates, the codes on their way from the launch tick to the DAC and from the DAC to
the ball, and what one tick computes (R23, R39-R41, R57, R76, R141-R144, Table 2.4, Table 6.5). -/

namespace Sys2Proof.Machine

/-- The tile of output `o`. -/
def outTile (o : Nat) : Nat := if o < 256 then o / 16 else if o < 512 then (o - 256) / 8 else (o - 512) / 96

/-- Output `o` is silenced as an echo's, before its switch of a handover under way (R41, R344). -/
def silenced (o : Nat) (s : State) : Bool := isEcho s != (outp o s).switched

/-- No mute of HOLD, of the tile, of a shutdown or of the Gleaner acts on output `o` in READY (R16, R37, R380, R388). -/
def unmuted (o : Nat) (s : State) : Bool :=
  s.life == .ready && !mode 5 s && !s.cutTiles.contains (outTile o) && s.therm.graceAt.isNone && !(outp o s).gleanMute

/-- The mute gate of output `o` passes its stream to the DAC (R39, R41, R143): under LOOPBACK, where the relays keep the ball from it,
and where SEQUENCE is in force in an owner and the output is not an echo's. -/
def gateOpen (o : Nat) (s : State) : Bool :=
  unmuted o s && (relays s || ((ownersOf o).any (fun g => seqHas 0 g s) && !silenced o s))

/-- The ball of output `o` carries what its DAC puts out: the last row but one of Table 2.4. -/
def ballOpen (o : Nat) (s : State) : Bool := gateOpen o s && !relays s

/-- What all RF outputs share lets their balls open: the last row but one of Table 2.4 for an output whose owners run no shot. -/
def ballBase (s : State) : Bool :=
  s.life == .ready && mode 0 s && !mode 5 s && !relays s && !isEcho s && s.therm.graceAt.isNone

/-- The tick from which the balls of outputs have been open that nothing has set apart; the present one where they are not. -/
def ballSince (s : State) : Tick := match s.ballHist with | (t, true) :: _ => t | _ => now s

/-- The newest `n` ticks of a line of codes; ticks of zeros are listed empty, and those at its old end not at all. -/
def tidy (n : Nat) (l : List (List Int)) : List (List Int) :=
  (((l.take n).map (fun c => if c.all (fun x => x == 0) then [] else c)).reverse.dropWhile (fun c => c.isEmpty)).reverse

/-- The codes that output `o` has computed for the present tick enter its line; those of 11 ticks ago stand at the DAC, where the gate
is open (Table 6.5, R143); and the tick at which the ball opened or closed is kept.
[log: 118 DEDUCED, 126 DESIGN CHOICE] -/
def outPush (o : Nat) (codes : List Int) (s : State) : State :=
  let out := outp o s
  let pipe := codes :: out.pipe
  let din := if gateOpen o s then nth [] pipe 11 else []
  let b := ballOpen o s
  let ball := match out.ball with
    | some (b0, t) => if b0 = b then some (b0, t) else some (b, now s)
    | none => if b then some (b, ballSince s) else none
  setOut o { out with pipe := tidy 11 pipe, dac := tidy 6 (din :: out.dac), ball := ball } s

/-- The RF outputs that have had a tone committed. -/
def rfOutputs (s : State) : List Nat :=
  s.force.filterMap (fun e =>
    match findRow [⟨.drvCtl, 0x1080080, [(8, 0x400000), (64, 0x100)], 0, 0, 0, true, .seq⟩,
        ⟨.prbCtl, 0x1090080, [(8, 0x400000), (96, 0x100)], 0, 0, 0, true, .seq⟩] e.1 with
    | some (row, [t, q]) => some (toneOut (row.k == .prbCtl) (96 * t + q))
    | _ => none)

/-- Output `o` has codes on the way, or a ball that has opened. -/
def outBusy (x : Output) : Bool := !x.pipe.isEmpty || !x.dac.isEmpty || x.ball.isSome

/-- The outputs that a tick computes: those that run a tone or a stream, those of sequencers that have been set up, and those with codes on
the way. -/
def liveOutputs (s : State) : List Nat :=
  (rfOutputs s ++ s.seqs.flatMap (fun e => ownedBy e.1) ++ (s.flux.map (fun (e : Nat × Flux) => 512 + e.1)) ++ ((s.outs.filter (fun (e : Nat × Output) => outBusy e.2)).map (fun e => e.1))).dedup

/-- The voltage at FLUX_OUT of a bias code in span units of 0.5 V and a fast code, in units of 0.1 V / (2^19 · 32,767), before the
output stage's limit: a fast code of 32,767 gives 0.5 V (R141, R147). -/
def stageSum (bias code : Int) : Int := 5 * (bias * 32767 + code * 2 ^ 19)

/-- The output stage's compliance of 5.6 V in the same units (R141). -/
def stageLimit : Int := 56 * 2 ^ 19 * 32767

/-- The sum that stands at the output stage reaches its compliance. -/
def stageOver (x : Int) : Bool := decide (x < -stageLimit) || decide (stageLimit < x)

/-- The range of a span in units of 0.5 V (Table 7.1). -/
def spanScale (n : Nat) : Int := nth 10 [1, 2, 5, 10] n

/-- The bias code of channel `g` in units of 0.5 V / 2^19. -/
def biasLevel (g : Nat) (s : State) : Int := (biasC g s).out * spanScale (biasC g s).span

/-- The DAC input of output `o` at `k` ticks before the tick that runs, as its 16 or 2 codes; empty for zeros.
[log: 118 DEDUCED] -/
def dacAt (o k : Nat) (s : State) : List Int := nth [] (outp o s).dac k

/-- A fast flux output reaches its compliance: STAGE_SAT (R141), 5 ticks after the DAC input (Table 6.5).
[log: 25 DEDUCED] -/
def stageTick (g : Nat) (s : State) : State :=
  if (dacAt (512 + g) 5 s).any (fun c => stageOver (stageSum (biasLevel g s) c)) then putB (oFluxStatus g) 1 true s else s

/-- One output is computed for the present tick. -/
def outTick (o : Nat) (s : State) : State :=
  if o < 512 then
    let r := rfTick o s
    outPush o r.1 r.2
  else
    let r := fluxTick (o - 512) s
    stageTick (o - 512) (outPush o r.1 r.2)

/-- The tick's samples of every output, computed with what the tick's actions and writes have left (R77, R129). -/
def outputTick (s : State) : State := foldS outTick (liveOutputs s) s

/-- Envelopes whose extent is over end. -/
def envelopeTick (s : State) : State :=
  foldS (fun e s => fluxEnvDone e.1 s) s.flux
    (foldS (fun e s => envDone true e.1 s) s.prb (foldS (fun e s => envDone false e.1 s) s.drv s))

end Sys2Proof.Machine
end

