-- ==== Sys2Proof/Machine/TickOps.lean ====
section
/-! DEFINITION. What one CK1 tick does (R54): the records of the tick that ends leave it (R441), TICK counts, the effects on the
agenda that fall due act, the outputs and the Results class run, and overloads, envelopes and filter changes end
(R64, R83, R182, R209, R216, R219, R313, R367, R423, R442). DESIGN CHOICE, log entry 2: no row of the table stands for a tick,
so a tick passes where no command waits. -/

namespace Sys2Proof.Machine

/-- TICK counts on; past 2^40 - 1 EPOCH advances (R54). -/
def countTick (s : State) : State :=
  if s.time.counting then
    let s := { s with time := { s.time with tick := s.time.tick + 1 } }
    if now s = 0 then epochWrap s else s
  else s

/-- What the last tick put out is gone: messages sent and answers of reads.
[log: 115 DESIGN CHOICE] -/
def clearTick (s : State) : State :=
  { s with host := { s.host with sent := [], readOut := 0, readBytes := [], poisoned := false, mgmt := none } }

/-- An entry of the agenda is a presentation of a parity set. -/
def presents (d : Deferred) : Bool := match d with | .present _ => true | _ => false

/-- The Binder as the tick ends: after its openings, what has reached it and then the presentations that are due act (R216). -/
def binderEnd (s : State) : State :=
  let s := foldS bndIn (if binderRuns s then s.binder.inbox else []) { s with binder := { s.binder with inbox := [] } }
  foldS (fun e s => match e.2 with
    | .present j => if s.agenda.contains e then setPresent e.1 j { s with agenda := s.agenda.erase e } else s
    | _ => s) (s.agenda.filter (fun e => presents e.2 && due e.1 s)) s

/-- The tick ends: the Binder acts, its verdicts and result records leave, its BIAS and STROBE entries and then its event strobes act, its strobes are counted, its samples are computed with what it has left, its firings take
their routes, an idle monitor ADC begins, and its error records leave (R77, R151, R152, R308, R441, R449).
[log: 11 DESIGN CHOICE] -/
def endTick (s : State) : State :=
  { logTick (convKick (routeFires (outputTick (strobesEnd (evStrobesAct (biasActs (resMade (postedOut (binderEnd s))))))))) with modeWas := none, fresh := [], crcDown := [] }

/-- The verdict at index `i` reaches the sequencers (R83, R209). -/
def verdictSeen (x : Tick) (i : Nat) (word : W40) (ref : Tick) (s : State) : State :=
  brTryAll x (setVent i { vent i s with seqWord := word, seqRef := ref } s)

/-- An effect of the agenda acts at its tick `x`. -/
def act (x : Tick) (d : Deferred) (s : State) : State :=
  match d with
  | .verdictToSeqs i word ref => verdictSeen x i word ref s
  | .present _ => s
  | .setToSeqs j => if setA j s then s else brTryAll x (setPset j { pset j s with seqP := some (setP j s) } s)
  | .decToSeqs e =>
    if decComplete e s && plus (decoder e s).at_ 2 == x then
      brTryAll x (setDecoder e { decoder e s with ready := true } s)
    else s
  | .eventAtInput i depth dom => eventArrive x i depth dom s
  | .syncPulse => pulseStart x s
  | .pulseUp => { s with pins := { s.pins with syncOut := true } }
  | .pulseEnd => pulseDown s
  | .trip t b => tripPin t b s
  | .shotStart g => brTryAll x (shotStarts x g s)
  | .portEn p en => portEnable p en s
  | .coreIdle k => coreIdle k s

/-- An entry of the agenda is a shot start, at which rounds of the Binder open. -/
def opens (d : Deferred) : Bool := match d with | .shotStart _ => true | _ => false

/-- The effects that are due act in the order in which they were put on the agenda, shot starts first (R216); one that an earlier effect
of the tick has cancelled does not act. Presentations act as the tick ends.
[log: 2 DESIGN CHOICE] -/
def runAgenda (s : State) : State :=
  let mine := s.agenda.filter (fun e => due e.1 s && !presents e.2)
  foldS (fun e s => if s.agenda.contains e then act e.1 e.2 { s with agenda := s.agenda.erase e } else s)
    (mine.filter (fun e => opens e.2) ++ mine.filter (fun e => !opens e.2)) s

/-- Filter changes that waited for the end of a window act (R182). -/
def filterTick (s : State) : State :=
  foldS (fun e s => if dueO e.2.fsetAt s then fsetUpdate e.1 s else s) s.slots s

/-- What lies long past is kept as long past, or forgotten: ticks compare within half of their range (R55). -/
def pastTidy (s : State) : State :=
  let n := now s
  let s := foldS (fun e s => outTidy e.1 s) s.outs s
  { s with
    lbResume := dropPast n s.lbResume
    armAfter := dropPast n s.armAfter
    seqs := s.seqs.map (fun e => (e.1, { e.2 with
      roomAt := dropPast n e.2.roomAt, quietTo := dropPast n e.2.quietTo, quietAt := keepPast n e.2.quietAt }))
    senses := s.senses.map (fun e => (e.1, { e.2 with readyAt := dropPast n e.2.readyAt }))
    adcs := s.adcs.map (fun e => (e.1, { e.2 with rotFrom := dropPast n e.2.rotFrom }))
    pair := { s.pair with
      lastDiverge := dropPast n s.pair.lastDiverge
      twinHalf := s.pair.twinHalf.filter (fun e => !stale e.2 n)
      twinN := s.pair.twinN.filter (fun e => !stale e.2 n) }
    glean := { s.glean with
      last := s.glean.last.map (fun e => (e.1, keepPast n e.2))
      started := s.glean.started.map (fun e => (e.1, keepPast n e.2)) }
    sec := { s.sec with safeAt := keepPast n s.sec.safeAt }
    time := { s.time with
      refAt := dropPast n s.time.refAt
      resume := s.time.resume.map (keepPast n)
      shifts := s.time.shifts.filter (fun e => !longAgo e.1 n) } }

/-- Whether HOLD and the loopback position are in force in the tick that ends, and what the readout keeps of it (R173, Table 12.3). -/
def pastEnd (s : State) : State :=
  let note := fun (b : Bool) (h : List (Tick × Bool)) => histTidy (now s) (histNote (now s) (histAt b (now s) h) b h)
  coresTidy (slotsTidy (marksEnd (pastTidy (biasHeld { s with
    holdHist := note (modeOn 5 s) s.holdHist
    lbHist := note (relays s) s.lbHist
    ballHist := note (ballBase s) s.ballHist }))))

/-- The engine as a tick begins: a handler returns, and then pending traps are taken in priority order (R300). -/
def trapTick (s : State) : State := flrKick (bandKick (handlerReturns s))

/-- One CK1 tick.
[log: 2 DESIGN CHOICE] -/
def tickOnce (s : State) : State :=
  if !powered s then clearTick s
  else
    let s := trapTick (runAgenda (lifeTick (clearTick (countTick (pastEnd (endTick s))))))
    let s := filterTick (overloadEnds (railTick (slewTick s)))
    reasonsUpdate (envelopeTick (resTick s))

/-- EPOCH_ADVANCE: the tick on which TICK wraps (R54). -/
def epochAdvanceRow (s : State) : State :=
  if s.time.counting && now s == 0xFFFFFFFFFF then tickOnce s else s

/-- EPOCH_ADVANCE. -/
def execEpochAdvance (s : State) : Host.Outcome State Fault Refusal := .next (epochAdvanceRow s)

end Sys2Proof.Machine
end

