-- ==== Sys2Proof/Machine/Dispatch.lean ====
section
/-! DEFINITION. One arm for each command: its meaning. -/

namespace Sys2Proof.Machine

/-- The effect of a command on everything but the queue: one direct call of its meaning. -/
def exec (i : Instr) (s : State) : Host.Outcome State Fault Refusal :=
  match i with
  | .powerOnResetRelease => Sys2Proof.Machine.execPowerOnResetRelease s
  | .powerLoss => Sys2Proof.Machine.execPowerLoss s
  | .resetNCycle => Sys2Proof.Machine.execResetNCycle s
  | .perstN => Sys2Proof.Machine.execPerstN s
  | .functionLevelReset m => Sys2Proof.Machine.execFunctionLevelReset m s
  | .pllLock => Sys2Proof.Machine.execPllLock s
  | .pllNoLock refValid => Sys2Proof.Machine.execPllNoLock refValid s
  | .pllUnlock => Sys2Proof.Machine.execPllUnlock s
  | .refLost => Sys2Proof.Machine.execRefLost s
  | .refRestored => Sys2Proof.Machine.execRefRestored s
  | .epochAdvance => Sys2Proof.Machine.execEpochAdvance s
  | .powerupStep p => Sys2Proof.Machine.execPowerupStep p s
  | .nvmLoadDone badTrims => Sys2Proof.Machine.execNvmLoadDone badTrims s
  | .adcSelfCalDone t res => Sys2Proof.Machine.execAdcSelfCalDone t res s
  | .granaryZeroDone => Sys2Proof.Machine.execGranaryZeroDone s
  | .secureBoot => Sys2Proof.Machine.execSecureBoot s
  | .stagingComplete => Sys2Proof.Machine.execStagingComplete s
  | .altImageCheck => Sys2Proof.Machine.execAltImageCheck s
  | .devEnterReady => Sys2Proof.Machine.execDevEnterReady s
  | .devEnterSafe => Sys2Proof.Machine.execDevEnterSafe s
  | .devEnterSafeTimeout => Sys2Proof.Machine.execDevEnterSafeTimeout s
  | .microTrapFatal => Sys2Proof.Machine.execMicroTrapFatal s
  | .dieLinkCrc t down => Sys2Proof.Machine.execDieLinkCrc t down s
  | .tileLinkTimeout t => Sys2Proof.Machine.execTileLinkTimeout t s
  | .dieLinkLost t => Sys2Proof.Machine.execDieLinkLost t s
  | .modeSequence m b => Sys2Proof.Machine.execModeSequence m b s
  | .modeHold m b => Sys2Proof.Machine.execModeHold m b s
  | .modeLoopback m b => Sys2Proof.Machine.execModeLoopback m b s
  | .modeWitness m b => Sys2Proof.Machine.execModeWitness m b s
  | .modeFederated m b => Sys2Proof.Machine.execModeFederated m b s
  | .modePaired m b => Sys2Proof.Machine.execModePaired m b s
  | .loopbackSwitch => Sys2Proof.Machine.execLoopbackSwitch s
  | .loopbackWait => Sys2Proof.Machine.execLoopbackWait s
  | .loopbackResume => Sys2Proof.Machine.execLoopbackResume s
  | .pairModeMessage bits => Sys2Proof.Machine.execPairModeMessage bits s
  | .shotBoundary g => Sys2Proof.Machine.execShotBoundary g s
  | .armedStart g => Sys2Proof.Machine.execArmedStart g s
  | .sequencerResume g => Sys2Proof.Machine.execSequencerResume g s
  | .tickNowRead m => Sys2Proof.Machine.execTickNowRead m s
  | .timeSet => Sys2Proof.Machine.execTimeSet s
  | .timeStep => Sys2Proof.Machine.execTimeStep s
  | .timeStepResume => Sys2Proof.Machine.execTimeStepResume s
  | .timeStepWait => Sys2Proof.Machine.execTimeStepWait s
  | .timeReacquire => Sys2Proof.Machine.execTimeReacquire s
  | .syncInEdge off => Sys2Proof.Machine.execSyncInEdge off s
  | .loadArm m => Sys2Proof.Machine.execLoadArm m s
  | .syncInStampRead m => Sys2Proof.Machine.execSyncInStampRead m s
  | .syncOutFire => Sys2Proof.Machine.execSyncOutFire s
  | .syncOutCtlWrite m v => Sys2Proof.Machine.execSyncOutCtlWrite m v s
  | .syncOutPeriodWrite m v => Sys2Proof.Machine.execSyncOutPeriodWrite m v s
  | .ptmDialog => Sys2Proof.Machine.execPtmDialog s
  | .ptmNow m => Sys2Proof.Machine.execPtmNow m s
  | .ptmResponse turn hi lo => Sys2Proof.Machine.execPtmResponse turn hi lo s
  | .ptmFail => Sys2Proof.Machine.execPtmFail s
  | .ptmTickRead m => Sys2Proof.Machine.execPtmTickRead m s
  | .nop g => Sys2Proof.Machine.execNop g s
  | .halt g => Sys2Proof.Machine.execHalt g s
  | .shot g => Sys2Proof.Machine.execShot g s
  | .wait g => Sys2Proof.Machine.execWait g s
  | .atCursor g => Sys2Proof.Machine.execAtCursor g s
  | .fence g => Sys2Proof.Machine.execFence g s
  | .fenceComplete g => Sys2Proof.Machine.execFenceComplete g s
  | .sync g => Sys2Proof.Machine.execSync g s
  | .evwait g => Sys2Proof.Machine.execEvwait g s
  | .evwaitDeadline g => Sys2Proof.Machine.execEvwaitDeadline g s
  | .play g => Sys2Proof.Machine.execPlay g s
  | .playf g => Sys2Proof.Machine.execPlayf g s
  | .acq g => Sys2Proof.Machine.execAcq g s
  | .setf g => Sys2Proof.Machine.execSetf g s
  | .setp g => Sys2Proof.Machine.execSetp g s
  | .vz g => Sys2Proof.Machine.execVz g s
  | .seta g => Sys2Proof.Machine.execSeta g s
  | .bias g => Sys2Proof.Machine.execBias g s
  | .strobe g => Sys2Proof.Machine.execStrobe g s
  | .brFlags g => Sys2Proof.Machine.execBrFlags g s
  | .brVerdict g => Sys2Proof.Machine.execBrVerdict g s
  | .brDeadline g => Sys2Proof.Machine.execBrDeadline g s
  | .jmp g => Sys2Proof.Machine.execJmp g s
  | .call g => Sys2Proof.Machine.execCall g s
  | .ret g => Sys2Proof.Machine.execRet g s
  | .loopBegin g => Sys2Proof.Machine.execLoopBegin g s
  | .loopEnd g => Sys2Proof.Machine.execLoopEnd g s
  | .ldi g => Sys2Proof.Machine.execLdi g s
  | .add g => Sys2Proof.Machine.execAdd g s
  | .sub g => Sys2Proof.Machine.execSub g s
  | .and g => Sys2Proof.Machine.execAnd g s
  | .xor g => Sys2Proof.Machine.execXor g s
  | .cmp g => Sys2Proof.Machine.execCmp g s
  | .mark g => Sys2Proof.Machine.execMark g s
  | .timelineDispatch g => Sys2Proof.Machine.execTimelineDispatch g s
  | .tileAction g => Sys2Proof.Machine.execTileAction g s
  | .start m g => Sys2Proof.Machine.execStart m g s
  | .stop m g => Sys2Proof.Machine.execStop m g s
  | .abort m g => Sys2Proof.Machine.execAbort m g s
  | .resumeSkip m g => Sys2Proof.Machine.execResumeSkip m g s
  | .resumeRetime m g => Sys2Proof.Machine.execResumeRetime m g s
  | .seqCommit m g => Sys2Proof.Machine.execSeqCommit m g s
  | .seqGregWrite m g ix v => Sys2Proof.Machine.execSeqGregWrite m g ix v s
  | .barrierCfgWrite m b v => Sys2Proof.Machine.execBarrierCfgWrite m b v s
  | .barrierNotice b dev ad => Sys2Proof.Machine.execBarrierNotice b dev ad s
  | .barrierRelease b => Sys2Proof.Machine.execBarrierRelease b s
  | .waveCommit m t => Sys2Proof.Machine.execWaveCommit m t s
  | .drvCommit m g => Sys2Proof.Machine.execDrvCommit m g s
  | .prbCommit m g => Sys2Proof.Machine.execPrbCommit m g s
  | .fluxCommit m g => Sys2Proof.Machine.execFluxCommit m g s
  | .xyCfgWrite m t x v => Sys2Proof.Machine.execXyCfgWrite m t x v s
  | .biasCodeWrite m c v => Sys2Proof.Machine.execBiasCodeWrite m c v s
  | .biasStrobe m t v => Sys2Proof.Machine.execBiasStrobe m t v s
  | .biasSlewStep c => Sys2Proof.Machine.execBiasSlewStep c s
  | .spanDwellEnd c => Sys2Proof.Machine.execSpanDwellEnd c s
  | .biasIlimit c => Sys2Proof.Machine.execBiasIlimit c s
  | .biasLoadMeasure c iload retDiff inl => Sys2Proof.Machine.execBiasLoadMeasure c iload retDiff inl s
  | .adcSelfCal => Sys2Proof.Machine.execAdcSelfCal s
  | .adcRotationStep t back => Sys2Proof.Machine.execAdcRotationStep t back s
  | .adcCtlWrite m t f v => Sys2Proof.Machine.execAdcCtlWrite m t f v s
  | .adcSettled t f => Sys2Proof.Machine.execAdcSettled t f s
  | .adcRotCtlWrite m t v => Sys2Proof.Machine.execAdcRotCtlWrite m t v s
  | .adcOverrange t f uv => Sys2Proof.Machine.execAdcOverrange t f uv s
  | .slotCommit m g => Sys2Proof.Machine.execSlotCommit m g s
  | .detectorUpdate g xs => Sys2Proof.Machine.execDetectorUpdate g xs s
  | .winnowStep g k xs => Sys2Proof.Machine.execWinnowStep g k xs s
  | .finalVerdictPost g xs => Sys2Proof.Machine.execFinalVerdictPost g xs s
  | .absentVerdictPost g => Sys2Proof.Machine.execAbsentVerdictPost g s
  | .resultFlush p => Sys2Proof.Machine.execResultFlush p s
  | .thrKernelLoad e => Sys2Proof.Machine.execThrKernelLoad e s
  | .verdictBusArrival ix => Sys2Proof.Machine.execVerdictBusArrival ix s
  | .bndArmSet m j => Sys2Proof.Machine.execBndArmSet m j s
  | .bndArmAll m => Sys2Proof.Machine.execBndArmAll m s
  | .binderDeadline j => Sys2Proof.Machine.execBinderDeadline j s
  | .bndCommit m => Sys2Proof.Machine.execBndCommit m s
  | .binderCommitWait => Sys2Proof.Machine.execBinderCommitWait s
  | .bndTableLoad e => Sys2Proof.Machine.execBndTableLoad e s
  | .coreStart m k => Sys2Proof.Machine.execCoreStart m k s
  | .coreStop m k => Sys2Proof.Machine.execCoreStop m k s
  | .coreNop k => Sys2Proof.Machine.execCoreNop k s
  | .coreMac k => Sys2Proof.Machine.execCoreMac k s
  | .coreAlu k => Sys2Proof.Machine.execCoreAlu k s
  | .coreAcc k => Sys2Proof.Machine.execCoreAcc k s
  | .coreNorm k => Sys2Proof.Machine.execCoreNorm k s
  | .coreExp k => Sys2Proof.Machine.execCoreExp k s
  | .coreLdi k => Sys2Proof.Machine.execCoreLdi k s
  | .setag k => Sys2Proof.Machine.execSetag k s
  | .coreBr k => Sys2Proof.Machine.execCoreBr k s
  | .coreLoop k => Sys2Proof.Machine.execCoreLoop k s
  | .waitt k => Sys2Proof.Machine.execWaitt k s
  | .waittTimeout k => Sys2Proof.Machine.execWaittTimeout k s
  | .rdtap k => Sys2Proof.Machine.execRdtap k s
  | .post k => Sys2Proof.Machine.execPost k s
  | .coreEvent k => Sys2Proof.Machine.execCoreEvent k s
  | .coreHalt k => Sys2Proof.Machine.execCoreHalt k s
  | .tapWrite k ix xs stamp => Sys2Proof.Machine.execTapWrite k ix xs stamp s
  | .tapCfgWrite m k ix v => Sys2Proof.Machine.execTapCfgWrite m k ix v s
  | .witnessEnable m e v => Sys2Proof.Machine.execWitnessEnable m e v s
  | .witForce m e => Sys2Proof.Machine.execWitForce m e s
  | .witnessTriggerCommit e x => Sys2Proof.Machine.execWitnessTriggerCommit e x s
  | .baleClose e xs => Sys2Proof.Machine.execBaleClose e xs s
  | .witnessRearm e => Sys2Proof.Machine.execWitnessRearm e s
  | .witStop => Sys2Proof.Machine.execWitStop s
  | .bar2Read m a n e => Sys2Proof.Machine.execBar2Read m a n e s
  | .bar2Write m a bs => Sys2Proof.Machine.execBar2Write m a bs s
  | .grRegionWrite m r v => Sys2Proof.Machine.execGrRegionWrite m r v s
  | .scrubDone => Sys2Proof.Machine.execScrubDone s
  | .ringHeadAdv m v => Sys2Proof.Machine.execRingHeadAdv m v s
  | .msixUnmask m v => Sys2Proof.Machine.execMsixUnmask m v s
  | .drainCopy h e => Sys2Proof.Machine.execDrainCopy h e s
  | .ringAssign => Sys2Proof.Machine.execRingAssign s
  | .ringConfig => Sys2Proof.Machine.execRingConfig s
  | .ringResize e => Sys2Proof.Machine.execRingResize e s
  | .ringClear => Sys2Proof.Machine.execRingClear s
  | .ringQuery => Sys2Proof.Machine.execRingQuery s
  | .grEvlogWrite m d v => Sys2Proof.Machine.execGrEvlogWrite m d v s
  | .evlogFlush d => Sys2Proof.Machine.execEvlogFlush d s
  | .cmdDoorbell m v => Sys2Proof.Machine.execCmdDoorbell m v s
  | .packetStart e => Sys2Proof.Machine.execPacketStart e s
  | .replyWrite e => Sys2Proof.Machine.execReplyWrite e s
  | .routineResume ix => Sys2Proof.Machine.execRoutineResume ix s
  | .echo => Sys2Proof.Machine.execEcho s
  | .devInfo => Sys2Proof.Machine.execDevInfo s
  | .seqLoad e => Sys2Proof.Machine.execSeqLoad e s
  | .seqRead => Sys2Proof.Machine.execSeqRead s
  | .waveLoad x => Sys2Proof.Machine.execWaveLoad x s
  | .waveRead => Sys2Proof.Machine.execWaveRead s
  | .coreLoad e => Sys2Proof.Machine.execCoreLoad e s
  | .coreRead => Sys2Proof.Machine.execCoreRead s
  | .fedLoad e => Sys2Proof.Machine.execFedLoad e s
  | .fedClear => Sys2Proof.Machine.execFedClear s
  | .pairStart => Sys2Proof.Machine.execPairStart s
  | .pairHandover => Sys2Proof.Machine.execPairHandover s
  | .handoverAgreedTick => Sys2Proof.Machine.execHandoverAgreedTick s
  | .pairHandoverTimeout => Sys2Proof.Machine.execPairHandoverTimeout s
  | .portRetrain => Sys2Proof.Machine.execPortRetrain s
  | .attest => Sys2Proof.Machine.execAttest s
  | .loftLoad e => Sys2Proof.Machine.execLoftLoad e s
  | .rollbackAdvance => Sys2Proof.Machine.execRollbackAdvance s
  | .identityRead => Sys2Proof.Machine.execIdentityRead s
  | .nvmRead => Sys2Proof.Machine.execNvmRead s
  | .nvmWrite e => Sys2Proof.Machine.execNvmWrite e s
  | .fwInstall e => Sys2Proof.Machine.execFwInstall e s
  | .restSet => Sys2Proof.Machine.execRestSet s
  | .linSet e => Sys2Proof.Machine.execLinSet e s
  | .monUrgent => Sys2Proof.Machine.execMonUrgent s
  | .monSelftest wmon ovl => Sys2Proof.Machine.execMonSelftest wmon ovl s
  | .evFire m v => Sys2Proof.Machine.execEvFire m v s
  | .eventChannelFire v => Sys2Proof.Machine.execEventChannelFire v s
  | .evRouteWrite m u v => Sys2Proof.Machine.execEvRouteWrite m u v s
  | .evChanCfgWrite m c v => Sys2Proof.Machine.execEvChanCfgWrite m c v s
  | .frameTransmit p => Sys2Proof.Machine.execFrameTransmit p s
  | .frameReceive p x => Sys2Proof.Machine.execFrameReceive p x s
  | .itemRelease p => Sys2Proof.Machine.execItemRelease p s
  | .timeMessageReceive p x => Sys2Proof.Machine.execTimeMessageReceive p x s
  | .heartbeatMiss p => Sys2Proof.Machine.execHeartbeatMiss p s
  | .clockLaneLoss p => Sys2Proof.Machine.execClockLaneLoss p s
  | .portCtlWrite m p v => Sys2Proof.Machine.execPortCtlWrite m p v s
  | .trainAutostart p => Sys2Proof.Machine.execTrainAutostart p s
  | .trainPhaseComplete p unaligned eyes => Sys2Proof.Machine.execTrainPhaseComplete p unaligned eyes s
  | .trainTimeout p => Sys2Proof.Machine.execTrainTimeout p s
  | .linkEyeLow p eyes => Sys2Proof.Machine.execLinkEyeLow p eyes s
  | .reachMessage p x => Sys2Proof.Machine.execReachMessage p x s
  | .reachTimeout d => Sys2Proof.Machine.execReachTimeout d s
  | .outputCrcMessage w field => Sys2Proof.Machine.execOutputCrcMessage w field s
  | .pairVerdictMessage w field => Sys2Proof.Machine.execPairVerdictMessage w field s
  | .compareTimeout ix => Sys2Proof.Machine.execCompareTimeout ix s
  | .handoverMessage n recv => Sys2Proof.Machine.execHandoverMessage n recv s
  | .mirrorHeader p w slot => Sys2Proof.Machine.execMirrorHeader p w slot s
  | .monConversionDone x => Sys2Proof.Machine.execMonConversionDone x s
  | .urgentRequest src => Sys2Proof.Machine.execUrgentRequest src s
  | .senseCfgWrite m n v => Sys2Proof.Machine.execSenseCfgWrite m n v s
  | .monScanWrite m e v => Sys2Proof.Machine.execMonScanWrite m e v s
  | .senseComplianceCheck n ok => Sys2Proof.Machine.execSenseComplianceCheck n ok s
  | .senseOvervolt n => Sys2Proof.Machine.execSenseOvervolt n s
  | .wmonTick t uv => Sys2Proof.Machine.execWmonTick t uv s
  | .rfOverload t f uv => Sys2Proof.Machine.execRfOverload t f uv s
  | .railFault r => Sys2Proof.Machine.execRailFault r s
  | .thermalSensorUpdate u reading => Sys2Proof.Machine.execThermalSensorUpdate u reading s
  | .thermalThrottle => Sys2Proof.Machine.execThermalThrottle s
  | .thermalThrottleClear => Sys2Proof.Machine.execThermalThrottleClear s
  | .thermalShutdown => Sys2Proof.Machine.execThermalShutdown s
  | .thermalGraceExpired => Sys2Proof.Machine.execThermalGraceExpired s
  | .shutdownPowerOff => Sys2Proof.Machine.execShutdownPowerOff s
  | .thermalTrip die => Sys2Proof.Machine.execThermalTrip die s
  | .lifeLedgerWrite cut => Sys2Proof.Machine.execLifeLedgerWrite cut s
  | .thermThrWrite m v => Sys2Proof.Machine.execThermThrWrite m v s
  | .gleanStart t task unit => Sys2Proof.Machine.execGleanStart t task unit s
  | .gleanComplete t r => Sys2Proof.Machine.execGleanComplete t r s
  | .nvmSectorRewrite => Sys2Proof.Machine.execNvmSectorRewrite s
  | .trngFail => Sys2Proof.Machine.execTrngFail s
  | .ownerFieldWrite m off v => Sys2Proof.Machine.execOwnerFieldWrite m off v s
  | .secDomainsWrite m v => Sys2Proof.Machine.execSecDomainsWrite m v s
  | .scanExtest => Sys2Proof.Machine.execScanExtest s
  | .bar0LowWrite m off v => Sys2Proof.Machine.execBar0LowWrite m off v s
  | .bar0HighWrite m off v => Sys2Proof.Machine.execBar0HighWrite m off v s
  | .bar0LowRead m off => Sys2Proof.Machine.execBar0LowRead m off s
  | .bar0HighRead m off => Sys2Proof.Machine.execBar0HighRead m off s
  | .regPartial m write off size => Sys2Proof.Machine.execRegPartial m write off size s
  | .vecAllocWrite m d v => Sys2Proof.Machine.execVecAllocWrite m d v s
  | .registerWrite m off v => Sys2Proof.Machine.execRegisterWrite m off v s
  | .mgmtIdentity => Sys2Proof.Machine.execMgmtIdentity s
  | .mgmtState => Sys2Proof.Machine.execMgmtState s
  | .mgmtHaltCode => Sys2Proof.Machine.execMgmtHaltCode s
  | .mgmtTmax => Sys2Proof.Machine.execMgmtTmax s
  | .mgmtRailOk => Sys2Proof.Machine.execMgmtRailOk s
  | .mgmtPwrTiles => Sys2Proof.Machine.execMgmtPwrTiles s
  | .mgmtInputPower q => Sys2Proof.Machine.execMgmtInputPower q s
  | .mgmtSensor u => Sys2Proof.Machine.execMgmtSensor u s
  | .mgmtWriteNak code => Sys2Proof.Machine.execMgmtWriteNak code s
  | .vauxPowerUp straps => Sys2Proof.Machine.execVauxPowerUp straps s
  | .railToleranceChange r ok => Sys2Proof.Machine.execRailToleranceChange r ok s
  | .pcieConfigWrite m b on => Sys2Proof.Machine.execPcieConfigWrite m b on s
  | .pairStartChecksMessage h => Sys2Proof.Machine.execPairStartChecksMessage h s
  | .pairStartTimeout => Sys2Proof.Machine.execPairStartTimeout s
  | .nvmRewriteDone weak => Sys2Proof.Machine.execNvmRewriteDone weak s
  | .rollbackBurstDone => Sys2Proof.Machine.execRollbackBurstDone s
  | .undefinedOpcode g => Sys2Proof.Machine.execUndefinedOpcode g s
  | .coreUndefinedOpcode k => Sys2Proof.Machine.execCoreUndefinedOpcode k s

end Sys2Proof.Machine
end

