-- ==== Sys2Proof/Machine/Step.lean ====
section
/-! DEFINITION. One step of the block: the command at the front of the queue, or one tick of CK1 on an empty queue. -/

namespace Sys2Proof.Machine

/-- One step: the oldest waiting command acts on the block with the rest of the queue; with none waiting, one tick of CK1
passes (DESIGN CHOICE, log entry 2).
[log: 111 DESIGN CHOICE, 112 DEDUCED] -/
def step (s : State) : Host.Outcome State Fault Refusal :=
  match s.pending with
  | [] => .next (tickOnce s)
  | c :: rest => exec c { s with pending := rest }

/-- The state with the command that a table word spells put at the front of its queue.
[log: 112 DEDUCED] -/
def State.withFetchWord (s : State) (nbits w : Nat) : State :=
  match decodeTableWord nbits w with
  | some c => { s with pending := c :: s.pending }
  | none => s

end Sys2Proof.Machine
end

