-- ==== Sys2Proof/Safety.lean ====
section
/-! DEFINITION. The terms in which statements about the block are made: a safe step, the completion of a command, what a
command leaves alone, the situation in which a sequencer or a core issues an instruction, and the invariant of the block. -/

namespace Sys2Proof.Machine

/-- A step answers a next state. -/
def Safe (s : State) : Prop := ∃ s', step s = .next s'

/-- The command completes in a next state that satisfies `P`. -/
def Completes (c : Instr) (s : State) (P : State → Prop) : Prop := ∃ t, exec c s = .next t ∧ P t

/-! ### Frames -/

/-- Nothing but sequencer `g` has changed. -/
def OnlySeq (g : Nat) (s t : State) : Prop := t = { s with seqs := t.seqs } ∧ ∀ k, k ≠ g → seq k t = seq k s

/-- Nothing but core `k` has changed. -/
def OnlyCore (k : Nat) (s t : State) : Prop := t = { s with cores := t.cores } ∧ ∀ j, j ≠ k → core j t = core j s

/-- Nothing but registers at the offsets `offs` has changed: neither another register nor any value in force. -/
def OnlyRegs (offs : List Nat) (s t : State) : Prop := t = { s with regs := t.regs } ∧ ∀ o, o ∉ offs → getR o t = getR o s

/-- Every byte of Granary memory and of host memory reads as before. -/
def MemKept (s t : State) : Prop :=
  (∀ a, rdByte t.gran.mem a = rdByte s.gran.mem a) ∧ ∀ a, rdByte t.gran.hostMem a = rdByte s.gran.hostMem a

/-- Every byte of Granary memory outside the `n` bytes from `a` on reads as before. -/
def MemKeptBut (a n : Nat) (s t : State) : Prop :=
  ∀ c, c < a ∨ a + n ≤ c → rdByte t.gran.mem c = rdByte s.gran.mem c

/-- The records of the tick gain one with this source, code, detail and word 3; those before it stay. -/
def Logged (src code detail : Nat) (w3 : W40) (s t : State) : Prop :=
  ∃ r : Rec, t.log.pool = s.log.pool ++ [r] ∧ r.source.toNat = src ∧ r.code.toNat = code ∧ r.detail.toNat = detail
    ∧ r.word3 = w3 ∧ r.tick = s.time.tick ∧ r.epoch = s.time.epoch

/-- The records of the tick gain one with this source and code, among what the command adds to them. -/
def Reports (src code : Nat) (s t : State) : Prop :=
  ∃ r ∈ t.log.pool.drop s.log.pool.length, r.source.toNat = src ∧ r.code.toNat = code

/-! ### Situations -/

/-- Sequencer `g` issues the instruction whose first word is `v`: it is RUNNING, awaits no boundary, its issue tick has come,
and `v` stands at its PC. -/
def Issues (g : Nat) (v : W40) (s : State) : Prop :=
  g < nSeqs s ∧ (seq g s).st = .running ∧ (seq g s).bound = none ∧ due (seq g s).issueAt s = true
    ∧ (seq g s).pc < 8192 ∧ tget 0 (seq g s).pc (seq g s).imem = v

/-- A write of `v` by function `m` reaches the register of kind `k` with indices `is` at `off` and is accepted (R420, R421, R450):
the function reaches the block and has no half staged, the unit is present and powered, nothing refuses the write, and its transfer to
a tile has not failed (R15). -/
def Reaches (k : RegK) (is : List Nat) (m off : Nat) (v : W40) (s : State) : Prop :=
  fnReaches m s = true ∧ staged m s = none ∧ absentAt off s = none ∧ unpoweredAt off s = false ∧
    ∃ row, findReg off = some (row, is) ∧ row.k = k ∧ writeRefusal m row is off v s = none ∧ writeLost k off s = false

/-- No condition of R89 holds a sequencer: no throttle, READY with SEQUENCE 1 and HOLD 0, no LOOPBACK change, no time step, and no
DEV_ENTER_SAFE. -/
def NothingHolds (s : State) : Prop :=
  throttled s = false ∧ s.life = .ready ∧ mode 0 s = true ∧ mode 5 s = false ∧ bR oModeStatus 8 s = false ∧
    s.time.req = none ∧ s.lbResume = none ∧ s.time.resume = none ∧ s.safePend = none

/-- The registers at the offsets `offs` have moved from their shadows into force, and no other register (they stand eight bytes
apart) has changed in force (R422). -/
def Commits (offs : List Nat) (s t : State) : Prop :=
  (∀ o ∈ offs, getF o t = getR o s) ∧ ∀ o, o ∉ offs → o % 8 = 0 → getF o t = getF o s

/-- General register `i` of a sequencer. -/
def reg (q : Seq) (i : Nat) : W40 := tget 0 i q.g

/-- Sequencer `g` goes on from `s`: `n` words further, the next instruction `k` ticks after the issue tick; nothing else but its
registers and what `q` changes. -/
def advanced (q : Seq) (n k : Nat) : Seq := { q with pc := q.pc + n, issueAt := plus q.issueAt k }

/-- Core `k` issues the instruction `v`: it is RUNNING in SAFE or READY, its tick has come, `v` stands at its PC with defined access
fields, and no loop of it ends there. -/
def CoreIssues (k : Nat) (v : BitVec 80) (s : State) : Prop :=
  k < 16 * nTiles s ∧ (s.life = .safe ∨ s.life = .ready) ∧ (core k s).st = .running ∧ due (core k s).nextAt s = true ∧
    (core k s).pc < 8192 ∧ tget 0 (core k s).pc (core k s).prog = v ∧ portsOk v = true ∧
    ∀ l ∈ (core k s).loops.head?, l.fin ≠ (core k s).pc

/-- Neither port of the instruction accesses its bank, and no address generator is post-modified. -/
def NoAccess (v : BitVec 80) : Prop :=
  (portField v 0).kind = 0 ∧ (portField v 1).kind = 0 ∧ (portField v 0).pm = false ∧ (portField v 1).pm = false

/-- Core `k` has executed an instruction: nothing but it and its status register has changed, it goes on at `pc`, `d` ticks on, `P`
holds of it, and where the instruction accesses no bank it stands as `c'` but for these. -/
def CoreDone (k : Nat) (v : BitVec 80) (pc d : Nat) (P : Core → Prop) (c' : Core) (s t : State) : Prop :=
  t = { s with cores := t.cores, regs := t.regs } ∧ (∀ j, j ≠ k → core j t = core j s) ∧
    (∀ o, o ≠ oCoreStatus k → getR o t = getR o s) ∧ (core k t).pc = pc ∧ (core k t).nextAt = plus (core k s).nextAt d ∧
    P (core k t) ∧ (NoAccess v → core k t = { c' with pc := pc, nextAt := plus (core k s).nextAt d, stored := [] })

/-- The Ceari engine runs routine `r`, which has opcode `op` and has not ended, and no trap handler suspends it (R300). -/
def Runs (op : Nat) (r : Routine) (s : State) : Prop :=
  s.ce.cur = some r ∧ r.opcode = op ∧ r.ended = none ∧ s.ce.handlers = []

/-- The running routine `r` has ended at the present tick with a status and results, and awaits its reply. -/
def Ends (st : Nat) (res : List W40) (r : Routine) (s t : State) : Prop :=
  ∃ x, t.ce.cur = some x ∧ x.ring = r.ring ∧ x.tag = r.tag ∧ x.ended = some (st, res, s.time.tick)

/-- The running routine `r` has parked (R295): the engine is free, and a parking place holds it, not yet ended. -/
def Parks (r : Routine) (t : State) : Prop :=
  t.ce.cur = none ∧ ∃ i x, tget? i t.ce.parked = some x ∧ x.ring = r.ring ∧ x.tag = r.tag ∧ x.opcode = r.opcode ∧ x.ended = none

/-! ### Federations -/

/-- R333, R336: the words `ws` are in force from `s` to `t` with the ports of `link`: REACH shows the own device and those from which a
reach message has come within the last 3 us, ROLE of each port follows `link` unless it is the pair port, and FED_STATUS takes `st` in
bits 39:16; no other register changes. -/
def FedTakes (ws : List W40) (link : Nat → Bool) (loaded : Bool) (st : Nat) (s t : State) : Prop :=
  t = { s with regs := t.regs, ce := t.ce, fed := { s.fed with
    words := ws, seen := s.fed.seen.filter (fun e => !due (plus e.2 3000) s), clash := false, depthBad := false } } ∧
  (∀ d, d < 16 → (bR oFedReach d t = true ↔ d = devNum t ∨ ∃ x, (d, x) ∈ s.fed.seen ∧ due (plus x 3000) s = false)) ∧
  fR oFedReach 39 16 t = fR oFedReach 39 16 s ∧
  (∀ p, p < nPorts s → fR (oPortStatus p) 3 2 t =
    if fR (oPortStatus p) 3 2 s = 2 then 2 else if link p then 1 else 0) ∧
  fR oFedStatus 39 16 t = st ∧ bR oFedStatus 0 t = loaded ∧ fR oFedStatus 15 1 t = fR oFedStatus 15 1 s ∧
  ∀ o, o ≠ oFedStatus → o ≠ oFedReach → (∀ p, p < nPorts s → o ≠ oPortStatus p) → getR o t = getR o s

/-- R336: from `s` to `t` device `d` has entered or left REACH, which no longer equals MEMBERS: the device is isolated, FROZEN keeps REACH, and
FED_ISOLATED is recorded. -/
def FedIsolates (s t : State) : Prop :=
  fedWhole s = true → federated s = true → bR oFedStatus 1 s = false →
    bR oFedStatus 1 t = true ∧ fR oFedReach 31 16 t = fR oFedReach 15 0 t ∧ Reports 0x700F 0x70B s t

/-! ### The invariant -/

/-- The fuses surely burnt for the ROLLBACK count: the count in force, or the count before a burst that is under way (R400). -/
def burnt (s : State) : Nat := min (s.sec.burst.getD s.sec.rollback) s.sec.rollback

/-- The memories stand in canonical form: Granary memory, the host's memory and the NVM. -/
def memOk (s : State) : Bool := memWf s.gran.mem && memWf s.gran.hostMem && memWf s.sec.nvm

/-- What no step may undo on the way from `s` to `t`: the fuses stay as burnt at manufacture, ROLLBACK fuses are never unburnt, and
the memories keep their canonical form. -/
structure Keeps (s t : State) : Prop where
  fuses : t.fuses = s.fuses
  burnt : burnt s ≤ burnt t
  mem : memOk s = true → memOk t = true

end Sys2Proof.Machine
end

