-- ==== Sys2Proof/Certificates/Slice0/Obligations.lean ====
section
/-! DEFINITION. The statements about the block. Each says in its docstring which rules it rests on; where it also rests on a
choice of the model, it names the entry of the assumption log. -/

open Sys2Proof Sys2Proof.Machine

/-! ### Sequencer instructions -/

/-- R124, R105: ADD, SUB, AND and XOR write G[RA] op b into G[RD], modulo 2^40, where b is G[RB] or the sign-extended IMM; no
flag changes, and the next instruction issues one tick later. LDI writes its sign-extended immediate, or
its second word at its second issue tick. CMP sets
Z, LT, LTU and LATER from G[RA] - b (R119) and writes no register. Nothing but the sequencer changes. -/
def Obligations.SeqArithmeticAndCompare : Prop :=
  ∀ (g : Nat) (v : W40) (s : State), Issues g v s →
    let q := seq g s
    let a := reg q (fld v 29 26)
    let b := if bit v 25 then wi (sx 25 (fld v 24 0)) else reg q (fld v 3 0)
    let writes := fun (x : W40) (n : Nat) (t : State) =>
      OnlySeq g s t ∧ seq g t = { advanced q n n with g := (seq g t).g } ∧
        ∀ i, reg (seq g t) i = if i = fld v 33 30 then x else reg q i
    (fld v 39 34 = 0x19 → Completes (.add g) s (writes (a + b) 1)) ∧
    (fld v 39 34 = 0x1A → Completes (.sub g) s (writes (a - b) 1)) ∧
    (fld v 39 34 = 0x1B → Completes (.and g) s (writes (a &&& b) 1)) ∧
    (fld v 39 34 = 0x1C → Completes (.xor g) s (writes (a ^^^ b) 1)) ∧
    (fld v 39 34 = 0x18 → bit v 29 = false → Completes (.ldi g) s (writes (wi (sx 29 (fld v 28 0))) 1)) ∧
    (fld v 39 34 = 0x18 → bit v 29 = true → q.pc + 1 < 8192 → due (plus q.issueAt 1) s = true →
      Completes (.ldi g) s (writes (tget 0 (q.pc + 1) q.imem) 2)) ∧
    (fld v 39 34 = 0x1D → Completes (.cmp g) s (fun t => OnlySeq g s t ∧
      seq g t = { advanced q 1 1 with
        z := decide (a - b = 0), lt := decide (a.toInt < b.toInt), ltu := decide (a.toNat < b.toNat),
        later := decide (1 ≤ (a - b).toNat ∧ (a - b).toNat ≤ 2 ^ 39 - 1) }))

/-- R125, Table 5.13: MARK writes its source into G[RD], SRC 7 writes nothing, and H with bit 26 takes the cursor; with EV, bit 25, it fires
the MARK producer of its sequencer at the later of its issue tick and C; its route is taken then. -/
def Obligations.SeqMarkCaptures : Prop :=
  (∀ (g : Nat) (v : W40) (s : State), Issues g v s → fld v 39 34 = 0x1E → bit v 25 = false →
     let q := seq g s
     let src := fld v 29 27
     let x : W40 := match src with
       | 0 => q.cursor
       | 1 => q.start
       | 2 => q.shot
       | 3 => q.issueAt
       | 4 => BitVec.ofNat 40 s.time.epoch.toNat
       | 5 => BitVec.ofNat 40 (fR (oSeqLate g) 39 20 s)
       | _ => BitVec.ofNat 40 (devNum s)
     Completes (.mark g) s (fun t => OnlySeq g s t ∧
       seq g t = { advanced q 1 1 with g := (seq g t).g, hzn := if bit v 26 then q.cursor else q.hzn } ∧
       ∀ i, reg (seq g t) i = if i = fld v 33 30 ∧ src ≠ 7 then x else reg q i)) ∧
  (∀ (g : Nat) (v : W40) (s : State), Issues g v s → fld v 39 34 = 0x1E → bit v 25 = true → s.life ≠ .off → s.life ≠ .staging →
     let u := 640 * (g / 96) + 96 + g % 96
     Completes (.mark g) s (fun t =>
       t = { s with seqs := t.seqs, fabric := t.fabric } ∧
       t.fabric.fires = s.fabric.fires ++
         [⟨later (seq g s).issueAt (seq g s).cursor, 0, (seq g s).depth, some u, false⟩]))

/-- R109, R122, R123, R105, Table 5.9: NOP only takes its tick; JMP jumps; CALL pushes the address after it and jumps; RET pops
and jumps; a LOOP begin with a count pushes its entry, with a count of 0 jumps past END; a LOOP end counts down, jumps back
while something is left, and falls through otherwise; BR on the flags is taken where its condition, inverted by NEG, holds. A jump
takes two issue ticks and acts at the second. -/
def Obligations.SeqControlFlow : Prop :=
  ∀ (g : Nat) (v : W40) (s : State), Issues g v s →
    let q := seq g s
    let target := if bit v 33 then fld (reg q (fld v 32 29)) 12 0 else fld v 12 0
    let goes := fun (q' : Seq) (t : State) => OnlySeq g s t ∧ seq g t = q'
    let jump := fun (q' : Seq) (a : Nat) => { q' with pc := a, issueAt := plus q.issueAt 2 }
    let n := if bit v 32 then reg q (fld v 19 16) else BitVec.ofNat 40 (fld v 31 16)
    let second := due (plus q.issueAt 1) s = true
    (fld v 39 34 = 0x01 → Completes (.nop g) s (goes (advanced q 1 1))) ∧
    (fld v 39 34 = 0x13 → second → Completes (.jmp g) s (goes (jump q target))) ∧
    (fld v 39 34 = 0x14 → second → q.calls.length < 8 →
      Completes (.call g) s (goes (jump { q with calls := (q.pc + 1) :: q.calls } target))) ∧
    (fld v 39 34 = 0x15 → second → ∀ a r, q.calls = a :: r → Completes (.ret g) s (goes (jump { q with calls := r } a))) ∧
    (fld v 39 34 = 0x16 → bit v 33 = false → n ≠ 0 → q.loops.length < 8 →
      Completes (.loopBegin g) s (goes { advanced q 1 1 with loops := ⟨q.pc + 1, n⟩ :: q.loops })) ∧
    (fld v 39 34 = 0x16 → bit v 33 = false → n = 0 → second → Completes (.loopBegin g) s (goes (jump q (fld v 12 0 + 1)))) ∧
    (fld v 39 34 = 0x16 → bit v 33 = true → ∀ l r, q.loops = l :: r → (l.left - 1 ≠ 0 → second) →
      Completes (.loopEnd g) s (goes
        (if l.left - 1 ≠ 0 then jump { q with loops := { l with left := l.left - 1 } :: r } l.first
         else { advanced q 1 1 with loops := r }))) ∧
    (fld v 39 34 = 0x12 → fld v 33 32 = 0 → fld v 26 23 < 13 →
      let c := match fld v 26 23 with
        | 0 => true
        | 1 => q.z
        | 2 => !q.z
        | 3 => q.lt
        | 4 => !q.lt
        | 5 => q.ltu
        | 6 => !q.ltu
        | 7 => q.later
        | 8 => !q.later
        | 9 => q.tO
        | 10 => !q.tO
        | 11 => q.orphan
        | _ => !q.orphan
      (c ≠ bit v 29 → second) → Completes (.brFlags g) s (goes (if c = bit v 29 then advanced q 1 1 else jump q (fld v 12 0))))

/-- R107, R108, R87, R88, R110: WAIT adds to the cursor, AT loads it (from its second word at its second issue tick), SHOT and HALT declare the boundary at the latest of the
cursor, the tick after their issue and the end ticks of the shot, FENCE waits for the latest end tick. -/
def Obligations.SeqTimeInstructions : Prop :=
  ∀ (g : Nat) (v : W40) (s : State), Issues g v s →
    let q := seq g s
    let goes := fun (q' : Seq) (t : State) => OnlySeq g s t ∧ seq g t = q'
    let b0 := later q.cursor (plus q.issueAt 1)
    let b := match q.ends with | some x => later x b0 | none => b0
    (fld v 39 34 = 0x04 → Completes (.wait g) s (goes { advanced q 1 1 with
      cursor := q.cursor + (if bit v 33 then reg q (fld v 32 29) else BitVec.ofNat 40 (fld v 28 0)) })) ∧
    (fld v 39 34 = 0x05 → fld v 33 32 = 0 →
      Completes (.atCursor g) s (goes { advanced q 1 1 with cursor := reg q (fld v 31 28) })) ∧
    (fld v 39 34 = 0x05 → fld v 33 32 = 1 →
      Completes (.atCursor g) s (goes { advanced q 1 1 with cursor := q.start + BitVec.ofNat 40 (fld v 27 0) })) ∧
    (fld v 39 34 = 0x05 → fld v 33 32 = 2 → q.pc + 1 < 8192 → due (plus q.issueAt 1) s = true →
      Completes (.atCursor g) s (goes { advanced q 2 2 with cursor := tget 0 (q.pc + 1) q.imem })) ∧
    (fld v 39 34 = 0x03 → Completes (.shot g) s (goes { q with pc := q.pc + 1, bound := some ⟨b, fld v 23 0, false⟩ })) ∧
    (fld v 39 34 = 0x02 → Completes (.halt g) s (goes { q with pc := q.pc + 1, bound := some ⟨b, 0, true⟩ })) ∧
    (fld v 39 34 = 0x06 → Completes (.fence g) s (goes { q with
      pc := q.pc + 1, st := .waiting, wait := .fence (match q.ends with | some x => later x q.issueAt | none => q.issueAt) }))

/-- R77, R78, R80, R111-R115, Table 4.2: an action instruction whose launch tick C is on time, in a queue with room and with
fewer than eight entries of that tick, puts its entry into the timeline queue, behind the entries that launch no later; the
cursor stays. The issue tick is the instruction's, or the tick after an entry has left a full queue. -/
def Obligations.SeqActionsQueue : Prop :=
  ∀ (g : Nat) (v : W40) (s : State), Issues g v s →
    let q := seq g s
    let e := match q.roomAt with | some x => later x q.issueAt | none => q.issueAt
    q.queue.length < 64 → due e s = true → notBefore q.cursor (plus e 4) = true → notBefore q.cursor q.start = true →
    (q.queue.filter (fun y => y.launch == q.cursor)).length + (s.down.filter (fun y => y.1 == g && y.2.launch == q.cursor)).length < 8 →
    let puts := fun (act : Act) (ext : Nat) (t : State) => OnlySeq g s t ∧
      (∃ pre post, q.queue = pre ++ post ∧ (seq g t).queue = pre ++ ⟨q.cursor, act, plus q.cursor ext⟩ :: post ∧
        (∀ e ∈ pre, notBefore q.cursor e.launch = true) ∧ (∀ e ∈ post.head?, notBefore q.cursor e.launch = false)) ∧
      seq g t = { q with
        pc := q.pc + 1, issueAt := plus e 1, roomAt := none, queue := (seq g t).queue,
        ends := match q.ends with | some x => some (later (plus q.cursor ext) x) | none => some (plus q.cursor ext) }
    let len := fF (oWaveDesc (g / 96) (fld v 24 13)) 19 2 s
    let lasts := fun (n : Nat) => if len = 0 then 0 else if fld v 32 29 = 0 ∧ fld v 28 25 = 0 then n else n + 1
    let val := BitVec.ofNat 20 (if bit v 31 then fld (reg q (fld v 30 27)) 19 0 else fld v 19 0)
    let probe := decide (fld v 33 32 = 1)
    (fld v 39 34 = 0x09 → (bit v 33 = true ∨ g % 96 < 64) →
      Completes (.play g) s (puts (.play (bit v 33) (fld v 32 29) (fld v 28 25) (fld v 24 13)) (lasts ((len + 1) / 2)))) ∧
    (fld v 39 34 = 0x0A → Completes (.playf g) s (puts (.playf (fld v 32 29) (fld v 28 25) (fld v 24 13)) (lasts len))) ∧
    (fld v 39 34 = 0x0B → fld v 33 21 ≤ 4096 → Completes (.acq g) s (puts (.acq (fld v 33 21) q.shot) (fld v 33 21))) ∧
    (fld v 33 32 = 1 ∨ (fld v 33 32 = 0 ∧ g % 96 < 64) →
      (fld v 39 34 = 0x0C → Completes (.setf g) s (puts
        (.setf probe (fld v 31 29) (if bit v 28 then some (reg q (fld v 27 24)) else none)) 0)) ∧
      (fld v 39 34 = 0x0D → Completes (.setp g) s (puts (.setp probe val) 0)) ∧
      (fld v 39 34 = 0x0E → Completes (.vz g) s (puts (.vz probe val) 0)) ∧
      (fld v 39 34 = 0x0F → Completes (.seta g) s (puts (.seta probe val) 0))) ∧
    (fld v 39 34 = 0x10 → Completes (.bias g) s (puts
      (.bias (BitVec.ofNat 20 (if bit v 33 then fld (reg q (fld v 32 29)) 19 0 else fld v 19 0))) 0)) ∧
    (fld v 39 34 = 0x11 → Completes (.strobe g) s (puts .strobe 0))

/-- R75, R126, Table 5.14: where and with which kind an instruction faults. The sequencer enters FAULTED and issues nothing
further, its timeline queue stays, and the record carries the kind in DETAIL 19:17, the sequencer and the address in word 3.
(Stated for a queue that still holds entries; with none left the sequencer also leaves its shot. That a second word beyond 8,191 faults with
address 8,192 is the model's choice, log entry 127.) -/
def Obligations.SeqFaults : Prop :=
  ∀ (g : Nat) (v : W40) (s : State), Issues g v s →
    let q := seq g s
    q.queue ≠ [] → q.queue.length < 64 →
    let n := if bit v 32 then reg q (fld v 19 16) else BitVec.ofNat 40 (fld v 31 16)
    let e := match q.roomAt with | some x => later x q.issueAt | none => q.issueAt
    let faults := fun (kind a : Nat) (q' : Seq) (t : State) =>
      Logged (0x1000 + g) 0x300 (kind * 2 ^ 17) (BitVec.ofNat 40 (g * 2 ^ 20 + a)) s t ∧
      t = { s with seqs := t.seqs, log := t.log } ∧ (∀ k, k ≠ g → seq k t = seq k s) ∧
      seq g t = { q' with st := .faulted, wait := .none, bound := none }
    let q1 : Seq := { q with issueAt := e, roomAt := none }
    let op := fld v 39 34
    ((op = 0 ∨ op = 0x17 ∨ 0x1F ≤ op) → Completes (.undefinedOpcode g) s (faults 0 q.pc q)) ∧
    (op = 0x05 → fld v 33 32 = 3 → Completes (.atCursor g) s (faults 1 q.pc q)) ∧
    (op = 0x12 → fld v 33 32 = 0 → 13 ≤ fld v 26 23 → Completes (.brFlags g) s (faults 1 q.pc q)) ∧
    (due e s = true →
      (op = 0x0B → 4096 < fld v 33 21 → Completes (.acq g) s (faults 1 q.pc q1)) ∧
      (op = 0x0C → 2 ≤ fld v 33 32 → Completes (.setf g) s (faults 1 q.pc q1)) ∧
      (op = 0x0D → 2 ≤ fld v 33 32 → Completes (.setp g) s (faults 1 q.pc q1)) ∧
      (op = 0x0E → 2 ≤ fld v 33 32 → Completes (.vz g) s (faults 1 q.pc q1)) ∧
      (op = 0x0F → 2 ≤ fld v 33 32 → Completes (.seta g) s (faults 1 q.pc q1)) ∧
      (op = 0x09 → bit v 33 = false → 64 ≤ g % 96 → Completes (.play g) s (faults 7 q.pc q1))) ∧
    (op = 0x16 → bit v 33 = false → n ≠ 0 → 8 ≤ q.loops.length → Completes (.loopBegin g) s (faults 2 q.pc q)) ∧
    (op = 0x16 → bit v 33 = true → q.loops = [] → Completes (.loopEnd g) s (faults 3 q.pc q)) ∧
    (due (plus q.issueAt 1) s = true →
      (op = 0x14 → 8 ≤ q.calls.length → Completes (.call g) s (faults 4 q.pc q)) ∧
      (op = 0x15 → q.calls = [] → Completes (.ret g) s (faults 5 q.pc q))) ∧
    (op = 0x18 → bit v 29 = true → q.pc = 8191 → Completes (.ldi g) s (faults 6 8192 q))

/-- R82, R110, R120, R84, R116: what a wait does when it completes. FENCE completes at its tick X; EVWAIT at once where its latch is
set (TO 0, the latch clears), else it waits with its deadline, at which TO is 1; a BR on a verdict whose verdict is present
resolves at its issue by its test and NEG or by its absent path, else it waits; at its deadline it takes its absent path. In every
case the cursor becomes the later of C and X + 7, and the next instruction issues at X + 1, or at X + 2 after a taken BR. -/
def Obligations.SeqWaitsComplete : Prop :=
  ∀ (g : Nat) (s : State),
    let q := seq g s
    let done := fun (x : Tick) (d : Nat) (q' : Seq) (t : State) => OnlySeq g s t ∧
      seq g t = { q' with st := .running, wait := .none, cursor := later q.cursor (plus x 7), issueAt := plus x d }
    let taken := fun (b : Bool) (tgt nxt : Nat) (x : Tick) => done x (if b then 2 else 1) { q with pc := if b then tgt else nxt }
    (∀ x, g < nSeqs s → q.wait = .fence x → due x s = true → Completes (.fenceComplete g) s (done x 1 q)) ∧
    (∀ i dl, g < nSeqs s → q.wait = .ev i (some dl) → due dl s = true →
      Completes (.evwaitDeadline g) s (done dl 1 { q with tO := true, depth := 0 })) ∧
    (∀ b dl, g < nSeqs s → q.wait = .br b → b.dl = some dl → due dl s = true →
      Completes (.brDeadline g) s (taken b.abs b.target b.next dl)) ∧
    (∀ v, Issues g v s → fld v 39 34 = 0x08 → bit v 33 = false → q.latch0.set = true →
      Completes (.evwait g) s (done q.issueAt 1
        { q with pc := q.pc + 1, latch0 := {}, tO := false, depth := min 15 (q.latch0.depth + 1) })) ∧
    (∀ v, Issues g v s → fld v 39 34 = 0x08 → bit v 33 = true → q.latch1.set = true →
      Completes (.evwait g) s (done q.issueAt 1
        { q with pc := q.pc + 1, latch1 := {}, tO := false, depth := min 15 (q.latch1.depth + 1) })) ∧
    (∀ v, Issues g v s → fld v 39 34 = 0x08 → (if bit v 33 then q.latch1 else q.latch0).set = false →
      Completes (.evwait g) s (fun t => OnlySeq g s t ∧ seq g t = { q with
        pc := q.pc + 1, st := .waiting,
        wait := .ev (fld v 33 33)
          (if bit v 32 then none else some (later q.issueAt (q.cursor + BitVec.ofNat 40 (fld v 31 16)))) })) ∧
    (∀ v, Issues g v s → fld v 39 34 = 0x12 → fld v 33 32 = 1 → q.pc + 1 < 8192 → due (plus q.issueAt 1) s = true →
      let v1 := tget 0 (q.pc + 1) q.imem
      let e := vent (fld v1 39 26) s
      let present := vValid e.seqWord && notBefore e.seqRef q.hzn && !(bit v 30 && vEarly e.seqWord)
      let test := match fld v 28 27 with
        | 0 => (fld v 26 23).testBit (vState e.seqWord)
        | 1 => bit e.seqWord 19
        | 2 => vEarly e.seqWord
        | _ => decide (fld v1 7 0 ≤ fld e.seqWord 18 11)
      (present = true → Completes (.brVerdict g) s
        (taken (if vAbsent e.seqWord then bit v 31 else test != bit v 29) (fld v 12 0) (q.pc + 2) (plus q.issueAt 1))) ∧
      (present = false → Completes (.brVerdict g) s (fun t => OnlySeq g s t ∧ (seq g t).st = .waiting ∧
        (seq g t).pc = q.pc + 2 ∧ ∃ b, (seq g t).wait = .br b ∧ b.index = fld v1 39 26 ∧ b.target = fld v 12 0 ∧
          b.abs = bit v 31 ∧ b.dl = (if bit v1 9 then none
            else some (later (plus q.issueAt 1) (q.cursor + BitVec.ofNat 40 (fld v1 25 10)))))))

/-- R92, R94, R121, R82: a SYNC at its tick arrives at its barrier, whose mask names no other device: the last of LOCAL_COUNT
arrivals fixes the release at A_d + 4 + RELEASE_DELAY, A_d being its tick, but no earlier than the tick after the release before. A SYNC whose
cursor tick has not come is held in WAITING. At the release every member leaves the barrier with the cursor at the
later of C and R + 7. A completion notice of another
device is held by its barrier; while ISOLATED is set, one of a device outside FROZEN is held back and counted (R337). BARRIER_CFG takes the
value written while nothing has arrived at the barrier. -/
def Obligations.BarriersMeetAndRelease : Prop :=
  (∀ (g : Nat) (v : W40) (s : State), Issues g v s → fld v 39 34 = 0x07 →
    let q := seq g s
    let b := fld v 7 0
    let x := later q.issueAt q.cursor
    let u := barrier b s
    let n := fR (oBarrierCfg b) 9 0 s
    let a := match u.lastRel with | some (r, ep) => if ep = s.time.epoch ∧ notBefore r x then plus r 1 else x | none => x
    (∀ c y, q.wait ≠ .hold c y) →
    due x s = true → fR (oBarrierCfg b) 39 24 s = 0 → u.release = none → u.localAt = none → n ≠ 0 →
    Completes (.sync g) s (fun t =>
      t = { s with seqs := t.seqs, barriers := t.barriers } ∧
      seq g t = { q with pc := q.pc + 1, st := .waiting, wait := .sync b } ∧ (∀ k, k ≠ g → seq k t = seq k s) ∧
      (barrier b t).now = u.now ++ [g] ∧ (∀ c, c ≠ b → barrier c t = barrier c s) ∧
      (barrier b t).release = if n ≤ u.now.length + 1 then some (plus a (4 + fR (oBarrierCfg b) 23 10 s)) else none)) ∧
  (∀ (g : Nat) (v : W40) (s : State), Issues g v s → fld v 39 34 = 0x07 → (∀ c y, (seq g s).wait ≠ .hold c y) →
    let x := later (seq g s).issueAt (seq g s).cursor
    due x s = false → Completes (.sync g) s (fun t => OnlySeq g s t ∧
      seq g t = { seq g s with st := .waiting, wait := .hold (fld v 7 0) x })) ∧
  (∀ (b : Nat) (r : Tick) (s : State), b < 256 → (barrier b s).release = some r → due r s = true → (barrier b s).solo = [] →
    Completes (.barrierRelease b) s (fun t =>
      ∀ g ∈ (barrier b s).now, (seq g s).wait = .sync b →
        seq g t = { seq g s with
          st := .running, wait := .none, cursor := later (seq g s).cursor (plus r 7),
          issueAt := plus r 1, orphan := (seq g s).orphan || (barrier b s).failed })) ∧
  (∀ (b dev : Nat) (ad : Tick) (s : State), b < 256 → federated s = true → (barrier b s).release = none →
    (barrier b s).notices = [] → (barrier b s).localAt = none → fR (oBarrierCfg b) 9 0 s ≠ 0 →
    (fR (oBarrierCfg b) 39 24 s).testBit (dev + 1) = true → dev + 1 < 16 → bR oFedStatus 1 s = false →
    Completes (.barrierNotice b dev ad) s (fun t => t = { s with barriers := t.barriers } ∧
      (barrier b t).notices = [(dev, ad)] ∧ (barrier b t).release = none)) ∧
  (∀ (b dev : Nat) (ad : Tick) (s : State), b < 256 → federated s = true → dev < 16 → dev ≠ devNum s →
    bR oFedStatus 1 s = true → bR oFedReach (16 + dev) s = false → fR oFedCounts 39 20 s < 2 ^ 20 - 1 →
    Completes (.barrierNotice b dev ad) s (fun t => OnlyRegs [oFedCounts] s t ∧
      fR oFedCounts 39 20 t = fR oFedCounts 39 20 s + 1 ∧ fR oFedCounts 19 0 t = fR oFedCounts 19 0 s)) ∧
  (∀ (m b : Nat) (v : W40) (s : State), Reaches .barrierCfg [b] m (oBarrierCfg b) v s → s.fresh = [] →
    Completes (.barrierCfgWrite m b v) s (fun t => OnlyRegs [oBarrierCfg b] s t ∧ getR (oBarrierCfg b) t = v))

/-- R76, R19: the head entry of a timeline queue leaves for the tile four ticks before its launch tick, behind the entries already on their
way. R112-R115: an action acts on its tile at its launch tick: SETP sets and VZ adds to the virtual Z, SETA loads the
amplitude scale, SETF selects its bank, ACQ opens a window, and BIAS writes the pending code at the end of the tick, after the tick's register
writes (R151). Stated for the drive tone, whose
settings leave the slot alone. -/
def Obligations.TimelineAndTileActions : Prop :=
  (∀ (g : Nat) (x : QEntry) (r : List QEntry) (s : State), g < nSeqs s → (seq g s).queue = x :: r → r.length < 63 →
     due (minus x.launch 4) s = true → (seq g s).st ≠ .faulted →
     Completes (.timelineDispatch g) s (fun t => t = { s with seqs := t.seqs, down := s.down ++ [(g, x)] } ∧
       seq g t = { seq g s with queue := r } ∧ ∀ k, k ≠ g → seq k t = seq k s)) ∧
  (∀ (g : Nat) (e : QEntry) (pre post : List (Nat × QEntry)) (s : State), g < nSeqs s → s.down = pre ++ (g, e) :: post →
     (∀ y ∈ pre, y.1 ≠ g) → due e.launch s = true → tilePowered (g / 96) s = true →
     (∀ v, e.act = .setp false v → Completes (.tileAction g) s (fun t => t = { s with down := pre ++ post, drv := t.drv } ∧
       drv g t = { drv g s with vz := v } ∧ ∀ k, k ≠ g → drv k t = drv k s)) ∧
     (∀ v, e.act = .vz false v → Completes (.tileAction g) s (fun t => t = { s with down := pre ++ post, drv := t.drv } ∧
       drv g t = { drv g s with vz := (drv g s).vz + v } ∧ ∀ k, k ≠ g → drv k t = drv k s)) ∧
     (∀ v, e.act = .seta false v → Completes (.tileAction g) s (fun t => t = { s with down := pre ++ post, force := t.force } ∧
       fF (oDrvCtl g) 19 0 t = v.toNat ∧ ∀ o, o ≠ oDrvCtl g → getF o t = getF o s)) ∧
     (∀ b, b < 8 → e.act = .setf false b none → Completes (.tileAction g) s (fun t =>
       t = { s with
         regs := t.regs, force := t.force, log := t.log, down := t.down, drv := t.drv, prb := t.prb, flux := t.flux, bias := t.bias,
           slots := t.slots, wits := t.wits, fabric := t.fabric } ∧
       fF (oDrvCtl g) 22 20 t = b)) ∧
     (∀ c, e.act = .bias c → Completes (.tileAction g) s (fun t =>
       t = { s with down := pre ++ post, fabric := { s.fabric with acts := s.fabric.acts ++ [(g, e)] } }) ∧
       OnlyRegs [oBiasCode g] s (biasAct e g s) ∧ getR (oBiasCode g) (biasAct e g s) = BitVec.ofNat 40 c.toNat) ∧
     (∀ shot, e.act = .acq 0 shot → Completes (.tileAction g) s (fun t =>
       ∃ v, (slot g t).wins = (slot g s).wins ++ [v] ∧ v.t = e.launch ∧ v.w = 0 ∧ v.shot = shot)))

/-- R89, R90, R81, Table 4.4: START arms an idle, done or faulted sequencer with its stacks and flags cleared; STOP ends an armed
one, and stops a running or waiting one at its next boundary; ABORT drops everything and enters IDLE; RESUME_SKIP drops the late
action; RESUME_RETIME launches it at E' + 4 and moves the cursor with it. (The tick at which issuing resumes after RESUME_SKIP is the
model's choice, log entry 129.) -/
def Obligations.SeqCommands : Prop :=
  ∀ (m g : Nat) (s : State), g < nSeqs s →
    let q := seq g s
    let at_ := fun (c : W40) => Reaches .seqCmd [g / 96, g % 96] m (oSeqCmd g) c s
    (at_ 1 → (q.st = .idle ∨ q.st = .done) → q.unbHeld = false → s.glean.run = [] →
      (∀ r ∈ s.ce.cur.toList ++ s.ce.parked.map (fun e => e.2), r.opcode ≠ 0x301) →
      Completes (.start m g) s (fun t => OnlySeq g s t ∧ seq g t = { q with
        st := .armed, stopReason := 0, loops := [], calls := [], shot := 0, z := false, lt := false, ltu := false,
        later := false, tO := false, stopReq := false })) ∧
    (at_ 2 → q.st = .armed → Completes (.stop m g) s (fun t => OnlySeq g s t ∧ seq g t = { q with st := .idle })) ∧
    (at_ 2 → (q.st = .running ∨ q.st = .waiting) →
      Completes (.stop m g) s (fun t => OnlySeq g s t ∧ seq g t = { q with stopReq := true })) ∧
    (at_ 3 → insideShot q = false → Completes (.abort m g) s (fun t =>
      (seq g t).st = .idle ∧ (seq g t).queue = [] ∧ (seq g t).loops = [] ∧ (seq g t).calls = [] ∧ (seq g t).wait = .none ∧
      (∀ b, g ∉ (barrier b t).now) ∧ (∀ k, k ≠ g → seq k t = seq k s) ∧ t = { s with seqs := t.seqs, barriers := t.barriers })) ∧
    (at_ 4 → q.st = .stalled → Completes (.resumeSkip m g) s (fun t => OnlySeq g s t ∧
      seq g t = { q with st := .running, stalled := none, issueAt := later (plus s.time.tick 1) q.issueAt })) ∧
    (∀ x, at_ 5 → q.st = .stalled → q.stalled = some x → notBefore (plus s.time.tick 4) q.start = true →
      (q.queue.filter (fun y => y.launch == plus s.time.tick 4)).length
        + (s.down.filter (fun y => y.1 == g && y.2.launch == plus s.time.tick 4)).length < 8 → Completes (.resumeRetime m g) s (fun t => OnlySeq g s t ∧
      (seq g t).st = .running ∧ (seq g t).stalled = none ∧ (seq g t).cursor = q.cursor + (plus s.time.tick 4 - x.launch) ∧
      { x with launch := plus s.time.tick 4, fin := x.fin + (plus s.time.tick 4 - x.launch) } ∈ (seq g t).queue))

/-- R91, R87, R88, R89: an armed sequencer starts at the first tick of READY, SEQUENCE 1 and HOLD 0, at its ENTRY, with shot 0 at
A + 8. At its boundary B the shot number grows by 1; after HALT the sequencer is DONE, after a STOP command STOPPED with reason 3,
and where nothing holds it, it runs on; in every case cursor, horizon and start tick of the next shot stand at B + max(g, 8). A stopped one resumes, once nothing holds it, with the
later of that tick and U + 8. -/
def Obligations.SeqStartsAndEnds : Prop :=
  ∀ (g : Nat) (s : State), g < nSeqs s →
    let q := seq g s
    let opens := fun (o : Tick) (t : State) => (seq g t).start = o ∧ (seq g t).cursor = o ∧ (seq g t).hzn = o
    (q.st = .armed → NothingHolds s → s.armAfter = none → s.glean.run = [] →
      Completes (.armedStart g) s (fun t => (seq g t).st = .running ∧ opens (plus s.time.tick 8) t ∧
        (seq g t).pc = fF (oSeqCtl g) 12 0 s ∧ (seq g t).issueAt = s.time.tick ∧ ∀ k, k ≠ g → seq k t = seq k s)) ∧
    (q.st = .stopped → q.stopReason ≠ 3 → NothingHolds s → s.glean.run = [] →
      Completes (.sequencerResume g) s (fun t => (seq g t).st = .running ∧ (seq g t).stopReason = 0 ∧
        opens (later q.resumeB (plus s.time.tick 8)) t ∧ ∀ k, k ≠ g → seq k t = seq k s)) ∧
    (∀ b, q.st = .running → q.bound = some b → due b.b s = true → s.safePend = none → s.therm.shutAt = none →
      Completes (.shotBoundary g) s (fun t => (seq g t).shot = q.shot + 1 ∧ (seq g t).bound = none ∧
        (b.halt = true → (seq g t).st = .done) ∧
        (b.halt = false → q.stopReq = true → (seq g t).st = .stopped ∧ (seq g t).stopReason = 3) ∧
        (b.halt = false → q.stopReq = false → NothingHolds s → s.modeWas = none →
          (seq g t).st = .running) ∧
        opens (plus b.b (max b.gap 8)) t))

/-- R73, R101: a write of SEQ_GREG outside a shot sets the general register of its sequencer; inside a shot it is dropped, with a record of
STATE_REFUSED; a read answers the register's value. -/
def Obligations.SeqGregAccesses : Prop :=
  ∀ (m g i : Nat) (v : W40) (s : State), g < nSeqs s → i < 16 → fnReaches m s = true → staged m s = none →
    absentAt (oSeqGreg g i) s = none → unpoweredAt (oSeqGreg g i) s = false → mayAct m (seqDom g s) (seqSec g s) = true →
    (insideShot (seq g s) = false → Completes (.seqGregWrite m g i v) s (fun t => OnlySeq g s t ∧
      seq g t = { seq g s with g := (seq g t).g } ∧ ∀ k, reg (seq g t) k = if k = i then v else reg (seq g s) k)) ∧
    (insideShot (seq g s) = true → Completes (.seqGregWrite m g i v) s (Logged (0x1000 + g) 2 0 0 s) ∧
      Completes (.seqGregWrite m g i v) s (fun t => t = { s with log := t.log })) ∧
    Completes (.bar0LowRead m (oSeqGreg g i)) s (fun t =>
      t.host.readOut = BitVec.ofNat 40 ((reg (seq g s) i).toNat % 2 ^ 32) ∧
      tget? m t.host.rlatch = some (oSeqGreg g i, reg (seq g s) i) ∧ t = { s with host := t.host })

/-! ### Outputs -/

/-- R98, R100, R131, R422: outside a shot a commit takes effect at once: every shadow of the unit moves into force, and nothing else
that is in force changes; inside a shot it waits for the boundary of its sequencer. A write of XY_CFG sets the output's GAIN. -/
def Obligations.CommitsTakeEffect : Prop :=
  ∀ (m g : Nat) (s : State), g < nSeqs s →
    let is := [g / 96, g % 96]
    let waits := fun (u : Nat) (t : State) => t = { s with seqs := t.seqs, fresh := t.fresh } ∧
      (seq g t).commits = insNat u (seq g s).commits ∧ ∀ k, k ≠ g → seq k t = seq k s
    (insideShot (seq g s) = false →
      (Reaches .seqCommit is m (oSeqCommit g) 1 s → Completes (.seqCommit m g) s (fun t =>
        t = { s with
          regs := t.regs, force := t.force, log := t.log, seqs := t.seqs, drv := t.drv, prb := t.prb, slots := t.slots,
            fresh := t.fresh } ∧
        Commits [oSeqCtl g, oSeqEvsel g 0, oSeqEvsel g 1] s t ∧ t.regs = s.regs)) ∧
      (Reaches .drvCommit is m (oDrvCommit g) 1 s → Completes (.drvCommit m g) s (fun t =>
        t = { s with
          regs := t.regs, force := t.force, log := t.log, seqs := t.seqs, drv := t.drv, prb := t.prb, slots := t.slots,
            fresh := t.fresh } ∧
        Commits ((upTo 8).map (oDrvFreq g) ++ (upTo 8).map (oDrvPhase g) ++ [oDrvCtl g]) s t ∧ t.regs = s.regs)) ∧
      (Reaches .prbCommit is m (oPrbCommit g) 1 s → Completes (.prbCommit m g) s (fun t =>
        t = { s with
          regs := t.regs, force := t.force, log := t.log, seqs := t.seqs, drv := t.drv, prb := t.prb, slots := t.slots,
            fresh := t.fresh } ∧
        Commits ((upTo 8).map (oPrbFreq g) ++ (upTo 8).map (oPrbPhase g) ++ [oPrbCtl g]) s t ∧ t.regs = s.regs)) ∧
      (Reaches .fluxCommit is m (oFluxCommit g) 1 s → Completes (.fluxCommit m g) s (fun t =>
        t = { s with force := t.force, flux := t.flux, fresh := t.fresh } ∧
        Commits (oFluxGain g :: (upTo 4).map (oFluxIir g) ++ (upTo 64).map (oFluxFir g)) s t ∧ t.regs = s.regs)) ∧
      (Reaches .slotCommit is m (oSlotCommit g) 1 s → (slot g s).loading = false →
        Completes (.slotCommit m g) s (fun t =>
          t = { s with
            regs := t.regs, force := t.force, log := t.log, seqs := t.seqs, drv := t.drv, prb := t.prb, slots := t.slots,
              fresh := t.fresh } ∧
          Commits (slotRegs g) s t ∧
          bR (oThrFlags g) 7 t = !bR (oThrFlags g) 7 s))) ∧
    (insideShot (seq g s) = true → (seq g s).commits = [] →
      (Reaches .seqCommit is m (oSeqCommit g) 1 s → Completes (.seqCommit m g) s (waits 0)) ∧
      (Reaches .drvCommit is m (oDrvCommit g) 1 s → Completes (.drvCommit m g) s (waits 1)) ∧
      (Reaches .prbCommit is m (oPrbCommit g) 1 s → Completes (.prbCommit m g) s (waits 2)) ∧
      (Reaches .slotCommit is m (oSlotCommit g) 1 s → Completes (.slotCommit m g) s (waits 3)) ∧
      (Reaches .fluxCommit is m (oFluxCommit g) 1 s → Completes (.fluxCommit m g) s (waits 4)))

/-- R97: a write of a waveform descriptor that would end beyond the tile's waveform memory is dropped, with a record of PARAM_INVALID, and
the shadow keeps its value. R98, R135: WAVE_COMMIT moves the descriptor shadows of its tile into force; a write of XY_CFG sets the GAIN
of its output and leaves every other register. -/
def Obligations.WaveDescriptorsAndXyGain : Prop :=
  (∀ (m u n : Nat) (v : W40) (s : State), u < nTiles s → n < 4096 → fnReaches m s = true → staged m s = none →
    tilePowered u s = true → mayAct m (tileDom u s) (tileSec u s) = true → 2097152 < 8 * fld v 37 20 + fld v 19 2 →
    Completes (.registerWrite m (oWaveDesc u n) v) s (fun t => t = { s with log := t.log } ∧ Logged (0xF000 + u) 4 0 0 s t ∧
      getR (oWaveDesc u n) t = getR (oWaveDesc u n) s)) ∧
  (∀ (m u : Nat) (s : State), Reaches .waveCommit [u] m (oWaveCommit u) 1 s →
    Completes (.waveCommit m u) s (fun t =>
      t = { s with force := t.force, fresh := t.fresh } ∧
      Commits ((upTo 4096).map (oWaveDesc u)) s t ∧ t.regs = s.regs)) ∧
  (∀ (m u x : Nat) (v : W40) (s : State), x < 16 → Reaches .xyCfg [u, x] m (oXyCfg (16 * u + x)) v s → s.fresh = [] →
    Completes (.xyCfgWrite m u x v) s (fun t => OnlyRegs [oXyCfg (16 * u + x)] s t ∧
      fR (oXyCfg (16 * u + x)) 2 0 t = fld v 2 0))

/-! ### Bias outputs -/

/-- R149, R150, R152, R154: a write of BIAS_CODE only sets the pending code; a BIAS_STROBE write of its domain, or of domain 0, loads
it on every channel of the group in READY, and is discarded and counted in SAFE. -/
def Obligations.BiasCodeAndStrobe : Prop :=
  (∀ (m c : Nat) (v : W40) (s : State), Reaches .biasCode [c / 96, c % 96] m (oBiasCode c) v s → s.fresh = [] →
    Completes (.biasCodeWrite m c v) s (fun t => OnlyRegs [oBiasCode c] s t ∧ fR (oBiasCode c) 19 0 t = fld v 19 0)) ∧
  (∀ (m u grp : Nat) (s : State), grp < 16 → Reaches .biasStrobe [u] m (oBiasStrobe u) (BitVec.ofNat 40 (2 ^ grp)) s →
    s.life = .ready → mode 5 s = false → s.fabric.strobes = [] →
    Completes (.biasStrobe m u (BitVec.ofNat 40 (2 ^ grp))) s (fun t =>
      ∀ c, c < 96 → let g := 96 * u + c
        fF (oBiasCfg g) 39 36 s = grp → (m = 0 ∨ seqDom g s = m) → (biasC g s).rest = false → spanBusy (biasC g s) = false →
        (biasC g t).target = sx 20 (fR (oBiasCode g) 19 0 s) ∧ (biasC g t).aim = sx 20 (fR (oBiasCode g) 19 0 s))) ∧
  (∀ (m u grp : Nat) (s : State), grp < 16 → Reaches .biasStrobe [u] m (oBiasStrobe u) (BitVec.ofNat 40 (2 ^ grp)) s →
    s.life = .safe → s.fabric.strobes = [] → fR (oBiasDiscard u) 39 20 s < 2 ^ 20 - 1 →
    Completes (.biasStrobe m u (BitVec.ofNat 40 (2 ^ grp))) s (fun t =>
      t = { s with regs := t.regs, force := t.force, bias := t.bias, fabric := t.fabric } ∧
      t.bias = s.bias ∧ fR (oBiasDiscard u) 39 20 t = fR (oBiasDiscard u) 39 20 s + 1))

/-- R155, R156, R158: one slew step moves the code by STEP towards its aim, or onto it, and the next step follows INTERVAL periods of
CK3 later; with STEP 0 the output jumps. The dwells of a span change last 20 us each, and the span switches between them. -/
def Obligations.BiasSlewsAndDwells : Prop :=
  ∀ (c : Nat) (x : Tick) (s : State),
    let b := biasC c s
    let step := fF (oBiasCfg c) 31 16 s
    let d := 10 * max 1 (fF (oBiasCfg c) 15 0 s)
    let only := fun (t : State) => t = { s with bias := t.bias } ∧ ∀ k, k ≠ c → biasC k t = biasC k s
    (b.phase = .slew → b.nextAt = some x → due x s = true → b.connected = true → b.rest = false → b.out ≠ b.aim →
      ((step = 0 ∨ (b.aim - b.out).natAbs ≤ step) → Completes (.biasSlewStep c) s (fun t => only t ∧
        biasC c t = { b with out := b.aim, phase := .idle, nextAt := none })) ∧
      (step ≠ 0 → step < (b.aim - b.out).natAbs → Completes (.biasSlewStep c) s (fun t => only t ∧
        biasC c t = { b with out := if b.out < b.aim then b.out + step else b.out - step, nextAt := some (plus x d) }))) ∧
    (b.phase = .dwellA x → due x s = true → b.connected = true → Completes (.spanDwellEnd c) s (fun t =>
      biasC c t = { b with span := b.aimSpan, phase := .dwellB (plus x 20000), nextAt := none } ∧
      OnlyRegs [oBiasQf c] { s with bias := t.bias } t)) ∧
    (b.phase = .dwellB x → due x s = true → b.connected = true → b.aim = 0 → Completes (.spanDwellEnd c) s (fun t => only t ∧
      biasC c t = { b with phase := .idle, nextAt := none }))

/-- R162, R163: entry to current limit sets ILIMIT, with a record at its setting; the sixteenth consecutive load measurement below
the minimum sets OPEN, with its record, and LOAD shows the measured current. -/
def Obligations.BiasChecksReport : Prop :=
  ∀ (c : Nat) (s : State), c < nSeqs s → (biasC c s).connected = true → tilePowered (c / 96) s = true → isEcho s = false →
    (outp (512 + c) s).switched = false →
    (bR (oBiasStatus c) 13 s = false → Completes (.biasIlimit c) s (fun t => bR (oBiasStatus c) 13 t = true ∧
      Logged (0x3200 + c) 0x403 0 0 s t ∧ t = { s with regs := t.regs, log := t.log })) ∧
    (∀ i : Int, -524288 ≤ i → i < 524288 → i.natAbs < 10 * fR (oBiasCheck c) 15 0 s → bR (oBiasCheck c) 16 s = false →
      (biasC c s).openCnt = 15 → (biasC c s).phase = .idle → above100mV (biasC c s) = true → bR (oBiasStatus c) 12 s = false →
      Completes (.biasLoadMeasure c i 0 0) s (fun t =>
        t = { s with regs := t.regs, log := t.log, bias := t.bias } ∧
        bR (oBiasStatus c) 12 t = true ∧ Logged (0x3200 + c) 0x404 0 0 s t ∧
        fR (oBiasLoad c) 39 20 t = (i % 1048576).toNat))

/-! ### Readout ADCs -/

/-- R166-R172: self-calibration of a tile ends on its eight ADCs; the rotation index follows FULLTIME modulo 33 after SHIFT; ADC_CTL
powers an ADC, which settles 100 us later; ADC_ROT_CTL takes EN and SHIFT; a rotation step is logged with the tick of the change of
FULLTIME >> SHIFT, or with the later tick from which the tile rotates with these settings; a tick with an input beyond 0.53 V counts once, and every
saturated sample counts, which has a code at the rail without over-range. -/
def Obligations.AdcCommands : Prop :=
  (∀ (u : Nat) (x : Tick) (res : List SliceCal) (s : State), u < nTiles s → (adc (8 * u) s).cal = some x → due x s = true →
    Completes (.adcSelfCalDone u res) s (fun t =>
      t = { s with regs := t.regs, log := t.log, adcs := t.adcs, ce := t.ce, free := t.free } ∧
      ∀ f, f < 8 → (adc (8 * u + f) t).cal = none ∧ bR (oAdcStatus (8 * u + f)) 1 t = false)) ∧
  (∀ (u : Nat) (s : State), u < nTiles s → tilePowered u s = true → s.time.counting = true → bR (oAdcRotCtl u) 5 s = true →
    (adc (8 * u) s).cal = none →
    let p := fR (oAdcRotCtl u) 4 0 s
    let full := s.time.epoch.toNat * 2 ^ 40 + s.time.tick.toNat
    let r := (full >>> p) % 33
    let x := s.time.tick - BitVec.ofNat 40 (full % 2 ^ p)
    r ≠ (adc (8 * u) s).rot → Completes (.adcRotationStep u []) s (fun t =>
      t = { s with regs := t.regs, adcs := t.adcs, fabric := t.fabric, free := t.free } ∧
      (∀ f, f < 8 → (adc (8 * u + f) t).rot = r) ∧
      getR (oAdcRotLog u) t = match (adc (8 * u) s).rotFrom with | some y => later x y | none => x)) ∧
  (∀ (m u f : Nat) (v : W40) (s : State), f < 8 → Reaches .adcCtl [u, f] m (oAdcCtl (8 * u + f)) v s →
    bit v 0 = true → bR (oAdcCtl (8 * u + f)) 0 s = false →
    Completes (.adcCtlWrite m u f v) s (fun t =>
      t = { s with regs := t.regs, adcs := t.adcs } ∧
      (adc (8 * u + f) t).settle = some (plus s.time.tick 100000) ∧
      bR (oAdcStatus (8 * u + f)) 2 t = true ∧ getR (oAdcCtl (8 * u + f)) t = v &&& 0xFD)) ∧
  (∀ (u f : Nat) (x : Tick) (s : State), u < nTiles s → f < 8 → (adc (8 * u + f) s).settle = some x → due x s = true →
    Completes (.adcSettled u f) s (fun t => (adc (8 * u + f) t).settle = none ∧ bR (oAdcStatus (8 * u + f)) 2 t = false ∧
      t = { s with adcs := t.adcs, regs := t.regs })) ∧
  (∀ (m u : Nat) (v : W40) (s : State), Reaches .adcRotCtl [u] m (oAdcRotCtl u) v s → s.fresh = [] →
    Completes (.adcRotCtlWrite m u v) s (fun t => t = { s with regs := t.regs, adcs := t.adcs } ∧
      (∀ o, o ≠ oAdcRotCtl u → getR o t = getR o s) ∧ fR (oAdcRotCtl u) 5 0 t = fld v 5 0 ∧
      ∀ f, f < 8 → adc (8 * u + f) t = { adc (8 * u + f) s with rotFrom := some s.time.tick, whole := false })) ∧
  (∀ (u f : Nat) (uv : List Int) (s : State), u < nTiles s → f < 8 → bR (oAdcStatus (8 * u + f)) 0 s = true → uv.length = 16 →
    let n := (uv.filter (fun x => decide (x.natAbs ≤ 530000) && (adcCode x == -2048 || adcCode x == 2047))).length
    fR (oAdcCounts (8 * u + f)) 39 20 s < 2 ^ 20 - 1 → fR (oAdcCounts (8 * u + f)) 19 0 s + n < 2 ^ 20 →
    Completes (.adcOverrange u f uv) s (fun t =>
      t = { s with regs := t.regs, log := t.log } ∧
      fR (oAdcCounts (8 * u + f)) 39 20 t
        = fR (oAdcCounts (8 * u + f)) 39 20 s + (if ∃ x ∈ uv, 530000 < x.natAbs then 1 else 0) ∧
      fR (oAdcCounts (8 * u + f)) 19 0 t = fR (oAdcCounts (8 * u + f)) 19 0 s + n))

/-! ### Verdict bus and Binder -/

/-- R209, R210, R215, R216, R223: the verdict that reaches the bus is the latest at its index, and reaches the sequencers two ticks
on; in SAFE and READY it reaches the Binder in its tick, behind what has reached it before. BND_ARM opens a round on a set whose PACE_SRC is 1;
the deadline of an open set reaches the Binder too, which as the tick ends decides the set with its A bit, presented five ticks on;
BND_COMMIT moves the shadows of every set without an open round; a commit that still waits after 1 ms is reported once. -/
def Obligations.BinderCommands : Prop :=
  (∀ (p : Posted) (r : List Posted) (s : State), s.bus = p :: r → due p.at_ s = true → p.taken = false → gated s = false →
    (∀ q ∈ r, q.taken = true ∨ notBefore q.at_ p.at_ = true) → Completes (.verdictBusArrival 0) s (fun t =>
      t = { s with bus := t.bus, vb := t.vb, binder := t.binder, agenda := t.agenda } ∧
      t.bus = (if p.remote || p.sent then r else { p with taken := true } :: r) ∧
      (vent (fld p.word 39 26) t).word = p.word ∧ (vent (fld p.word 39 26) t).ref = p.ref ∧
      (∀ i, i ≠ fld p.word 39 26 → vent i t = vent i s) ∧
      t.agenda = s.agenda ++ [(plus p.at_ 2, .verdictToSeqs (fld p.word 39 26) p.word p.ref)] ∧
      t.binder = if s.life = .safe ∨ s.life = .ready then
          { s.binder with inbox := s.binder.inbox ++ [.verdict p.at_ p.word p.ref] }
        else s.binder)) ∧
  (∀ (m j : Nat) (s : State), j < 256 → Reaches .bndArm [] m oBndArm (BitVec.ofNat 40 j) s → (s.life = .safe ∨ s.life = .ready) →
    fF (oBndSetCfg j) 19 18 s = 1 → fF (oBndSetCfg j) 6 0 s ≠ 0 → (pset j s).pend = false →
    Completes (.bndArmSet m j) s (fun t =>
      t = { s with
        regs := t.regs, force := t.force, log := t.log, seqs := t.seqs, halves := t.halves, binder := t.binder, gran := t.gran,
          host := t.host, agenda := t.agenda } ∧
      (pset j t).st = .opn ∧ (pset j t).hb = s.time.tick ∧ (pset j t).got = [] ∧
      ∀ k, k ≠ j → pset k t = pset k s)) ∧
  (∀ (m : Nat) (s : State), Reaches .bndArm [] m oBndArm 256 s → (s.life = .safe ∨ s.life = .ready) →
    Completes (.bndArmAll m) s (fun t =>
      t = { s with
        regs := t.regs, force := t.force, log := t.log, seqs := t.seqs, halves := t.halves, binder := t.binder, gran := t.gran,
          host := t.host, agenda := t.agenda } ∧
      ∀ j, j < 256 → fF (oBndSetCfg j) 19 18 s = 1 → fF (oBndSetCfg j) 6 0 s ≠ 0 →
      (pset j s).pend = false → (pset j t).st = .opn ∧ (pset j t).hb = s.time.tick ∧ (pset j t).got = [])) ∧
  (∀ (j : Nat) (s : State), j < 256 → (s.life = .safe ∨ s.life = .ready) → (pset j s).st = .opn →
    bF (oBndSetCfg j) 23 s = true →
    let x := plus (pset j s).hb (fF (oBndSetCfg j) 39 24 s)
    due x s = true →
    Completes (.binderDeadline j) s (fun t =>
      t = { s with binder := { s.binder with inbox := s.binder.inbox ++ [.deadline x j] } })) ∧
  (∀ (j : Nat) (x : Tick) (s : State), (s.life = .safe ∨ s.life = .ready) → s.binder.inbox = [.deadline x j] →
    (∀ e ∈ s.agenda, presents e.2 = true → due e.1 s = false) → due (plus x 5) s = false → (pset j s).st = .opn →
    let t := binderEnd s
    t = { s with binder := t.binder, agenda := s.agenda ++ [(plus x 5, .present j)] } ∧ t.binder.inbox = [] ∧
      (pset j t).st = .decided ∧ (pset j t).a = true ∧ ∀ k, k ≠ j → pset k t = pset k s) ∧
  (∀ (m : Nat) (s : State), Reaches .bndCommit [] m oBndCommit 1 s → (∀ j, j < 256 → (pset j s).st ≠ .opn) →
    Completes (.bndCommit m) s (fun t =>
      t = { s with
        regs := t.regs, force := t.force, log := t.log, seqs := t.seqs, halves := t.halves, binder := t.binder, gran := t.gran,
          host := t.host, agenda := t.agenda } ∧
      ∀ j, j < 256 → getF (oBndSetCfg j) t = getR (oBndSetCfg j) s ∧
      ∀ i, i < 64 → getF (oBndMember j i) t = getR (oBndMember j i) s)) ∧
  (∀ (x : Tick) (s : State), s.binder.goAt = some x → bR oBndStatus 0 s = true → s.binder.waited = false →
    gated s = false → due (plus x 1000000) s = true → Completes .binderCommitWait s (fun t =>
      t = { s with log := t.log, binder := t.binder } ∧
      Logged 0xA800 0x508 0 0 s t ∧
      t.binder.waited = true))

/-! ### Tone slots -/

/-- R190, R192, R195-R198, R204, R205: the final verdict of a window is posted V ns after its last sample, but no earlier than the verdict
of its slot before it (log entry 142): it stands on its way to the bus with the window's reference tick, the state of its
classification, EARLY and ABSENT 0, and confidence 0 where a sample is flagged CAL, DEG or TRN; its record is made; the window is gone.
Its samples are formed of the ADC samples that the command brings. -/
def Obligations.FinalVerdictPosted : Prop :=
  ∀ (g : Nat) (v : Win) (xs : List AdcTick) (s : State), g < nSeqs s → (s.life = .safe ∨ s.life = .ready) →
    tilePowered (g / 96) s = true → (slot g s).wins = [v] → 0 < v.w → winnowNext g v = none →
    due (plus (plus v.t (v.w - 1)) (winV v g)) s = true →
    let zs := windowSamples v g (v.w / winD v g) xs s
    let r := integral v g zs
    let x := postAt g (plus (plus v.t (v.w - 1)) (winV v g)) s
    Completes (.finalVerdictPost g xs) s (fun t =>
      t = { s with regs := t.regs, log := t.log, slots := t.slots, bus := t.bus, gran := t.gran, fabric := t.fabric } ∧
      (slot g t).wins = [] ∧ t.gran.mem = s.gran.mem ∧
      ∃ word, t.bus = s.bus ++ [{ at_ := x, word := word, ref := plus v.t (v.w - 1) }] ∧
        (∃ d, d ∈ t.gran.made ∧ d.at_ = x ∧ d.key = g ∧ d.words = [plus v.t (v.w - 1), BitVec.ofInt 40 r.1, BitVec.ofInt 40 r.2.1, word]) ∧
        vIndex word = 1024 * devNum s + g ∧ vState word = (classify v g r.1 r.2.1).1 % 4 ∧ vValid word = true ∧
        vEarly word = false ∧ vAbsent word = false ∧ fld word 10 0 = fld v.shot 10 0 ∧
        ((∃ z ∈ zs, z.flags.cal = true ∨ z.flags.deg = true ∨ z.flags.trn = true ∨ z.crcBad = true) → fld word 18 11 = 0))

/-- R15, R187, R197, R199-R201, R205: the peak and RMS of an interval whose last sample has left the chain reach SLOT_LEVEL, which stays 0
where their transfer has failed; a window of length
0 posts its absent verdict; a step of the Winnow whose |L| reaches EARLY_THR posts an early verdict with the tick of its last sample,
one below it posts nothing; a half-filled result slot leaves after its flush time. -/
def Obligations.SlotEvents : Prop :=
  (∀ (g : Nat) (xs : List AdcTick) (s : State), g < nSeqs s → (s.life = .safe ∨ s.life = .ready) →
    tilePowered (g / 96) s = true → bit (detNow g s).det 5 = true → (slot g s).detAt ≠ some (detStamp g s) →
    let zs := chainStream g (detShape g s).1 (detShape g s).2 (detStart g s) xs s
    let failed := (feedTick (feedFrom (detStart g s) xs) (detStamp g s)).crcBad
    Completes (.detectorUpdate g xs) s (fun t =>
      t = { s with regs := t.regs, slots := t.slots, fabric := t.fabric } ∧ (slot g t).detAt = some (detStamp g s) ∧
      getR (oSlotLevel g) t = BitVec.ofNat 40 (if failed then 0 else
      (zs.foldl (fun a z => max a (envOf z.i.toInt z.q.toInt)) 0 * 2 ^ 20
        + rootRound (zs.foldl (fun a z => a + (z.i.toInt * z.i.toInt + z.q.toInt * z.q.toInt).toNat) 0) zs.length 21 0)))) ∧
  (∀ (g : Nat) (v : Win) (s : State), g < nSeqs s → (s.life = .safe ∨ s.life = .ready) → tilePowered (g / 96) s = true →
    (slot g s).wins = [v] → v.w = 0 → due (plus v.t (winV v g)) s = true →
    Completes (.absentVerdictPost g) s (fun t =>
      t = { s with regs := t.regs, slots := t.slots, bus := t.bus, gran := t.gran } ∧
      (slot g t).wins = [] ∧
      ∃ word, t.bus = s.bus ++ [{ at_ := postAt g (plus v.t (winV v g)) s, word := word, ref := v.t }] ∧
        vIndex word = 1024 * devNum s + g ∧ vAbsent word = true ∧ vValid word = true ∧ fld word 18 11 = 0)) ∧
  (∀ (g m : Nat) (v : Win) (xs : List AdcTick) (s : State), g < nSeqs s → (s.life = .safe ∨ s.life = .ready) →
    tilePowered (g / 96) s = true → (slot g s).wins = [v] → winnowNext g v = some m →
    let n := partN v g m
    let r := integral v g (windowSamples v g n xs s)
    let l := winnowL v g n r.1 r.2.1
    let x := plus v.t (n * winD v g - 1 + winV v g)
    due x s = true →
    (l.natAbs < (winR v (oWinThr g)).toNat → Completes (.winnowStep g m xs) s (fun t =>
      t = { s with regs := t.regs, slots := t.slots } ∧ (slot g t).wins = [{ v with steps := m }])) ∧
    ((winR v (oWinThr g)).toNat ≤ l.natAbs → Completes (.winnowStep g m xs) s (fun t =>
      t = { s with regs := t.regs, slots := t.slots, bus := t.bus, gran := t.gran, fabric := t.fabric } ∧
      (∃ st, (slot g t).wins = [{ v with steps := m, early := some st }]) ∧
      ∃ word, t.bus = s.bus ++ [{ at_ := postAt g x s, word := word, ref := plus v.t (n * winD v g - 1) }] ∧
        vEarly word = true ∧ vValid word = true ∧
        vState word = if 0 < l then fld (winR v (oWinCtl g)) 21 20 else fld (winR v (oWinCtl g)) 19 18))) ∧
  (∀ (p : Nat) (h : Half) (s : State), tget? p s.halves = some h → due h.flushAt s = true →
    Completes (.resultFlush p) s (fun t =>
      t = { s with regs := t.regs, log := t.log, halves := t.halves, gran := t.gran, host := t.host } ∧
      tget? p t.halves = none))

/-! ### Signal cores -/

/-- R228, R231-R235, Table 11.6: what the arithmetic of a core computes. NOP nothing; MAC the two products into its accumulators; ALU
its function of D[RA] and D[RB] or the immediate, with Z and N; ACC, NORM and EXP on an accumulator; LDI an immediate; SETAG a field of
an address generator. Each takes one tick. -/
def Obligations.CoreArithmetic : Prop :=
  ∀ (k : Nat) (v : BitVec 80) (s : State), CoreIssues k v s →
    let c := core k s
    let d := fun (r : Nat) => tget 0 r c.d
    let done := fun (P : Core → Prop) (c' : Core) (t : State) => CoreDone k v (c.pc + 1) 1 P c' s t
    let op := cf v 79 72
    (op = 0x01 → Completes (.coreNop k) s (done (fun _ => True) c)) ∧
    (op = 0x02 →
      let p0 := partOf (cf v 64 63) (d (cf v 67 65)) * partOf (cf v 59 58) (d (cf v 62 60)) * 2
      let p1 := partOf (cf v 54 53) (d (cf v 57 55)) * partOf (cf v 49 48) (d (cf v 52 50)) * 2
      let acc := fun (o : Nat) (a : BitVec 88) (p : Int) => match o with
        | 1 => BitVec.ofInt 88 p
        | 2 => a + BitVec.ofInt 88 p
        | 3 => a - BitVec.ofInt 88 p
        | _ => a
      Completes (.coreMac k) s (done
        (fun c' => c'.acc0 = acc (cf v 71 70) c.acc0 p0 ∧ c'.acc1 = acc (cf v 69 68) c.acc1 p1)
        { c with acc0 := acc (cf v 71 70) c.acc0 p0, acc1 := acc (cf v 69 68) c.acc1 p1 })) ∧
    (op = 0x03 →
      let a := d (cf v 65 63)
      let b := if cf v 59 59 = 1 then wi (sx 19 (cf v 58 40)) else d (cf v 62 60)
      let r := match cf v 71 69 with
        | 0 => b
        | 1 => a + b
        | 2 => a - b
        | 3 => a &&& b
        | 4 => a ||| b
        | 5 => a ^^^ b
        | 6 => a.sshiftRight (b.toNat % 64)
        | _ => a <<< (b.toNat % 64)
      Completes (.coreAlu k) s (done (fun c' => tget 0 (cf v 68 66) c'.d = r ∧ c'.z = decide (r = 0) ∧ c'.n = r.msb)
        { c with d := tset 0 (cf v 68 66) r c.d, z := decide (r = 0), n := r.msb })) ∧
    (op = 0x04 → cf v 71 69 ≠ 7 → ∀ i x w0, accResult v c = (i, x, w0) →
      Completes (.coreAcc k) s (done (fun c' => coreAcc c' i = x ∧ c'.z = decide (x = 0) ∧ c'.n = x.msb)
        (putAcc i x { c with z := decide (x = 0), n := x.msb }))) ∧
    (op = 0x05 →
      let a := coreAcc c (cf v 71 71)
      Completes (.coreNorm k) s (done (fun c' => coreAcc c' (cf v 71 71) = accNorm a ∧
        c'.z = decide (accNorm a = 0) ∧ c'.n = (accNorm a).msb ∧
        (cf v 67 67 = 1 → tget 0 (cf v 70 68) c'.d = BitVec.ofInt 40 (accExp a)))
        (putAcc (cf v 71 71) (accNorm a) { c with
          z := decide (accNorm a = 0), n := (accNorm a).msb,
          d := if cf v 67 67 = 1 then tset 0 (cf v 70 68) (BitVec.ofInt 40 (accExp a)) c.d else c.d }))) ∧
    (op = 0x06 →
      let a := coreAcc c (cf v 71 71)
      Completes (.coreExp k) s (done (fun c' => tget 0 (cf v 70 68) c'.d = BitVec.ofInt 40 (accExp a) ∧ c'.acc0 = c.acc0 ∧
        c'.acc1 = c.acc1)
        { c with d := tset 0 (cf v 70 68) (BitVec.ofInt 40 (accExp a)) c.d, z := decide (a = 0), n := a.msb })) ∧
    (op = 0x07 →
      let r := cf v 71 69
      let x := if cf v 68 68 = 0 then wi (sx 28 (cf v 67 40)) else setFld (d r) 39 28 (cf v 51 40)
      Completes (.coreLdi k) s (done (fun c' => tget 0 r c'.d = x) { c with d := tset 0 r x c.d })) ∧
    (op = 0x08 →
      let x := if cf v 66 66 = 1 then cf v 62 40 else (d (cf v 65 63)).toNat
      let a := tget {} (cf v 71 69) c.ag
      let a' : AG := match cf v 68 67 with
        | 0 => { a with ptr := x % 2 ^ 14 }
        | 1 => { a with base := x % 2 ^ 14 }
        | 2 => { a with len := x % 2 ^ 15 }
        | _ => { a with mod := sx 15 x }
      (cf v 68 67 = 2 → x % 2 ^ 15 ≤ 16384) →
      Completes (.setag k) s (done (fun _ => True) { c with ag := tset {} (cf v 71 69) a' c.ag }))

/-- R228-R230, R232, R235: the bank accesses of an instruction, stated on NOP. A load reads the word at its AG's PTR, a store writes D[r]
or bits 79:40 of an accumulator there; post-modify moves PTR by MOD modulo LEN from BASE. Taps that have written nothing stay out of
the way. -/
def Obligations.CoreBankAccesses : Prop :=
  ∀ (k : Nat) (v : BitVec 80) (s : State), CoreIssues k v s → cf v 79 72 = 0x01 → (core k s).taps = [] →
    let c := core k s
    let p := portField v 0
    let a := (tget {} p.ag c.ag).ptr
    (portField v 1).kind = 0 → (portField v 1).pm = false →
    Completes (.coreNop k) s (fun t =>
      (p.kind = 1 → tget 0 p.reg (core k t).d = tget 0 a c.db0 ∧ (core k t).db0 = c.db0) ∧
      (p.kind = 2 → (core k t).db0 = tset 0 a (tget 0 p.reg c.d) c.db0) ∧
      (p.kind = 3 → (core k t).db0 = tset 0 a (BitVec.ofNat 40 (c.acc0.toNat / 2 ^ 40)) c.db0) ∧
      (p.kind = 4 → (core k t).db0 = tset 0 a (BitVec.ofNat 40 (c.acc1.toNat / 2 ^ 40)) c.db0) ∧
      (core k t).db1 = c.db1 ∧
      (p.pm = true → ∀ g, g = tget {} p.ag c.ag → g.len ≠ 0 → g.base < 16384 → g.base ≤ g.ptr → g.ptr < 16384 →
        (tget {} p.ag (core k t).ag).ptr
          = (g.base + (((g.ptr - g.base : Nat) : Int) + g.mod).emod g.len |>.toNat) % 16384) ∧
      (p.pm = false → (core k t).ag = c.ag))

/-- R229, R237, R240-R248: BR, LOOP and HALT of a core, RDTAP, POST with its record, EVENT at the tick after it, WAITT at its issue, at the
tick that shows the sample that reaches its count, and at its timeout, and the fault of an undefined opcode. -/
def Obligations.CoreFlow : Prop :=
  ∀ (k : Nat) (v : BitVec 80) (s : State),
    let c := core k s
    let e := c.nextAt
    let d := fun (r : Nat) => tget 0 r c.d
    let op := cf v 79 72
    let tap := tget {} (cf v 71 70) c.taps
    let met := fun (b : Bool) => { c with
      tO := b, waitDl := none, metAt := none,
      d := if cf v 49 49 = 1 then tset 0 (cf v 69 67) (d (cf v 69 67) + 1) c.d else c.d }
    (CoreIssues k v s →
      (op = 0x09 → cf v 71 68 < 7 →
        let taken := match cf v 71 68 with
          | 0 => true
          | 1 => c.z
          | 2 => !c.z
          | 3 => c.n
          | 4 => !c.n
          | 5 => c.tO
          | _ => !c.tO
        Completes (.coreBr k) s (CoreDone k v (if taken then cf v 52 40 else c.pc + 1) (if taken then 2 else 1) (fun _ => True)
          c s)) ∧
      (op = 0x0A → c.pc + 1 ≤ cf v 52 40 →
        let n := if cf v 71 71 = 1 then (d (cf v 70 68)).toNat else cf v 67 53
        (n = 0 → Completes (.coreLoop k) s (CoreDone k v (cf v 52 40 + 1) 1 (fun _ => True) c s)) ∧
        (n ≠ 0 → c.loops.length < 4 → Completes (.coreLoop k) s (CoreDone k v (c.pc + 1) 1 (fun _ => True)
          { c with loops := ⟨c.pc + 1, cf v 52 40, n⟩ :: c.loops } s))) ∧
      (op = 0x0C → cf v 66 65 < 2 → tap.wrote = none →
        Completes (.rdtap k) s (CoreDone k v (c.pc + 1) 1
          (fun c' => tget 0 (cf v 69 67) c'.d = if cf v 66 65 = 0 then BitVec.ofNat 40 tap.count else tap.stamp)
          { c with d := tset 0 (cf v 69 67) (if cf v 66 65 = 0 then BitVec.ofNat 40 tap.count else tap.stamp) c.d } s)) ∧
      (op = 0x0C → cf v 66 65 = 2 → tap.wrote = none →
        let f := tap.flags
        let x := BitVec.ofNat 40 (b2n f.ovr + 2 * b2n f.cal + 4 * b2n f.deg + 8 * b2n f.mp + 16 * b2n f.trn)
        let f0 : Flags := ⟨false, false, false, false, false⟩
        Completes (.rdtap k) s (CoreDone k v (c.pc + 1) 1
          (fun c' => tget 0 (cf v 69 67) c'.d = x ∧ (tget {} (cf v 71 70) c'.taps).flags = f0)
          { c with
            d := tset 0 (cf v 69 67) x c.d, taps := tset {} (cf v 71 70) { tap with flags := f0, oldFlags := f0 } c.taps } s)) ∧
      (op = 0x0D → Completes (.post k) s (fun t =>
          t = { s with cores := t.cores, regs := t.regs, bus := t.bus, gran := t.gran } ∧
          (∀ j, j ≠ k → core j t = core j s) ∧ (core k t).pc = c.pc + 1 ∧ t.gran.mem = s.gran.mem ∧
          ∃ word ref, t.bus = s.bus ++ [{ at_ := plus e 1, word := word, ref := ref }] ∧
          vIndex word = 1024 * devNum s + 768 + 2 * k + cf v 71 71 ∧ vValid word = true ∧ vRecant word = false ∧
          vState word = vState (d (cf v 70 68)) ∧ fld word 10 0 = fld (d (cf v 70 68)) 10 0 ∧
          (cf v 67 67 = 1 → ref = d (cf v 64 62)) ∧
          (cf v 67 67 = 0 → (tget {} (cf v 66 65) c.taps).wrote = none → ref = (tget {} (cf v 66 65) c.taps).stamp) ∧
          (bR (oCoreCtl k) 26 s = true → ∃ r ∈ t.gran.made, r.at_ = plus e 1 ∧ r.key = 0x2000 + k ∧
            r.words = [ref, d ((cf v 70 68 + 1) % 8), d ((cf v 70 68 + 2) % 8), word]))) ∧
      (op = 0x0E → Completes (.coreEvent k) s (fun t =>
          t = { s with cores := t.cores, regs := t.regs, fabric := t.fabric } ∧
          t.fabric.fires = s.fabric.fires ++ [⟨plus e 1, 0, 0, some (640 * (k / 16) + 576 + 2 * (k % 16) + cf v 71 71), false⟩] ∧
          (core k t).pc = c.pc + 1)) ∧
      (op = 0x0F → Completes (.coreHalt k) s (fun t => OnlyCore k s t ∧
        core k t = { c with pc := c.pc + 1, st := .halted })) ∧
      (op = 0x0B → tap.wrote = none → notBefore (BitVec.ofNat 40 tap.count) (d (cf v 69 67)) = true →
        Completes (.waitt k) s (CoreDone k v (c.pc + 1) 1
          (fun c' => c'.tO = false ∧ (cf v 49 49 = 1 → tget 0 (cf v 69 67) c'.d = d (cf v 69 67) + 1)) (met false) s)) ∧
      (op = 0x0B → tap.wrote = none → notBefore (BitVec.ofNat 40 tap.count) (d (cf v 69 67)) = false →
        (cf v 50 50 = 1 ∨ cf v 66 51 ≠ 0) →
        Completes (.waitt k) s (fun t => OnlyCore k s t ∧ core k t = { c with
          st := .waiting, metAt := none, waitDl := if cf v 50 50 = 0 then some (plus e (cf v 66 51)) else none })) ∧
      ((op = 0 ∨ 0x0F < op) → Completes (.coreUndefinedOpcode k) s (fun t =>
        t = { s with log := t.log, cores := t.cores } ∧
        (core k t).st = .faulted ∧
        Logged (0x5000 + k) 0x509 0 (BitVec.ofNat 40 (k * 2 ^ 20 + c.pc)) s t ∧ ∀ j, j ≠ k → core j t = core j s))) ∧
    (∀ x, k < 16 * nTiles s → c.st = .waiting → (s.life = .safe ∨ s.life = .ready) → tget 0 c.pc c.prog = v →
      due x s = true → NoAccess v → c.loops = [] →
      (c.metAt = some x → (∀ y, c.waitDl = some y → notBefore y x = true) → Completes (.waitt k) s (fun t => OnlyCore k s t ∧
        core k t = { met false with st := .running, pc := c.pc + 1, nextAt := plus x 1, stored := [] })) ∧
      (c.waitDl = some x → (∀ y, c.metAt = some y → notBefore x y = false) → Completes (.waittTimeout k) s (fun t => OnlyCore k s t ∧
        core k t = { met true with st := .running, pc := c.pc + 1, nextAt := plus x 1, stored := [] })))

/-- R236-R239, R244: START of a core that stands enters RUNNING at ENTRY with its registers cleared and its memories kept, issuing at
the next tick; STOP ends a running one after the present tick; a sample reaches the tap of a running core five ticks after it has left the
chain, and is written to the next word of the tap's buffer; TAP_CFG takes its value while the core stands. -/
def Obligations.CoreCommandsAndTaps : Prop :=
  ∀ (m k : Nat) (s : State), k < 16 * nTiles s →
    let c := core k s
    (Reaches .coreCmd [k / 16, k % 16] m (oCoreCmd k) 1 s → (s.life = .safe ∨ s.life = .ready) →
      (c.st = .idle ∨ c.st = .halted ∨ c.st = .faulted) →
      (∀ r ∈ s.ce.cur.toList ++ s.ce.parked.map (fun e => e.2), r.opcode ≠ 0x305) →
      Completes (.coreStart m k) s (fun t => t = { s with cores := t.cores, agenda := t.agenda } ∧
        (∀ j, j ≠ k → core j t = core j s) ∧ core k t = {
        st := .running, pc := fR (oCoreCtl k) 39 27 s, prog := c.prog, db0 := c.db0, db1 := c.db1,
        nextAt := plus s.time.tick 1 })) ∧
    (Reaches .coreCmd [k / 16, k % 16] m (oCoreCmd k) 2 s → (c.st = .running ∨ c.st = .waiting) →
      Completes (.coreStop m k) s (fun t => t = { s with agenda := s.agenda ++ [(plus s.time.tick 1, .coreIdle k)] })) ∧
    (∀ x, (c.st = .running ∨ c.st = .waiting) → OnlyCore k s (act x (.coreIdle k) s) ∧
      core k (act x (.coreIdle k) s) = { c with st := .idle, waitDl := none }) ∧
    (∀ i v, i < 4 → Reaches .tapCfg [k / 16, k % 16, i] m (oTapCfg k i) v s → s.fresh = [] →
      Completes (.tapCfgWrite m k i v) s (fun t => OnlyRegs [oTapCfg k i] s t ∧
        getR (oTapCfg k i) t = v &&& 0xfff3ffffff)) ∧
    (∀ i xs stamp, i < 4 → (s.life = .safe ∨ s.life = .ready) → (c.st = .running ∨ c.st = .waiting) →
      let g := fR (oTapCfg k i) 37 28 s
      let len := fR (oTapCfg k i) 14 0 s
      let d := chainD (chainAt g stamp s)
      let z := slotSample g d (feedFrom stamp xs) stamp s
      let tap := tget {} i c.taps
      let a := (8 * fR (oTapCfg k i) 25 15 s + tap.count % len) % 16384
      len ≠ 0 → (bR (oTapCfg k i) 38 s = true → inWindow stamp g s = true) → stamp.toNat % d = 0 →
      s.time.tick = plus stamp (stampDelay (setAt g stamp s) d + 5) →
      (∀ j y, (tget {} j c.taps).wrote = some y → y.1 ≠ s.time.tick) →
      Completes (.tapWrite k i xs stamp) s (fun t =>
        t = { s with regs := t.regs, cores := t.cores, slots := t.slots } ∧ (∀ j, j ≠ k → core j t = core j s) ∧
        (tget {} i (core k t).taps).count = tap.count + 1 ∧ (tget {} i (core k t).taps).stamp = stamp ∧
        (tget {} i (core k t).taps).flags = orSet tap.flags z.flags ∧
        tget 0 a (if bR (oTapCfg k i) 39 s then (core k t).db1 else (core k t).db0)
          = BitVec.ofNat 40 (z.i.toNat * 2 ^ 20 + z.q.toNat)))

/-! ### The step -/

/-- What a step does with the queue: the command at its front acts, with the rest of the queue behind it. -/
def Obligations.StepRunsFrontCommand : Prop :=
  ∀ (c : Instr) (rest : List Instr) (s : State), s.pending = c :: rest → step s = exec c { s with pending := rest }

/-- R54: on an empty queue one tick of CK1 passes (the model's choice, log entry 2): TICK counts on while it runs, and EPOCH counts
its wraps; EPOCH_ADVANCE is the tick on which it wraps, with its record. -/
def Obligations.TicksAndEpochs : Prop :=
  (∀ s : State, s.pending = [] → powered s = true → ∃ t, step s = .next t ∧ t.pending = [] ∧
    (s.time.counting = true → t.time.tick = s.time.tick + 1 ∧
      t.time.epoch = if s.time.tick + 1 = 0 then s.time.epoch + 1 else s.time.epoch) ∧
    (s.time.counting = false → t.time.tick = s.time.tick ∧ t.time.epoch = s.time.epoch)) ∧
  (∀ s : State, powered s = true → s.time.counting = true → s.time.tick = 0xFFFFFFFFFF →
    Completes .epochAdvance s (fun t =>
      t.life = s.life ∧ t.wave = s.wave ∧ t.lins = s.lins ∧ t.sec = { s.sec with safeAt := t.sec.safeAt } ∧
      t.time.tick = 0 ∧ t.time.epoch = s.time.epoch + 1 ∧
      ∃ r ∈ t.log.pool, r.source = 0 ∧ r.code = 0x204 ∧ r.tick = 0))

/-! ### Modes -/

/-- R33, R34: a write of MODE from another domain than 0 is refused with OWNER_REFUSED; in SAFE it is stored, and acts at entry to READY; in
STAGING, STOPPING and HALTED it is refused with STATE_REFUSED; MODE is 0 on every entry to STAGING. In READY every bit takes the value
written, but for FEDERATED, which returns to 0 where no configuration is loaded. -/
def Obligations.ModeWrites : Prop :=
  (∀ (m : Nat) (b : Bool) (s : State),
    let wr := fun (i : Nat) => setBit (getR oMode s) i b
    let safe := fun (i : Nat) (t : State) => s.life = .safe → OnlyRegs [oMode] s t ∧ mode i t = b ∧
      ∀ j, j < 40 → j ≠ i → mode j t = mode j s
    let ready := fun (i : Nat) (t : State) => s.life = .ready → t.life = .ready ∧
      ∀ j, j < 6 → mode j t =
        if j = 4 ∧ i = 4 then (b && (mode 4 s || bR oFedStatus 0 s)) else if j = i then b else mode j s
    let refused := fun (code : Nat) (t : State) => t = { s with log := t.log } ∧
      ∃ r : Rec, t.log.pool = s.log.pool ++ [r] ∧ r.code = BitVec.ofNat 16 code ∧ r.tick = s.time.tick
    let writes := fun (c : Instr) (i : Nat) =>
      (Reaches .mode [] m oMode (wr i) s → Completes c s (fun t => safe i t ∧ ready i t)) ∧
      (fnReaches m s = true → staged m s = none → m ≠ 0 → Completes c s (refused 3)) ∧
      (fnReaches m s = true → staged m s = none → m = 0 → s.life ≠ .safe → s.life ≠ .ready → Completes c s (refused 2))
    writes (.modeSequence m b) 0 ∧ writes (.modeWitness m b) 1 ∧ writes (.modeLoopback m b) 2 ∧ writes (.modePaired m b) 3 ∧
      writes (.modeFederated m b) 4 ∧ writes (.modeHold m b) 5) ∧
  (∀ (r : Routine) (s : State), Runs 0x002 r s → s.life = .safe → (∀ e ∈ s.adcs, e.2.cal = none) →
    (∀ j, modeOn j s = false) ∧ Completes .devEnterReady s (fun t =>
      t = { s with
        life := t.life, regs := t.regs, force := t.force, time := t.time, log := t.log, lbReq := t.lbReq, lbWaited := t.lbWaited,
          lbResume := t.lbResume, armAfter := t.armAfter, seqs := t.seqs, outs := t.outs, bias := t.bias, slots := t.slots,
          wits := t.wits, ce := t.ce, fed := t.fed, pair := t.pair } ∧
      ∀ j, j < 6 → j ≠ 4 → modeOn j t = mode j s)) ∧
  (∀ s : State, (s.life = .off → s.pins.vaux = true → Completes .powerOnResetRelease s (fun t => getR oMode t = 0)) ∧
    (s.life = .stopping ∨ s.life = .halted → Completes .resetNCycle s (fun t => getR oMode t = 0)))

/-- R36, R39, R42: a pending LOOPBACK change switches the relays of all tiles, and under HOLD leaves the bias outputs at their values (log
entry 135), once no sequencer is inside a shot, here or, where the change
is joined (log 106), at the twin, and settles 2,000 ticks on; a change that waits for 1 ms is reported once; the twin's mode bits are kept, and a difference sets MISMATCH. -/
def Obligations.LoopbackAndTwinModes : Prop :=
  (∀ (x : Tick) (lb : Bool) (s : State), s.lbReq = some (x, lb) → s.life = .ready → anyInShot s = false →
    s.time.req = none → s.time.resume = none →
    (paired s = true → portUp (pairPort s) s = true → Config.twinQuiet (fullTime s) = true) →
    Completes .loopbackSwitch s (fun t =>
      t = { s with
        regs := t.regs, force := t.force, log := t.log, lbReq := t.lbReq, lbWaited := t.lbWaited, lbResume := t.lbResume,
          bias := t.bias, slots := t.slots, pair := t.pair } ∧ (modeOn 5 s = true → t.bias = s.bias) ∧
      relays t = lb ∧ t.lbReq = none ∧ bR oModeStatus 8 t = false ∧
      t.lbResume = some (plus s.time.tick 2000) ∧ Reports 0 0x104 s t)) ∧
  (∀ (x : Tick) (lb : Bool) (s : State), s.lbReq = some (x, lb) → s.lbWaited = false → due (plus x 1000000) s = true →
    Completes .loopbackWait s (fun t =>
      t = { s with log := t.log, lbWaited := t.lbWaited } ∧
      Logged 0 0x105 0 0 s t ∧ t.lbWaited = true ∧ t.lbReq = s.lbReq)) ∧
  (∀ (x : Tick) (s : State), s.lbResume = some x → due x s = true →
    Completes .loopbackResume s (fun t =>
      t = { s with lbResume := t.lbResume, seqs := t.seqs } ∧
      t.lbResume = none ∧ t.regs = s.regs ∧ t.life = s.life)) ∧
  (∀ (bits : Nat) (s : State), paired s = true → portUp (pairPort s) s = true →
    let differ := (bits % 64 ^^^ (getR oMode s).toNat) &&& 0x37 ≠ 0
    Completes (.pairModeMessage bits) s (fun t => t.pair.twinMode = bits % 64 ∧ (differ → bR oModeStatus 9 t = true) ∧
      (¬ differ → t = { s with pair := t.pair }) ∧
      (differ → bR oModeStatus 9 s = false → Logged (0x7000 + pairPort s) 0x70D 0 0 s t)))

/-! ### Power, reset and clocks -/

/-- R28, Table 2.1, R373: entries to STAGING and OFF keep the fuses, the NVM, the host's memory and the commands that wait; Granary
memory is lost; an entry to STAGING writes the one record that the new log holds; the entry to OFF writes none. -/
def Obligations.PowerAndReset : Prop :=
  ∀ (s : State),
    let keeps := fun (t : State) => t.fuses = s.fuses ∧ t.sec.nvm = s.sec.nvm ∧ t.gran.hostMem = s.gran.hostMem ∧
      t.gran.mem = [] ∧ t.gran.rings = [] ∧ t.seqs = [] ∧ t.pending = s.pending
    let staging := fun (t : State) => t.life = .staging ∧ keeps t ∧ t.sec.rollback = s.sec.rollback ∧
      fR oSecStatus 31 25 t = s.sec.rollback % 128 ∧
      t.log.pool.map (fun r => (r.code.toNat, r.detail.toNat)) = [(0x100, lifeCode s.life * 2 ^ 16 + 2 ^ 12)]
    (s.life = .off → s.pins.vaux = true → Completes .powerOnResetRelease s staging) ∧
    (s.life = .stopping ∨ s.life = .halted → Completes .resetNCycle s staging) ∧
    ((s.life ≠ .off ∨ s.pins.vaux = true) → Completes .powerLoss s (fun t => t.life = .off ∧ keeps t ∧ t.log.pool = [] ∧ t.pins.vaux = false)) ∧
    (∀ straps, s.life = .off → s.pins.vaux = false → Completes (.vauxPowerUp straps) s (fun t =>
      t.pins.vaux = true ∧ t.pins.straps = straps % 4 ∧ OnlyRegs [oPowerStatus] { s with pins := t.pins } t ∧
        bR oPowerStatus 9 t = true)) ∧
    (∀ r ok, (s.life ≠ .off ∨ s.pins.vaux = true) → r < 10 → Completes (.railToleranceChange r ok) s (fun t => bR oPowerStatus r t = ok ∧
      (tget? r t.therm.railBad).isSome = !ok ∧ t = { s with regs := t.regs, therm := t.therm } ∧
        ∀ o, o ≠ oPowerStatus → getR o t = getR o s))

/-- R51, R53, R54, R374: the first lock starts TICK at 0 and, where no sensor is hot, the power-up schedule; a lost and a restored
REF_IN show in CLK_STATUS, with a record each.
R15, R16: a failed transfer writes its record, and on the down-path discards the actions, event strobes and register writes it carried; a tile whose link has been
silent for its limit takes all its bias channels to rest. -/
def Obligations.ClocksAndDieLinks : Prop :=
  (∀ s : State, s.life = .staging → s.time.everLocked = false → hotForPower s = false →
    Completes .pllLock s (fun t => t.time.locked = true ∧ t.time.counting = true ∧ t.time.tick = 0 ∧ t.time.epoch = 0 ∧
      fR oClkStatus 1 0 t = 3 ∧ t.therm.schedAt = some 0 ∧ t.log = s.log)) ∧
  (∀ s : State, s.life = .staging → s.time.everLocked = false → hotForPower s = true →
    Completes .pllLock s (fun t =>
      t = { s with regs := t.regs, time := t.time, log := t.log, therm := t.therm } ∧
      t.time.counting = true ∧ t.time.tick = 0 ∧ t.therm.hold = true ∧
      bR oThermStatus 6 t = true ∧ Reports (0xC000 + hottest s) 0x807 s t)) ∧
  (∀ s : State, s.life ≠ .off → s.time.locked = true → s.time.refValid = true → fR oClkStatus 15 8 s < 255 →
    Completes .refLost s (fun t =>
      t = { s with regs := t.regs, time := t.time, log := t.log } ∧
      t.time.refValid = false ∧ fR oClkStatus 2 1 t = 2 ∧
      fR oClkStatus 15 8 t = fR oClkStatus 15 8 s + 1 ∧ Logged 0 0x202 0 0 s t ∧ ∀ o, o ≠ oClkStatus → getR o t = getR o s)) ∧
  (∀ s : State, s.life ≠ .off → s.time.locked = true → s.time.refValid = false →
    (∀ x, s.time.refAt = some x → due (plus x 10000000) s = true) →
    Completes .refRestored s (fun t =>
      t = { s with regs := t.regs, time := t.time, log := t.log } ∧
      t.time.refValid = true ∧ fR oClkStatus 2 1 t = 1 ∧ Logged 0 0x203 0 0 s t ∧
      ∀ o, o ≠ oClkStatus → getR o t = getR o s)) ∧
  (∀ (u : Nat) (s : State), u < nTiles s → tilePowered u s = true →
     (∀ down, Completes (.dieLinkCrc u down) s (fun t =>
       Logged (0xF000 + u) 0x101 (u * 2 ^ 17 + (if down then 2 ^ 16 else 0) + s.time.tick.toNat % 2 ^ 16) s.time.tick s t ∧
       (down = false → t = { s with log := t.log }) ∧
       (down = true →
         t = { s with log := t.log, down := t.down, fabric := t.fabric, agenda := t.agenda, crcDown := insNat u s.crcDown } ∧
         t.fabric = { s.fabric with acts := t.fabric.acts } ∧
         (∀ e, e ∈ t.down ↔ e ∈ s.down ∧ ¬ (e.1 / 96 = u ∧ e.2.launch = s.time.tick)) ∧
         (∀ e, e ∈ t.fabric.acts ↔ e ∈ s.fabric.acts ∧ ¬ (e.1 / 96 = u ∧ e.2.launch = s.time.tick)) ∧
         (∀ e, e ∈ t.agenda ↔ e ∈ s.agenda ∧ strobeInTransfer u s e = false) ∧
         ∀ k off, tileDie k = true → (off - 0x1000000) / 0x400000 = u → writeLost k off t = true))) ∧
     (u ∉ s.cutTiles → Completes (.tileLinkTimeout u) s (fun t =>
       t = { s with cutTiles := t.cutTiles, bias := t.bias } ∧
       u ∈ t.cutTiles ∧ t.life = s.life ∧
       ∀ c, c < 96 → (biasC (96 * u + c) s).connected = true → (biasC (96 * u + c) t).rest = true)))

/-- R28, R443, R52, R16, R372, R383, R410, R300, R301: a FATAL condition writes its record and takes the device to HALTED, with its code
in HALT_CODE and the micro-trap of priority 1 pending; what it changes in rings, vectors and the event fabric comes of open Bales, which
close early (R259). That trap ends every routine. Where no FATAL record waits for it, it stands for a
parity error in a microcode fetch, by the model's choice (log entry 24). -/
def Obligations.FatalEventsHalt : Prop :=
  ∀ (s : State),
    let halts := fun (src code : Nat) (t : State) => t.life = .halted ∧ fR oLifecycle 39 24 t = code ∧ Reports src code s t ∧
      1 ∈ t.ce.traps ∧ t.gran.mem = s.gran.mem ∧ t.gran.hostMem = s.gran.hostMem ∧
      ((∀ e, (wit e s).bale = none) → t.gran = { s.gran with made := t.gran.made } ∧ t.host = s.host ∧ t.fabric = s.fabric) ∧
      t.wave = s.wave ∧ t.sec = s.sec ∧ t.ports = s.ports ∧ t.binder = s.binder ∧ t.vb = s.vb
    s.haltAt = none →
    (∀ v, s.life = .staging → s.time.everLocked = false → Completes (.pllNoLock v) s (halts 0 0x200)) ∧
    (s.life ≠ .off → s.time.locked = true → Completes .pllUnlock s (fun t => halts 0 0x201 t ∧ t.time.counting = false)) ∧
    (∀ u, s.life ≠ .off → u < nTiles s → tilePowered u s = true → Completes (.dieLinkLost u) s (halts (0xF000 + u) 0x102)) ∧
    (∀ r x, tget? r s.therm.railBad = some x → s.life ≠ .off → r < 9 → (s.time.counting = false ∨ due (plus x 10000) s = true) →
      Completes (.railFault r) s (halts (0xC100 + r) 0x806)) ∧
    (s.life ≠ .off → Completes .scanExtest s (fun t => halts 0xD000 0x907 t ∧ bR oSecStatus 12 t = true)) ∧
    (∀ d, s.life ≠ .off → (d < nTiles s ∨ d = 8) → Completes (.thermalTrip d) s (fun t => halts (0xC000 + 4 * d) 0x80E t ∧
      (d < nTiles s → tilePowered d t = false))) ∧
    (1 ∈ s.ce.traps → Completes .microTrapFatal s (fun t =>
      t = { s with
        regs := t.regs, force := t.force, log := t.log, seqs := t.seqs, drv := t.drv, prb := t.prb, slots := t.slots,
          halves := t.halves, binder := t.binder, gran := t.gran, ce := t.ce, mon := t.mon, host := t.host, agenda := t.agenda,
          fresh := t.fresh, safePend := t.safePend } ∧
      t.ce.hOnly = true ∧ 1 ∉ t.ce.traps ∧ t.ce.handlers = [] ∧ t.gran.mem = s.gran.mem ∧
      (∀ r, t.ce.cur = some r → r.ended ≠ none) ∧ ∀ e ∈ t.ce.parked, e.2.ended ≠ none)) ∧
    (1 ∉ s.ce.traps → (s.life = .safe ∨ s.life = .ready ∨ s.life = .stopping) → Completes .microTrapFatal s (fun t =>
      t.life = .halted ∧ fR oLifecycle 39 24 t = 0x107 ∧ Reports 0x9000 0x107 s t ∧ t.ce.hOnly = true ∧ 1 ∉ t.ce.traps))

/-- R31, R300-R302, R413: PERST_N resets the endpoint and leaves the rest of the device running; a Function Level Reset of a virtual function
discards its latches and MSI-X state, and its micro-trap is taken at once where the engine is at level 0 and no other trap pends: the handler
runs within its 5 µs, ends the parked routines of the domain, and as it returns the interrupted one; after a handler that does not return
the trap only pends. (For how long a handler runs within its limit is a free value of the model, log entry 161.) -/
def Obligations.FunctionResets : Prop :=
  ∀ (s : State), s.life ≠ .off →
    let gone := fun (m : Nat) (t : State) => staged m t = none ∧ tget? m t.host.rlatch = none ∧ m ∉ t.host.msixOn ∧
      m ∉ t.host.fmask ∧ m ∉ t.host.busMaster
    Completes .perstN s (fun t => gone 0 t ∧ t.host.ptmOn = false ∧ t.host.vfEnable = false ∧ t.life = s.life ∧
      (s.host.vfEnable = true → ∀ m, m < 16 → gone m t) ∧
      t = { s with host := t.host, time := { s.time with ptmOut := none } }) ∧
    (∀ m, 0 < m → m < 16 → s.host.vfEnable = true → Completes (.functionLevelReset m) s (fun t =>
      t = { s with
        regs := t.regs, force := t.force, log := t.log, seqs := t.seqs, drv := t.drv, prb := t.prb, slots := t.slots,
          halves := t.halves, binder := t.binder, gran := t.gran, ce := t.ce, mon := t.mon, host := t.host, agenda := t.agenda,
          fresh := t.fresh, safePend := t.safePend, free := t.free } ∧
      gone m t ∧
      (s.ce.hOnly = false → s.ce.handlers = [] → s.ce.traps = [] → s.ce.flrWait = [] →
        (∃ d, 1 ≤ d ∧ d ≤ 5000 ∧ t.ce.handlers = [(6, plus s.time.tick d)]) ∧ t.ce.flrRun = [m] ∧ t.ce.traps = [] ∧
        ∀ e ∈ t.ce.parked, e.2.dom = m → some e.2 ≠ t.ce.cur → e.2.ended ≠ none) ∧
      (s.ce.hOnly = true → t = { s with host := t.host, ce := t.ce } ∧ 6 ∈ t.ce.traps ∧ t.ce.cur = s.ce.cur ∧ t.ce.parked = s.ce.parked))) ∧
    (∀ r x rest, s.ce.handlers = (6, x) :: rest → due x s = true → s.ce.cur = some r → r.ended = none → r.dom ∈ s.ce.flrRun →
      let t := handlerReturns s
      t.ce.handlers = rest ∧ t.ce.flrRun = [] ∧
        ∃ y res, t.ce.cur = some y ∧ y.ring = r.ring ∧ y.tag = r.tag ∧ y.ended = some (8, res, s.time.tick))

/-- R160, R266, R374, R386, R396-R398: the steps of STAGING: a step of the power-up schedule is taken at its tick; the NVM has loaded;
memory is zero; the copy of the boot selector boots if it passes its checks, else the other, else the device halts; the copy that was
not booted is checked later; with everything done the device enters SAFE. -/
def Obligations.StagingSteps : Prop :=
  ∀ (s : State),
    (∀ p x, s.therm.schedAt = some x → s.life = .staging → stepPresent p s = true → p ∉ s.therm.steps →
      due (plus x (stepTime p)) s = true → Completes (.powerupStep p) s (fun t =>
        t = { s with regs := t.regs, force := t.force, bias := t.bias, adcs := t.adcs, therm := t.therm } ∧
        t.therm.steps = s.therm.steps ++ [p] ∧
        (∀ u, p = .bias u → tilePowered u t = true) ∧ (∀ n, p = .stack n → bR oPowerStatus (28 + n) t = true))) ∧
    (∀ bad, s.life = .staging → s.sec.nvmDone = false → Completes (.nvmLoadDone bad) s (fun t =>
      t = { s with regs := t.regs, force := t.force, log := t.log, bias := t.bias, sec := { s.sec with nvmDone := true, trimBad := bad } } ∧
      ∀ v ∈ bad, ∃ r ∈ t.log.pool, r.code = 0x900)) ∧
    (s.life = .staging → (∀ n, n < nStacks s → PwrStep.stack n ∈ s.therm.steps) → Completes .granaryZeroDone s (fun t =>
      t = { s with regs := t.regs, gran := t.gran } ∧
      t.gran.mem = [] ∧ t.gran.rings = [] ∧ bR oGrStatus 2 t = true ∧ t.gran.hostMem = s.gran.hostMem)) ∧
    (s.life = .staging → s.time.locked = true → s.sec.booted = false →
      let s' := journalRestore s
      let a := s.sec.selector % 2
      let boots := fun (n : Nat) (t : State) => t.sec.booted = true ∧ t.life = .staging ∧
        t.sec.slot = imgSlot (nvmCopy n s') ∧ fR oSecStatus 16 16 t = n ∧ bR oSecStatus 32 t = !s.sec.trngBad
      Completes .secureBoot s (fun t =>
        t.wave = s.wave ∧ t.adcs = s.adcs ∧ t.vb = s.vb ∧ t.gran.mem = s.gran.mem ∧ t.gran.hostMem = s.gran.hostMem ∧ t.ports = s.ports ∧
          t.fed = s.fed ∧ t.lins = s.lins ∧ t.pins = s.pins ∧ t.halves = s.halves ∧ t.free = s.free ∧
        ((∀ e, (wit e s).bale = none) → t.gran = { s.gran with made := t.gran.made } ∧ t.host = s.host) ∧
        (imgCheck 0 (nvmCopy a s') s' = none → boots a t ∧ bR oSecStatus 15 t = false) ∧
        (∀ k, imgCheck 0 (nvmCopy a s') s' = some k → imgCheck 0 (nvmCopy (1 - a) s') s' = none →
          boots (1 - a) t ∧ bR oSecStatus 15 t = true ∧ Reports 0xD000 0x904 s t) ∧
        (∀ k l, imgCheck 0 (nvmCopy a s') s' = some k → imgCheck 0 (nvmCopy (1 - a) s') s' = some l →
          t.life = .halted ∧ Reports 0xD000 0x905 s t))) ∧
    (s.life = .staging → (∀ p ∈ allSteps s, p ∈ s.therm.steps) → (∀ e ∈ s.adcs, e.2.cal = none) → s.sec.nvmDone = true →
      bR oGrStatus 2 s = true → s.sec.booted = true → Completes .stagingComplete s (fun t =>
        t = { s with life := .safe, regs := t.regs, log := t.log, bias := t.bias, slots := t.slots, sec := t.sec } ∧
        t.sec = { s.sec with safeAt := s.time.tick } ∧ Logged 0 0x100 (2 ^ 16 + 2 * 2 ^ 12) 0 s t ∧
        ∀ c, c < nSeqs s → (biasC c s).connected = true → (biasC c t).rest = true)) ∧
    ((s.life = .safe ∨ s.life = .ready) → bR oSecStatus 14 s = false →
      let x := nvmCopy (1 - fR oSecStatus 16 16 s) s
      Completes .altImageCheck s (fun t =>
        t = { s with regs := t.regs } ∧
        bR oSecStatus 14 t = true ∧ bR oSecStatus 13 t = (imgCheck 0 x s).isNone ∧ ∀ o, o ≠ oSecStatus → getR o t = getR o s))

/-! ### Routines of the device, and time -/

/-- R29, R30, R58, R68, R337, Table 14.4: ECHO returns its parameters and DEV_INFO the identity words; DEV_ENTER_READY takes the device to
READY unless an ADC calibrates; DEV_ENTER_SAFE to SAFE once no sequencer is inside a shot, or by the forced stop after 100 ms; TIME_SET
makes a time step pending; TIME_REACQUIRE makes a follower acquire time anew, with TIME_ERR and HOLDOVER cleared. -/
def Obligations.DeviceRoutines : Prop :=
  ∀ (r : Routine) (s : State),
    (Runs 0x000 r s → Completes .echo s (fun t => t = { s with ce := t.ce } ∧ Ends 0 r.params r s t)) ∧
    (Runs 0x001 r s → Completes .devInfo s (fun t => t = { s with ce := t.ce } ∧
      Ends 0 [identWord 0 s, identWord 1 s, identWord 2 s, identWord 3 s] r s t)) ∧
    (Runs 0x002 r s → s.life = .safe →
      ((∀ e ∈ s.adcs, e.2.cal = none) → Completes .devEnterReady s (fun t =>
        t = { s with
          life := t.life, regs := t.regs, force := t.force, time := t.time, log := t.log, lbReq := t.lbReq, lbWaited := t.lbWaited,
            lbResume := t.lbResume, armAfter := t.armAfter, seqs := t.seqs, outs := t.outs, bias := t.bias, slots := t.slots,
            wits := t.wits, ce := t.ce, fed := t.fed, pair := t.pair } ∧
        Ends 0 [] r s t ∧ t.life = .ready ∧
        Reports 0 0x100 s t)) ∧
      ((∃ e ∈ s.adcs, e.2.cal ≠ none) → Completes .devEnterReady s (fun t => Ends 1 [] r s t ∧ t = { s with ce := t.ce }))) ∧
    (Runs 0x003 r s → s.life = .ready →
      (anyInShot s = false → Completes .devEnterSafe s (fun t =>
        t = { s with
          life := t.life, regs := t.regs, time := t.time, log := t.log, lbReq := t.lbReq, lbWaited := t.lbWaited,
            lbResume := t.lbResume, armAfter := t.armAfter, safePend := t.safePend,
            seqs := t.seqs, bias := t.bias, slots := t.slots, wits := t.wits, gran := t.gran, ce := t.ce, fabric := t.fabric,
            therm := t.therm, host := t.host } ∧ t.gran.mem = s.gran.mem ∧ t.gran.hostMem = s.gran.hostMem ∧
        t.life = .safe ∧ t.safePend = none ∧ t.ce.cur = none ∧
        Reports 0 0x100 s t ∧ ∃ i x, tget? i t.ce.parked = some x ∧ x.ring = r.ring ∧ x.tag = r.tag ∧
          x.ended = some (0, [0], s.time.tick))) ∧
      (anyInShot s = true → Completes .devEnterSafe s (fun t =>
        t = { s with
          life := t.life, regs := t.regs, time := t.time, log := t.log, lbReq := t.lbReq, lbWaited := t.lbWaited,
            lbResume := t.lbResume, armAfter := t.armAfter, safePend := t.safePend,
            seqs := t.seqs, bias := t.bias, slots := t.slots, wits := t.wits, gran := t.gran, ce := t.ce, fabric := t.fabric,
            therm := t.therm, host := t.host } ∧ t.gran.mem = s.gran.mem ∧ t.gran.hostMem = s.gran.hostMem ∧
        Parks r t ∧ t.life = .ready ∧
        t.safePend = some s.time.tick))) ∧
    (∀ x, s.safePend = some x → s.life = .ready → due (plus x 100000000) s = true →
      Completes .devEnterSafeTimeout s (fun t =>
        t.wave = s.wave ∧ t.adcs = s.adcs ∧ t.vb = s.vb ∧ t.cores = s.cores ∧ t.gran.mem = s.gran.mem ∧
          t.gran.hostMem = s.gran.hostMem ∧ t.ports = s.ports ∧ t.fed = s.fed ∧ t.lins = s.lins ∧ t.sec = s.sec ∧ t.pins = s.pins ∧
          t.bus = s.bus ∧ t.halves = s.halves ∧ t.free = s.free ∧
          ((∀ e, (wit e s).bale = none) → t.gran = s.gran ∧ t.host = s.host) ∧
        t.life = .safe ∧ t.safePend = none ∧ Reports 0 0x100 s t)) ∧
    (Runs 0x004 r s → federated s = false → s.time.req = none → (prm r 0).toNat % 10 = 0 →
      Completes .timeSet s (fun t =>
        t = { s with regs := t.regs, time := t.time, seqs := t.seqs, ce := t.ce } ∧
        Ends 0 [] r s t ∧ bR oTimeStatus 7 t = true ∧ ∃ q, t.time.req = some q ∧
        q.kind = .load (BitVec.ofNat 64 (fld (prm r 1) 23 0 * 2 ^ 40 + (prm r 0).toNat)) ∧ q.at_ = s.time.tick ∧
        t.time.tick = s.time.tick)) ∧
    (Runs 0x005 r s → federated s = true → fR oTimeStatus 2 0 s ≠ 1 → Completes .timeReacquire s (fun t =>
      t = { s with regs := t.regs, time := t.time, ce := t.ce, fed := { s.fed with depthBad := false } } ∧
      Ends 0 [] r s t ∧ t.time.acquiring = true ∧ fR oTimeStatus 6 3 t = 0))

/-- R58-R61: a pending time step acts at the first CK3 edge after the quiet moment: TIME_SET loads the value for that edge, a shift adds to
the time; in READY the stopped sequencers may resume 10,000 ticks on; one that waits for 1 ms is reported once. -/
def Obligations.TimeSteps : Prop :=
  (∀ (q : StepReq) (y : Tick) (s : State), s.time.req = some q → q.quiet = some y → due (ck3After y) s = true →
    s.time.counting = true → (s.life = .safe ∨ s.life = .ready) →
    Completes .timeStep s (fun t =>
      t.life = s.life ∧ t.wave = s.wave ∧ t.vb = s.vb ∧ t.gran.mem = s.gran.mem ∧ t.gran.hostMem = s.gran.hostMem ∧ t.lins = s.lins ∧
        t.pins = s.pins ∧ t.free = s.free ∧
        ((∀ e, (wit e s).bale = none) → t.gran = { s.gran with made := t.gran.made } ∧ t.host = s.host) ∧
      t.time.req = none ∧ bR oTimeStatus 7 t = false ∧ Reports 0 0x205 s t ∧
      (∀ f, q.kind = .load f → fullTime t = f + BitVec.ofNat 64 (s.time.tick - ck3After y).toNat ∧
        (s.life = .ready → t.time.resume = some (plus (BitVec.ofNat 40 f.toNat) 10000))) ∧
      (∀ n, q.kind = .shift n → fullTime t = fullTime s + BitVec.ofInt 64 n) ∧
      (s.life = .safe → t.time.resume = none))) ∧
  (∀ (x : Tick) (s : State), s.time.resume = some x → due x s = true →
    Completes .timeStepResume s (fun t =>
      t = { s with
        regs := t.regs, time := t.time, log := t.log, seqs := t.seqs, barriers := t.barriers, wits := t.wits, ports := t.ports } ∧
      t.time.resume = none ∧ t.time.tick = s.time.tick)) ∧
  (∀ (q : StepReq) (s : State), s.time.req = some q → q.waited = false → due (plus q.at_ 1000000) s = true →
    Completes .timeStepWait s (fun t => Logged 0 0x206 0 0 s t ∧ t.time.req = some { q with waited := true } ∧
      t = { s with time := t.time, log := t.log }))

/-- R62-R64: an edge of SYNC_IN enters its stamp into the FIFO, one less than 100 ns after the last is counted as a glitch; a read of
SYNC_IN_STAMP takes the head; SYNC_OUT pulses 6 ns after its scheduled tick, for 8 ns, and schedules the next; a schedule in the past sets MISSED. -/
def Obligations.SyncInAndOut : Prop :=
  ∀ (s : State),
    (∀ off, s.life ≠ .staging → s.time.counting = true → bR oSyncInStat 0 s = true → bR oSyncInStat 2 s = false →
      (s.time.lastEdge = none → s.time.fifo.length < 16 → Completes (.syncInEdge off) s (fun t =>
        t = { s with regs := t.regs, time := t.time, log := t.log, seqs := t.seqs, fabric := t.fabric } ∧
        t.time.fifo = s.time.fifo ++ [⟨s.time.tick, s.time.epoch, off % 16⟩] ∧ t.regs = s.regs)) ∧
      (∀ e : BitVec 64, s.time.lastEdge = some e → 0 ≤ posDiff (samplePos s.time.tick (off % 16)) e.toNat →
        posDiff (samplePos s.time.tick (off % 16)) e.toNat < 1600 → fR oSyncInStat 23 8 s < 2 ^ 16 - 1 →
        Completes (.syncInEdge off) s (fun t => OnlyRegs [oSyncInStat] s t ∧
          fR oSyncInStat 23 8 t = fR oSyncInStat 23 8 s + 1))) ∧
    (∀ m, Reaches .syncInStat [] m oSyncInStat (BitVec.ofNat 40 (fR oSyncInStat 1 0 s + 4)) s →
      Completes (.loadArm m) s (fun t =>
        t = { s with regs := t.regs, time := t.time } ∧
        bR oSyncInStat 2 t = true ∧ fR oSyncInStat 1 0 t = fR oSyncInStat 1 0 s ∧
        ∀ o, o ≠ oSyncInStat → getR o t = getR o s)) ∧
    (∀ m, fnReaches m s = true →
      (∀ e r, s.time.fifo = e :: r → Completes (.syncInStampRead m) s (fun t =>
        t = { s with regs := t.regs, time := t.time, gran := t.gran, host := t.host } ∧
        t.host.readOut = e.tick ∧ t.time.fifo = r ∧
        getR oSyncInInfo t = BitVec.ofNat 40 (e.epoch.toNat * 2 ^ 16 + 2 ^ 4 + e.off))) ∧
      (s.time.fifo = [] → Completes (.syncInStampRead m) s (fun t =>
        t = { s with regs := t.regs, time := t.time, gran := t.gran, host := t.host } ∧
        t.host.readOut = 0 ∧ bR oSyncInInfo 4 t = false))) ∧
    (∀ x, s.time.fireNext = some x → due x s = true → fR oSyncOutCtl 1 0 s = 1 → Completes .syncOutFire s (fun t =>
      t = { s with time := t.time, agenda := t.agenda } ∧
      (plus x 6, Deferred.pulseUp) ∈ t.agenda ∧ (plus x 14, Deferred.pulseEnd) ∈ t.agenda ∧
      t.time.fireNext = if getR oSyncOutPeriod s = 0 then none else some (x + getR oSyncOutPeriod s))) ∧
    (∀ m v, Reaches .syncOutCtl [] m oSyncOutCtl v s → Completes (.syncOutCtlWrite m v) s (fun t =>
      fR oSyncOutCtl 1 0 t = fld v 1 0 ∧
      (fld v 1 0 = 1 → notBefore (getR oSyncOutTime s) s.time.tick = true → t.time.fireNext = some (getR oSyncOutTime s)) ∧
      (fld v 1 0 = 1 → notBefore (getR oSyncOutTime s) s.time.tick = false → t.time.fireNext = none ∧
        bR oSyncOutCtl 13 t = true) ∧
      (fld v 1 0 ≠ 1 → t.time.fireNext = none) ∧ ∀ o, o ≠ oSyncOutCtl → getR o t = getR o s)) ∧
    (∀ m v, Reaches .syncOutPeriod [] m oSyncOutPeriod v s → s.fresh = [] → Completes (.syncOutPeriodWrite m v) s (fun t =>
      OnlyRegs [oSyncOutPeriod] s t ∧ getR oSyncOutPeriod t = v))

/-- R56, R65, R66: a PTM dialog begins at its time or on NOW; its response within 10 us makes the pair of the present tick and of the master
time that the root complex gave, with its turn and half of the rest of the round trip added (SEQ counts pairs, log entry 147), which PTM_TICK
shows, with the rest latched by the read; a later response makes none, and without a response in 10 us it fails with a record; a read of TICK_NOW latches EPOCH. -/
def Obligations.PtmAndTickReads : Prop :=
  ∀ (s : State),
    (fR oPtmCtl 15 0 s ≠ 0 → s.time.ptmOut = none → s.time.ptmNext = none → s.host.ptmOn = true →
      Completes .ptmDialog s (fun t => t = { s with time := t.time } ∧ t.time.ptmOut = some s.time.tick ∧
        t.time.ptmNext = some (plus s.time.tick (1000 * fR oPtmCtl 15 0 s)) ∧ t.time.tick = s.time.tick)) ∧
    (∀ m, Reaches .ptmCtl [] m oPtmCtl (BitVec.ofNat 40 (fR oPtmCtl 15 0 s + 2 ^ 16)) s → s.time.ptmOut = none →
      s.host.ptmOn = true → Completes (.ptmNow m) s (fun t => t.time.ptmOut = some s.time.tick ∧
        fR oPtmCtl 15 0 t = fR oPtmCtl 15 0 s)) ∧
    (∀ x turn hi lo, s.time.ptmOut = some x →
      let trip : Int := if due x s then ((s.time.tick - x).toNat : Int) else 0
      (due (plus x 10001) s = false → Completes (.ptmResponse turn hi lo) s (fun t => t = { s with time := t.time } ∧
        t.time.ptmOut = none ∧ t.time.ptm.tick = s.time.tick ∧ t.time.ptm.epoch = s.time.epoch ∧
        t.time.ptm.host = BitVec.ofInt 64 (((hi ++ lo).toNat : Int) + turn.toNat + (trip - turn.toNat) / 2) ∧ t.time.ptm.seq = (s.time.ptmCount + 1) % 65536)) ∧
      (due (plus x 10001) s = true → due (plus x 10000) s = true → Completes (.ptmResponse turn hi lo) s (fun t =>
        t = { s with time := { s.time with ptmOut := none }, log := t.log } ∧ Logged 0 0x208 0 0 s t))) ∧
    (∀ x, s.time.ptmOut = some x → due (plus x 10000) s = true → Completes .ptmFail s (fun t =>
      t = { s with time := t.time, log := t.log } ∧
      Logged 0 0x208 0 0 s t ∧ t.time.ptmOut = none ∧ t.time.ptm = s.time.ptm)) ∧
    (∀ m, fnReaches m s = true → Completes (.ptmTickRead m) s (fun t => t.host.readOut = s.time.ptm.tick ∧ t.time = s.time ∧
      getR oPtmInfo t = BitVec.ofNat 40 (s.time.ptm.epoch.toNat * 2 ^ 16 + s.time.ptm.seq) ∧
      getR oPtmHostLo t = BitVec.ofNat 40 (s.time.ptm.host.toNat % 2 ^ 32) ∧
      getR oPtmHostHi t = BitVec.ofNat 40 (s.time.ptm.host.toNat / 2 ^ 32))) ∧
    (∀ m, fnReaches m s = true → Completes (.tickNowRead m) s (fun t => t.host.readOut = s.time.tick ∧
      getR oEpochLatch t = BitVec.ofNat 40 s.time.epoch.toNat ∧ t.time = s.time ∧
      ∀ o, o ≠ oEpochLatch → getR o t = getR o s))

/-! ### Witness engines -/

/-- R250-R262: WIT_CTL enables an engine where its reservation fits under the ceiling, and disables it, which closes an open Bale; a cause met
collects, or counts as ignored while a Bale is open; the Bale opens 50 ns after its trigger sample, once the triggers have seen the samples
up to now, or is not made for want of room; as it closes TAIL passes its slots in one update, and its contents stand in them and nowhere
else; without room for its header it is dropped; hold-off ends in ARMED; WIT_STOP disables the engines it names. -/
def Obligations.WitnessCommands : Prop :=
  ∀ (e : Nat) (s : State), e < 8 * nTiles s →
    let x := wit e s
    let is := [e / 8, e % 8]
    let others := fun (t : State) => ∀ k, k ≠ e → wit k t = wit k s
    let shuts := fun (t : State) => t.gran.mem = s.gran.mem ∧ t.gran.hostMem = s.gran.hostMem
    let filled := fun (p : BalePlace) (sl : List (List W40)) (t : State) =>
      (∀ a, a < p.base ∨ p.base + 40 * p.length ≤ a → rdByte t.gran.mem a = rdByte s.gran.mem a) ∧
      (sl.length ≤ p.length → p.tail.toNat + sl.length ≤ 2 ^ 40 → ∀ k i, k < sl.length → i < 8 →
        rdWord t.gran.mem (p.base + 40 * ((p.tail.toNat + k) % p.length) + 5 * i) = nth 0 (nth [] sl k) i)
    (∀ m v, Reaches .witCtl is m (oWitCtl e) v s → bR (oWitStatus e) 0 s = false → bit v 0 = true →
      let res := witReservation (fld v 19 17) (decim (96 * (e / 8) + fld v 16 10) s)
      (witHeld s + res ≤ witCeiling s → Completes (.witnessEnable m e v) s (fun t =>
        t = { s with regs := t.regs, wits := t.wits } ∧
        bR (oWitStatus e) 0 t = true ∧
        bR (oWitCtl e) 0 t = true ∧ (wit e t).res = res ∧ (wit e t).no = 0 ∧ others t)) ∧
      (witCeiling s < witHeld s + res → Completes (.witnessEnable m e v) s (fun t =>
        t = { s with regs := t.regs, log := t.log } ∧
        Logged (0x6000 + e) 0x00C 0 0 s t ∧
        bR (oWitStatus e) 0 t = false ∧ bR (oWitCtl e) 0 t = false))) ∧
    (∀ m v, Reaches .witCtl is m (oWitCtl e) v s → bR (oWitStatus e) 0 s = true → bit v 0 = false →
      Completes (.witnessEnable m e v) s (fun t =>
        t = { s with regs := t.regs, log := t.log, wits := t.wits, gran := t.gran, fabric := t.fabric, host := t.host } ∧ shuts t ∧
        (x.bale = none → t = { s with regs := t.regs, wits := t.wits }) ∧
        bR (oWitStatus e) 0 t = false ∧ (wit e t).res = 0 ∧ (wit e t).st = .off ∧ (wit e t).bale = none ∧ others t)) ∧
    (∀ m, Reaches .witForce is m (oWitForce e) 1 s → witRuns e s = true → bR (oWitCtl e) 9 s = false →
      let p := gridAt e (fullPos s.time.tick 0 s) s
      let k := fullPos s.time.tick 0 s / 16
      let ignored := fun (t : State) => t = { s with regs := t.regs, wits := t.wits } ∧ (∀ j, wit j t = wit j s) ∧
        fR (oWitStatus e) 39 20 t = fR (oWitStatus e) 39 20 s + 1 ∧ ∀ o, o ≠ oWitStatus e → getR o t = getR o s
      (x.st = .armed → x.met = [] → x.armedAt ≤ p → x.busyTo ≤ k → Completes (.witForce m e) s (fun t =>
        t = { s with wits := t.wits } ∧ wit e t = { x with met := [⟨4, p, k, 0⟩] } ∧ others t)) ∧
      (fR (oWitStatus e) 39 20 s < 2 ^ 20 - 1 →
        (x.st = .armed → x.met = [] → x.armedAt ≤ p → k < x.busyTo → Completes (.witForce m e) s ignored) ∧
        (∀ b, x.st = .recording → x.bale = some b → x.met = [] →
          (k < baleEnd e b s ∨ p < (if bR (oWitCtl e) 7 s = true then baleLast e b s + 1 else rearmPos e b s)) →
          Completes (.witForce m e) s ignored))) ∧
    (∀ (feed : TrigFeed) m r, witRuns e s = true → x.st = .armed → x.bale = none → bR (oWitCtl e) 9 s = false →
      let u := trigRun e ⟨feed.base, feed.xs⟩ feed.t0 feed.n s
      (wit e u).met = m :: r → commitDue m.pos s = true →
      (witHead e s ≤ witFree e s → Completes (.witnessTriggerCommit e feed) s (fun t =>
        t = { s with regs := t.regs, wits := t.wits, fabric := t.fabric } ∧ others t ∧
        (wit e t).st = .recording ∧
        ∃ b, (wit e t).bale = some b ∧ b.pos = m.pos ∧ b.causes = causeBits ((m :: r).filter (fun y => y.pos == m.pos)) ∧
          b.preHave = witPreHave e m.pos s ∧ b.n = b.preHave + (getR (oWitPost e) s).toNat ∧ b.free = witFree e s)) ∧
      (witFree e s < witHead e s → Completes (.witnessTriggerCommit e feed) s (fun t =>
        t = { s with regs := t.regs, log := t.log, wits := t.wits, fabric := t.fabric } ∧ others t ∧
        (wit e t).bale = none ∧ (wit e t).no = (x.no + 1) % 2 ^ 20 ∧
        (fR (oWitStatus e) 19 12 s < 255 → fR (oWitStatus e) 19 12 t = fR (oWitStatus e) 19 12 s + 1)))) ∧
    (∀ xs b, x.closed = [] → x.bale = some b → b.place = none → baleDone e b s = true →
      let r := ring (baleRing b) s
      let room := baleRoom b s
      let h := headSlots b.ctl
      let v := baleShut e b s
      let after := fun (t : State) => (wit e t).bale = none ∧ (wit e t).no = (x.no + 1) % 2 ^ 20 ∧
        (wit e t).st = (if bit b.ctl 9 then .armed else .holdoff) ∧ others t
      (room < h → Completes (.baleClose e xs) s (fun t => t = { s with regs := t.regs, log := t.log, wits := t.wits } ∧ after t ∧
        (fR (oWitStatus e) 19 12 s < 255 → fR (oWitStatus e) 19 12 t = fR (oWitStatus e) 19 12 s + 1))) ∧
      (h ≤ room → Completes (.baleClose e xs) s (fun t =>
        t = { s with regs := t.regs, wits := t.wits, gran := t.gran, fabric := t.fabric, host := t.host } ∧ after t ∧
        (ring (baleRing b) t).tail = plus r.tail (h + min (room - h) (bodySlots b)) ∧ (ring (baleRing b) t).head = r.head ∧
        (∀ k, k ≠ baleRing b → ring k t = ring k s) ∧ t.gran.hostMem = s.gran.hostMem ∧
        filled ⟨r.base, r.length, r.tail, room⟩ (baleSlots e v.1 room (baleSamples e v.1 xs v.2) v.2) t))) ∧
    (∀ xs b c p, x.closed = b :: c → b.place = some p → p.length ≠ 0 → Completes (.baleClose e xs) s (fun t =>
      t = { s with wits := t.wits, gran := { s.gran with mem := t.gran.mem } } ∧ wit e t = { x with closed := c } ∧ others t ∧
      filled p (baleSlots e b p.room (baleSamples e b xs s) s) t)) ∧
    (x.st = .holdoff → witRuns e s = true →
      (∀ p : Int, x.hoEnd = some p → p / 16 ≤ (fullTime s).toNat → Completes (.witnessRearm e) s (fun t =>
        t = { s with regs := t.regs, wits := t.wits } ∧ others t ∧ (wit e t).st = .armed ∧ (wit e t).armedAt = p ∧
        (wit e t).hoEnd = none ∧ ∀ y ∈ (wit e t).met, p ≤ y.pos)) ∧
      (x.hoEnd = none → Completes (.witnessRearm e) s (fun t => t = s))) ∧
    (∀ r, Runs 0x501 r s → bR (oWitStatus e) 0 s = true → (r.target = 0xFFFFFF ∨ r.target = e / 8) →
      mayAct r.dom (tileDom (e / 8) s) (tileSec (e / 8) s) = true →
      Completes .witStop s (fun t =>
        t = { s with
          regs := t.regs, log := t.log, wits := t.wits, gran := t.gran, ce := t.ce, fabric := t.fabric, host := t.host } ∧ shuts t ∧
        Parks r t ∧ bR (oWitStatus e) 0 t = false ∧ bR (oWitCtl e) 0 t = false ∧
        (wit e t).res = 0 ∧ (wit e t).st = .off ∧ (wit e t).bale = none))

/-! ### The Granary -/

/-- R265, R268, R269, R406, R407: a BAR2 write by the owner of the memory stores its bytes and nothing else; one that meets memory the
function may not reach is refused with a record and changes nothing; a BAR2 read answers the bytes; a region write that takes nothing
out of SECURE acts at once; where bytes leave SECURE, they read 0 and the change acts when the scrub is done. -/
def Obligations.GranaryAccesses : Prop :=
  ∀ (s : State),
    (∀ m a bs, s.life ≠ .off → fnExists m s = true → bs ≠ [] →
      (0x04000000 ≤ a → a + bs.length ≤ memEnd s → refusedAt m false a bs.length s = false → s.gran.scrub = none →
        Completes (.bar2Write m a bs) s (fun t => (∀ i, i < bs.length → rdByte t.gran.mem (a + i) = nth 0 bs i) ∧
          MemKeptBut a bs.length s t ∧ t = { s with gran := { s.gran with mem := t.gran.mem } })) ∧
      ((a < 0x04000000 ∨ refusedAt m false a bs.length s = true) → Completes (.bar2Write m a bs) s (fun t =>
        t = { s with log := t.log } ∧ ∃ r, t.log.pool = s.log.pool ++ [r] ∧ r.source.toNat = (0xE000 + m) % 2 ^ 16 ∧ r.code = 3))) ∧
    (∀ m a n, s.life ≠ .off → fnExists m s = true → 0x04000000 ≤ a → a + n ≤ memEnd s → refusedAt m true a n s = false →
      s.gran.scrub = none → bR oGrStatus 2 s = true → fR oPowerStatus 29 28 s ≠ 0 →
      Completes (.bar2Read m a n .clean) s (fun t => t = { s with host := t.host } ∧
        t.host.readBytes = rdBytes s.gran.mem a n ∧ t.host.poisoned = false)) ∧
    (∀ m r v, r < 64 → Reaches .grRegion [r] m (oGrRegion r) v s → leavesSecure r (v &&& 0xFFFFFFFFCF) s = false →
      Completes (.grRegionWrite m r v) s (fun t => OnlyRegs [oGrRegion r] s t ∧ getR (oGrRegion r) t = v &&& 0xFFFFFFFFCF)) ∧
    (∀ r v, r < 64 → s.gran.scrub = some (r, v) → Completes .scrubDone s (fun t =>
      t = { s with regs := t.regs, gran := t.gran } ∧
      t.gran.scrub = none ∧ getR (oGrRegion r) t = v ∧
      bR oSecStatus 33 t = false ∧
      ∀ a, rdByte t.gran.mem a = if scrubbing a s then 0 else rdByte s.gran.mem a))

/-- R275, R276, R279, R283, R416, R441, R442: HEAD moves by the count written, or the write is refused with its record; a MSI-X entry
unmasked sends what pended; the drain copies one slot to host memory and moves both indices and the host's copy of TAIL; the
half-filled slot of a log leaves after its time; the first EN of the log of domain 0 ends the early log. -/
def Obligations.RingIndicesAndDrain : Prop :=
  ∀ (s : State),
    (∀ m v, Reaches .ringHeadAdv [] m oRingHeadAdv v s →
      let n := fld v 39 20
      (headAdvRefusal m n (fld v 19 0) s = none → Completes (.ringHeadAdv m v) s (fun t =>
        t = { s with regs := t.regs, log := t.log, gran := t.gran, host := t.host } ∧
        (ring n t).head = plus (ring n s).head (fld v 19 0) ∧ (ring n t).tail = (ring n s).tail ∧
        (∀ k, k ≠ n → ring k t = ring k s) ∧ t.gran.mem = s.gran.mem)) ∧
      (∀ c, headAdvRefusal m n (fld v 19 0) s = some c → Completes (.ringHeadAdv m v) s (fun t =>
        t = { s with log := t.log } ∧ Logged (0x8000 + n % 4096) c 0 (BitVec.ofNat 40 n) s t))) ∧
    (∀ m v, s.life ≠ .off → fnExists m s = true → m ∈ s.host.msixOn → m ∉ s.host.fmask → 2048 * m + v ∈ s.host.pba →
      Completes (.msixUnmask m v) s (fun t => t = { s with host := t.host } ∧ t.host.sent = s.host.sent ++ [(m, v)] ∧
        2048 * m + v ∉ t.host.pba ∧ 2048 * m + v ∈ t.host.unmasked)) ∧
    (∀ h, drainReady h s = true → (ring h s).eccStop = false → mayMaster (ring h s).owner s = true → srcRing (ring h s) ≠ h →
      let r := ring h s
      let g := srcRing r
      Completes (.drainCopy h .clean) s (fun t =>
        t = { s with regs := t.regs, log := t.log, gran := t.gran, host := t.host } ∧
        (ring h t).tail = plus r.tail 1 ∧ (ring h t).head = r.head ∧
        (ring g t).head = plus (ring g s).head 1 ∧ (ring g t).tail = (ring g s).tail ∧ t.gran.mem = s.gran.mem ∧
        rdBytes t.gran.hostMem (hostAddr r + 40 * (r.tail.toNat % r.length)) 40
          = rdBytes s.gran.mem (slotAddr (ring g s) (ring g s).head) 40 ∧
        rdBytes t.gran.hostMem (hostAddr r + 40 * r.length) 8 = toLe 8 (plus r.tail 1).toNat)) ∧
    (∀ m d v, Reaches .grEvlog [d] m (oGrEvlog d) v s → d < 16 →
      Completes (.grEvlogWrite m d v) s (fun t => (d = 0 → bit v 20 = true → t.log.earlyOn = false) ∧
        ((d ≠ 0 ∨ bit v 20 = false) → OnlyRegs [oGrEvlog d] s t ∧ fR (oGrEvlog d) 19 0 t = fld v 19 0 ∧
          bR (oGrEvlog d) 20 t = bit v 20))) ∧
    (∀ d h, logHalf d s = some h → due h.flushAt s = true →
      let x := ring h.ring s
      x.type = 4 → x.owner = d → x.length ≠ 0 → freeSlots x ≠ 0 → x.eccStop = false →
      Completes (.evlogFlush d) s (fun t =>
        t = { s with regs := t.regs, log := t.log, gran := t.gran, host := t.host } ∧
        logHalf d t = none ∧ (ring h.ring t).tail = plus x.tail 1 ∧
        (ring h.ring t).head = x.head))

/-- R277-R279, R346: the ring routines: assignment to a domain, configuration, resizing, which empties the ring, clearing of the drop
counts, and a query, which returns the descriptor and changes nothing, or MEM_ERROR (R267, log entry 47). -/
def Obligations.RingRoutines : Prop :=
  ∀ (r : Routine) (s : State),
    let n := r.target
    let others := fun (t : State) => ∀ k, k ≠ n → ring k t = ring k s
    (Runs 0x101 r s → (bit (prm r 0) 0 = true → bR oSecDomains (fld (prm r 0) 4 1) s = true) → (ring n s).length = 0 →
      Completes .ringAssign s (fun t => t = { s with gran := t.gran, ce := t.ce } ∧ MemKept s t ∧ Ends 0 [] r s t ∧ others t ∧
        ring n t = { ring n s with owner := fld (prm r 0) 4 1, secure := bit (prm r 0) 0 })) ∧
    (Runs 0x102 r s → ringConfigRefusal r.dom n (ringAsk r) s = none → Completes .ringConfig s (fun t =>
      t = { s with gran := t.gran, ce := t.ce } ∧ MemKept s t ∧
      Ends 0 [] r s t ∧
      (ring n t).type = fld (prm r 0) 39 37 ∧ (ring n t).vector = fld (prm r 0) 36 26 ∧
      (ring n t).watermark = fld (prm r 1) 29 0 ∧ (ring n t).wmArmed = true ∧ (ring n t).length = (ring n s).length ∧
      (ring n t).tail = (ring n s).tail ∧ (ring n t).head = (ring n s).head ∧ (ring n t).owner = (ring n s).owner)) ∧
    (Runs 0x103 r s → resizeRefusal n (prm r 0).toNat (fld (prm r 1) 29 0) (r.flags.testBit 0) s = none →
      Completes (.ringResize .clean) s (fun t =>
        t = { s with
          regs := t.regs, log := t.log, halves := t.halves, wits := t.wits, gran := t.gran, ce := t.ce, host := t.host } ∧
        (∃ items, Ends 0 [BitVec.ofNat 40 (level (ring n s)), items] r s t) ∧
        (ring n t).length = fld (prm r 1) 29 0 ∧ (ring n t).tail = 0 ∧ (ring n t).head = 0 ∧
        (ring n t).forced = !ringQuiet n s ∧ (ring n t).owner = (ring n s).owner ∧
        ((ring n s).type ≠ 5 → (ring n s).type ≠ 6 → (ring n t).base = (prm r 0).toNat))) ∧
    (Runs 0x104 r s → Completes .ringClear s (fun t => t = { s with gran := t.gran, ce := t.ce } ∧ MemKept s t ∧
      Ends 0 [] r s t ∧ others t ∧
      ring n t = { ring n s with fullDrops := 0, disDrops := 0, lastDrop := 0 })) ∧
    (Runs 0x105 r s →
      (descrBad n s = false → Completes .ringQuery s (fun t =>
        Ends 0 (descrWords (ring n s)) r s t ∧ t = { s with ce := t.ce })) ∧
      (descrBad n s = true → Completes .ringQuery s (fun t =>
        Ends 9 [] r s t ∧ t = { s with regs := t.regs, log := t.log, ce := t.ce } ∧
        getR oGrEccAddr t = BitVec.ofNat 40 (64 * n))))

/-! ### The Ceari engine -/

/-- R275, R285-R296: a doorbell moves TAIL and puts a ring that becomes non-empty at the back of the list, or is refused with a record;
the engine takes the head packet of the first ring that can start; the reply of a routine that has ended goes to its STATUS ring, and its
packet is consumed; one that has taken longer than its worst case, without its time in handlers, is reported; a parked routine that has ended
takes the engine again, which no handler occupies. A STATUS ring whose descriptor cannot be corrected stops, and the reply waits (R267). -/
def Obligations.EngineQueue : Prop :=
  ∀ (s : State),
    (∀ m v, Reaches .cmdDoorbell [] m oCmdDoorbell v s →
      let n := fld v 39 20
      let c := fld v 19 0
      let r := ring n s
      (mayAct m r.owner r.secure = true → c ≠ 0 → r.type = 0 → c ≤ freeSlots r → Completes (.cmdDoorbell m v) s (fun t =>
        t = { s with regs := t.regs, log := t.log, gran := t.gran, ce := t.ce, host := t.host } ∧
        (ring n t).tail = plus r.tail c ∧ (ring n t).head = r.head ∧ (∀ k, k ≠ n → ring k t = ring k s) ∧
        t.ce.list = if level r = 0 ∧ n ∉ s.ce.list then s.ce.list ++ [n] else s.ce.list)) ∧
      (mayAct m r.owner r.secure = false → Completes (.cmdDoorbell m v) s (fun t => t = { s with log := t.log } ∧
        Logged (0x8000 + n % 4096) 3 0 (BitVec.ofNat 40 n) s t)) ∧
      (mayAct m r.owner r.secure = true → c ≠ 0 → (r.type ≠ 0 ∨ freeSlots r < c) → Completes (.cmdDoorbell m v) s (fun t =>
        t = { s with log := t.log } ∧ Logged (0x8000 + n % 4096) 0x604 0 (BitVec.ofNat 40 n) s t))) ∧
    (∀ n, engineRuns s = true → s.ce.cur = none → s.ce.handlers = [] → s.ce.list.find? (startable s) = some n → replyOk n s = true →
      packetSlots (ring n s) s ≤ (ring n s).length →
      let wd := packetWord (ring n s) s
      Completes (.packetStart .clean) s (fun t =>
        t = { s with
          regs := t.regs, log := t.log, slots := t.slots, binder := t.binder, gran := t.gran, ce := t.ce, host := t.host } ∧
        n ∉ t.ce.list ∧ t.gran = s.gran ∧ ∃ x, t.ce.cur = some x ∧ x.ring = n ∧
        x.dom = (ring n s).owner ∧ x.opcode = fld (wd 0) 39 28 ∧ x.tag = fld (wd 0) 15 0 ∧ x.target = fld (wd 1) 39 16 ∧
        x.params.length = fld (wd 0) 23 16 ∧ x.started = s.time.tick ∧
        (∀ c, x.ended = some c ↔ ∃ k, packetCheck { x with ended := none } (fld (wd 1) 15 12) s = some k ∧
          c = (k, [], s.time.tick)))) ∧
    (∀ r st res x, s.ce.cur = some r → r.ended = some (st, res, x) → s.ce.handlers = [] → replyOk r.ring s = true →
      (r.flags.testBit 2 = false ∨ st ≠ 0) → r.consume = true →
      let q := replyRing (ring r.ring s)
      let sl := toSlots (replyWords r st (res.take 255) x)
      sl.length ≤ freeSlots (ring q s) → (ring q s).eccStop = false → q ≠ r.ring →
      (∀ k, Completes (.replyWrite (.uncorrectable k)) s (fun t =>
        t = { s with regs := t.regs, log := t.log, gran := t.gran } ∧ (ring q t).eccStop = true ∧ MemKept s t)) ∧
      (∀ e, eccBad e = false → Completes (.replyWrite e) s (fun t =>
        t = { s with regs := t.regs, log := t.log, gran := t.gran, ce := t.ce, host := t.host } ∧
        t.ce.cur = none ∧ (ring q t).tail = plus (ring q s).tail sl.length ∧
        (ring q t).head = (ring q s).head ∧
        (ring r.ring t).head = plus (ring r.ring s).head (min r.slots (level (ring r.ring s))) ∧
        (if worstCase r < (x - r.started).toNat - r.inHandlers then Reports 0x9000 0x608 s t else t.log = s.log)))) ∧
    (∀ i r, s.ce.cur = none → s.ce.handlers = [] → tget? i s.ce.parked = some r → r.ended ≠ none → Completes (.routineResume i) s (fun t =>
      t = { s with ce := t.ce } ∧ t.ce.cur = some r ∧ tget? i t.ce.parked = none ∧
        ∀ j, j ≠ i → tget? j t.ce.parked = tget? j s.ce.parked))

/-- R98, R99, R117, R118, R245, R191, R221, R298: a load that passes its checks writes the words of its buffer into its unit, and a read writes
the words of its unit into its buffer, five bytes each; nothing else of that memory changes. WAVE_LOAD goes on in steps, each with its
words written and counted in the progress. -/
def Obligations.UnitLoads : Prop :=
  ∀ (r : Routine) (s : State),
    let g := r.target
    let a := (prm r 0).toNat
    let first := (prm r 1).toNat
    let n := (prm r 2).toNat
    let sp := (prm r 3).toNat
    let put := fun (old new : Tab W40) => ∀ i, tget 0 i new =
      if first ≤ i ∧ i < first + n then nth 0 (bufWords a n s) (i - first) else tget 0 i old
    let gave := fun (from_ : Nat → W40) (k : Nat) (t : State) =>
      (∀ i, i < k → rdWord t.gran.mem (a + 5 * i) = from_ i) ∧ MemKeptBut a (5 * k) s t
    let m := fillTab first (bufWords a n s) (seq g s).imem
    (Runs 0x301 r s → loadCheck r n (!((seq g s).st == .idle || (seq g s).st == .done || (seq g s).st == .faulted))
        (decide (8192 < first + n)) s = none → n ≠ 0 → (unbounded m).any (unbRefused (devNum s)) = false →
      Completes (.seqLoad .clean) s (fun t => t = { s with seqs := t.seqs, ce := t.ce } ∧ Ends 0 [] r s t ∧ put (seq g s).imem (seq g t).imem ∧
        (seq g t).unbHeld = !(unbounded m).isEmpty ∧ ∀ k, k ≠ g → seq k t = seq k s)) ∧
    (Runs 0x302 r s → loadCheck r n false (decide (8192 < first + n)) s = none →
      Completes .seqRead s (fun t =>
        t = { s with gran := t.gran, ce := t.ce } ∧
        Ends 0 [] r s t ∧ gave (fun i => tget 0 (first + i) (seq g s).imem) n t ∧ t.seqs = s.seqs)) ∧
    (∀ x : LoadTurn, x.ecc = .clean → Runs 0x303 r s →
      let k := x.words
      let p := r.progress.toNat
      let d := min k (n - p)
      (p = 0 → loadCheck r n false (decide (2097152 < first + n)) s = none) →
      Completes (.waveLoad x) s (fun t =>
        t = { s with wave := t.wave, ce := t.ce } ∧
        (p + d = n → Ends 0 [] r s t) ∧
        (p + d ≠ n → t.ce.cur = some { r with progress := BitVec.ofNat 40 (p + d) }) ∧
        ∀ i, tget 0 i t.wave = if waveKey g (first + p) ≤ i ∧ i < waveKey g (first + p) + d
          then nth 0 (bufWords (a + 5 * p) d s) (i - waveKey g (first + p)) else tget 0 i s.wave)) ∧
    (Runs 0x304 r s → loadCheck r n false (decide (2097152 < first + n)) s = none →
      Completes .waveRead s (fun t =>
        t = { s with gran := t.gran, ce := t.ce } ∧
        Ends 0 [] r s t ∧ gave (fun i => tget 0 (waveKey g first + i) s.wave) n t ∧
        t.wave = s.wave)) ∧
    (Runs 0x305 r s → coreCheck r s = none → Completes (.coreLoad .clean) s (fun t =>
      t = { s with cores := t.cores, ce := t.ce } ∧
      Ends 0 [] r s t ∧
      (sp = 0 → ∀ i, tget 0 i (core g t).prog = if first ≤ i ∧ i < first + n
        then nth 0 (bufWords a (2 * n) s) (2 * (i - first)) ++ nth 0 (bufWords a (2 * n) s) (2 * (i - first) + 1)
        else tget 0 i (core g s).prog) ∧
      (sp = 1 → put (core g s).db0 (core g t).db0) ∧ (sp = 2 → put (core g s).db1 (core g t).db1) ∧
      ∀ k, k ≠ g → core k t = core k s)) ∧
    (Runs 0x306 r s → coreCheck r s = none → Completes .coreRead s (fun t =>
      t = { s with gran := t.gran, ce := t.ce } ∧
      Ends 0 [] r s t ∧ t.cores = s.cores ∧
      (sp = 1 → gave (fun i => tget 0 (first + i) (core g s).db0) n t) ∧
      (sp = 2 → gave (fun i => tget 0 (first + i) (core g s).db1) n t) ∧
      (sp = 0 → gave (fun i => if i % 2 = 0 then BitVec.ofNat 40 ((tget 0 (first + i / 2) (core g s).prog).toNat / 2 ^ 40)
        else BitVec.ofNat 40 (tget 0 (first + i / 2) (core g s).prog).toNat) (2 * n) t))) ∧
    (Runs 0x401 r s → loadCheck r n false (decide (4096 < first + n)) s = none →
      Completes (.thrKernelLoad .clean) s (fun t =>
        t = { s with
          regs := t.regs, force := t.force, log := t.log, seqs := t.seqs, drv := t.drv, prb := t.prb, slots := t.slots, ce := t.ce,
            fresh := t.fresh } ∧
        Ends 0 [] r s t ∧
        if kpage g s then put (slot g s).page0 (slot g t).page0 else put (slot g s).page1 (slot g t).page1)) ∧
    (Runs 0x402 r s → loadCheck r n false (decide (65536 < first + n)) s = none →
      Completes (.bndTableLoad .clean) s (fun t =>
        t = { s with
          regs := t.regs, force := t.force, log := t.log, halves := t.halves, binder := t.binder, gran := t.gran, ce := t.ce,
            host := t.host, agenda := t.agenda } ∧
        Ends 0 [] r s t ∧
        if (decoder g s).page then put (decoder g s).tab0 (decoder g t).tab0 else put (decoder g s).tab1 (decoder g t).tab1)) ∧
    (Runs 0x201 r s → g < nTiles s → Completes .adcSelfCal s (fun t =>
      t = { s with regs := t.regs, adcs := t.adcs, ce := t.ce } ∧
      Parks r t ∧ ∀ f, f < 8 →
      (adc (8 * g + f) t).cal = some (plus s.time.tick 24000000) ∧ bR (oAdcStatus (8 * g + f)) 1 t = true))

/-! ### Security and NVM -/

/-- R303, R304, R396-R403: attestation writes its report, and needs the random generator; a Loft is loaded where its image passes its
checks and no two of its entries clash; ROLLBACK advances within its bounds; the identity and the NVM are copied to the buffer; writes
of the NVM and installations park with a journal, and an image that fails is refused with the number of its check. -/
def Obligations.SecurityRoutines : Prop :=
  ∀ (r : Routine) (s : State),
    let a := (prm r 0).toNat
    let img : ImageAt := ⟨s.gran.mem, a⟩
    let journals := fun (t : State) => Parks r t ∧ t.sec.journal ≠ []
    (Runs 0x701 r s → bufferCheck r a 3877 s = none → bR oSecStatus 32 s = true → Completes .attest s (fun t =>
      t = { s with gran := t.gran, ce := t.ce, free := t.free } ∧
      Ends 0 [3877] r s t ∧ rdBytes t.gran.mem a (reportHead r s).length = reportHead r s ∧ t.sec = s.sec)) ∧
    (Runs 0x701 r s → bufferCheck r a 3877 s = none → bR oSecStatus 32 s = false → Completes .attest s (fun t =>
      Ends 11 [] r s t ∧ t = { s with ce := t.ce })) ∧
    (∀ n, Runs 0x702 r s → n = (prm r 1).toNat → bufferCheck r a n s = none → bR oLoftStatus 2 s = false → n ≠ 0 →
      Completes (.loftLoad .clean) s (fun t => t = { s with regs := t.regs, log := t.log, ce := t.ce, sec := t.sec } ∧
        (∀ k, bufImageCheck 1 img n s = some k → Ends 10 [] r s t ∧ bR oLoftStatus 3 t = true ∧ t.ce.loft = s.ce.loft) ∧
        (bufImageCheck 1 img n s = none → loftClash img = true → Ends 4 [] r s t ∧ t = { s with ce := t.ce }) ∧
        (bufImageCheck 1 img n s = none → loftClash img = false → Ends 0 [] r s t ∧ bR oLoftStatus 2 t = true ∧
          ∀ i, i < 32 → getR (oLoftMatch i) t = loftEntry img i))) ∧
    (Runs 0x703 r s →
      let v := (prm r 0).toNat
      let c := s.sec.rollback
      (v ≤ c → v ≤ 64 → Completes .rollbackAdvance s (fun t => Ends 0 [0] r s t ∧ t = { s with ce := t.ce })) ∧
      (c < v → v ≤ 64 → v ≤ fR oSecStatus 24 19 s → v ≤ 16 * fR oSecStatus 18 17 s + 15 →
        Completes .rollbackAdvance s (fun t => t = { s with regs := t.regs, ce := t.ce, sec := t.sec } ∧
          Ends 0 [BitVec.ofNat 40 (v - c)] r s t ∧ t.sec.rollback = v ∧
          t.sec.burst = some (s.sec.burst.getD c) ∧ fR oSecStatus 31 25 t = v))) ∧
    (∀ n, Runs 0x704 r s → n = (identityBundle s).length → bufferCheck r a n s = none →
      Completes .identityRead s (fun t =>
        t = { s with gran := t.gran, ce := t.ce } ∧
        Ends 0 [BitVec.ofNat 40 n] r s t ∧ t.sec = s.sec ∧
        rdBytes t.gran.mem a n = identityBundle s ∧ MemKeptBut a n s t)) ∧
    (∀ x n, x = (prm r 1).toNat → n = (prm r 2).toNat → Runs 0x801 r s → nvmCheck r x n true s = none →
      Completes .nvmRead s (fun t =>
        t = { s with gran := t.gran, ce := t.ce } ∧
        Ends 0 [] r s t ∧ t.sec = s.sec ∧ rdBytes t.gran.mem a n = (upTo n).map (fun i => nvmByte s (x + i)) ∧
        MemKeptBut a n s t)) ∧
    (∀ x n, x = (prm r 1).toNat → n = (prm r 2).toNat → Runs 0x802 r s → nvmCheck r x n false s = none → n ≠ 0 →
      Completes (.nvmWrite .clean) s (fun t =>
        t = { s with ce := t.ce, sec := t.sec, free := t.free } ∧ journals t)) ∧
    (∀ n, n = (prm r 1).toNat → Runs 0x803 r s → bufferCheck r a n s = none → n ≤ 0x800000 → n ≠ 0 →
      Completes (.fwInstall .clean) s (fun t =>
        t = { s with ce := t.ce, sec := t.sec, free := t.free } ∧
        (∀ k, bufImageCheck 0 img n s = some k → Ends 10 [BitVec.ofNat 40 k] r s t ∧ t.sec = s.sec) ∧
        (bufImageCheck 0 img n s = none → journals t))) ∧
    (Runs 0x804 r s → Completes .restSet s (fun t =>
      t = { s with ce := t.ce, sec := t.sec } ∧ journals t)) ∧
    (∀ e, Runs 0x805 r s →
      ((fld (prm r 0) 2 0 = 7 ∨ 39 < fld (prm r 0) 13 8) → Completes (.linSet e) s (fun t => Ends 4 [] r s t ∧
        t = { s with ce := t.ce })) ∧
      (fld (prm r 0) 2 0 ≠ 7 → fld (prm r 0) 13 8 ≤ 39 → Completes (.linSet e) s (fun t =>
        t = { s with ce := t.ce, sec := t.sec } ∧ journals t)))

/-- R393, R396, R399-R401: a journaled write that has parked is in the NVM when its routine resumes; the Gleaner's rewrite of a weak sector begins
and ends while no sequencer is inside a shot, with the record of its application; a burst of rollback fuses ends with the count that it set; the random generator's failure is reported and shown. -/
def Obligations.NvmAndFuses : Prop :=
  ∀ (s : State),
    (∀ i r, s.ce.cur = none → s.ce.handlers = [] → tget? i s.ce.parked = some r → r.opcode = 0x802 → r.ended = none →
      Completes (.routineResume i) s (fun t =>
        t = { s with ce := t.ce, sec := t.sec } ∧
        t.sec.journal = [] ∧ tget? i t.ce.parked = none ∧
        rdBytes t.sec.nvm (prm r 1).toNat (keptBytes 3 r).length = keptBytes 3 r ∧
        ∃ x, t.ce.cur = some x ∧ x.ended = some (0, [], s.time.tick) ∧ x.ring = r.ring)) ∧
    (∀ p x ps, s.glean.pages = (p, x) :: ps → s.glean.rewriting = none → (s.life = .safe ∨ s.life = .ready) → anyInShot s = false →
      nvmFree s = true → bR oGleanCtl 27 s = true → s.therm.shutAt = none →
      Completes .nvmSectorRewrite s (fun t =>
        t = { s with glean := t.glean, sec := t.sec } ∧
        t.glean.rewriting = some p ∧ t.sec.journal ≠ [] ∧ t.sec.nvm = s.sec.nvm)) ∧
    (∀ p weak, s.glean.rewriting = some p → anyInShot s = false → Completes (.nvmRewriteDone weak) s (fun t =>
      t = { s with
        log := t.log, glean := { s.glean with rewriting := none, pages := t.glean.pages }, sec := { s.sec with journal := [] } } ∧
      tget? p t.glean.pages = none ∧ (∀ q, q ≠ p → tget? q t.glean.pages = tget? q s.glean.pages) ∧
      (weak = false → Logged 0xD000 0x901 0 (tget 0 p s.glean.pages) s t) ∧
      (weak = true → Reports 0xD000 0x901 s t ∧ Reports 0xD000 0x902 s t))) ∧
    (∀ p weak, s.glean.rewriting = some p → anyInShot s = true → Completes (.nvmRewriteDone weak) s (fun t => t = s)) ∧
    (∀ c, s.sec.burst = some c → Completes .rollbackBurstDone s (fun t => t.sec.burst = none ∧
      t.sec.rollback = s.sec.rollback ∧ OnlyRegs [oSecStatus] { s with sec := t.sec } t)) ∧
    (s.life ≠ .off → Completes .trngFail s (fun t =>
      t = { s with regs := t.regs, log := t.log, sec := { s.sec with trngBad := true } } ∧
      bR oSecStatus 32 t = false ∧
      Logged 0xD000 0x00B 0 0 s t ∧ ∀ o, o ≠ oSecStatus → getR o t = getR o s))

/-! ### Monitors -/

/-- R349-R353: a request for an urgent conversion, of the host or of a sensor, joins the queue, and the conversion it breaks off counts; the
first of the queue begins as the tick ends; a conversion that ends delivers its raw code, in resistance mode half the difference of its halves
(rounded by the model's choice, log entry 144); a change of the scan restarts it; a SENSE input enabled begins at the range the spec gives and
waits 1 ms. -/
def Obligations.MonitorConversions : Prop :=
  ∀ (s : State),
    (∀ r c, Runs 0x901 r s → s.mon.cur = some c → c.urgent = false → c.host = false → s.mon.urgent = [] → (prm r 0).toNat ≤ 5 →
      fR oMonStatus 19 12 s < 2 ^ 8 - 1 → Completes .monUrgent s (fun t =>
        t = { s with regs := t.regs, mon := { s.mon with
          urgent := [⟨r.target, (prm r 0).toNat, true, s.time.tick⟩], aborted := some (c.src, c.tcode), cur := none } } ∧
        fR oMonStatus 19 12 t = fR oMonStatus 19 12 s + 1 ∧ ∀ o, o ≠ oMonStatus → getR o t = getR o s)) ∧
    (∀ u, 16 ≤ u → u < 58 → (tget {} (u - 16) s.therm.sensors).urgentPend = true → monRuns s = true → trapPends 5 s = true →
      trapFree 5 s = true → s.mon.urgent = [] → s.mon.cur = none →
      Completes (.urgentRequest u) s (fun t =>
        t = { s with regs := t.regs, ce := t.ce, therm := t.therm, free := s.free + 1
                     mon := { s.mon with urgent := [⟨u, 0, false, s.time.tick⟩] } } ∧
        (tget {} (u - 16) t.therm.sensors).urgentPend = false ∧
        ∃ d, 1 ≤ d ∧ d ≤ 1000 ∧ t.ce.handlers.head? = some (5, plus s.time.tick d))) ∧
    (∀ q rest, monRuns s = true → s.mon.cur = none → s.mon.urgent = q :: rest → 16 ≤ q.src →
      convKick s = { s with mon := { s.mon with
        cur := some { src := q.src, tcode := q.tcode, fin := plus s.time.tick (6000 + integration q.tcode), urgent := true, host := q.host }
        urgent := rest } }) ∧
    (∀ c x, s.mon.cur = some c → monRuns s = true → due c.fin s = true → sourceHere c.src s = true →
      (c.src < 16 → (sense c.src s).open_ = false ∧ c.openI = false ∧ x.openV = false) →
      Completes (.monConversionDone x) s (fun t =>
        t = { s with
          regs := t.regs, log := t.log, halves := t.halves, gran := t.gran, ce := t.ce, mon := t.mon, senses := t.senses,
            host := t.host } ∧
        getR (oMonLastRaw c.src) t = BitVec.ofInt 40 (clampI (-8388608) 8388607 (if c.src < 16 then convValue c.src x s else x.raw)) ∧
        bit (getR (oMonLastTag c.src) t) 15 = true)) ∧
    (∀ m n v, n < 16 → Reaches .senseCfg [n] m (oSenseCfg n) v s → bit v 0 = true → bR (oSenseCfg n) 0 s = false →
      Completes (.senseCfgWrite m n v) s (fun t =>
        t = { s with regs := t.regs, senses := t.senses } ∧
        getR (oSenseCfg n) t = BitVec.ofNat 40 (fld v 7 0) ∧
        (sense n t).readyAt = some (plus s.time.tick 1000000) ∧ (sense n t).range = if bit v 2 then 5 else fld v 5 3)) ∧
    (∀ m e v, e < 32 → Reaches .monScan [e] m (oMonScan e) v s → Completes (.monScanWrite m e v) s (fun t =>
      t = { s with regs := t.regs, mon := { s.mon with fresh := true } } ∧ fR (oMonScan e) 10 0 t = fld v 10 0 ∧
        ∀ o, o ≠ oMonScan e → getR o t = getR o s))

/-- R361, R364-R369: two failed compliance checks in a row set OPEN_I; a clamp that acts is shown and recorded once; a window monitor compares its
ball with both thresholds at its rate; an overload tick counts and is recorded once; a self-test parks. -/
def Obligations.MonitorChecks : Prop :=
  ∀ (s : State),
    (∀ n ok, n < 16 → monRuns s = true → bR (oSenseCfg n) 0 s = true → Completes (.senseComplianceCheck n ok) s (fun t =>
      (ok = true → t = { s with senses := t.senses } ∧ sense n t = { sense n s with failed := 0, open_ := false }) ∧
      (ok = false → (sense n s).failed = 0 → t = { s with senses := t.senses } ∧ sense n t = { sense n s with failed := 1 }) ∧
      (ok = false → (sense n s).failed = 1 → t = { s with regs := t.regs, mon := t.mon, senses := t.senses } ∧
        (sense n t).open_ = true ∧ bR (oSenseStat n) 6 t = true))) ∧
    (∀ n, n < 16 → monRuns s = true → bR (oSenseStat n) 9 s = false → Completes (.senseOvervolt n) s (fun t =>
      t = { s with regs := t.regs, log := t.log, mon := t.mon } ∧
      bR (oSenseStat n) 9 t = true ∧ Logged (0xB000 + n) 0x803 0 0 s t ∧ ∀ o, o ≠ oSenseStat n → getR o t = getR o s)) ∧
    (∀ u uv, u < nTiles s → fR (oWmonTile u) 13 0 s ≠ 0 → s.time.tick.toNat % (100 * fR (oWmonTile u) 13 0 s) = 0 →
      tilePowered u s = true → selfTesting u s = false → Completes (.wmonTick u uv) s (fun t =>
        t = { s with regs := t.regs, fabric := t.fabric, agenda := t.agenda } ∧
        ∀ c, c < 96 →
        let cfg := getR (oWmonCfg (96 * u + c)) s
        bR (oWmonStat (96 * u + c)) 0 t =
          (bit cfg 20 && (atLeast (nth 0 uv c) (fld cfg 19 10) || !atLeast (nth 0 uv c) (fld cfg 9 0))))) ∧
    (∀ u f uv, u < nTiles s → f < 8 → 1000 * fR (oOvlCfg (8 * u + f)) 9 0 s < uv → bR (oOvlCfg (8 * u + f)) 10 s = true → tilePowered u s = true → selfTesting u s = false →
      tget? (8 * u + f) s.mon.ovl ≠ some s.time.tick → fR (oOvlStat (8 * u + f)) 39 20 s < 2 ^ 20 - 1 →
      Completes (.rfOverload u f uv) s (fun t =>
        t = { s with regs := t.regs, log := t.log, fabric := t.fabric, mon := t.mon, agenda := t.agenda } ∧
        bR (oOvlStat (8 * u + f)) 0 t = true ∧
        fR (oOvlStat (8 * u + f)) 39 20 t = fR (oOvlStat (8 * u + f)) 39 20 s + 1 ∧
        tget? (8 * u + f) t.mon.ovl = some s.time.tick ∧
        (bR (oOvlStat (8 * u + f)) 0 s = false → Logged (0x4000 + 8 * u + f) 0x804 0 0 s t) ∧
        (bR (oOvlStat (8 * u + f)) 0 s = true → t.log = s.log))) ∧
    (∀ r wmon ovl, Runs 0x902 r s → Completes (.monSelftest wmon ovl) s (fun t =>
      t = { s with ce := t.ce, free := t.free, agenda := t.agenda } ∧
      Parks r t ∧ t.free = s.free + 1 ∧
      t.regs = s.regs))

/-! ### Events -/

/-- R306-R310, R313: EV_FIRE fires its channel at the present tick; a channel that fires counts, shows itself with the largest depth of its
sources, and sends to its inputs; a route and a channel's owner take the value written. -/
def Obligations.EventCommands : Prop :=
  ∀ (m : Nat) (v : W40) (s : State),
    (Reaches .evFire [] m oEvFire v s → fabricRuns s = true → Completes (.evFire m v) s (fun t =>
      t = { s with fabric := t.fabric } ∧ t.fabric.fires = s.fabric.fires ++ [⟨s.time.tick, fld v 8 0, 0, none, true⟩])) ∧
    (∀ c f, c < 512 → fabricRuns s = true → firstFire c s = some f → fR (oEvChanStat c) 39 16 s < 2 ^ 24 - 1 →
      Completes (.eventChannelFire c) s (fun t =>
        t = { s with regs := t.regs, log := t.log, fabric := t.fabric, agenda := t.agenda } ∧
        (∀ y, y ∈ t.fabric.fires ↔ y ∈ s.fabric.fires ∧ ¬ (y.at_ = f.at_ ∧ fireRoute y s = some c)) ∧ bR (oEvChanStat c) 0 t = true ∧
        fR (oEvChanStat c) 7 4 t = ((firesAt f.at_ c s).foldl (fun a x => max a x.depth) 0) % 16 ∧
        fR (oEvChanStat c) 39 16 t = fR (oEvChanStat c) 39 16 s + 1)) ∧
    (∀ u, u < 5121 → Reaches .evRoute [u] m (oEvRoute u) v s → s.fresh = [] → Completes (.evRouteWrite m u v) s (fun t =>
      OnlyRegs [oEvRoute u] s t ∧ fR (oEvRoute u) 9 0 t = fld v 9 0)) ∧
    (∀ c, c < 512 → Reaches .evChanCfg [c] m (oEvChanCfg c) v s → s.fresh = [] → Completes (.evChanCfgWrite m c v) s (fun t =>
      OnlyRegs [oEvChanCfg c] s t ∧ fR (oEvChanCfg c) 4 0 t = fld v 4 0))

/-! ### Ports -/

/-- R317-R325, R329, R330: a port sends a frame every five ticks: the idle frame while it trains or has nothing, an item in its place; no
frame before its lanes are aligned; the parity lane carries the XOR of the others, from which one lost lane is rebuilt. A frame that fails its check is discarded and counted; in the last phase of training good frames
with RX UP count. An item acts at its release tick: an item of the own device is counted, another's verdict goes to the bus. -/
def Obligations.FramesAndItems : Prop :=
  ∀ (p : Nat) (s : State), p < 6 → gated s = false →
    let q := port p s
    let n := (s.time.epoch.toNat * 2 ^ 40 + s.time.tick.toNat) / 5
    let onlyPort := fun (t : State) => t = { s with ports := t.ports } ∧ ∀ k, k ≠ p → port k t = port k s
    (bR (oPortCtl p) 0 s = true → fullMod 5 s = true → s.time.counting = true →
      ((q.phase = 0 ∨ q.phase = 4) → Completes (.frameTransmit p) s (fun t => onlyPort t ∧
        port p t = { q with tx := frameWords n 15 false 0 [] })) ∧
      (q.phase = 5 → Completes (.frameTransmit p) s (fun t => onlyPort t ∧ port p t = { q with tx := frameWords n 15 true 0 [] })) ∧
      ((q.phase = 1 ∨ q.phase = 2 ∨ q.phase = 3) → Completes (.frameTransmit p) s (fun t => onlyPort t ∧
        port p t = { q with tx := [], txAt := fullTime s })) ∧
      (∀ it, q.phase = 6 → usable p s = true → fullMod 1000 s = false → bR oPairStatus 35 s = false → federated s = false → q.data = [] →
        q.tseg = [] → q.out = [it] → notBefore it.posted s.time.tick = false →
        notBefore (plus it.posted 5) s.time.tick = true → Completes (.frameTransmit p) s (fun t => onlyPort t ∧
          port p t = { q with tx := frameWords n 15 true 0 [itemPlace s.time.tick it], out := [] }))) ∧
    (∀ (ws : List W40) (k : Nat), 1 ≤ k → k ≤ 15 →
      frameSymbol ws 4 0 = frameSymbol ws 0 0 ∧
      frameSymbol ws 4 k = frameSymbol ws 0 k ^^^ frameSymbol ws 1 k ^^^ frameSymbol ws 2 k ^^^ frameSymbol ws 3 k ∧
      ∀ l e (x : RxFrame), l < 4 → e < 5 →
        x.lanes = (upTo 5).map (fun i => (upTo 16).map (fun j => if i = e then none else some (frameSymbol ws i j))) →
        rxByte [] x l k = frameSymbol ws l k) ∧
    (∀ x, bR (oPortCtl p) 0 s = true → q.phase = 5 →
      let u := laneChange p x s
      let y := rxFrame p x u
      let frame := fun (t : State) => t = { s with
        regs := t.regs, time := t.time, log := t.log, seqs := t.seqs, outs := t.outs, ce := t.ce, ports := t.ports, pair := t.pair }
      (y.twoErasures = true → fR (oPortCounts p) 29 20 s < 2 ^ 10 - 1 → Completes (.frameReceive p x) s (fun t => frame t ∧
        fR (oPortCounts p) 29 20 t = fR (oPortCounts p) 29 20 s + 1 ∧ (port p t).goodRun = 0 ∧ (port p t).rx = (port p u).rx)) ∧
      (y.twoErasures = false → y.kOk = true → frameCrc y.words = fld (nth 0 y.words 2) 31 0 → (port p u).phase = 5 →
        Completes (.frameReceive p x) s (fun t => frame t ∧
          (port p t).goodRun = (if bit (nth 0 y.words 2) 35 then (port p u).goodRun + 1 else 0) ∧
          bR (oPortStatus p) 24 t = bit (nth 0 y.words 2) 35 ∧ (port p t).phase = 5))) ∧
    (∀ it, firstItem s q.rx none = some it → federated s = true → usable p s = true →
      (it.src = devNum s → fR oVbStat 11 0 s < 2 ^ 12 - 1 → Completes (.itemRelease p) s (fun t =>
        t = { s with regs := t.regs, ports := t.ports } ∧
        fR oVbStat 11 0 t = fR oVbStat 11 0 s + 1 ∧ (port p t).rx = q.rx.erase it)) ∧
      (it.src ≠ devNum s → bR oFedStatus 1 s = false → it.kind ≠ 2 → Completes (.itemRelease p) s (fun t =>
        t = { s with regs := t.regs, log := t.log, barriers := t.barriers, bus := t.bus, ports := t.ports } ∧
        t.bus = s.bus ++ [{ at_ := it.release, word := it.word, ref := it.ref, remote := true }] ∧
        (port p t).rx = q.rx.erase it)))

/-- R326-R332: a time message keeps the peer's stamps; a missed heartbeat counts, the third takes a port down, and so does a lost clock lane,
with their causes; EN acts at the next frame start; training goes through its phases in order, and fails at the limit of one; a narrow eye is
reported. -/
def Obligations.PortStates : Prop :=
  ∀ (p : Nat) (s : State), p < 6 →
    let q := port p s
    let from_ := q.missAt.getD q.phaseAt
    let down := fun (cause : Nat) (t : State) => portUp p t = false ∧ (port p t).phase = 0 ∧ fR (oPortStatus p) 35 32 t = cause ∧
      Reports (0x7000 + p) 0x706 s t ∧
      t = { s with
        regs := t.regs, time := t.time, log := t.log, seqs := t.seqs, outs := t.outs, ce := t.ce, ports := t.ports, pair := t.pair }
    (gated s = false →
      (∀ x, portUp p s = true → Completes (.timeMessageReceive p x) s (fun t =>
        t = { s with
          regs := t.regs, time := t.time, log := t.log, seqs := t.seqs, barriers := t.barriers, ports := t.ports, fed := t.fed } ∧
        (port p t).lastMsg = some s.time.tick ∧ (port p t).missAt = some (plus s.time.tick 1000) ∧
        (port p t).missRun = 0 ∧ (port p t).peerTx = x.tx ∧ (port p t).peerRx = x.arrival ∧
        (port p t).peerMseq = x.mseq % 2 ^ 20 ∧ fR (oPortStatus p) 23 20 t = x.dev % 16)) ∧
      (portUp p s = true → due (plus from_ 1000) s = true →
        (q.missRun < 2 → fR (oPortCounts p) 9 0 s < 2 ^ 10 - 1 → Completes (.heartbeatMiss p) s (fun t =>
          t = { s with regs := t.regs, ports := t.ports } ∧ (∀ k, k ≠ p → port k t = port k s) ∧
          port p t = { q with missRun := q.missRun + 1, missAt := some (plus from_ 1000) } ∧
          fR (oPortCounts p) 9 0 t = fR (oPortCounts p) 9 0 s + 1)) ∧
        (2 ≤ q.missRun → Completes (.heartbeatMiss p) s (down 3))) ∧
      ((portUp p s = true ∨ (training p s = true ∧ bR (oPortStatus p) 26 s = true)) →
        Completes (.clockLaneLoss p) s (fun t => down 1 t ∧ bR (oPortStatus p) 26 t = false)) ∧
      (bR (oPortCtl p) 0 s = true → q.phase = 0 → Completes (.trainAutostart p) s (fun t =>
        t = { s with regs := t.regs, ce := t.ce, ports := t.ports } ∧ (port p t).phase = 1 ∧ (port p t).phaseAt = s.time.tick)) ∧
      (∀ eyes, 1 ≤ q.phase → q.phase ≤ 5 → phaseOver p s = false → (q.phase = 5 → 1024 ≤ q.goodRun) →
        Completes (.trainPhaseComplete p [] eyes) s (fun t =>
          t = { s with regs := t.regs, log := t.log, ce := t.ce, ports := t.ports } ∧
          (port p t).phase = q.phase + 1 ∧ (q.phase = 5 → portUp p t = true ∧ Reports (0x7000 + p) 0x707 s t))) ∧
      (1 ≤ q.phase → q.phase ≤ 5 → phaseOver p s = true → Completes (.trainTimeout p) s (fun t => down 7 t ∧
        Reports (0x7000 + p) 0xD s t)) ∧
      (∀ eyes, portUp p s = true → eyes.length = 5 → eyes.foldl min 255 < 16 → q.eyeLow = false →
        Completes (.linkEyeLow p eyes) s (fun t =>
          t = { s with regs := t.regs, log := t.log, ports := t.ports } ∧
          Logged (0x7000 + p) 0x708 0 0 s t ∧
          ∀ i, i < 5 → fR (oPortEye p) (8 * i + 7) (8 * i) t = min 255 (nth 0 eyes i)))) ∧
    (∀ m v, Reaches .portCtl [p] m (oPortCtl p) v s → Completes (.portCtlWrite m p v) s (fun t =>
      t = { s with agenda := s.agenda ++ [(nextFrame s, .portEn p (bit v 0))] })) ∧
    (∀ r, Runs 0x605 r s → r.target = p → bR (oPortCtl p) 0 s = true → (portUp p s = true → q.phase = 6) →
      Completes .portRetrain s (fun t =>
        t = { s with
          regs := t.regs, time := t.time, log := t.log, seqs := t.seqs, outs := t.outs, ce := t.ce, ports := t.ports, pair := t.pair } ∧
        Parks r t ∧
        (port p t).phase = 1 ∧ (portUp p s = true → Reports (0x7000 + p) 0x706 s t)))

/-! ### Federations and pairs -/

/-- R333-R338: FED_LOAD brings the words of its buffer into force and FED_CLEAR takes a configuration away; a reach message of another device
shows it as reachable, is kept with its tick, and goes on over the usable ports that FWD names while it has passed at most four ports; one
with the own number and another serial is recorded once; 3 us without a message show a device as not reachable. Where REACH then differs from
MEMBERS, the device is isolated, or, isolated already, records the device that can join again. -/
def Obligations.FederationReach : Prop :=
  ∀ (s : State),
    (∀ r, Runs 0x601 r s → federated s = false → bufferCheck r (prm r 0).toNat 90 s = none → (prm r 1).toNat = 18 →
      let ws := bufWords (prm r 0).toNat 18 s
      let w0 := nth 0 ws 0
      (fld w0 39 36 = devNum s ∨ unbStarted s = false) → fedContents ws s = none →
      Completes (.fedLoad .clean) s (fun t => Ends 0 [] r s t ∧
        FedTakes ws (bufLink ws) true (fld w0 39 32 * 2 ^ 16 + fld w0 15 0) s t)) ∧
    (∀ r, Runs 0x602 r s → federated s = false → (devNum s = 0 ∨ unbStarted s = false) → Completes .fedClear s (fun t =>
      Ends 0 [] r s t ∧ FedTakes [] (fun _ => false) false 0 s t)) ∧
    (∀ p v f, gated s = false → usable p s = true →
      let d := fld v 39 36
      let hops := fld v 35 32 + 1
      (d ≠ devNum s → Completes (.reachMessage p ⟨v, f⟩) s (fun t =>
        t = { s with
          regs := t.regs, log := t.log, barriers := t.barriers, ports := t.ports, fed := { s.fed with seen := tput d s.time.tick s.fed.seen } } ∧
        bR oFedReach d t = true ∧ (∀ k, k < 16 → k ≠ d → bR oFedReach k t = bR oFedReach k s) ∧
        (∀ q, port q t =
          if q < nPorts s ∧ q ≠ p ∧ fedFwd d q s = true ∧ usable q s = true ∧ hops ≤ 4 then
            { port q s with data := dataFront { type := 1, word := setFld v 35 32 hops, field := f } (port q s).data }
          else port q s) ∧
        (bR oFedReach d s = true → t.log = s.log ∧ t.barriers = s.barriers ∧ ∀ o, getR o t = getR o s) ∧
        (bR oFedReach d s = false → bR oFedStatus 1 s = true → Logged (0x7000 + p) 0x70C 0 0 s t) ∧
        (bR oFedReach d s = false → FedIsolates s t))) ∧
      (d = devNum s → fld v 31 0 ≠ s.fuses.serial.toNat % 2 ^ 32 → s.fed.clash = false →
        (bR oPairStatus 35 s = true → fld v 31 0 ≠ s.pair.twinSerial.toNat) → Completes (.reachMessage p ⟨v, f⟩) s (fun t =>
        t = { s with log := t.log, fed := { s.fed with clash := true } } ∧
        Logged (0x7000 + p) 0x700 0 (BitVec.ofNat 40 (p * 2 ^ 32 + fld v 31 0)) s t))) ∧
    (∀ d x, d < 16 → gated s = false → tget? d s.fed.seen = some x → d ≠ devNum s → bR oFedReach d s = true →
      due (plus x 3000) s = true → Completes (.reachTimeout d) s (fun t =>
        t = { s with regs := t.regs, log := t.log, barriers := t.barriers, fed := { s.fed with seen := tdel d s.fed.seen } } ∧
        bR oFedReach d t = false ∧ (∀ k, k < 16 → k ≠ d → bR oFedReach k t = bR oFedReach k s) ∧
        FedIsolates s t ∧
        (federated s = false → t.log = s.log ∧ t.barriers = s.barriers ∧ ∀ o, o ≠ oFedReach → getR o t = getR o s)))

/-- R339-R347: PAIR_START sends the own half and succeeds once the twin's half passes every check, or fails after 20 us with the number of the
check; the handover agrees on a tick from both halves' messages, which waits for 8 us; at that tick the outputs begin to switch; the
voice's CRCs and verdicts wait for the own ones, and an own item that waits too long counts; a mirror slot goes to its ring. -/
def Obligations.PairsAndHandover : Prop :=
  ∀ (s : State),
    let fails := fun (t : State) =>
      t = { s with regs := t.regs, outs := t.outs, ce := t.ce, pair := t.pair } ∧
      t.pair.myN = none ∧ t.pair.twinN = none ∧ t.pair.agreed = none ∧ bR oPairStatus 31 t = false ∧ mode 6 t = mode 6 s ∧
      ∀ i r, tget? i s.ce.parked = some r → r.opcode = 0x604 → r.ended = none → ∃ y res, tget? i t.ce.parked = some y ∧
        y.ended = some (15, res, s.time.tick)
    (∀ r, Runs 0x603 r s →
      let p := fld (prm r 0) 3 0
      let role := bit (prm r 0) 4
      let tm := bit (prm r 0) 5
      let starts := fun (t : State) =>
        t = { s with regs := t.regs, time := t.time, ce := t.ce, fed := t.fed, pair := t.pair } ∧
        Ends 0 [] r s t ∧ mode 6 t = role ∧ bR oPairStatus 35 t = true ∧ pairPort t = p ∧ bR oPairStatus 30 t = tm
      (s.pair.startAt.any (fun x => notBefore x r.started) = false → p < nPorts s → portUp p s = true →
        (twinFresh s = none → Completes .pairStart s (fun t =>
          t = { s with pair := { s.pair with startAt := some s.time.tick, halfOut := some (ownHalf p role tm s) } })) ∧
        (∀ h, twinFresh s = some h → pairFailed (ownHalf p role tm s) h = none → Completes .pairStart s starts)) ∧
      (∀ x h, p < 6 → gated s = false → s.pair.startAt = some x → pairOver x s = false → pairFailed (ownHalf p role tm s) h = none →
        Completes (.pairStartChecksMessage h) s starts) ∧
      (∀ x, gated s = false → s.pair.startAt = some x → due (plus x 20000) s = true →
        (s.pair.twinHalf = none → Completes .pairStartTimeout s (fun t =>
          t = { s with ce := t.ce, pair := { s.pair with startAt := none, twinHalf := none } } ∧ Ends 14 [1] r s t)) ∧
        (∀ h y k, s.pair.twinHalf = some (h, y) → pairFailed (ownHalf p role tm s) h = some k →
          Completes .pairStartTimeout s (fun t =>
            t = { s with ce := t.ce, pair := { s.pair with startAt := none, twinHalf := none } } ∧
            Ends 14 [BitVec.ofNat 40 k] r s t)))) ∧
    (∀ r, Runs 0x604 r s → bR oPairStatus 35 s = true → portUp (pairPort s) s = true → s.pair.myN = none → s.pair.agreed = none →
      s.pair.twinN = none → Completes .pairHandover s (fun t =>
        t = { s with regs := t.regs, outs := t.outs, ce := t.ce, pair := t.pair } ∧
        Parks r t ∧ t.pair.myN = some (prm r 0, s.time.tick) ∧
        t.pair.sendQ = s.pair.sendQ ++ [(6, prm r 0, BitVec.ofNat 16 s.time.tick.toNat), (7, s.time.tick, 0)])) ∧
    (∀ n a m recv, gated s = false → bR oPairStatus 35 s = true → portUp (pairPort s) s = true → s.pair.myN = some (n, a) →
      (m = n → due (plus a 8001) s = false → Completes (.handoverMessage m recv) s (fun t =>
        t = { s with regs := t.regs
                     pair := { s.pair with agreed := some (n, plus (later a recv) 2000), myN := none, twinN := none } } ∧
        getR oPairHandoverTick t = plus (later a recv) 2000 ∧ ∀ o, o ≠ oPairHandoverTick → getR o t = getR o s)) ∧
      ((m ≠ n ∨ due (plus a 8001) s = true) → Completes (.handoverMessage m recv) s fails)) ∧
    (∀ n a, gated s = false → s.pair.agreed = some (n, a) → s.pair.switching = false → due a s = true → (∀ g, g < nSeqs s → inShot g s = true) →
      Completes .handoverAgreedTick s (fun t =>
        t = { s with regs := t.regs, log := t.log, outs := t.outs, ce := t.ce, pair := t.pair } ∧
        t.pair.switching = true ∧ bR oPairStatus 31 t = true ∧ t.outs = s.outs ∧
        mode 6 t = mode 6 s)) ∧
    (∀ n x, gated s = false → s.pair.myN = some (n, x) → s.pair.agreed = none → due (plus x 8000) s = true →
      Completes .pairHandoverTimeout s fails) ∧
    (∀ v f, gated s = false → cmpRuns s = true → isEcho s = true → s.pair.items = [] →
      Completes (.outputCrcMessage v f) s (fun t => t = { s with pair := t.pair } ∧ ∃ it, t.pair.items = [it] ∧ it.kind = 0 ∧
        it.val = BitVec.ofNat 40 (fld v 31 0) ∧ it.sub = BitVec.ofNat 40 (fld v 39 32) ∧ it.ours = false) ∧
      (vcmpOff s = false → Completes (.pairVerdictMessage v f) s (fun t => t = { s with pair := t.pair } ∧
        ∃ it, t.pair.items = [it] ∧ it.kind = 1 ∧ it.key = vIndex v ∧ it.val = v ∧ it.ours = false))) ∧
    (∀ i it, gated s = false → s.pair.items[i]? = some it → due (plus it.made (cmpWait s)) s = true → it.ours = true →
      fR oPairCounts 19 0 s < 2 ^ 20 - 1 → Completes (.compareTimeout i) s (fun t =>
        t = { s with regs := t.regs, log := t.log, pair := t.pair } ∧
        t.pair.items = s.pair.items.eraseIdx i ∧ fR oPairCounts 19 0 t = fR oPairCounts 19 0 s + 1)) ∧
    (∀ p v sl, gated s = false → usable p s = true → (ring (fld v 19 0) s).type = 2 → (ring (fld v 19 0) s).eccStop = false →
      (ring (fld v 19 0) s).length ≠ 0 → freeSlots (ring (fld v 19 0) s) ≠ 0 → Completes (.mirrorHeader p v sl) s (fun t =>
        t = { s with regs := t.regs, log := t.log, gran := t.gran, host := t.host } ∧
        (ring (fld v 19 0) t).tail = plus (ring (fld v 19 0) s).tail 1 ∧
        (ring (fld v 19 0) t).head = (ring (fld v 19 0) s).head))

/-! ### Thermal management and the Gleaner -/

/-- R136, R375-R385: a tracking reading enters its register; the thresholds are taken from THERM_THR at the update; the rate, the warning, the
throttle and the shutdown threshold set at their temperatures and clear 6 or 8 degrees below; TMAX and SMAX show the highest reading, and a
tile's band follows the highest one of the tile. The throttle and its end, the shutdown, the end of its grace and the power-off of tiles act with their records once the engine
takes their micro-traps (R300); while the ledger is older than 24 hours it is written to NVM, which a cut write leaves as it was; the thresholds take the value written. -/
def Obligations.ThermalCommands : Prop :=
  ∀ (s : State),
    (∀ u x, s.pins.vaux = true → u ∈ sensorsOf s →
      let r := satI 16 x
      let v := getR oThermThr s
      let warn : Int := (fld v 7 0 : Nat)
      let throttle : Int := (fld v 15 8 : Nat)
      let shut : Int := (fld v 23 16 : Nat)
      Completes (.thermalSensorUpdate u x) s (fun t =>
        t = { s with
          regs := t.regs, log := t.log, seqs := t.seqs, drv := t.drv, prb := t.prb, outs := t.outs, bias := t.bias, ce := t.ce,
            therm := t.therm, fresh := t.fresh, free := t.free } ∧
        (32 ≤ u → t = { s with regs := t.regs, log := t.log, bias := t.bias, ce := t.ce, therm := t.therm }) ∧
        readingOf u t = r ∧ (∀ k, k ≠ u → readingOf k t = readingOf k s) ∧ t.therm.thr = v ∧
        getR (oThermSensor u) t = BitVec.ofNat 40 (unsx 16 r * 256 + if (tget {} u t.therm.sensors).fast then 1 else 0) ∧
        (deg (throttle - 5) ≤ r → (tget {} u t.therm.sensors).fast = true) ∧
        (r < deg (throttle - 8) → (tget {} u t.therm.sensors).fast = false) ∧
        fR oThermStatus 31 26 t = (highest t (sensorsOf s)).1 ∧
        fR oThermStatus 39 32 t = (clampI 0 255 ((highest t (sensorsOf s)).2 / 256)).toNat ∧
        (deg warn ≤ r → bR oThermStatus 1 t = true) ∧ (allBelow (deg (warn - 6)) t = true → bR oThermStatus 1 t = false) ∧
        (powered s = true →
          (deg throttle ≤ r → t.therm.thrSet = true) ∧ (allBelow (deg (throttle - 6)) t = true → t.therm.thrSet = false) ∧
          (t.therm.thrSet ≠ s.therm.thrSet → 3 ∈ t.ce.traps) ∧
          (deg shut ≤ r → t.therm.shutSet = true) ∧ (allBelow (deg (shut - 6)) t = true → t.therm.shutSet = false) ∧
          (t.therm.shutSet = true → s.therm.shutSet = false → 2 ∈ t.ce.traps) ∧
          (u < 32 → tileBand (u / 4) t =
            bandAfter (highest t ((upTo 4).map (fun i => 4 * (u / 4) + i))).2 (tileBand (u / 4) s))))) ∧
    (s.life ≠ .off → trapPends 3 s = true → trapFree 3 s = true →
      (s.therm.thrSet = true → bR oThermStatus 2 s = false → Completes .thermalThrottle s (fun t =>
        t = { s with
          regs := t.regs, log := t.log, seqs := t.seqs, outs := t.outs, wits := t.wits, gran := t.gran, ce := t.ce, fabric := t.fabric,
            glean := t.glean, host := t.host, free := t.free } ∧
        MemKept s t ∧ bR oThermStatus 2 t = true ∧ 3 ∉ t.ce.traps ∧ Reports 0xC000 0x80A s t ∧
        (∀ e, (wit e t).st = .off) ∧ (∀ u k, tget? u t.glean.run = some k → due k.fin s = true) ∧ ∀ g, (seq g t).st = (seq g s).st)) ∧
      (s.therm.thrSet = false → bR oThermStatus 2 s = true → Completes .thermalThrottleClear s (fun t =>
        t = { s with regs := t.regs, log := t.log, seqs := t.seqs, wits := t.wits, ce := t.ce, free := t.free } ∧
        bR oThermStatus 2 t = false ∧ 3 ∉ t.ce.traps ∧ Reports 0xC000 0x80B s t ∧ ∀ g, (seq g t).st = (seq g s).st)) ∧
      (s.therm.thrSet = true → bR oThermStatus 2 s = true → Completes .thermalThrottle s (fun t =>
        t = { s with regs := t.regs, ce := t.ce, free := t.free } ∧ 3 ∉ t.ce.traps)) ∧
      (s.therm.thrSet = false → bR oThermStatus 2 s = false → Completes .thermalThrottleClear s (fun t =>
        t = { s with regs := t.regs, ce := t.ce, free := t.free } ∧ 3 ∉ t.ce.traps))) ∧
    ((s.life = .safe ∨ s.life = .ready) →
      (trapPends 2 s = true → trapFree 2 s = true → bR oThermStatus 3 s = false → Completes .thermalShutdown s (fun t =>
        t = { s with
          regs := t.regs, force := t.force, log := t.log, safePend := t.safePend, seqs := t.seqs, drv := t.drv, prb := t.prb,
            flux := t.flux, outs := t.outs, bias := t.bias, slots := t.slots, halves := t.halves, binder := t.binder, wits := t.wits,
            gran := t.gran, ce := t.ce, fabric := t.fabric, mon := t.mon, therm := t.therm, glean := t.glean, sec := t.sec,
            host := t.host, agenda := t.agenda, fresh := t.fresh, free := t.free } ∧
        bR oThermStatus 3 t = true ∧ bR oThermStatus 2 t = true ∧ t.therm.shutAt = some s.time.tick ∧ t.ce.hOnly = true ∧
        2 ∉ t.ce.traps ∧ (∀ r, t.ce.cur = some r → r.ended ≠ none) ∧
        (∀ i r, tget? i t.ce.parked = some r → r.ended ≠ none) ∧
        t.sec = { s.sec with ledger := (upTo 6).map (fun b => getR (oThermLife b) s) ++ [getR oThermInteg s] } ∧
        t.glean.rewriting = none ∧ (quiet s = true → s.therm.graceAt = none → t.therm.graceAt = some s.time.tick) ∧
        Reports 0xC000 0x80C s t)) ∧
      (∀ d, s.therm.shutAt = some d → s.therm.graceAt = none → graceEnds d s = true → Completes .thermalGraceExpired s (fun t =>
        t = { s with
          life := t.life, regs := t.regs, force := t.force, time := t.time, log := t.log, lbReq := t.lbReq, lbWaited := t.lbWaited,
            lbResume := t.lbResume, armAfter := t.armAfter, safePend := t.safePend, seqs := t.seqs, barriers := t.barriers,
            drv := t.drv, prb := t.prb, flux := t.flux, outs := t.outs, bias := t.bias, slots := t.slots, wits := t.wits,
            gran := t.gran, ce := t.ce, fabric := t.fabric, pair := t.pair, therm := t.therm, glean := t.glean, host := t.host } ∧
        MemKept s t ∧ t.therm.graceAt = some s.time.tick ∧ (∀ g, inShot g t = false) ∧
        ∃ r ∈ t.log.pool.drop s.log.pool.length, r.source = 0xC000 ∧ r.code = 0x80D ∧
          r.detail = BitVec.ofNat 20 (s.seqs.filter (fun e => insideShot e.2)).length)) ∧
      (∀ d g, s.therm.shutAt = some d → s.therm.graceAt = some g → restEnds g s = true → Completes .thermalGraceExpired s (fun t =>
        t = { s with log := t.log, therm := { s.therm with restOver := true } } ∧
        ∃ r, t.log.pool = s.log.pool ++ [r] ∧ r.source = 0xC000 ∧ r.code = 0x80D ∧
          r.detail = BitVec.ofNat 20 ((notAtRest s).length * 2 ^ 10))) ∧
      (offReady s = true → Completes .shutdownPowerOff s (fun t =>
        t = { s with
          life := .stopping, regs := t.regs, force := t.force, time := t.time, log := t.log, lbReq := t.lbReq, lbWaited := t.lbWaited,
            lbResume := t.lbResume, armAfter := t.armAfter, safePend := t.safePend, seqs := t.seqs, barriers := t.barriers,
            drv := t.drv, prb := t.prb, flux := t.flux, outs := t.outs, bias := t.bias, slots := t.slots, cores := t.cores,
            wits := t.wits, gran := t.gran, ce := t.ce, fabric := t.fabric, pair := t.pair, therm := t.therm, glean := t.glean,
            host := t.host } ∧
        MemKept s t ∧ Reports 0 0x100 s t ∧ (∀ u, lastTile s = some u → tilePowered u t = false)))) ∧
    (∀ x u, s.life = .stopping → s.therm.offAt = some x → lastTile s = some u →
      due (plus x (500000 * (nTiles s - 1 - u))) s = true → Completes .shutdownPowerOff s (fun t =>
        t = { s with regs := t.regs, bias := t.bias } ∧
        tilePowered u t = false ∧
        (∀ k, k ≠ u → k < nTiles s → tilePowered k t = tilePowered k s) ∧
        ((∀ k, k < nTiles s → k ≠ u → tilePowered k s = false) → bR oLifecycle 8 t = true))) ∧
    (s.life ≠ .off → 86400000000000 ≤ s.therm.saveNs → s.therm.shutAt = none → Completes (.lifeLedgerWrite true) s (fun t => t = s) ∧
      Completes (.lifeLedgerWrite false) s (fun t =>
      t = { s with therm := { s.therm with saveNs := 0 }, sec := { s.sec with
        ledger := (upTo 6).map (fun b => getR (oThermLife b) s) ++ [getR oThermInteg s] } })) ∧
    (∀ m v, Reaches .thermThr [] m oThermThr v s → s.fresh = [] → Completes (.thermThrWrite m v) s (fun t =>
      OnlyRegs [oThermThr] s t ∧ fR oThermThr 23 0 t = fld v 23 0))

/-- R387-R394: a measurement starts at Q + 20 of the quiet interval of its owners, takes the time of its task, and ends with its count. -/
def Obligations.GleanerMeasures : Prop :=
  (∀ (u task unit : Nat) (s : State),
    let gs := gleanOwners u task unit s
    let x := s.time.tick
    gleanMay u task unit s = true → plus (quietStart s gs) 20 = x → receiverFree x u s = true →
    (∀ g ∈ gs, ownerQuiet x g s = true) → (∀ g ∈ gs, gapHolds (plus x (gleanTime task)) s g = true) →
    periodOver x (gleanKey u task unit) s = true → gleanFirst u task unit s = true →
    Completes (.gleanStart u task unit) s (fun t => t = { s with outs := t.outs, glean := t.glean } ∧ tget? u t.glean.run = some ⟨task, unit, plus x (gleanTime task)⟩ ∧
      tget? (gleanKey u task unit) t.glean.last = some x ∧ tget? u t.glean.order = some (gleanPlace task unit) ∧
      (task ≠ 0 → t.outs = s.outs) ∧ (task = 0 → (outp (tileOutput u unit) t).gleanMute = true))) ∧
  (∀ (u : Nat) (r : GleanResult) (k : Glean) (s : State), tget? u s.glean.run = some k → due k.fin s = true → u < nTiles s →
    gleanUnit u k.task k.unit s = true → Completes (.gleanComplete u r) s (fun t =>
      t = { s with
        regs := t.regs, log := t.log, drv := t.drv, prb := t.prb, outs := t.outs, halves := t.halves, gran := t.gran,
          glean := t.glean, host := t.host, fresh := t.fresh } ∧
      tget? u t.glean.run = none ∧
      fR oGleanStat 11 0 t = (fR oGleanStat 11 0 s + 1) % 4096))

/-! ### The host -/

/-- R7, R9, R413, R417-R420, Table 0.4: a write of a register that only stores bits changes the writable ones, clears those written 1 that a 1
clears, and keeps the rest; a low half is staged and its high half completes the write; a lone high half is counted as lost; a read of a
low half answers from one read of the register and latches it for the high half; the owner fields, SEC_DOMAINS and VEC_ALLOC take their
values, and what leaves SECURE is zeroed; the bits of configuration space take theirs. -/
def Obligations.HostAccesses : Prop :=
  ∀ (m : Nat) (s : State),
    (∀ k is off v row, Reaches k is m off v s → findReg off = some (row, is) → s.fresh = [] →
      effectA m row is off v s = none → effectB m row is v s = none → Completes (.registerWrite m off v) s (fun t =>
        OnlyRegs [off] s t ∧ getR off t = BitVec.ofNat 40
          (((getR off s).toNat &&& (2 ^ 40 - 1 - row.rw) &&& (2 ^ 40 - 1 - (v.toNat &&& row.w1c))) ||| (v.toNat &&& row.rw)))) ∧
    (∀ off lo, fnReaches m s = true → staged m s = none → Completes (.bar0LowWrite m off lo) s (fun t =>
      t = { s with host := t.host } ∧ staged m t = some (off, lo) ∧ ∀ k, k ≠ m → staged k t = staged k s)) ∧
    (∀ off hi lo, fnReaches m s = true → staged m s = some (off, lo) →
      exec (.bar0HighWrite m off hi) s
        = exec (.registerWrite m off (BitVec.ofNat 40 (hi.toNat % 256 * 2 ^ 32 + lo.toNat))) (unstage m s)) ∧
    (∀ off hi, m < 16 → fnReaches m s = true → staged m s = none → fR (oHostStatus m) 19 8 s < 2 ^ 12 - 1 →
      Completes (.bar0HighWrite m off hi) s (fun t =>
        t = { s with regs := t.regs, log := t.log } ∧
        fR (oHostStatus m) 19 8 t = fR (oHostStatus m) 19 8 s + 1 ∧
        (fR (oHostStatus m) 19 8 s = 0 → Logged (0xE000 + m) 0x106 0 0 s t) ∧ ∀ o, o ≠ oHostStatus m → getR o t = getR o s)) ∧
    (∀ off, fnReaches m s = true →
      Completes (.bar0LowRead m off) s (fun t =>
        t = { s with regs := t.regs, time := t.time, gran := t.gran, host := t.host } ∧
        t.host.readOut = BitVec.ofNat 40 ((regRead m off s).1.toNat % 2 ^ 32) ∧
        tget? m t.host.rlatch = some (off, (regRead m off s).1)) ∧
      (∀ x, tget? m s.host.rlatch = some (off, x) → Completes (.bar0HighRead m off) s (fun t =>
        t.host.readOut = BitVec.ofNat 40 (x.toNat / 2 ^ 32) ∧ t = { s with host := t.host }))) ∧
    (∀ off size, fnReaches m s = true → Completes (.regPartial m false off size) s (fun t => t = { s with host := t.host } ∧
      t.host.readBytes = (upTo size).map (fun i => imageByte m (off + i) s))) ∧
    (∀ d v, d < 16 → Reaches .vecAlloc [d] m (oVecAlloc d) v s → s.fresh = [] → Completes (.vecAllocWrite m d v) s (fun t =>
      OnlyRegs [oVecAlloc d] s t ∧ fR (oVecAlloc d) 11 0 t = fld v 11 0)) ∧
    (∀ g v, g < nSeqs s → Reaches .seqOwner [g / 96, g % 96] m (oSeqOwner g) v s →
      Completes (.ownerFieldWrite m (oSeqOwner g) v) s (fun t => getR (oSeqOwner g) t = BitVec.ofNat 40 (fld v 4 0) ∧
        (∀ o, o ≠ oSeqOwner g → getR o t = getR o s) ∧ (∀ k, k ≠ g → seq k t = seq k s) ∧
        (movesSecure (getR (oSeqOwner g) s) v = false → t.seqs = s.seqs) ∧
        (movesSecure (getR (oSeqOwner g) s) v = true → seq g t = { seq g s with imem := [], g := [], unbHeld := false }))) ∧
    (∀ v, Reaches .secDomains [] m oSecDomains v s → s.fresh = [] → Completes (.secDomainsWrite m v) s (fun t =>
      OnlyRegs [oSecDomains] s t ∧ fR oSecDomains 15 0 t = fld v 15 0)) ∧
    (∀ on, fnReaches m s = true →
      Completes (.pcieConfigWrite m .busMaster on) s (fun t => t = { s with host := t.host } ∧ (m ∈ t.host.busMaster ↔ on = true)) ∧
      Completes (.pcieConfigWrite m .msixEnable on) s (fun t => t = { s with host := t.host } ∧ (m ∈ t.host.msixOn ↔ on = true)) ∧
      (m = 0 → Completes (.pcieConfigWrite m .ptmEnable on) s (fun t => t = { s with host := { s.host with ptmOn := on } })))

/-- R2, R283, R420, R421, R438, R439, R450: a write that its unit refuses changes nothing but the log: a unit that is absent, and a register
whose owner, state or value refuses the write, each leave one record with the code of the refusal. A SYNC_IN_STAT write
refused for the lifecycle state leaves LOAD_ARM at 0 as well (R63). -/
def Obligations.RefusedWritesChangeNothing : Prop :=
  ∀ (m off : Nat) (v : W40) (s : State), fnReaches m s = true → staged m s = none →
    let one := fun (code : Nat) (t : State) => t = { s with log := t.log } ∧
      ∃ r : Rec, t.log.pool = s.log.pool ++ [r] ∧ r.code = BitVec.ofNat 16 code ∧ r.tick = s.time.tick
    (∀ src, absentAt off s = some src → Completes (.registerWrite m off v) s (one 6)) ∧
    (∀ row is code, absentAt off s = none → unpoweredAt off s = false → findReg off = some (row, is) →
      writeRefusal m row is off v s = some code →
      (code ≠ 2 ∨ row.k ≠ .syncInStat → Completes (.registerWrite m off v) s (one code)) ∧
      (code = 2 → row.k = .syncInStat → Completes (.registerWrite m off v) s (fun t =>
        one 2 { t with regs := s.regs } ∧ bR oSyncInStat 2 t = false ∧ ∀ o, o ≠ oSyncInStat → getR o t = getR o s)))

/-- R424, R425: the management port answers from its own words, whatever the state of the device, and changes nothing else. -/
def Obligations.ManagementAnswers : Prop :=
  ∀ (s : State), s.pins.vaux = true →
    let tells := fun (c : Instr) (bs : Option (List Byte)) =>
      Completes c s (fun t => t = { s with host := { s.host with mgmt := bs } })
    tells .mgmtIdentity (some (toLe 2 (if s.fuses.part = .q512 then 0x0512 else 0x0256) ++ toLe 1 s.fuses.stepping
      ++ toLe 10 s.fuses.serial.toNat)) ∧
    tells .mgmtState (some (toLe 1 (lifeCode s.life + (if bR oLifecycle 8 s then 8 else 0) + fR oThermStatus 3 1 s * 16
      + (if powered s && alert s then 128 else 0)))) ∧
    tells .mgmtHaltCode (some (toLe 2 (fR oLifecycle 39 24 s))) ∧
    tells .mgmtTmax (some (toLe 2 (unsx 16 (highest s (sensorsOf s)).2))) ∧
    tells .mgmtRailOk (some (toLe 2 (fR oPowerStatus 9 0 s))) ∧
    tells .mgmtPwrTiles (some (toLe 1 (fR oPowerStatus 27 20 s))) ∧
    (∀ q, tells (.mgmtInputPower q) (some (toLe 2 q.toNat))) ∧
    (∀ u, u < 42 → tells (.mgmtSensor u) (some (toLe 2 (if !(sensorsOf s).contains u || (decide (u < 32) && !tilePowered (u / 4) s)
      then 0x8000 else unsx 16 (readingOf u s))))) ∧
    (∀ c, tells (.mgmtWriteNak c) none)

/-! ### The whole machine -/

/-- Headline, R28, R266, R400: no step changes a manufacturing fuse, un-burns a rollback fuse, or leaves a memory out of its canonical form. -/
def Obligations.StepKeepsInvariant : Prop :=
  ∀ (s t : State), step s = .next t → Keeps s t

/-- R28, Table 0.4: the state after reset is an entry to STAGING from OFF: its record alone stands in the log, TICK and EPOCH are 0 and do not
count, no command waits, no sequencer or core runs, the registers read their reset values, and the memories satisfy the invariant. (The
memories empty and the NVM all 0 are the model's choices, log entries 6 and 8.) -/
def Obligations.ResetState : Prop :=
  let s := State.reset
  s.life = .staging ∧ memOk s = true ∧ s.pending = [] ∧ s.time.tick = 0 ∧ s.time.epoch = 0 ∧ s.time.counting = false ∧
  (∃ r, s.log.pool = [r] ∧ r.code = 0x100 ∧ r.detail = 0x01000) ∧ (∀ g, (seq g s).st = .idle) ∧ (∀ k, (core k s).st = .idle) ∧
  (∀ o, getR o s = regReset o) ∧ (∀ o, getF o s = regReset o) ∧ (∀ p, (port p s).phase = 0) ∧ (∀ e, (wit e s).st = .off) ∧
  (∀ a, rdByte s.gran.mem a = 0)
end

