-- ==== Sys2Proof/Laws/State.lean ====
section
/-! SUPPORT. What each update of the state does to each field, one lemma per field per update. -/

namespace Sys2Proof.Machine

variable (s : State)

/-! ### setR -/

@[simp] theorem setR_fuses (off : Nat) (v : W40) : (setR off v s).fuses = s.fuses := rfl
@[simp] theorem setR_life (off : Nat) (v : W40) : (setR off v s).life = s.life := rfl
@[simp] theorem setR_haltAt (off : Nat) (v : W40) : (setR off v s).haltAt = s.haltAt := rfl
@[simp] theorem setR_regs (off : Nat) (v : W40) : (setR off v s).regs = tset (regReset off) off v s.regs := rfl
@[simp] theorem setR_force (off : Nat) (v : W40) : (setR off v s).force = s.force := rfl
@[simp] theorem setR_time (off : Nat) (v : W40) : (setR off v s).time = s.time := rfl
@[simp] theorem setR_log (off : Nat) (v : W40) : (setR off v s).log = s.log := rfl
@[simp] theorem setR_lbReq (off : Nat) (v : W40) : (setR off v s).lbReq = s.lbReq := rfl
@[simp] theorem setR_lbWaited (off : Nat) (v : W40) : (setR off v s).lbWaited = s.lbWaited := rfl
@[simp] theorem setR_lbResume (off : Nat) (v : W40) : (setR off v s).lbResume = s.lbResume := rfl
@[simp] theorem setR_armAfter (off : Nat) (v : W40) : (setR off v s).armAfter = s.armAfter := rfl
@[simp] theorem setR_safePend (off : Nat) (v : W40) : (setR off v s).safePend = s.safePend := rfl
@[simp] theorem setR_holdHist (off : Nat) (v : W40) : (setR off v s).holdHist = s.holdHist := rfl
@[simp] theorem setR_lbHist (off : Nat) (v : W40) : (setR off v s).lbHist = s.lbHist := rfl
@[simp] theorem setR_ballHist (off : Nat) (v : W40) : (setR off v s).ballHist = s.ballHist := rfl
@[simp] theorem setR_seqs (off : Nat) (v : W40) : (setR off v s).seqs = s.seqs := rfl
@[simp] theorem setR_down (off : Nat) (v : W40) : (setR off v s).down = s.down := rfl
@[simp] theorem setR_crcDown (off : Nat) (v : W40) : (setR off v s).crcDown = s.crcDown := rfl
@[simp] theorem setR_cutTiles (off : Nat) (v : W40) : (setR off v s).cutTiles = s.cutTiles := rfl
@[simp] theorem setR_barriers (off : Nat) (v : W40) : (setR off v s).barriers = s.barriers := rfl
@[simp] theorem setR_wave (off : Nat) (v : W40) : (setR off v s).wave = s.wave := rfl
@[simp] theorem setR_drv (off : Nat) (v : W40) : (setR off v s).drv = s.drv := rfl
@[simp] theorem setR_prb (off : Nat) (v : W40) : (setR off v s).prb = s.prb := rfl
@[simp] theorem setR_flux (off : Nat) (v : W40) : (setR off v s).flux = s.flux := rfl
@[simp] theorem setR_outs (off : Nat) (v : W40) : (setR off v s).outs = s.outs := rfl
@[simp] theorem setR_bias (off : Nat) (v : W40) : (setR off v s).bias = s.bias := rfl
@[simp] theorem setR_adcs (off : Nat) (v : W40) : (setR off v s).adcs = s.adcs := rfl
@[simp] theorem setR_slots (off : Nat) (v : W40) : (setR off v s).slots = s.slots := rfl
@[simp] theorem setR_halves (off : Nat) (v : W40) : (setR off v s).halves = s.halves := rfl
@[simp] theorem setR_bus (off : Nat) (v : W40) : (setR off v s).bus = s.bus := rfl
@[simp] theorem setR_vb (off : Nat) (v : W40) : (setR off v s).vb = s.vb := rfl
@[simp] theorem setR_binder (off : Nat) (v : W40) : (setR off v s).binder = s.binder := rfl
@[simp] theorem setR_cores (off : Nat) (v : W40) : (setR off v s).cores = s.cores := rfl
@[simp] theorem setR_wits (off : Nat) (v : W40) : (setR off v s).wits = s.wits := rfl
@[simp] theorem setR_gran (off : Nat) (v : W40) : (setR off v s).gran = s.gran := rfl
@[simp] theorem setR_ce (off : Nat) (v : W40) : (setR off v s).ce = s.ce := rfl
@[simp] theorem setR_fabric (off : Nat) (v : W40) : (setR off v s).fabric = s.fabric := rfl
@[simp] theorem setR_ports (off : Nat) (v : W40) : (setR off v s).ports = s.ports := rfl
@[simp] theorem setR_fed (off : Nat) (v : W40) : (setR off v s).fed = s.fed := rfl
@[simp] theorem setR_pair (off : Nat) (v : W40) : (setR off v s).pair = s.pair := rfl
@[simp] theorem setR_mon (off : Nat) (v : W40) : (setR off v s).mon = s.mon := rfl
@[simp] theorem setR_senses (off : Nat) (v : W40) : (setR off v s).senses = s.senses := rfl
@[simp] theorem setR_lins (off : Nat) (v : W40) : (setR off v s).lins = s.lins := rfl
@[simp] theorem setR_therm (off : Nat) (v : W40) : (setR off v s).therm = s.therm := rfl
@[simp] theorem setR_glean (off : Nat) (v : W40) : (setR off v s).glean = s.glean := rfl
@[simp] theorem setR_sec (off : Nat) (v : W40) : (setR off v s).sec = s.sec := rfl
@[simp] theorem setR_host (off : Nat) (v : W40) : (setR off v s).host = s.host := rfl
@[simp] theorem setR_pins (off : Nat) (v : W40) : (setR off v s).pins = s.pins := rfl
@[simp] theorem setR_agenda (off : Nat) (v : W40) : (setR off v s).agenda = s.agenda := rfl
@[simp] theorem setR_modeWas (off : Nat) (v : W40) : (setR off v s).modeWas = s.modeWas := rfl
@[simp] theorem setR_fresh (off : Nat) (v : W40) : (setR off v s).fresh = s.fresh := rfl
@[simp] theorem setR_free (off : Nat) (v : W40) : (setR off v s).free = s.free := rfl
@[simp] theorem setR_pending (off : Nat) (v : W40) : (setR off v s).pending = s.pending := rfl

/-! ### setF -/

@[simp] theorem setF_fuses (off : Nat) (v : W40) : (setF off v s).fuses = s.fuses := rfl
@[simp] theorem setF_life (off : Nat) (v : W40) : (setF off v s).life = s.life := rfl
@[simp] theorem setF_haltAt (off : Nat) (v : W40) : (setF off v s).haltAt = s.haltAt := rfl
@[simp] theorem setF_regs (off : Nat) (v : W40) : (setF off v s).regs = s.regs := rfl
@[simp] theorem setF_force (off : Nat) (v : W40) : (setF off v s).force = tset (regReset off) off v s.force := rfl
@[simp] theorem setF_time (off : Nat) (v : W40) : (setF off v s).time = s.time := rfl
@[simp] theorem setF_log (off : Nat) (v : W40) : (setF off v s).log = s.log := rfl
@[simp] theorem setF_lbReq (off : Nat) (v : W40) : (setF off v s).lbReq = s.lbReq := rfl
@[simp] theorem setF_lbWaited (off : Nat) (v : W40) : (setF off v s).lbWaited = s.lbWaited := rfl
@[simp] theorem setF_lbResume (off : Nat) (v : W40) : (setF off v s).lbResume = s.lbResume := rfl
@[simp] theorem setF_armAfter (off : Nat) (v : W40) : (setF off v s).armAfter = s.armAfter := rfl
@[simp] theorem setF_safePend (off : Nat) (v : W40) : (setF off v s).safePend = s.safePend := rfl
@[simp] theorem setF_holdHist (off : Nat) (v : W40) : (setF off v s).holdHist = s.holdHist := rfl
@[simp] theorem setF_lbHist (off : Nat) (v : W40) : (setF off v s).lbHist = s.lbHist := rfl
@[simp] theorem setF_ballHist (off : Nat) (v : W40) : (setF off v s).ballHist = s.ballHist := rfl
@[simp] theorem setF_seqs (off : Nat) (v : W40) : (setF off v s).seqs = s.seqs := rfl
@[simp] theorem setF_down (off : Nat) (v : W40) : (setF off v s).down = s.down := rfl
@[simp] theorem setF_crcDown (off : Nat) (v : W40) : (setF off v s).crcDown = s.crcDown := rfl
@[simp] theorem setF_cutTiles (off : Nat) (v : W40) : (setF off v s).cutTiles = s.cutTiles := rfl
@[simp] theorem setF_barriers (off : Nat) (v : W40) : (setF off v s).barriers = s.barriers := rfl
@[simp] theorem setF_wave (off : Nat) (v : W40) : (setF off v s).wave = s.wave := rfl
@[simp] theorem setF_drv (off : Nat) (v : W40) : (setF off v s).drv = s.drv := rfl
@[simp] theorem setF_prb (off : Nat) (v : W40) : (setF off v s).prb = s.prb := rfl
@[simp] theorem setF_flux (off : Nat) (v : W40) : (setF off v s).flux = s.flux := rfl
@[simp] theorem setF_outs (off : Nat) (v : W40) : (setF off v s).outs = s.outs := rfl
@[simp] theorem setF_bias (off : Nat) (v : W40) : (setF off v s).bias = s.bias := rfl
@[simp] theorem setF_adcs (off : Nat) (v : W40) : (setF off v s).adcs = s.adcs := rfl
@[simp] theorem setF_slots (off : Nat) (v : W40) : (setF off v s).slots = s.slots := rfl
@[simp] theorem setF_halves (off : Nat) (v : W40) : (setF off v s).halves = s.halves := rfl
@[simp] theorem setF_bus (off : Nat) (v : W40) : (setF off v s).bus = s.bus := rfl
@[simp] theorem setF_vb (off : Nat) (v : W40) : (setF off v s).vb = s.vb := rfl
@[simp] theorem setF_binder (off : Nat) (v : W40) : (setF off v s).binder = s.binder := rfl
@[simp] theorem setF_cores (off : Nat) (v : W40) : (setF off v s).cores = s.cores := rfl
@[simp] theorem setF_wits (off : Nat) (v : W40) : (setF off v s).wits = s.wits := rfl
@[simp] theorem setF_gran (off : Nat) (v : W40) : (setF off v s).gran = s.gran := rfl
@[simp] theorem setF_ce (off : Nat) (v : W40) : (setF off v s).ce = s.ce := rfl
@[simp] theorem setF_fabric (off : Nat) (v : W40) : (setF off v s).fabric = s.fabric := rfl
@[simp] theorem setF_ports (off : Nat) (v : W40) : (setF off v s).ports = s.ports := rfl
@[simp] theorem setF_fed (off : Nat) (v : W40) : (setF off v s).fed = s.fed := rfl
@[simp] theorem setF_pair (off : Nat) (v : W40) : (setF off v s).pair = s.pair := rfl
@[simp] theorem setF_mon (off : Nat) (v : W40) : (setF off v s).mon = s.mon := rfl
@[simp] theorem setF_senses (off : Nat) (v : W40) : (setF off v s).senses = s.senses := rfl
@[simp] theorem setF_lins (off : Nat) (v : W40) : (setF off v s).lins = s.lins := rfl
@[simp] theorem setF_therm (off : Nat) (v : W40) : (setF off v s).therm = s.therm := rfl
@[simp] theorem setF_glean (off : Nat) (v : W40) : (setF off v s).glean = s.glean := rfl
@[simp] theorem setF_sec (off : Nat) (v : W40) : (setF off v s).sec = s.sec := rfl
@[simp] theorem setF_host (off : Nat) (v : W40) : (setF off v s).host = s.host := rfl
@[simp] theorem setF_pins (off : Nat) (v : W40) : (setF off v s).pins = s.pins := rfl
@[simp] theorem setF_agenda (off : Nat) (v : W40) : (setF off v s).agenda = s.agenda := rfl
@[simp] theorem setF_modeWas (off : Nat) (v : W40) : (setF off v s).modeWas = s.modeWas := rfl
@[simp] theorem setF_fresh (off : Nat) (v : W40) : (setF off v s).fresh = s.fresh := rfl
@[simp] theorem setF_free (off : Nat) (v : W40) : (setF off v s).free = s.free := rfl
@[simp] theorem setF_pending (off : Nat) (v : W40) : (setF off v s).pending = s.pending := rfl

/-! ### setRing -/

@[simp] theorem setRing_fuses (n : Nat) (r : Ring) : (setRing n r s).fuses = s.fuses := rfl
@[simp] theorem setRing_life (n : Nat) (r : Ring) : (setRing n r s).life = s.life := rfl
@[simp] theorem setRing_haltAt (n : Nat) (r : Ring) : (setRing n r s).haltAt = s.haltAt := rfl
@[simp] theorem setRing_regs (n : Nat) (r : Ring) : (setRing n r s).regs = s.regs := rfl
@[simp] theorem setRing_force (n : Nat) (r : Ring) : (setRing n r s).force = s.force := rfl
@[simp] theorem setRing_time (n : Nat) (r : Ring) : (setRing n r s).time = s.time := rfl
@[simp] theorem setRing_log (n : Nat) (r : Ring) : (setRing n r s).log = s.log := rfl
@[simp] theorem setRing_lbReq (n : Nat) (r : Ring) : (setRing n r s).lbReq = s.lbReq := rfl
@[simp] theorem setRing_lbWaited (n : Nat) (r : Ring) : (setRing n r s).lbWaited = s.lbWaited := rfl
@[simp] theorem setRing_lbResume (n : Nat) (r : Ring) : (setRing n r s).lbResume = s.lbResume := rfl
@[simp] theorem setRing_armAfter (n : Nat) (r : Ring) : (setRing n r s).armAfter = s.armAfter := rfl
@[simp] theorem setRing_safePend (n : Nat) (r : Ring) : (setRing n r s).safePend = s.safePend := rfl
@[simp] theorem setRing_holdHist (n : Nat) (r : Ring) : (setRing n r s).holdHist = s.holdHist := rfl
@[simp] theorem setRing_lbHist (n : Nat) (r : Ring) : (setRing n r s).lbHist = s.lbHist := rfl
@[simp] theorem setRing_ballHist (n : Nat) (r : Ring) : (setRing n r s).ballHist = s.ballHist := rfl
@[simp] theorem setRing_seqs (n : Nat) (r : Ring) : (setRing n r s).seqs = s.seqs := rfl
@[simp] theorem setRing_down (n : Nat) (r : Ring) : (setRing n r s).down = s.down := rfl
@[simp] theorem setRing_crcDown (n : Nat) (r : Ring) : (setRing n r s).crcDown = s.crcDown := rfl
@[simp] theorem setRing_cutTiles (n : Nat) (r : Ring) : (setRing n r s).cutTiles = s.cutTiles := rfl
@[simp] theorem setRing_barriers (n : Nat) (r : Ring) : (setRing n r s).barriers = s.barriers := rfl
@[simp] theorem setRing_wave (n : Nat) (r : Ring) : (setRing n r s).wave = s.wave := rfl
@[simp] theorem setRing_drv (n : Nat) (r : Ring) : (setRing n r s).drv = s.drv := rfl
@[simp] theorem setRing_prb (n : Nat) (r : Ring) : (setRing n r s).prb = s.prb := rfl
@[simp] theorem setRing_flux (n : Nat) (r : Ring) : (setRing n r s).flux = s.flux := rfl
@[simp] theorem setRing_outs (n : Nat) (r : Ring) : (setRing n r s).outs = s.outs := rfl
@[simp] theorem setRing_bias (n : Nat) (r : Ring) : (setRing n r s).bias = s.bias := rfl
@[simp] theorem setRing_adcs (n : Nat) (r : Ring) : (setRing n r s).adcs = s.adcs := rfl
@[simp] theorem setRing_slots (n : Nat) (r : Ring) : (setRing n r s).slots = s.slots := rfl
@[simp] theorem setRing_halves (n : Nat) (r : Ring) : (setRing n r s).halves = s.halves := rfl
@[simp] theorem setRing_bus (n : Nat) (r : Ring) : (setRing n r s).bus = s.bus := rfl
@[simp] theorem setRing_vb (n : Nat) (r : Ring) : (setRing n r s).vb = s.vb := rfl
@[simp] theorem setRing_binder (n : Nat) (r : Ring) : (setRing n r s).binder = s.binder := rfl
@[simp] theorem setRing_cores (n : Nat) (r : Ring) : (setRing n r s).cores = s.cores := rfl
@[simp] theorem setRing_wits (n : Nat) (r : Ring) : (setRing n r s).wits = s.wits := rfl
@[simp] theorem setRing_gran (n : Nat) (r : Ring) : (setRing n r s).gran = { s.gran with rings := tset {} n r s.gran.rings } := rfl
@[simp] theorem setRing_ce (n : Nat) (r : Ring) : (setRing n r s).ce = s.ce := rfl
@[simp] theorem setRing_fabric (n : Nat) (r : Ring) : (setRing n r s).fabric = s.fabric := rfl
@[simp] theorem setRing_ports (n : Nat) (r : Ring) : (setRing n r s).ports = s.ports := rfl
@[simp] theorem setRing_fed (n : Nat) (r : Ring) : (setRing n r s).fed = s.fed := rfl
@[simp] theorem setRing_pair (n : Nat) (r : Ring) : (setRing n r s).pair = s.pair := rfl
@[simp] theorem setRing_mon (n : Nat) (r : Ring) : (setRing n r s).mon = s.mon := rfl
@[simp] theorem setRing_senses (n : Nat) (r : Ring) : (setRing n r s).senses = s.senses := rfl
@[simp] theorem setRing_lins (n : Nat) (r : Ring) : (setRing n r s).lins = s.lins := rfl
@[simp] theorem setRing_therm (n : Nat) (r : Ring) : (setRing n r s).therm = s.therm := rfl
@[simp] theorem setRing_glean (n : Nat) (r : Ring) : (setRing n r s).glean = s.glean := rfl
@[simp] theorem setRing_sec (n : Nat) (r : Ring) : (setRing n r s).sec = s.sec := rfl
@[simp] theorem setRing_host (n : Nat) (r : Ring) : (setRing n r s).host = s.host := rfl
@[simp] theorem setRing_pins (n : Nat) (r : Ring) : (setRing n r s).pins = s.pins := rfl
@[simp] theorem setRing_agenda (n : Nat) (r : Ring) : (setRing n r s).agenda = s.agenda := rfl
@[simp] theorem setRing_modeWas (n : Nat) (r : Ring) : (setRing n r s).modeWas = s.modeWas := rfl
@[simp] theorem setRing_fresh (n : Nat) (r : Ring) : (setRing n r s).fresh = s.fresh := rfl
@[simp] theorem setRing_free (n : Nat) (r : Ring) : (setRing n r s).free = s.free := rfl
@[simp] theorem setRing_pending (n : Nat) (r : Ring) : (setRing n r s).pending = s.pending := rfl

/-! ### setMem -/

@[simp] theorem setMem_fuses (m : List Host.Cell) : (setMem m s).fuses = s.fuses := rfl
@[simp] theorem setMem_life (m : List Host.Cell) : (setMem m s).life = s.life := rfl
@[simp] theorem setMem_haltAt (m : List Host.Cell) : (setMem m s).haltAt = s.haltAt := rfl
@[simp] theorem setMem_regs (m : List Host.Cell) : (setMem m s).regs = s.regs := rfl
@[simp] theorem setMem_force (m : List Host.Cell) : (setMem m s).force = s.force := rfl
@[simp] theorem setMem_time (m : List Host.Cell) : (setMem m s).time = s.time := rfl
@[simp] theorem setMem_log (m : List Host.Cell) : (setMem m s).log = s.log := rfl
@[simp] theorem setMem_lbReq (m : List Host.Cell) : (setMem m s).lbReq = s.lbReq := rfl
@[simp] theorem setMem_lbWaited (m : List Host.Cell) : (setMem m s).lbWaited = s.lbWaited := rfl
@[simp] theorem setMem_lbResume (m : List Host.Cell) : (setMem m s).lbResume = s.lbResume := rfl
@[simp] theorem setMem_armAfter (m : List Host.Cell) : (setMem m s).armAfter = s.armAfter := rfl
@[simp] theorem setMem_safePend (m : List Host.Cell) : (setMem m s).safePend = s.safePend := rfl
@[simp] theorem setMem_holdHist (m : List Host.Cell) : (setMem m s).holdHist = s.holdHist := rfl
@[simp] theorem setMem_lbHist (m : List Host.Cell) : (setMem m s).lbHist = s.lbHist := rfl
@[simp] theorem setMem_ballHist (m : List Host.Cell) : (setMem m s).ballHist = s.ballHist := rfl
@[simp] theorem setMem_seqs (m : List Host.Cell) : (setMem m s).seqs = s.seqs := rfl
@[simp] theorem setMem_down (m : List Host.Cell) : (setMem m s).down = s.down := rfl
@[simp] theorem setMem_crcDown (m : List Host.Cell) : (setMem m s).crcDown = s.crcDown := rfl
@[simp] theorem setMem_cutTiles (m : List Host.Cell) : (setMem m s).cutTiles = s.cutTiles := rfl
@[simp] theorem setMem_barriers (m : List Host.Cell) : (setMem m s).barriers = s.barriers := rfl
@[simp] theorem setMem_wave (m : List Host.Cell) : (setMem m s).wave = s.wave := rfl
@[simp] theorem setMem_drv (m : List Host.Cell) : (setMem m s).drv = s.drv := rfl
@[simp] theorem setMem_prb (m : List Host.Cell) : (setMem m s).prb = s.prb := rfl
@[simp] theorem setMem_flux (m : List Host.Cell) : (setMem m s).flux = s.flux := rfl
@[simp] theorem setMem_outs (m : List Host.Cell) : (setMem m s).outs = s.outs := rfl
@[simp] theorem setMem_bias (m : List Host.Cell) : (setMem m s).bias = s.bias := rfl
@[simp] theorem setMem_adcs (m : List Host.Cell) : (setMem m s).adcs = s.adcs := rfl
@[simp] theorem setMem_slots (m : List Host.Cell) : (setMem m s).slots = s.slots := rfl
@[simp] theorem setMem_halves (m : List Host.Cell) : (setMem m s).halves = s.halves := rfl
@[simp] theorem setMem_bus (m : List Host.Cell) : (setMem m s).bus = s.bus := rfl
@[simp] theorem setMem_vb (m : List Host.Cell) : (setMem m s).vb = s.vb := rfl
@[simp] theorem setMem_binder (m : List Host.Cell) : (setMem m s).binder = s.binder := rfl
@[simp] theorem setMem_cores (m : List Host.Cell) : (setMem m s).cores = s.cores := rfl
@[simp] theorem setMem_wits (m : List Host.Cell) : (setMem m s).wits = s.wits := rfl
@[simp] theorem setMem_gran (m : List Host.Cell) : (setMem m s).gran = { s.gran with mem := m } := rfl
@[simp] theorem setMem_ce (m : List Host.Cell) : (setMem m s).ce = s.ce := rfl
@[simp] theorem setMem_fabric (m : List Host.Cell) : (setMem m s).fabric = s.fabric := rfl
@[simp] theorem setMem_ports (m : List Host.Cell) : (setMem m s).ports = s.ports := rfl
@[simp] theorem setMem_fed (m : List Host.Cell) : (setMem m s).fed = s.fed := rfl
@[simp] theorem setMem_pair (m : List Host.Cell) : (setMem m s).pair = s.pair := rfl
@[simp] theorem setMem_mon (m : List Host.Cell) : (setMem m s).mon = s.mon := rfl
@[simp] theorem setMem_senses (m : List Host.Cell) : (setMem m s).senses = s.senses := rfl
@[simp] theorem setMem_lins (m : List Host.Cell) : (setMem m s).lins = s.lins := rfl
@[simp] theorem setMem_therm (m : List Host.Cell) : (setMem m s).therm = s.therm := rfl
@[simp] theorem setMem_glean (m : List Host.Cell) : (setMem m s).glean = s.glean := rfl
@[simp] theorem setMem_sec (m : List Host.Cell) : (setMem m s).sec = s.sec := rfl
@[simp] theorem setMem_host (m : List Host.Cell) : (setMem m s).host = s.host := rfl
@[simp] theorem setMem_pins (m : List Host.Cell) : (setMem m s).pins = s.pins := rfl
@[simp] theorem setMem_agenda (m : List Host.Cell) : (setMem m s).agenda = s.agenda := rfl
@[simp] theorem setMem_modeWas (m : List Host.Cell) : (setMem m s).modeWas = s.modeWas := rfl
@[simp] theorem setMem_fresh (m : List Host.Cell) : (setMem m s).fresh = s.fresh := rfl
@[simp] theorem setMem_free (m : List Host.Cell) : (setMem m s).free = s.free := rfl
@[simp] theorem setMem_pending (m : List Host.Cell) : (setMem m s).pending = s.pending := rfl

/-! ### setSeq -/

@[simp] theorem setSeq_fuses (g : Nat) (q : Seq) : (setSeq g q s).fuses = s.fuses := rfl
@[simp] theorem setSeq_life (g : Nat) (q : Seq) : (setSeq g q s).life = s.life := rfl
@[simp] theorem setSeq_haltAt (g : Nat) (q : Seq) : (setSeq g q s).haltAt = s.haltAt := rfl
@[simp] theorem setSeq_regs (g : Nat) (q : Seq) : (setSeq g q s).regs = s.regs := rfl
@[simp] theorem setSeq_force (g : Nat) (q : Seq) : (setSeq g q s).force = s.force := rfl
@[simp] theorem setSeq_time (g : Nat) (q : Seq) : (setSeq g q s).time = s.time := rfl
@[simp] theorem setSeq_log (g : Nat) (q : Seq) : (setSeq g q s).log = s.log := rfl
@[simp] theorem setSeq_lbReq (g : Nat) (q : Seq) : (setSeq g q s).lbReq = s.lbReq := rfl
@[simp] theorem setSeq_lbWaited (g : Nat) (q : Seq) : (setSeq g q s).lbWaited = s.lbWaited := rfl
@[simp] theorem setSeq_lbResume (g : Nat) (q : Seq) : (setSeq g q s).lbResume = s.lbResume := rfl
@[simp] theorem setSeq_armAfter (g : Nat) (q : Seq) : (setSeq g q s).armAfter = s.armAfter := rfl
@[simp] theorem setSeq_safePend (g : Nat) (q : Seq) : (setSeq g q s).safePend = s.safePend := rfl
@[simp] theorem setSeq_holdHist (g : Nat) (q : Seq) : (setSeq g q s).holdHist = s.holdHist := rfl
@[simp] theorem setSeq_lbHist (g : Nat) (q : Seq) : (setSeq g q s).lbHist = s.lbHist := rfl
@[simp] theorem setSeq_ballHist (g : Nat) (q : Seq) : (setSeq g q s).ballHist = s.ballHist := rfl
@[simp] theorem setSeq_seqs (g : Nat) (q : Seq) : (setSeq g q s).seqs = tset {} g q s.seqs := rfl
@[simp] theorem setSeq_down (g : Nat) (q : Seq) : (setSeq g q s).down = s.down := rfl
@[simp] theorem setSeq_crcDown (g : Nat) (q : Seq) : (setSeq g q s).crcDown = s.crcDown := rfl
@[simp] theorem setSeq_cutTiles (g : Nat) (q : Seq) : (setSeq g q s).cutTiles = s.cutTiles := rfl
@[simp] theorem setSeq_barriers (g : Nat) (q : Seq) : (setSeq g q s).barriers = s.barriers := rfl
@[simp] theorem setSeq_wave (g : Nat) (q : Seq) : (setSeq g q s).wave = s.wave := rfl
@[simp] theorem setSeq_drv (g : Nat) (q : Seq) : (setSeq g q s).drv = s.drv := rfl
@[simp] theorem setSeq_prb (g : Nat) (q : Seq) : (setSeq g q s).prb = s.prb := rfl
@[simp] theorem setSeq_flux (g : Nat) (q : Seq) : (setSeq g q s).flux = s.flux := rfl
@[simp] theorem setSeq_outs (g : Nat) (q : Seq) : (setSeq g q s).outs = s.outs := rfl
@[simp] theorem setSeq_bias (g : Nat) (q : Seq) : (setSeq g q s).bias = s.bias := rfl
@[simp] theorem setSeq_adcs (g : Nat) (q : Seq) : (setSeq g q s).adcs = s.adcs := rfl
@[simp] theorem setSeq_slots (g : Nat) (q : Seq) : (setSeq g q s).slots = s.slots := rfl
@[simp] theorem setSeq_halves (g : Nat) (q : Seq) : (setSeq g q s).halves = s.halves := rfl
@[simp] theorem setSeq_bus (g : Nat) (q : Seq) : (setSeq g q s).bus = s.bus := rfl
@[simp] theorem setSeq_vb (g : Nat) (q : Seq) : (setSeq g q s).vb = s.vb := rfl
@[simp] theorem setSeq_binder (g : Nat) (q : Seq) : (setSeq g q s).binder = s.binder := rfl
@[simp] theorem setSeq_cores (g : Nat) (q : Seq) : (setSeq g q s).cores = s.cores := rfl
@[simp] theorem setSeq_wits (g : Nat) (q : Seq) : (setSeq g q s).wits = s.wits := rfl
@[simp] theorem setSeq_gran (g : Nat) (q : Seq) : (setSeq g q s).gran = s.gran := rfl
@[simp] theorem setSeq_ce (g : Nat) (q : Seq) : (setSeq g q s).ce = s.ce := rfl
@[simp] theorem setSeq_fabric (g : Nat) (q : Seq) : (setSeq g q s).fabric = s.fabric := rfl
@[simp] theorem setSeq_ports (g : Nat) (q : Seq) : (setSeq g q s).ports = s.ports := rfl
@[simp] theorem setSeq_fed (g : Nat) (q : Seq) : (setSeq g q s).fed = s.fed := rfl
@[simp] theorem setSeq_pair (g : Nat) (q : Seq) : (setSeq g q s).pair = s.pair := rfl
@[simp] theorem setSeq_mon (g : Nat) (q : Seq) : (setSeq g q s).mon = s.mon := rfl
@[simp] theorem setSeq_senses (g : Nat) (q : Seq) : (setSeq g q s).senses = s.senses := rfl
@[simp] theorem setSeq_lins (g : Nat) (q : Seq) : (setSeq g q s).lins = s.lins := rfl
@[simp] theorem setSeq_therm (g : Nat) (q : Seq) : (setSeq g q s).therm = s.therm := rfl
@[simp] theorem setSeq_glean (g : Nat) (q : Seq) : (setSeq g q s).glean = s.glean := rfl
@[simp] theorem setSeq_sec (g : Nat) (q : Seq) : (setSeq g q s).sec = s.sec := rfl
@[simp] theorem setSeq_host (g : Nat) (q : Seq) : (setSeq g q s).host = s.host := rfl
@[simp] theorem setSeq_pins (g : Nat) (q : Seq) : (setSeq g q s).pins = s.pins := rfl
@[simp] theorem setSeq_agenda (g : Nat) (q : Seq) : (setSeq g q s).agenda = s.agenda := rfl
@[simp] theorem setSeq_modeWas (g : Nat) (q : Seq) : (setSeq g q s).modeWas = s.modeWas := rfl
@[simp] theorem setSeq_fresh (g : Nat) (q : Seq) : (setSeq g q s).fresh = s.fresh := rfl
@[simp] theorem setSeq_free (g : Nat) (q : Seq) : (setSeq g q s).free = s.free := rfl
@[simp] theorem setSeq_pending (g : Nat) (q : Seq) : (setSeq g q s).pending = s.pending := rfl

/-! ### setDrv -/

@[simp] theorem setDrv_fuses (g : Nat) (x : Tone) : (setDrv g x s).fuses = s.fuses := rfl
@[simp] theorem setDrv_life (g : Nat) (x : Tone) : (setDrv g x s).life = s.life := rfl
@[simp] theorem setDrv_haltAt (g : Nat) (x : Tone) : (setDrv g x s).haltAt = s.haltAt := rfl
@[simp] theorem setDrv_regs (g : Nat) (x : Tone) : (setDrv g x s).regs = s.regs := rfl
@[simp] theorem setDrv_force (g : Nat) (x : Tone) : (setDrv g x s).force = s.force := rfl
@[simp] theorem setDrv_time (g : Nat) (x : Tone) : (setDrv g x s).time = s.time := rfl
@[simp] theorem setDrv_log (g : Nat) (x : Tone) : (setDrv g x s).log = s.log := rfl
@[simp] theorem setDrv_lbReq (g : Nat) (x : Tone) : (setDrv g x s).lbReq = s.lbReq := rfl
@[simp] theorem setDrv_lbWaited (g : Nat) (x : Tone) : (setDrv g x s).lbWaited = s.lbWaited := rfl
@[simp] theorem setDrv_lbResume (g : Nat) (x : Tone) : (setDrv g x s).lbResume = s.lbResume := rfl
@[simp] theorem setDrv_armAfter (g : Nat) (x : Tone) : (setDrv g x s).armAfter = s.armAfter := rfl
@[simp] theorem setDrv_safePend (g : Nat) (x : Tone) : (setDrv g x s).safePend = s.safePend := rfl
@[simp] theorem setDrv_holdHist (g : Nat) (x : Tone) : (setDrv g x s).holdHist = s.holdHist := rfl
@[simp] theorem setDrv_lbHist (g : Nat) (x : Tone) : (setDrv g x s).lbHist = s.lbHist := rfl
@[simp] theorem setDrv_ballHist (g : Nat) (x : Tone) : (setDrv g x s).ballHist = s.ballHist := rfl
@[simp] theorem setDrv_seqs (g : Nat) (x : Tone) : (setDrv g x s).seqs = s.seqs := rfl
@[simp] theorem setDrv_down (g : Nat) (x : Tone) : (setDrv g x s).down = s.down := rfl
@[simp] theorem setDrv_crcDown (g : Nat) (x : Tone) : (setDrv g x s).crcDown = s.crcDown := rfl
@[simp] theorem setDrv_cutTiles (g : Nat) (x : Tone) : (setDrv g x s).cutTiles = s.cutTiles := rfl
@[simp] theorem setDrv_barriers (g : Nat) (x : Tone) : (setDrv g x s).barriers = s.barriers := rfl
@[simp] theorem setDrv_wave (g : Nat) (x : Tone) : (setDrv g x s).wave = s.wave := rfl
@[simp] theorem setDrv_drv (g : Nat) (x : Tone) : (setDrv g x s).drv = tset {} g x s.drv := rfl
@[simp] theorem setDrv_prb (g : Nat) (x : Tone) : (setDrv g x s).prb = s.prb := rfl
@[simp] theorem setDrv_flux (g : Nat) (x : Tone) : (setDrv g x s).flux = s.flux := rfl
@[simp] theorem setDrv_outs (g : Nat) (x : Tone) : (setDrv g x s).outs = s.outs := rfl
@[simp] theorem setDrv_bias (g : Nat) (x : Tone) : (setDrv g x s).bias = s.bias := rfl
@[simp] theorem setDrv_adcs (g : Nat) (x : Tone) : (setDrv g x s).adcs = s.adcs := rfl
@[simp] theorem setDrv_slots (g : Nat) (x : Tone) : (setDrv g x s).slots = s.slots := rfl
@[simp] theorem setDrv_halves (g : Nat) (x : Tone) : (setDrv g x s).halves = s.halves := rfl
@[simp] theorem setDrv_bus (g : Nat) (x : Tone) : (setDrv g x s).bus = s.bus := rfl
@[simp] theorem setDrv_vb (g : Nat) (x : Tone) : (setDrv g x s).vb = s.vb := rfl
@[simp] theorem setDrv_binder (g : Nat) (x : Tone) : (setDrv g x s).binder = s.binder := rfl
@[simp] theorem setDrv_cores (g : Nat) (x : Tone) : (setDrv g x s).cores = s.cores := rfl
@[simp] theorem setDrv_wits (g : Nat) (x : Tone) : (setDrv g x s).wits = s.wits := rfl
@[simp] theorem setDrv_gran (g : Nat) (x : Tone) : (setDrv g x s).gran = s.gran := rfl
@[simp] theorem setDrv_ce (g : Nat) (x : Tone) : (setDrv g x s).ce = s.ce := rfl
@[simp] theorem setDrv_fabric (g : Nat) (x : Tone) : (setDrv g x s).fabric = s.fabric := rfl
@[simp] theorem setDrv_ports (g : Nat) (x : Tone) : (setDrv g x s).ports = s.ports := rfl
@[simp] theorem setDrv_fed (g : Nat) (x : Tone) : (setDrv g x s).fed = s.fed := rfl
@[simp] theorem setDrv_pair (g : Nat) (x : Tone) : (setDrv g x s).pair = s.pair := rfl
@[simp] theorem setDrv_mon (g : Nat) (x : Tone) : (setDrv g x s).mon = s.mon := rfl
@[simp] theorem setDrv_senses (g : Nat) (x : Tone) : (setDrv g x s).senses = s.senses := rfl
@[simp] theorem setDrv_lins (g : Nat) (x : Tone) : (setDrv g x s).lins = s.lins := rfl
@[simp] theorem setDrv_therm (g : Nat) (x : Tone) : (setDrv g x s).therm = s.therm := rfl
@[simp] theorem setDrv_glean (g : Nat) (x : Tone) : (setDrv g x s).glean = s.glean := rfl
@[simp] theorem setDrv_sec (g : Nat) (x : Tone) : (setDrv g x s).sec = s.sec := rfl
@[simp] theorem setDrv_host (g : Nat) (x : Tone) : (setDrv g x s).host = s.host := rfl
@[simp] theorem setDrv_pins (g : Nat) (x : Tone) : (setDrv g x s).pins = s.pins := rfl
@[simp] theorem setDrv_agenda (g : Nat) (x : Tone) : (setDrv g x s).agenda = s.agenda := rfl
@[simp] theorem setDrv_modeWas (g : Nat) (x : Tone) : (setDrv g x s).modeWas = s.modeWas := rfl
@[simp] theorem setDrv_fresh (g : Nat) (x : Tone) : (setDrv g x s).fresh = s.fresh := rfl
@[simp] theorem setDrv_free (g : Nat) (x : Tone) : (setDrv g x s).free = s.free := rfl
@[simp] theorem setDrv_pending (g : Nat) (x : Tone) : (setDrv g x s).pending = s.pending := rfl

/-! ### setPrb -/

@[simp] theorem setPrb_fuses (g : Nat) (x : Tone) : (setPrb g x s).fuses = s.fuses := rfl
@[simp] theorem setPrb_life (g : Nat) (x : Tone) : (setPrb g x s).life = s.life := rfl
@[simp] theorem setPrb_haltAt (g : Nat) (x : Tone) : (setPrb g x s).haltAt = s.haltAt := rfl
@[simp] theorem setPrb_regs (g : Nat) (x : Tone) : (setPrb g x s).regs = s.regs := rfl
@[simp] theorem setPrb_force (g : Nat) (x : Tone) : (setPrb g x s).force = s.force := rfl
@[simp] theorem setPrb_time (g : Nat) (x : Tone) : (setPrb g x s).time = s.time := rfl
@[simp] theorem setPrb_log (g : Nat) (x : Tone) : (setPrb g x s).log = s.log := rfl
@[simp] theorem setPrb_lbReq (g : Nat) (x : Tone) : (setPrb g x s).lbReq = s.lbReq := rfl
@[simp] theorem setPrb_lbWaited (g : Nat) (x : Tone) : (setPrb g x s).lbWaited = s.lbWaited := rfl
@[simp] theorem setPrb_lbResume (g : Nat) (x : Tone) : (setPrb g x s).lbResume = s.lbResume := rfl
@[simp] theorem setPrb_armAfter (g : Nat) (x : Tone) : (setPrb g x s).armAfter = s.armAfter := rfl
@[simp] theorem setPrb_safePend (g : Nat) (x : Tone) : (setPrb g x s).safePend = s.safePend := rfl
@[simp] theorem setPrb_holdHist (g : Nat) (x : Tone) : (setPrb g x s).holdHist = s.holdHist := rfl
@[simp] theorem setPrb_lbHist (g : Nat) (x : Tone) : (setPrb g x s).lbHist = s.lbHist := rfl
@[simp] theorem setPrb_ballHist (g : Nat) (x : Tone) : (setPrb g x s).ballHist = s.ballHist := rfl
@[simp] theorem setPrb_seqs (g : Nat) (x : Tone) : (setPrb g x s).seqs = s.seqs := rfl
@[simp] theorem setPrb_down (g : Nat) (x : Tone) : (setPrb g x s).down = s.down := rfl
@[simp] theorem setPrb_crcDown (g : Nat) (x : Tone) : (setPrb g x s).crcDown = s.crcDown := rfl
@[simp] theorem setPrb_cutTiles (g : Nat) (x : Tone) : (setPrb g x s).cutTiles = s.cutTiles := rfl
@[simp] theorem setPrb_barriers (g : Nat) (x : Tone) : (setPrb g x s).barriers = s.barriers := rfl
@[simp] theorem setPrb_wave (g : Nat) (x : Tone) : (setPrb g x s).wave = s.wave := rfl
@[simp] theorem setPrb_drv (g : Nat) (x : Tone) : (setPrb g x s).drv = s.drv := rfl
@[simp] theorem setPrb_prb (g : Nat) (x : Tone) : (setPrb g x s).prb = tset {} g x s.prb := rfl
@[simp] theorem setPrb_flux (g : Nat) (x : Tone) : (setPrb g x s).flux = s.flux := rfl
@[simp] theorem setPrb_outs (g : Nat) (x : Tone) : (setPrb g x s).outs = s.outs := rfl
@[simp] theorem setPrb_bias (g : Nat) (x : Tone) : (setPrb g x s).bias = s.bias := rfl
@[simp] theorem setPrb_adcs (g : Nat) (x : Tone) : (setPrb g x s).adcs = s.adcs := rfl
@[simp] theorem setPrb_slots (g : Nat) (x : Tone) : (setPrb g x s).slots = s.slots := rfl
@[simp] theorem setPrb_halves (g : Nat) (x : Tone) : (setPrb g x s).halves = s.halves := rfl
@[simp] theorem setPrb_bus (g : Nat) (x : Tone) : (setPrb g x s).bus = s.bus := rfl
@[simp] theorem setPrb_vb (g : Nat) (x : Tone) : (setPrb g x s).vb = s.vb := rfl
@[simp] theorem setPrb_binder (g : Nat) (x : Tone) : (setPrb g x s).binder = s.binder := rfl
@[simp] theorem setPrb_cores (g : Nat) (x : Tone) : (setPrb g x s).cores = s.cores := rfl
@[simp] theorem setPrb_wits (g : Nat) (x : Tone) : (setPrb g x s).wits = s.wits := rfl
@[simp] theorem setPrb_gran (g : Nat) (x : Tone) : (setPrb g x s).gran = s.gran := rfl
@[simp] theorem setPrb_ce (g : Nat) (x : Tone) : (setPrb g x s).ce = s.ce := rfl
@[simp] theorem setPrb_fabric (g : Nat) (x : Tone) : (setPrb g x s).fabric = s.fabric := rfl
@[simp] theorem setPrb_ports (g : Nat) (x : Tone) : (setPrb g x s).ports = s.ports := rfl
@[simp] theorem setPrb_fed (g : Nat) (x : Tone) : (setPrb g x s).fed = s.fed := rfl
@[simp] theorem setPrb_pair (g : Nat) (x : Tone) : (setPrb g x s).pair = s.pair := rfl
@[simp] theorem setPrb_mon (g : Nat) (x : Tone) : (setPrb g x s).mon = s.mon := rfl
@[simp] theorem setPrb_senses (g : Nat) (x : Tone) : (setPrb g x s).senses = s.senses := rfl
@[simp] theorem setPrb_lins (g : Nat) (x : Tone) : (setPrb g x s).lins = s.lins := rfl
@[simp] theorem setPrb_therm (g : Nat) (x : Tone) : (setPrb g x s).therm = s.therm := rfl
@[simp] theorem setPrb_glean (g : Nat) (x : Tone) : (setPrb g x s).glean = s.glean := rfl
@[simp] theorem setPrb_sec (g : Nat) (x : Tone) : (setPrb g x s).sec = s.sec := rfl
@[simp] theorem setPrb_host (g : Nat) (x : Tone) : (setPrb g x s).host = s.host := rfl
@[simp] theorem setPrb_pins (g : Nat) (x : Tone) : (setPrb g x s).pins = s.pins := rfl
@[simp] theorem setPrb_agenda (g : Nat) (x : Tone) : (setPrb g x s).agenda = s.agenda := rfl
@[simp] theorem setPrb_modeWas (g : Nat) (x : Tone) : (setPrb g x s).modeWas = s.modeWas := rfl
@[simp] theorem setPrb_fresh (g : Nat) (x : Tone) : (setPrb g x s).fresh = s.fresh := rfl
@[simp] theorem setPrb_free (g : Nat) (x : Tone) : (setPrb g x s).free = s.free := rfl
@[simp] theorem setPrb_pending (g : Nat) (x : Tone) : (setPrb g x s).pending = s.pending := rfl

/-! ### setFlux -/

@[simp] theorem setFlux_fuses (g : Nat) (x : Flux) : (setFlux g x s).fuses = s.fuses := rfl
@[simp] theorem setFlux_life (g : Nat) (x : Flux) : (setFlux g x s).life = s.life := rfl
@[simp] theorem setFlux_haltAt (g : Nat) (x : Flux) : (setFlux g x s).haltAt = s.haltAt := rfl
@[simp] theorem setFlux_regs (g : Nat) (x : Flux) : (setFlux g x s).regs = s.regs := rfl
@[simp] theorem setFlux_force (g : Nat) (x : Flux) : (setFlux g x s).force = s.force := rfl
@[simp] theorem setFlux_time (g : Nat) (x : Flux) : (setFlux g x s).time = s.time := rfl
@[simp] theorem setFlux_log (g : Nat) (x : Flux) : (setFlux g x s).log = s.log := rfl
@[simp] theorem setFlux_lbReq (g : Nat) (x : Flux) : (setFlux g x s).lbReq = s.lbReq := rfl
@[simp] theorem setFlux_lbWaited (g : Nat) (x : Flux) : (setFlux g x s).lbWaited = s.lbWaited := rfl
@[simp] theorem setFlux_lbResume (g : Nat) (x : Flux) : (setFlux g x s).lbResume = s.lbResume := rfl
@[simp] theorem setFlux_armAfter (g : Nat) (x : Flux) : (setFlux g x s).armAfter = s.armAfter := rfl
@[simp] theorem setFlux_safePend (g : Nat) (x : Flux) : (setFlux g x s).safePend = s.safePend := rfl
@[simp] theorem setFlux_holdHist (g : Nat) (x : Flux) : (setFlux g x s).holdHist = s.holdHist := rfl
@[simp] theorem setFlux_lbHist (g : Nat) (x : Flux) : (setFlux g x s).lbHist = s.lbHist := rfl
@[simp] theorem setFlux_ballHist (g : Nat) (x : Flux) : (setFlux g x s).ballHist = s.ballHist := rfl
@[simp] theorem setFlux_seqs (g : Nat) (x : Flux) : (setFlux g x s).seqs = s.seqs := rfl
@[simp] theorem setFlux_down (g : Nat) (x : Flux) : (setFlux g x s).down = s.down := rfl
@[simp] theorem setFlux_crcDown (g : Nat) (x : Flux) : (setFlux g x s).crcDown = s.crcDown := rfl
@[simp] theorem setFlux_cutTiles (g : Nat) (x : Flux) : (setFlux g x s).cutTiles = s.cutTiles := rfl
@[simp] theorem setFlux_barriers (g : Nat) (x : Flux) : (setFlux g x s).barriers = s.barriers := rfl
@[simp] theorem setFlux_wave (g : Nat) (x : Flux) : (setFlux g x s).wave = s.wave := rfl
@[simp] theorem setFlux_drv (g : Nat) (x : Flux) : (setFlux g x s).drv = s.drv := rfl
@[simp] theorem setFlux_prb (g : Nat) (x : Flux) : (setFlux g x s).prb = s.prb := rfl
@[simp] theorem setFlux_flux (g : Nat) (x : Flux) : (setFlux g x s).flux = tset {} g x s.flux := rfl
@[simp] theorem setFlux_outs (g : Nat) (x : Flux) : (setFlux g x s).outs = s.outs := rfl
@[simp] theorem setFlux_bias (g : Nat) (x : Flux) : (setFlux g x s).bias = s.bias := rfl
@[simp] theorem setFlux_adcs (g : Nat) (x : Flux) : (setFlux g x s).adcs = s.adcs := rfl
@[simp] theorem setFlux_slots (g : Nat) (x : Flux) : (setFlux g x s).slots = s.slots := rfl
@[simp] theorem setFlux_halves (g : Nat) (x : Flux) : (setFlux g x s).halves = s.halves := rfl
@[simp] theorem setFlux_bus (g : Nat) (x : Flux) : (setFlux g x s).bus = s.bus := rfl
@[simp] theorem setFlux_vb (g : Nat) (x : Flux) : (setFlux g x s).vb = s.vb := rfl
@[simp] theorem setFlux_binder (g : Nat) (x : Flux) : (setFlux g x s).binder = s.binder := rfl
@[simp] theorem setFlux_cores (g : Nat) (x : Flux) : (setFlux g x s).cores = s.cores := rfl
@[simp] theorem setFlux_wits (g : Nat) (x : Flux) : (setFlux g x s).wits = s.wits := rfl
@[simp] theorem setFlux_gran (g : Nat) (x : Flux) : (setFlux g x s).gran = s.gran := rfl
@[simp] theorem setFlux_ce (g : Nat) (x : Flux) : (setFlux g x s).ce = s.ce := rfl
@[simp] theorem setFlux_fabric (g : Nat) (x : Flux) : (setFlux g x s).fabric = s.fabric := rfl
@[simp] theorem setFlux_ports (g : Nat) (x : Flux) : (setFlux g x s).ports = s.ports := rfl
@[simp] theorem setFlux_fed (g : Nat) (x : Flux) : (setFlux g x s).fed = s.fed := rfl
@[simp] theorem setFlux_pair (g : Nat) (x : Flux) : (setFlux g x s).pair = s.pair := rfl
@[simp] theorem setFlux_mon (g : Nat) (x : Flux) : (setFlux g x s).mon = s.mon := rfl
@[simp] theorem setFlux_senses (g : Nat) (x : Flux) : (setFlux g x s).senses = s.senses := rfl
@[simp] theorem setFlux_lins (g : Nat) (x : Flux) : (setFlux g x s).lins = s.lins := rfl
@[simp] theorem setFlux_therm (g : Nat) (x : Flux) : (setFlux g x s).therm = s.therm := rfl
@[simp] theorem setFlux_glean (g : Nat) (x : Flux) : (setFlux g x s).glean = s.glean := rfl
@[simp] theorem setFlux_sec (g : Nat) (x : Flux) : (setFlux g x s).sec = s.sec := rfl
@[simp] theorem setFlux_host (g : Nat) (x : Flux) : (setFlux g x s).host = s.host := rfl
@[simp] theorem setFlux_pins (g : Nat) (x : Flux) : (setFlux g x s).pins = s.pins := rfl
@[simp] theorem setFlux_agenda (g : Nat) (x : Flux) : (setFlux g x s).agenda = s.agenda := rfl
@[simp] theorem setFlux_modeWas (g : Nat) (x : Flux) : (setFlux g x s).modeWas = s.modeWas := rfl
@[simp] theorem setFlux_fresh (g : Nat) (x : Flux) : (setFlux g x s).fresh = s.fresh := rfl
@[simp] theorem setFlux_free (g : Nat) (x : Flux) : (setFlux g x s).free = s.free := rfl
@[simp] theorem setFlux_pending (g : Nat) (x : Flux) : (setFlux g x s).pending = s.pending := rfl

/-! ### setOut -/

@[simp] theorem setOut_fuses (o : Nat) (x : Output) : (setOut o x s).fuses = s.fuses := rfl
@[simp] theorem setOut_life (o : Nat) (x : Output) : (setOut o x s).life = s.life := rfl
@[simp] theorem setOut_haltAt (o : Nat) (x : Output) : (setOut o x s).haltAt = s.haltAt := rfl
@[simp] theorem setOut_regs (o : Nat) (x : Output) : (setOut o x s).regs = s.regs := rfl
@[simp] theorem setOut_force (o : Nat) (x : Output) : (setOut o x s).force = s.force := rfl
@[simp] theorem setOut_time (o : Nat) (x : Output) : (setOut o x s).time = s.time := rfl
@[simp] theorem setOut_log (o : Nat) (x : Output) : (setOut o x s).log = s.log := rfl
@[simp] theorem setOut_lbReq (o : Nat) (x : Output) : (setOut o x s).lbReq = s.lbReq := rfl
@[simp] theorem setOut_lbWaited (o : Nat) (x : Output) : (setOut o x s).lbWaited = s.lbWaited := rfl
@[simp] theorem setOut_lbResume (o : Nat) (x : Output) : (setOut o x s).lbResume = s.lbResume := rfl
@[simp] theorem setOut_armAfter (o : Nat) (x : Output) : (setOut o x s).armAfter = s.armAfter := rfl
@[simp] theorem setOut_safePend (o : Nat) (x : Output) : (setOut o x s).safePend = s.safePend := rfl
@[simp] theorem setOut_holdHist (o : Nat) (x : Output) : (setOut o x s).holdHist = s.holdHist := rfl
@[simp] theorem setOut_lbHist (o : Nat) (x : Output) : (setOut o x s).lbHist = s.lbHist := rfl
@[simp] theorem setOut_ballHist (o : Nat) (x : Output) : (setOut o x s).ballHist = s.ballHist := rfl
@[simp] theorem setOut_seqs (o : Nat) (x : Output) : (setOut o x s).seqs = s.seqs := rfl
@[simp] theorem setOut_down (o : Nat) (x : Output) : (setOut o x s).down = s.down := rfl
@[simp] theorem setOut_crcDown (o : Nat) (x : Output) : (setOut o x s).crcDown = s.crcDown := rfl
@[simp] theorem setOut_cutTiles (o : Nat) (x : Output) : (setOut o x s).cutTiles = s.cutTiles := rfl
@[simp] theorem setOut_barriers (o : Nat) (x : Output) : (setOut o x s).barriers = s.barriers := rfl
@[simp] theorem setOut_wave (o : Nat) (x : Output) : (setOut o x s).wave = s.wave := rfl
@[simp] theorem setOut_drv (o : Nat) (x : Output) : (setOut o x s).drv = s.drv := rfl
@[simp] theorem setOut_prb (o : Nat) (x : Output) : (setOut o x s).prb = s.prb := rfl
@[simp] theorem setOut_flux (o : Nat) (x : Output) : (setOut o x s).flux = s.flux := rfl
@[simp] theorem setOut_outs (o : Nat) (x : Output) : (setOut o x s).outs = tset {} o x s.outs := rfl
@[simp] theorem setOut_bias (o : Nat) (x : Output) : (setOut o x s).bias = s.bias := rfl
@[simp] theorem setOut_adcs (o : Nat) (x : Output) : (setOut o x s).adcs = s.adcs := rfl
@[simp] theorem setOut_slots (o : Nat) (x : Output) : (setOut o x s).slots = s.slots := rfl
@[simp] theorem setOut_halves (o : Nat) (x : Output) : (setOut o x s).halves = s.halves := rfl
@[simp] theorem setOut_bus (o : Nat) (x : Output) : (setOut o x s).bus = s.bus := rfl
@[simp] theorem setOut_vb (o : Nat) (x : Output) : (setOut o x s).vb = s.vb := rfl
@[simp] theorem setOut_binder (o : Nat) (x : Output) : (setOut o x s).binder = s.binder := rfl
@[simp] theorem setOut_cores (o : Nat) (x : Output) : (setOut o x s).cores = s.cores := rfl
@[simp] theorem setOut_wits (o : Nat) (x : Output) : (setOut o x s).wits = s.wits := rfl
@[simp] theorem setOut_gran (o : Nat) (x : Output) : (setOut o x s).gran = s.gran := rfl
@[simp] theorem setOut_ce (o : Nat) (x : Output) : (setOut o x s).ce = s.ce := rfl
@[simp] theorem setOut_fabric (o : Nat) (x : Output) : (setOut o x s).fabric = s.fabric := rfl
@[simp] theorem setOut_ports (o : Nat) (x : Output) : (setOut o x s).ports = s.ports := rfl
@[simp] theorem setOut_fed (o : Nat) (x : Output) : (setOut o x s).fed = s.fed := rfl
@[simp] theorem setOut_pair (o : Nat) (x : Output) : (setOut o x s).pair = s.pair := rfl
@[simp] theorem setOut_mon (o : Nat) (x : Output) : (setOut o x s).mon = s.mon := rfl
@[simp] theorem setOut_senses (o : Nat) (x : Output) : (setOut o x s).senses = s.senses := rfl
@[simp] theorem setOut_lins (o : Nat) (x : Output) : (setOut o x s).lins = s.lins := rfl
@[simp] theorem setOut_therm (o : Nat) (x : Output) : (setOut o x s).therm = s.therm := rfl
@[simp] theorem setOut_glean (o : Nat) (x : Output) : (setOut o x s).glean = s.glean := rfl
@[simp] theorem setOut_sec (o : Nat) (x : Output) : (setOut o x s).sec = s.sec := rfl
@[simp] theorem setOut_host (o : Nat) (x : Output) : (setOut o x s).host = s.host := rfl
@[simp] theorem setOut_pins (o : Nat) (x : Output) : (setOut o x s).pins = s.pins := rfl
@[simp] theorem setOut_agenda (o : Nat) (x : Output) : (setOut o x s).agenda = s.agenda := rfl
@[simp] theorem setOut_modeWas (o : Nat) (x : Output) : (setOut o x s).modeWas = s.modeWas := rfl
@[simp] theorem setOut_fresh (o : Nat) (x : Output) : (setOut o x s).fresh = s.fresh := rfl
@[simp] theorem setOut_free (o : Nat) (x : Output) : (setOut o x s).free = s.free := rfl
@[simp] theorem setOut_pending (o : Nat) (x : Output) : (setOut o x s).pending = s.pending := rfl

/-! ### setBias -/

@[simp] theorem setBias_fuses (g : Nat) (x : Bias) : (setBias g x s).fuses = s.fuses := rfl
@[simp] theorem setBias_life (g : Nat) (x : Bias) : (setBias g x s).life = s.life := rfl
@[simp] theorem setBias_haltAt (g : Nat) (x : Bias) : (setBias g x s).haltAt = s.haltAt := rfl
@[simp] theorem setBias_regs (g : Nat) (x : Bias) : (setBias g x s).regs = s.regs := rfl
@[simp] theorem setBias_force (g : Nat) (x : Bias) : (setBias g x s).force = s.force := rfl
@[simp] theorem setBias_time (g : Nat) (x : Bias) : (setBias g x s).time = s.time := rfl
@[simp] theorem setBias_log (g : Nat) (x : Bias) : (setBias g x s).log = s.log := rfl
@[simp] theorem setBias_lbReq (g : Nat) (x : Bias) : (setBias g x s).lbReq = s.lbReq := rfl
@[simp] theorem setBias_lbWaited (g : Nat) (x : Bias) : (setBias g x s).lbWaited = s.lbWaited := rfl
@[simp] theorem setBias_lbResume (g : Nat) (x : Bias) : (setBias g x s).lbResume = s.lbResume := rfl
@[simp] theorem setBias_armAfter (g : Nat) (x : Bias) : (setBias g x s).armAfter = s.armAfter := rfl
@[simp] theorem setBias_safePend (g : Nat) (x : Bias) : (setBias g x s).safePend = s.safePend := rfl
@[simp] theorem setBias_holdHist (g : Nat) (x : Bias) : (setBias g x s).holdHist = s.holdHist := rfl
@[simp] theorem setBias_lbHist (g : Nat) (x : Bias) : (setBias g x s).lbHist = s.lbHist := rfl
@[simp] theorem setBias_ballHist (g : Nat) (x : Bias) : (setBias g x s).ballHist = s.ballHist := rfl
@[simp] theorem setBias_seqs (g : Nat) (x : Bias) : (setBias g x s).seqs = s.seqs := rfl
@[simp] theorem setBias_down (g : Nat) (x : Bias) : (setBias g x s).down = s.down := rfl
@[simp] theorem setBias_crcDown (g : Nat) (x : Bias) : (setBias g x s).crcDown = s.crcDown := rfl
@[simp] theorem setBias_cutTiles (g : Nat) (x : Bias) : (setBias g x s).cutTiles = s.cutTiles := rfl
@[simp] theorem setBias_barriers (g : Nat) (x : Bias) : (setBias g x s).barriers = s.barriers := rfl
@[simp] theorem setBias_wave (g : Nat) (x : Bias) : (setBias g x s).wave = s.wave := rfl
@[simp] theorem setBias_drv (g : Nat) (x : Bias) : (setBias g x s).drv = s.drv := rfl
@[simp] theorem setBias_prb (g : Nat) (x : Bias) : (setBias g x s).prb = s.prb := rfl
@[simp] theorem setBias_flux (g : Nat) (x : Bias) : (setBias g x s).flux = s.flux := rfl
@[simp] theorem setBias_outs (g : Nat) (x : Bias) : (setBias g x s).outs = s.outs := rfl
@[simp] theorem setBias_bias (g : Nat) (x : Bias) : (setBias g x s).bias = tset {} g x s.bias := rfl
@[simp] theorem setBias_adcs (g : Nat) (x : Bias) : (setBias g x s).adcs = s.adcs := rfl
@[simp] theorem setBias_slots (g : Nat) (x : Bias) : (setBias g x s).slots = s.slots := rfl
@[simp] theorem setBias_halves (g : Nat) (x : Bias) : (setBias g x s).halves = s.halves := rfl
@[simp] theorem setBias_bus (g : Nat) (x : Bias) : (setBias g x s).bus = s.bus := rfl
@[simp] theorem setBias_vb (g : Nat) (x : Bias) : (setBias g x s).vb = s.vb := rfl
@[simp] theorem setBias_binder (g : Nat) (x : Bias) : (setBias g x s).binder = s.binder := rfl
@[simp] theorem setBias_cores (g : Nat) (x : Bias) : (setBias g x s).cores = s.cores := rfl
@[simp] theorem setBias_wits (g : Nat) (x : Bias) : (setBias g x s).wits = s.wits := rfl
@[simp] theorem setBias_gran (g : Nat) (x : Bias) : (setBias g x s).gran = s.gran := rfl
@[simp] theorem setBias_ce (g : Nat) (x : Bias) : (setBias g x s).ce = s.ce := rfl
@[simp] theorem setBias_fabric (g : Nat) (x : Bias) : (setBias g x s).fabric = s.fabric := rfl
@[simp] theorem setBias_ports (g : Nat) (x : Bias) : (setBias g x s).ports = s.ports := rfl
@[simp] theorem setBias_fed (g : Nat) (x : Bias) : (setBias g x s).fed = s.fed := rfl
@[simp] theorem setBias_pair (g : Nat) (x : Bias) : (setBias g x s).pair = s.pair := rfl
@[simp] theorem setBias_mon (g : Nat) (x : Bias) : (setBias g x s).mon = s.mon := rfl
@[simp] theorem setBias_senses (g : Nat) (x : Bias) : (setBias g x s).senses = s.senses := rfl
@[simp] theorem setBias_lins (g : Nat) (x : Bias) : (setBias g x s).lins = s.lins := rfl
@[simp] theorem setBias_therm (g : Nat) (x : Bias) : (setBias g x s).therm = s.therm := rfl
@[simp] theorem setBias_glean (g : Nat) (x : Bias) : (setBias g x s).glean = s.glean := rfl
@[simp] theorem setBias_sec (g : Nat) (x : Bias) : (setBias g x s).sec = s.sec := rfl
@[simp] theorem setBias_host (g : Nat) (x : Bias) : (setBias g x s).host = s.host := rfl
@[simp] theorem setBias_pins (g : Nat) (x : Bias) : (setBias g x s).pins = s.pins := rfl
@[simp] theorem setBias_agenda (g : Nat) (x : Bias) : (setBias g x s).agenda = s.agenda := rfl
@[simp] theorem setBias_modeWas (g : Nat) (x : Bias) : (setBias g x s).modeWas = s.modeWas := rfl
@[simp] theorem setBias_fresh (g : Nat) (x : Bias) : (setBias g x s).fresh = s.fresh := rfl
@[simp] theorem setBias_free (g : Nat) (x : Bias) : (setBias g x s).free = s.free := rfl
@[simp] theorem setBias_pending (g : Nat) (x : Bias) : (setBias g x s).pending = s.pending := rfl

/-! ### setAdc -/

@[simp] theorem setAdc_fuses (a : Nat) (x : Adc) : (setAdc a x s).fuses = s.fuses := rfl
@[simp] theorem setAdc_life (a : Nat) (x : Adc) : (setAdc a x s).life = s.life := rfl
@[simp] theorem setAdc_haltAt (a : Nat) (x : Adc) : (setAdc a x s).haltAt = s.haltAt := rfl
@[simp] theorem setAdc_regs (a : Nat) (x : Adc) : (setAdc a x s).regs = s.regs := rfl
@[simp] theorem setAdc_force (a : Nat) (x : Adc) : (setAdc a x s).force = s.force := rfl
@[simp] theorem setAdc_time (a : Nat) (x : Adc) : (setAdc a x s).time = s.time := rfl
@[simp] theorem setAdc_log (a : Nat) (x : Adc) : (setAdc a x s).log = s.log := rfl
@[simp] theorem setAdc_lbReq (a : Nat) (x : Adc) : (setAdc a x s).lbReq = s.lbReq := rfl
@[simp] theorem setAdc_lbWaited (a : Nat) (x : Adc) : (setAdc a x s).lbWaited = s.lbWaited := rfl
@[simp] theorem setAdc_lbResume (a : Nat) (x : Adc) : (setAdc a x s).lbResume = s.lbResume := rfl
@[simp] theorem setAdc_armAfter (a : Nat) (x : Adc) : (setAdc a x s).armAfter = s.armAfter := rfl
@[simp] theorem setAdc_safePend (a : Nat) (x : Adc) : (setAdc a x s).safePend = s.safePend := rfl
@[simp] theorem setAdc_holdHist (a : Nat) (x : Adc) : (setAdc a x s).holdHist = s.holdHist := rfl
@[simp] theorem setAdc_lbHist (a : Nat) (x : Adc) : (setAdc a x s).lbHist = s.lbHist := rfl
@[simp] theorem setAdc_ballHist (a : Nat) (x : Adc) : (setAdc a x s).ballHist = s.ballHist := rfl
@[simp] theorem setAdc_seqs (a : Nat) (x : Adc) : (setAdc a x s).seqs = s.seqs := rfl
@[simp] theorem setAdc_down (a : Nat) (x : Adc) : (setAdc a x s).down = s.down := rfl
@[simp] theorem setAdc_crcDown (a : Nat) (x : Adc) : (setAdc a x s).crcDown = s.crcDown := rfl
@[simp] theorem setAdc_cutTiles (a : Nat) (x : Adc) : (setAdc a x s).cutTiles = s.cutTiles := rfl
@[simp] theorem setAdc_barriers (a : Nat) (x : Adc) : (setAdc a x s).barriers = s.barriers := rfl
@[simp] theorem setAdc_wave (a : Nat) (x : Adc) : (setAdc a x s).wave = s.wave := rfl
@[simp] theorem setAdc_drv (a : Nat) (x : Adc) : (setAdc a x s).drv = s.drv := rfl
@[simp] theorem setAdc_prb (a : Nat) (x : Adc) : (setAdc a x s).prb = s.prb := rfl
@[simp] theorem setAdc_flux (a : Nat) (x : Adc) : (setAdc a x s).flux = s.flux := rfl
@[simp] theorem setAdc_outs (a : Nat) (x : Adc) : (setAdc a x s).outs = s.outs := rfl
@[simp] theorem setAdc_bias (a : Nat) (x : Adc) : (setAdc a x s).bias = s.bias := rfl
@[simp] theorem setAdc_adcs (a : Nat) (x : Adc) : (setAdc a x s).adcs = tset {} a x s.adcs := rfl
@[simp] theorem setAdc_slots (a : Nat) (x : Adc) : (setAdc a x s).slots = s.slots := rfl
@[simp] theorem setAdc_halves (a : Nat) (x : Adc) : (setAdc a x s).halves = s.halves := rfl
@[simp] theorem setAdc_bus (a : Nat) (x : Adc) : (setAdc a x s).bus = s.bus := rfl
@[simp] theorem setAdc_vb (a : Nat) (x : Adc) : (setAdc a x s).vb = s.vb := rfl
@[simp] theorem setAdc_binder (a : Nat) (x : Adc) : (setAdc a x s).binder = s.binder := rfl
@[simp] theorem setAdc_cores (a : Nat) (x : Adc) : (setAdc a x s).cores = s.cores := rfl
@[simp] theorem setAdc_wits (a : Nat) (x : Adc) : (setAdc a x s).wits = s.wits := rfl
@[simp] theorem setAdc_gran (a : Nat) (x : Adc) : (setAdc a x s).gran = s.gran := rfl
@[simp] theorem setAdc_ce (a : Nat) (x : Adc) : (setAdc a x s).ce = s.ce := rfl
@[simp] theorem setAdc_fabric (a : Nat) (x : Adc) : (setAdc a x s).fabric = s.fabric := rfl
@[simp] theorem setAdc_ports (a : Nat) (x : Adc) : (setAdc a x s).ports = s.ports := rfl
@[simp] theorem setAdc_fed (a : Nat) (x : Adc) : (setAdc a x s).fed = s.fed := rfl
@[simp] theorem setAdc_pair (a : Nat) (x : Adc) : (setAdc a x s).pair = s.pair := rfl
@[simp] theorem setAdc_mon (a : Nat) (x : Adc) : (setAdc a x s).mon = s.mon := rfl
@[simp] theorem setAdc_senses (a : Nat) (x : Adc) : (setAdc a x s).senses = s.senses := rfl
@[simp] theorem setAdc_lins (a : Nat) (x : Adc) : (setAdc a x s).lins = s.lins := rfl
@[simp] theorem setAdc_therm (a : Nat) (x : Adc) : (setAdc a x s).therm = s.therm := rfl
@[simp] theorem setAdc_glean (a : Nat) (x : Adc) : (setAdc a x s).glean = s.glean := rfl
@[simp] theorem setAdc_sec (a : Nat) (x : Adc) : (setAdc a x s).sec = s.sec := rfl
@[simp] theorem setAdc_host (a : Nat) (x : Adc) : (setAdc a x s).host = s.host := rfl
@[simp] theorem setAdc_pins (a : Nat) (x : Adc) : (setAdc a x s).pins = s.pins := rfl
@[simp] theorem setAdc_agenda (a : Nat) (x : Adc) : (setAdc a x s).agenda = s.agenda := rfl
@[simp] theorem setAdc_modeWas (a : Nat) (x : Adc) : (setAdc a x s).modeWas = s.modeWas := rfl
@[simp] theorem setAdc_fresh (a : Nat) (x : Adc) : (setAdc a x s).fresh = s.fresh := rfl
@[simp] theorem setAdc_free (a : Nat) (x : Adc) : (setAdc a x s).free = s.free := rfl
@[simp] theorem setAdc_pending (a : Nat) (x : Adc) : (setAdc a x s).pending = s.pending := rfl

/-! ### setSlot -/

@[simp] theorem setSlot_fuses (g : Nat) (x : Slot) : (setSlot g x s).fuses = s.fuses := rfl
@[simp] theorem setSlot_life (g : Nat) (x : Slot) : (setSlot g x s).life = s.life := rfl
@[simp] theorem setSlot_haltAt (g : Nat) (x : Slot) : (setSlot g x s).haltAt = s.haltAt := rfl
@[simp] theorem setSlot_regs (g : Nat) (x : Slot) : (setSlot g x s).regs = s.regs := rfl
@[simp] theorem setSlot_force (g : Nat) (x : Slot) : (setSlot g x s).force = s.force := rfl
@[simp] theorem setSlot_time (g : Nat) (x : Slot) : (setSlot g x s).time = s.time := rfl
@[simp] theorem setSlot_log (g : Nat) (x : Slot) : (setSlot g x s).log = s.log := rfl
@[simp] theorem setSlot_lbReq (g : Nat) (x : Slot) : (setSlot g x s).lbReq = s.lbReq := rfl
@[simp] theorem setSlot_lbWaited (g : Nat) (x : Slot) : (setSlot g x s).lbWaited = s.lbWaited := rfl
@[simp] theorem setSlot_lbResume (g : Nat) (x : Slot) : (setSlot g x s).lbResume = s.lbResume := rfl
@[simp] theorem setSlot_armAfter (g : Nat) (x : Slot) : (setSlot g x s).armAfter = s.armAfter := rfl
@[simp] theorem setSlot_safePend (g : Nat) (x : Slot) : (setSlot g x s).safePend = s.safePend := rfl
@[simp] theorem setSlot_holdHist (g : Nat) (x : Slot) : (setSlot g x s).holdHist = s.holdHist := rfl
@[simp] theorem setSlot_lbHist (g : Nat) (x : Slot) : (setSlot g x s).lbHist = s.lbHist := rfl
@[simp] theorem setSlot_ballHist (g : Nat) (x : Slot) : (setSlot g x s).ballHist = s.ballHist := rfl
@[simp] theorem setSlot_seqs (g : Nat) (x : Slot) : (setSlot g x s).seqs = s.seqs := rfl
@[simp] theorem setSlot_down (g : Nat) (x : Slot) : (setSlot g x s).down = s.down := rfl
@[simp] theorem setSlot_crcDown (g : Nat) (x : Slot) : (setSlot g x s).crcDown = s.crcDown := rfl
@[simp] theorem setSlot_cutTiles (g : Nat) (x : Slot) : (setSlot g x s).cutTiles = s.cutTiles := rfl
@[simp] theorem setSlot_barriers (g : Nat) (x : Slot) : (setSlot g x s).barriers = s.barriers := rfl
@[simp] theorem setSlot_wave (g : Nat) (x : Slot) : (setSlot g x s).wave = s.wave := rfl
@[simp] theorem setSlot_drv (g : Nat) (x : Slot) : (setSlot g x s).drv = s.drv := rfl
@[simp] theorem setSlot_prb (g : Nat) (x : Slot) : (setSlot g x s).prb = s.prb := rfl
@[simp] theorem setSlot_flux (g : Nat) (x : Slot) : (setSlot g x s).flux = s.flux := rfl
@[simp] theorem setSlot_outs (g : Nat) (x : Slot) : (setSlot g x s).outs = s.outs := rfl
@[simp] theorem setSlot_bias (g : Nat) (x : Slot) : (setSlot g x s).bias = s.bias := rfl
@[simp] theorem setSlot_adcs (g : Nat) (x : Slot) : (setSlot g x s).adcs = s.adcs := rfl
@[simp] theorem setSlot_slots (g : Nat) (x : Slot) : (setSlot g x s).slots = tset {} g x s.slots := rfl
@[simp] theorem setSlot_halves (g : Nat) (x : Slot) : (setSlot g x s).halves = s.halves := rfl
@[simp] theorem setSlot_bus (g : Nat) (x : Slot) : (setSlot g x s).bus = s.bus := rfl
@[simp] theorem setSlot_vb (g : Nat) (x : Slot) : (setSlot g x s).vb = s.vb := rfl
@[simp] theorem setSlot_binder (g : Nat) (x : Slot) : (setSlot g x s).binder = s.binder := rfl
@[simp] theorem setSlot_cores (g : Nat) (x : Slot) : (setSlot g x s).cores = s.cores := rfl
@[simp] theorem setSlot_wits (g : Nat) (x : Slot) : (setSlot g x s).wits = s.wits := rfl
@[simp] theorem setSlot_gran (g : Nat) (x : Slot) : (setSlot g x s).gran = s.gran := rfl
@[simp] theorem setSlot_ce (g : Nat) (x : Slot) : (setSlot g x s).ce = s.ce := rfl
@[simp] theorem setSlot_fabric (g : Nat) (x : Slot) : (setSlot g x s).fabric = s.fabric := rfl
@[simp] theorem setSlot_ports (g : Nat) (x : Slot) : (setSlot g x s).ports = s.ports := rfl
@[simp] theorem setSlot_fed (g : Nat) (x : Slot) : (setSlot g x s).fed = s.fed := rfl
@[simp] theorem setSlot_pair (g : Nat) (x : Slot) : (setSlot g x s).pair = s.pair := rfl
@[simp] theorem setSlot_mon (g : Nat) (x : Slot) : (setSlot g x s).mon = s.mon := rfl
@[simp] theorem setSlot_senses (g : Nat) (x : Slot) : (setSlot g x s).senses = s.senses := rfl
@[simp] theorem setSlot_lins (g : Nat) (x : Slot) : (setSlot g x s).lins = s.lins := rfl
@[simp] theorem setSlot_therm (g : Nat) (x : Slot) : (setSlot g x s).therm = s.therm := rfl
@[simp] theorem setSlot_glean (g : Nat) (x : Slot) : (setSlot g x s).glean = s.glean := rfl
@[simp] theorem setSlot_sec (g : Nat) (x : Slot) : (setSlot g x s).sec = s.sec := rfl
@[simp] theorem setSlot_host (g : Nat) (x : Slot) : (setSlot g x s).host = s.host := rfl
@[simp] theorem setSlot_pins (g : Nat) (x : Slot) : (setSlot g x s).pins = s.pins := rfl
@[simp] theorem setSlot_agenda (g : Nat) (x : Slot) : (setSlot g x s).agenda = s.agenda := rfl
@[simp] theorem setSlot_modeWas (g : Nat) (x : Slot) : (setSlot g x s).modeWas = s.modeWas := rfl
@[simp] theorem setSlot_fresh (g : Nat) (x : Slot) : (setSlot g x s).fresh = s.fresh := rfl
@[simp] theorem setSlot_free (g : Nat) (x : Slot) : (setSlot g x s).free = s.free := rfl
@[simp] theorem setSlot_pending (g : Nat) (x : Slot) : (setSlot g x s).pending = s.pending := rfl

/-! ### setCore -/

@[simp] theorem setCore_fuses (k : Nat) (x : Core) : (setCore k x s).fuses = s.fuses := rfl
@[simp] theorem setCore_life (k : Nat) (x : Core) : (setCore k x s).life = s.life := rfl
@[simp] theorem setCore_haltAt (k : Nat) (x : Core) : (setCore k x s).haltAt = s.haltAt := rfl
@[simp] theorem setCore_regs (k : Nat) (x : Core) : (setCore k x s).regs = s.regs := rfl
@[simp] theorem setCore_force (k : Nat) (x : Core) : (setCore k x s).force = s.force := rfl
@[simp] theorem setCore_time (k : Nat) (x : Core) : (setCore k x s).time = s.time := rfl
@[simp] theorem setCore_log (k : Nat) (x : Core) : (setCore k x s).log = s.log := rfl
@[simp] theorem setCore_lbReq (k : Nat) (x : Core) : (setCore k x s).lbReq = s.lbReq := rfl
@[simp] theorem setCore_lbWaited (k : Nat) (x : Core) : (setCore k x s).lbWaited = s.lbWaited := rfl
@[simp] theorem setCore_lbResume (k : Nat) (x : Core) : (setCore k x s).lbResume = s.lbResume := rfl
@[simp] theorem setCore_armAfter (k : Nat) (x : Core) : (setCore k x s).armAfter = s.armAfter := rfl
@[simp] theorem setCore_safePend (k : Nat) (x : Core) : (setCore k x s).safePend = s.safePend := rfl
@[simp] theorem setCore_holdHist (k : Nat) (x : Core) : (setCore k x s).holdHist = s.holdHist := rfl
@[simp] theorem setCore_lbHist (k : Nat) (x : Core) : (setCore k x s).lbHist = s.lbHist := rfl
@[simp] theorem setCore_ballHist (k : Nat) (x : Core) : (setCore k x s).ballHist = s.ballHist := rfl
@[simp] theorem setCore_seqs (k : Nat) (x : Core) : (setCore k x s).seqs = s.seqs := rfl
@[simp] theorem setCore_down (k : Nat) (x : Core) : (setCore k x s).down = s.down := rfl
@[simp] theorem setCore_crcDown (k : Nat) (x : Core) : (setCore k x s).crcDown = s.crcDown := rfl
@[simp] theorem setCore_cutTiles (k : Nat) (x : Core) : (setCore k x s).cutTiles = s.cutTiles := rfl
@[simp] theorem setCore_barriers (k : Nat) (x : Core) : (setCore k x s).barriers = s.barriers := rfl
@[simp] theorem setCore_wave (k : Nat) (x : Core) : (setCore k x s).wave = s.wave := rfl
@[simp] theorem setCore_drv (k : Nat) (x : Core) : (setCore k x s).drv = s.drv := rfl
@[simp] theorem setCore_prb (k : Nat) (x : Core) : (setCore k x s).prb = s.prb := rfl
@[simp] theorem setCore_flux (k : Nat) (x : Core) : (setCore k x s).flux = s.flux := rfl
@[simp] theorem setCore_outs (k : Nat) (x : Core) : (setCore k x s).outs = s.outs := rfl
@[simp] theorem setCore_bias (k : Nat) (x : Core) : (setCore k x s).bias = s.bias := rfl
@[simp] theorem setCore_adcs (k : Nat) (x : Core) : (setCore k x s).adcs = s.adcs := rfl
@[simp] theorem setCore_slots (k : Nat) (x : Core) : (setCore k x s).slots = s.slots := rfl
@[simp] theorem setCore_halves (k : Nat) (x : Core) : (setCore k x s).halves = s.halves := rfl
@[simp] theorem setCore_bus (k : Nat) (x : Core) : (setCore k x s).bus = s.bus := rfl
@[simp] theorem setCore_vb (k : Nat) (x : Core) : (setCore k x s).vb = s.vb := rfl
@[simp] theorem setCore_binder (k : Nat) (x : Core) : (setCore k x s).binder = s.binder := rfl
@[simp] theorem setCore_cores (k : Nat) (x : Core) : (setCore k x s).cores = tset {} k x s.cores := rfl
@[simp] theorem setCore_wits (k : Nat) (x : Core) : (setCore k x s).wits = s.wits := rfl
@[simp] theorem setCore_gran (k : Nat) (x : Core) : (setCore k x s).gran = s.gran := rfl
@[simp] theorem setCore_ce (k : Nat) (x : Core) : (setCore k x s).ce = s.ce := rfl
@[simp] theorem setCore_fabric (k : Nat) (x : Core) : (setCore k x s).fabric = s.fabric := rfl
@[simp] theorem setCore_ports (k : Nat) (x : Core) : (setCore k x s).ports = s.ports := rfl
@[simp] theorem setCore_fed (k : Nat) (x : Core) : (setCore k x s).fed = s.fed := rfl
@[simp] theorem setCore_pair (k : Nat) (x : Core) : (setCore k x s).pair = s.pair := rfl
@[simp] theorem setCore_mon (k : Nat) (x : Core) : (setCore k x s).mon = s.mon := rfl
@[simp] theorem setCore_senses (k : Nat) (x : Core) : (setCore k x s).senses = s.senses := rfl
@[simp] theorem setCore_lins (k : Nat) (x : Core) : (setCore k x s).lins = s.lins := rfl
@[simp] theorem setCore_therm (k : Nat) (x : Core) : (setCore k x s).therm = s.therm := rfl
@[simp] theorem setCore_glean (k : Nat) (x : Core) : (setCore k x s).glean = s.glean := rfl
@[simp] theorem setCore_sec (k : Nat) (x : Core) : (setCore k x s).sec = s.sec := rfl
@[simp] theorem setCore_host (k : Nat) (x : Core) : (setCore k x s).host = s.host := rfl
@[simp] theorem setCore_pins (k : Nat) (x : Core) : (setCore k x s).pins = s.pins := rfl
@[simp] theorem setCore_agenda (k : Nat) (x : Core) : (setCore k x s).agenda = s.agenda := rfl
@[simp] theorem setCore_modeWas (k : Nat) (x : Core) : (setCore k x s).modeWas = s.modeWas := rfl
@[simp] theorem setCore_fresh (k : Nat) (x : Core) : (setCore k x s).fresh = s.fresh := rfl
@[simp] theorem setCore_free (k : Nat) (x : Core) : (setCore k x s).free = s.free := rfl
@[simp] theorem setCore_pending (k : Nat) (x : Core) : (setCore k x s).pending = s.pending := rfl

/-! ### setWit -/

@[simp] theorem setWit_fuses (e : Nat) (x : Wit) : (setWit e x s).fuses = s.fuses := rfl
@[simp] theorem setWit_life (e : Nat) (x : Wit) : (setWit e x s).life = s.life := rfl
@[simp] theorem setWit_haltAt (e : Nat) (x : Wit) : (setWit e x s).haltAt = s.haltAt := rfl
@[simp] theorem setWit_regs (e : Nat) (x : Wit) : (setWit e x s).regs = s.regs := rfl
@[simp] theorem setWit_force (e : Nat) (x : Wit) : (setWit e x s).force = s.force := rfl
@[simp] theorem setWit_time (e : Nat) (x : Wit) : (setWit e x s).time = s.time := rfl
@[simp] theorem setWit_log (e : Nat) (x : Wit) : (setWit e x s).log = s.log := rfl
@[simp] theorem setWit_lbReq (e : Nat) (x : Wit) : (setWit e x s).lbReq = s.lbReq := rfl
@[simp] theorem setWit_lbWaited (e : Nat) (x : Wit) : (setWit e x s).lbWaited = s.lbWaited := rfl
@[simp] theorem setWit_lbResume (e : Nat) (x : Wit) : (setWit e x s).lbResume = s.lbResume := rfl
@[simp] theorem setWit_armAfter (e : Nat) (x : Wit) : (setWit e x s).armAfter = s.armAfter := rfl
@[simp] theorem setWit_safePend (e : Nat) (x : Wit) : (setWit e x s).safePend = s.safePend := rfl
@[simp] theorem setWit_holdHist (e : Nat) (x : Wit) : (setWit e x s).holdHist = s.holdHist := rfl
@[simp] theorem setWit_lbHist (e : Nat) (x : Wit) : (setWit e x s).lbHist = s.lbHist := rfl
@[simp] theorem setWit_ballHist (e : Nat) (x : Wit) : (setWit e x s).ballHist = s.ballHist := rfl
@[simp] theorem setWit_seqs (e : Nat) (x : Wit) : (setWit e x s).seqs = s.seqs := rfl
@[simp] theorem setWit_down (e : Nat) (x : Wit) : (setWit e x s).down = s.down := rfl
@[simp] theorem setWit_crcDown (e : Nat) (x : Wit) : (setWit e x s).crcDown = s.crcDown := rfl
@[simp] theorem setWit_cutTiles (e : Nat) (x : Wit) : (setWit e x s).cutTiles = s.cutTiles := rfl
@[simp] theorem setWit_barriers (e : Nat) (x : Wit) : (setWit e x s).barriers = s.barriers := rfl
@[simp] theorem setWit_wave (e : Nat) (x : Wit) : (setWit e x s).wave = s.wave := rfl
@[simp] theorem setWit_drv (e : Nat) (x : Wit) : (setWit e x s).drv = s.drv := rfl
@[simp] theorem setWit_prb (e : Nat) (x : Wit) : (setWit e x s).prb = s.prb := rfl
@[simp] theorem setWit_flux (e : Nat) (x : Wit) : (setWit e x s).flux = s.flux := rfl
@[simp] theorem setWit_outs (e : Nat) (x : Wit) : (setWit e x s).outs = s.outs := rfl
@[simp] theorem setWit_bias (e : Nat) (x : Wit) : (setWit e x s).bias = s.bias := rfl
@[simp] theorem setWit_adcs (e : Nat) (x : Wit) : (setWit e x s).adcs = s.adcs := rfl
@[simp] theorem setWit_slots (e : Nat) (x : Wit) : (setWit e x s).slots = s.slots := rfl
@[simp] theorem setWit_halves (e : Nat) (x : Wit) : (setWit e x s).halves = s.halves := rfl
@[simp] theorem setWit_bus (e : Nat) (x : Wit) : (setWit e x s).bus = s.bus := rfl
@[simp] theorem setWit_vb (e : Nat) (x : Wit) : (setWit e x s).vb = s.vb := rfl
@[simp] theorem setWit_binder (e : Nat) (x : Wit) : (setWit e x s).binder = s.binder := rfl
@[simp] theorem setWit_cores (e : Nat) (x : Wit) : (setWit e x s).cores = s.cores := rfl
@[simp] theorem setWit_wits (e : Nat) (x : Wit) : (setWit e x s).wits = tset {} e x s.wits := rfl
@[simp] theorem setWit_gran (e : Nat) (x : Wit) : (setWit e x s).gran = s.gran := rfl
@[simp] theorem setWit_ce (e : Nat) (x : Wit) : (setWit e x s).ce = s.ce := rfl
@[simp] theorem setWit_fabric (e : Nat) (x : Wit) : (setWit e x s).fabric = s.fabric := rfl
@[simp] theorem setWit_ports (e : Nat) (x : Wit) : (setWit e x s).ports = s.ports := rfl
@[simp] theorem setWit_fed (e : Nat) (x : Wit) : (setWit e x s).fed = s.fed := rfl
@[simp] theorem setWit_pair (e : Nat) (x : Wit) : (setWit e x s).pair = s.pair := rfl
@[simp] theorem setWit_mon (e : Nat) (x : Wit) : (setWit e x s).mon = s.mon := rfl
@[simp] theorem setWit_senses (e : Nat) (x : Wit) : (setWit e x s).senses = s.senses := rfl
@[simp] theorem setWit_lins (e : Nat) (x : Wit) : (setWit e x s).lins = s.lins := rfl
@[simp] theorem setWit_therm (e : Nat) (x : Wit) : (setWit e x s).therm = s.therm := rfl
@[simp] theorem setWit_glean (e : Nat) (x : Wit) : (setWit e x s).glean = s.glean := rfl
@[simp] theorem setWit_sec (e : Nat) (x : Wit) : (setWit e x s).sec = s.sec := rfl
@[simp] theorem setWit_host (e : Nat) (x : Wit) : (setWit e x s).host = s.host := rfl
@[simp] theorem setWit_pins (e : Nat) (x : Wit) : (setWit e x s).pins = s.pins := rfl
@[simp] theorem setWit_agenda (e : Nat) (x : Wit) : (setWit e x s).agenda = s.agenda := rfl
@[simp] theorem setWit_modeWas (e : Nat) (x : Wit) : (setWit e x s).modeWas = s.modeWas := rfl
@[simp] theorem setWit_fresh (e : Nat) (x : Wit) : (setWit e x s).fresh = s.fresh := rfl
@[simp] theorem setWit_free (e : Nat) (x : Wit) : (setWit e x s).free = s.free := rfl
@[simp] theorem setWit_pending (e : Nat) (x : Wit) : (setWit e x s).pending = s.pending := rfl

/-! ### setPort -/

@[simp] theorem setPort_fuses (p : Nat) (x : Port) : (setPort p x s).fuses = s.fuses := rfl
@[simp] theorem setPort_life (p : Nat) (x : Port) : (setPort p x s).life = s.life := rfl
@[simp] theorem setPort_haltAt (p : Nat) (x : Port) : (setPort p x s).haltAt = s.haltAt := rfl
@[simp] theorem setPort_regs (p : Nat) (x : Port) : (setPort p x s).regs = s.regs := rfl
@[simp] theorem setPort_force (p : Nat) (x : Port) : (setPort p x s).force = s.force := rfl
@[simp] theorem setPort_time (p : Nat) (x : Port) : (setPort p x s).time = s.time := rfl
@[simp] theorem setPort_log (p : Nat) (x : Port) : (setPort p x s).log = s.log := rfl
@[simp] theorem setPort_lbReq (p : Nat) (x : Port) : (setPort p x s).lbReq = s.lbReq := rfl
@[simp] theorem setPort_lbWaited (p : Nat) (x : Port) : (setPort p x s).lbWaited = s.lbWaited := rfl
@[simp] theorem setPort_lbResume (p : Nat) (x : Port) : (setPort p x s).lbResume = s.lbResume := rfl
@[simp] theorem setPort_armAfter (p : Nat) (x : Port) : (setPort p x s).armAfter = s.armAfter := rfl
@[simp] theorem setPort_safePend (p : Nat) (x : Port) : (setPort p x s).safePend = s.safePend := rfl
@[simp] theorem setPort_holdHist (p : Nat) (x : Port) : (setPort p x s).holdHist = s.holdHist := rfl
@[simp] theorem setPort_lbHist (p : Nat) (x : Port) : (setPort p x s).lbHist = s.lbHist := rfl
@[simp] theorem setPort_ballHist (p : Nat) (x : Port) : (setPort p x s).ballHist = s.ballHist := rfl
@[simp] theorem setPort_seqs (p : Nat) (x : Port) : (setPort p x s).seqs = s.seqs := rfl
@[simp] theorem setPort_down (p : Nat) (x : Port) : (setPort p x s).down = s.down := rfl
@[simp] theorem setPort_crcDown (p : Nat) (x : Port) : (setPort p x s).crcDown = s.crcDown := rfl
@[simp] theorem setPort_cutTiles (p : Nat) (x : Port) : (setPort p x s).cutTiles = s.cutTiles := rfl
@[simp] theorem setPort_barriers (p : Nat) (x : Port) : (setPort p x s).barriers = s.barriers := rfl
@[simp] theorem setPort_wave (p : Nat) (x : Port) : (setPort p x s).wave = s.wave := rfl
@[simp] theorem setPort_drv (p : Nat) (x : Port) : (setPort p x s).drv = s.drv := rfl
@[simp] theorem setPort_prb (p : Nat) (x : Port) : (setPort p x s).prb = s.prb := rfl
@[simp] theorem setPort_flux (p : Nat) (x : Port) : (setPort p x s).flux = s.flux := rfl
@[simp] theorem setPort_outs (p : Nat) (x : Port) : (setPort p x s).outs = s.outs := rfl
@[simp] theorem setPort_bias (p : Nat) (x : Port) : (setPort p x s).bias = s.bias := rfl
@[simp] theorem setPort_adcs (p : Nat) (x : Port) : (setPort p x s).adcs = s.adcs := rfl
@[simp] theorem setPort_slots (p : Nat) (x : Port) : (setPort p x s).slots = s.slots := rfl
@[simp] theorem setPort_halves (p : Nat) (x : Port) : (setPort p x s).halves = s.halves := rfl
@[simp] theorem setPort_bus (p : Nat) (x : Port) : (setPort p x s).bus = s.bus := rfl
@[simp] theorem setPort_vb (p : Nat) (x : Port) : (setPort p x s).vb = s.vb := rfl
@[simp] theorem setPort_binder (p : Nat) (x : Port) : (setPort p x s).binder = s.binder := rfl
@[simp] theorem setPort_cores (p : Nat) (x : Port) : (setPort p x s).cores = s.cores := rfl
@[simp] theorem setPort_wits (p : Nat) (x : Port) : (setPort p x s).wits = s.wits := rfl
@[simp] theorem setPort_gran (p : Nat) (x : Port) : (setPort p x s).gran = s.gran := rfl
@[simp] theorem setPort_ce (p : Nat) (x : Port) : (setPort p x s).ce = s.ce := rfl
@[simp] theorem setPort_fabric (p : Nat) (x : Port) : (setPort p x s).fabric = s.fabric := rfl
@[simp] theorem setPort_ports (p : Nat) (x : Port) : (setPort p x s).ports = tset {} p x s.ports := rfl
@[simp] theorem setPort_fed (p : Nat) (x : Port) : (setPort p x s).fed = s.fed := rfl
@[simp] theorem setPort_pair (p : Nat) (x : Port) : (setPort p x s).pair = s.pair := rfl
@[simp] theorem setPort_mon (p : Nat) (x : Port) : (setPort p x s).mon = s.mon := rfl
@[simp] theorem setPort_senses (p : Nat) (x : Port) : (setPort p x s).senses = s.senses := rfl
@[simp] theorem setPort_lins (p : Nat) (x : Port) : (setPort p x s).lins = s.lins := rfl
@[simp] theorem setPort_therm (p : Nat) (x : Port) : (setPort p x s).therm = s.therm := rfl
@[simp] theorem setPort_glean (p : Nat) (x : Port) : (setPort p x s).glean = s.glean := rfl
@[simp] theorem setPort_sec (p : Nat) (x : Port) : (setPort p x s).sec = s.sec := rfl
@[simp] theorem setPort_host (p : Nat) (x : Port) : (setPort p x s).host = s.host := rfl
@[simp] theorem setPort_pins (p : Nat) (x : Port) : (setPort p x s).pins = s.pins := rfl
@[simp] theorem setPort_agenda (p : Nat) (x : Port) : (setPort p x s).agenda = s.agenda := rfl
@[simp] theorem setPort_modeWas (p : Nat) (x : Port) : (setPort p x s).modeWas = s.modeWas := rfl
@[simp] theorem setPort_fresh (p : Nat) (x : Port) : (setPort p x s).fresh = s.fresh := rfl
@[simp] theorem setPort_free (p : Nat) (x : Port) : (setPort p x s).free = s.free := rfl
@[simp] theorem setPort_pending (p : Nat) (x : Port) : (setPort p x s).pending = s.pending := rfl

/-! ### setPset -/

@[simp] theorem setPset_fuses (j : Nat) (x : PSet) : (setPset j x s).fuses = s.fuses := rfl
@[simp] theorem setPset_life (j : Nat) (x : PSet) : (setPset j x s).life = s.life := rfl
@[simp] theorem setPset_haltAt (j : Nat) (x : PSet) : (setPset j x s).haltAt = s.haltAt := rfl
@[simp] theorem setPset_regs (j : Nat) (x : PSet) : (setPset j x s).regs = s.regs := rfl
@[simp] theorem setPset_force (j : Nat) (x : PSet) : (setPset j x s).force = s.force := rfl
@[simp] theorem setPset_time (j : Nat) (x : PSet) : (setPset j x s).time = s.time := rfl
@[simp] theorem setPset_log (j : Nat) (x : PSet) : (setPset j x s).log = s.log := rfl
@[simp] theorem setPset_lbReq (j : Nat) (x : PSet) : (setPset j x s).lbReq = s.lbReq := rfl
@[simp] theorem setPset_lbWaited (j : Nat) (x : PSet) : (setPset j x s).lbWaited = s.lbWaited := rfl
@[simp] theorem setPset_lbResume (j : Nat) (x : PSet) : (setPset j x s).lbResume = s.lbResume := rfl
@[simp] theorem setPset_armAfter (j : Nat) (x : PSet) : (setPset j x s).armAfter = s.armAfter := rfl
@[simp] theorem setPset_safePend (j : Nat) (x : PSet) : (setPset j x s).safePend = s.safePend := rfl
@[simp] theorem setPset_holdHist (j : Nat) (x : PSet) : (setPset j x s).holdHist = s.holdHist := rfl
@[simp] theorem setPset_lbHist (j : Nat) (x : PSet) : (setPset j x s).lbHist = s.lbHist := rfl
@[simp] theorem setPset_ballHist (j : Nat) (x : PSet) : (setPset j x s).ballHist = s.ballHist := rfl
@[simp] theorem setPset_seqs (j : Nat) (x : PSet) : (setPset j x s).seqs = s.seqs := rfl
@[simp] theorem setPset_down (j : Nat) (x : PSet) : (setPset j x s).down = s.down := rfl
@[simp] theorem setPset_crcDown (j : Nat) (x : PSet) : (setPset j x s).crcDown = s.crcDown := rfl
@[simp] theorem setPset_cutTiles (j : Nat) (x : PSet) : (setPset j x s).cutTiles = s.cutTiles := rfl
@[simp] theorem setPset_barriers (j : Nat) (x : PSet) : (setPset j x s).barriers = s.barriers := rfl
@[simp] theorem setPset_wave (j : Nat) (x : PSet) : (setPset j x s).wave = s.wave := rfl
@[simp] theorem setPset_drv (j : Nat) (x : PSet) : (setPset j x s).drv = s.drv := rfl
@[simp] theorem setPset_prb (j : Nat) (x : PSet) : (setPset j x s).prb = s.prb := rfl
@[simp] theorem setPset_flux (j : Nat) (x : PSet) : (setPset j x s).flux = s.flux := rfl
@[simp] theorem setPset_outs (j : Nat) (x : PSet) : (setPset j x s).outs = s.outs := rfl
@[simp] theorem setPset_bias (j : Nat) (x : PSet) : (setPset j x s).bias = s.bias := rfl
@[simp] theorem setPset_adcs (j : Nat) (x : PSet) : (setPset j x s).adcs = s.adcs := rfl
@[simp] theorem setPset_slots (j : Nat) (x : PSet) : (setPset j x s).slots = s.slots := rfl
@[simp] theorem setPset_halves (j : Nat) (x : PSet) : (setPset j x s).halves = s.halves := rfl
@[simp] theorem setPset_bus (j : Nat) (x : PSet) : (setPset j x s).bus = s.bus := rfl
@[simp] theorem setPset_vb (j : Nat) (x : PSet) : (setPset j x s).vb = s.vb := rfl
@[simp] theorem setPset_binder (j : Nat) (x : PSet) : (setPset j x s).binder = { s.binder with sets := tset {} j x s.binder.sets } := rfl
@[simp] theorem setPset_cores (j : Nat) (x : PSet) : (setPset j x s).cores = s.cores := rfl
@[simp] theorem setPset_wits (j : Nat) (x : PSet) : (setPset j x s).wits = s.wits := rfl
@[simp] theorem setPset_gran (j : Nat) (x : PSet) : (setPset j x s).gran = s.gran := rfl
@[simp] theorem setPset_ce (j : Nat) (x : PSet) : (setPset j x s).ce = s.ce := rfl
@[simp] theorem setPset_fabric (j : Nat) (x : PSet) : (setPset j x s).fabric = s.fabric := rfl
@[simp] theorem setPset_ports (j : Nat) (x : PSet) : (setPset j x s).ports = s.ports := rfl
@[simp] theorem setPset_fed (j : Nat) (x : PSet) : (setPset j x s).fed = s.fed := rfl
@[simp] theorem setPset_pair (j : Nat) (x : PSet) : (setPset j x s).pair = s.pair := rfl
@[simp] theorem setPset_mon (j : Nat) (x : PSet) : (setPset j x s).mon = s.mon := rfl
@[simp] theorem setPset_senses (j : Nat) (x : PSet) : (setPset j x s).senses = s.senses := rfl
@[simp] theorem setPset_lins (j : Nat) (x : PSet) : (setPset j x s).lins = s.lins := rfl
@[simp] theorem setPset_therm (j : Nat) (x : PSet) : (setPset j x s).therm = s.therm := rfl
@[simp] theorem setPset_glean (j : Nat) (x : PSet) : (setPset j x s).glean = s.glean := rfl
@[simp] theorem setPset_sec (j : Nat) (x : PSet) : (setPset j x s).sec = s.sec := rfl
@[simp] theorem setPset_host (j : Nat) (x : PSet) : (setPset j x s).host = s.host := rfl
@[simp] theorem setPset_pins (j : Nat) (x : PSet) : (setPset j x s).pins = s.pins := rfl
@[simp] theorem setPset_agenda (j : Nat) (x : PSet) : (setPset j x s).agenda = s.agenda := rfl
@[simp] theorem setPset_modeWas (j : Nat) (x : PSet) : (setPset j x s).modeWas = s.modeWas := rfl
@[simp] theorem setPset_fresh (j : Nat) (x : PSet) : (setPset j x s).fresh = s.fresh := rfl
@[simp] theorem setPset_free (j : Nat) (x : PSet) : (setPset j x s).free = s.free := rfl
@[simp] theorem setPset_pending (j : Nat) (x : PSet) : (setPset j x s).pending = s.pending := rfl

/-! ### setDecoder -/

@[simp] theorem setDecoder_fuses (e : Nat) (x : Decoder) : (setDecoder e x s).fuses = s.fuses := rfl
@[simp] theorem setDecoder_life (e : Nat) (x : Decoder) : (setDecoder e x s).life = s.life := rfl
@[simp] theorem setDecoder_haltAt (e : Nat) (x : Decoder) : (setDecoder e x s).haltAt = s.haltAt := rfl
@[simp] theorem setDecoder_regs (e : Nat) (x : Decoder) : (setDecoder e x s).regs = s.regs := rfl
@[simp] theorem setDecoder_force (e : Nat) (x : Decoder) : (setDecoder e x s).force = s.force := rfl
@[simp] theorem setDecoder_time (e : Nat) (x : Decoder) : (setDecoder e x s).time = s.time := rfl
@[simp] theorem setDecoder_log (e : Nat) (x : Decoder) : (setDecoder e x s).log = s.log := rfl
@[simp] theorem setDecoder_lbReq (e : Nat) (x : Decoder) : (setDecoder e x s).lbReq = s.lbReq := rfl
@[simp] theorem setDecoder_lbWaited (e : Nat) (x : Decoder) : (setDecoder e x s).lbWaited = s.lbWaited := rfl
@[simp] theorem setDecoder_lbResume (e : Nat) (x : Decoder) : (setDecoder e x s).lbResume = s.lbResume := rfl
@[simp] theorem setDecoder_armAfter (e : Nat) (x : Decoder) : (setDecoder e x s).armAfter = s.armAfter := rfl
@[simp] theorem setDecoder_safePend (e : Nat) (x : Decoder) : (setDecoder e x s).safePend = s.safePend := rfl
@[simp] theorem setDecoder_holdHist (e : Nat) (x : Decoder) : (setDecoder e x s).holdHist = s.holdHist := rfl
@[simp] theorem setDecoder_lbHist (e : Nat) (x : Decoder) : (setDecoder e x s).lbHist = s.lbHist := rfl
@[simp] theorem setDecoder_ballHist (e : Nat) (x : Decoder) : (setDecoder e x s).ballHist = s.ballHist := rfl
@[simp] theorem setDecoder_seqs (e : Nat) (x : Decoder) : (setDecoder e x s).seqs = s.seqs := rfl
@[simp] theorem setDecoder_down (e : Nat) (x : Decoder) : (setDecoder e x s).down = s.down := rfl
@[simp] theorem setDecoder_crcDown (e : Nat) (x : Decoder) : (setDecoder e x s).crcDown = s.crcDown := rfl
@[simp] theorem setDecoder_cutTiles (e : Nat) (x : Decoder) : (setDecoder e x s).cutTiles = s.cutTiles := rfl
@[simp] theorem setDecoder_barriers (e : Nat) (x : Decoder) : (setDecoder e x s).barriers = s.barriers := rfl
@[simp] theorem setDecoder_wave (e : Nat) (x : Decoder) : (setDecoder e x s).wave = s.wave := rfl
@[simp] theorem setDecoder_drv (e : Nat) (x : Decoder) : (setDecoder e x s).drv = s.drv := rfl
@[simp] theorem setDecoder_prb (e : Nat) (x : Decoder) : (setDecoder e x s).prb = s.prb := rfl
@[simp] theorem setDecoder_flux (e : Nat) (x : Decoder) : (setDecoder e x s).flux = s.flux := rfl
@[simp] theorem setDecoder_outs (e : Nat) (x : Decoder) : (setDecoder e x s).outs = s.outs := rfl
@[simp] theorem setDecoder_bias (e : Nat) (x : Decoder) : (setDecoder e x s).bias = s.bias := rfl
@[simp] theorem setDecoder_adcs (e : Nat) (x : Decoder) : (setDecoder e x s).adcs = s.adcs := rfl
@[simp] theorem setDecoder_slots (e : Nat) (x : Decoder) : (setDecoder e x s).slots = s.slots := rfl
@[simp] theorem setDecoder_halves (e : Nat) (x : Decoder) : (setDecoder e x s).halves = s.halves := rfl
@[simp] theorem setDecoder_bus (e : Nat) (x : Decoder) : (setDecoder e x s).bus = s.bus := rfl
@[simp] theorem setDecoder_vb (e : Nat) (x : Decoder) : (setDecoder e x s).vb = s.vb := rfl
@[simp] theorem setDecoder_binder (e : Nat) (x : Decoder) : (setDecoder e x s).binder = { s.binder with decs := tset {} e x s.binder.decs } := rfl
@[simp] theorem setDecoder_cores (e : Nat) (x : Decoder) : (setDecoder e x s).cores = s.cores := rfl
@[simp] theorem setDecoder_wits (e : Nat) (x : Decoder) : (setDecoder e x s).wits = s.wits := rfl
@[simp] theorem setDecoder_gran (e : Nat) (x : Decoder) : (setDecoder e x s).gran = s.gran := rfl
@[simp] theorem setDecoder_ce (e : Nat) (x : Decoder) : (setDecoder e x s).ce = s.ce := rfl
@[simp] theorem setDecoder_fabric (e : Nat) (x : Decoder) : (setDecoder e x s).fabric = s.fabric := rfl
@[simp] theorem setDecoder_ports (e : Nat) (x : Decoder) : (setDecoder e x s).ports = s.ports := rfl
@[simp] theorem setDecoder_fed (e : Nat) (x : Decoder) : (setDecoder e x s).fed = s.fed := rfl
@[simp] theorem setDecoder_pair (e : Nat) (x : Decoder) : (setDecoder e x s).pair = s.pair := rfl
@[simp] theorem setDecoder_mon (e : Nat) (x : Decoder) : (setDecoder e x s).mon = s.mon := rfl
@[simp] theorem setDecoder_senses (e : Nat) (x : Decoder) : (setDecoder e x s).senses = s.senses := rfl
@[simp] theorem setDecoder_lins (e : Nat) (x : Decoder) : (setDecoder e x s).lins = s.lins := rfl
@[simp] theorem setDecoder_therm (e : Nat) (x : Decoder) : (setDecoder e x s).therm = s.therm := rfl
@[simp] theorem setDecoder_glean (e : Nat) (x : Decoder) : (setDecoder e x s).glean = s.glean := rfl
@[simp] theorem setDecoder_sec (e : Nat) (x : Decoder) : (setDecoder e x s).sec = s.sec := rfl
@[simp] theorem setDecoder_host (e : Nat) (x : Decoder) : (setDecoder e x s).host = s.host := rfl
@[simp] theorem setDecoder_pins (e : Nat) (x : Decoder) : (setDecoder e x s).pins = s.pins := rfl
@[simp] theorem setDecoder_agenda (e : Nat) (x : Decoder) : (setDecoder e x s).agenda = s.agenda := rfl
@[simp] theorem setDecoder_modeWas (e : Nat) (x : Decoder) : (setDecoder e x s).modeWas = s.modeWas := rfl
@[simp] theorem setDecoder_fresh (e : Nat) (x : Decoder) : (setDecoder e x s).fresh = s.fresh := rfl
@[simp] theorem setDecoder_free (e : Nat) (x : Decoder) : (setDecoder e x s).free = s.free := rfl
@[simp] theorem setDecoder_pending (e : Nat) (x : Decoder) : (setDecoder e x s).pending = s.pending := rfl

/-! ### setVent -/

@[simp] theorem setVent_fuses (i : Nat) (x : VEnt) : (setVent i x s).fuses = s.fuses := rfl
@[simp] theorem setVent_life (i : Nat) (x : VEnt) : (setVent i x s).life = s.life := rfl
@[simp] theorem setVent_haltAt (i : Nat) (x : VEnt) : (setVent i x s).haltAt = s.haltAt := rfl
@[simp] theorem setVent_regs (i : Nat) (x : VEnt) : (setVent i x s).regs = s.regs := rfl
@[simp] theorem setVent_force (i : Nat) (x : VEnt) : (setVent i x s).force = s.force := rfl
@[simp] theorem setVent_time (i : Nat) (x : VEnt) : (setVent i x s).time = s.time := rfl
@[simp] theorem setVent_log (i : Nat) (x : VEnt) : (setVent i x s).log = s.log := rfl
@[simp] theorem setVent_lbReq (i : Nat) (x : VEnt) : (setVent i x s).lbReq = s.lbReq := rfl
@[simp] theorem setVent_lbWaited (i : Nat) (x : VEnt) : (setVent i x s).lbWaited = s.lbWaited := rfl
@[simp] theorem setVent_lbResume (i : Nat) (x : VEnt) : (setVent i x s).lbResume = s.lbResume := rfl
@[simp] theorem setVent_armAfter (i : Nat) (x : VEnt) : (setVent i x s).armAfter = s.armAfter := rfl
@[simp] theorem setVent_safePend (i : Nat) (x : VEnt) : (setVent i x s).safePend = s.safePend := rfl
@[simp] theorem setVent_holdHist (i : Nat) (x : VEnt) : (setVent i x s).holdHist = s.holdHist := rfl
@[simp] theorem setVent_lbHist (i : Nat) (x : VEnt) : (setVent i x s).lbHist = s.lbHist := rfl
@[simp] theorem setVent_ballHist (i : Nat) (x : VEnt) : (setVent i x s).ballHist = s.ballHist := rfl
@[simp] theorem setVent_seqs (i : Nat) (x : VEnt) : (setVent i x s).seqs = s.seqs := rfl
@[simp] theorem setVent_down (i : Nat) (x : VEnt) : (setVent i x s).down = s.down := rfl
@[simp] theorem setVent_crcDown (i : Nat) (x : VEnt) : (setVent i x s).crcDown = s.crcDown := rfl
@[simp] theorem setVent_cutTiles (i : Nat) (x : VEnt) : (setVent i x s).cutTiles = s.cutTiles := rfl
@[simp] theorem setVent_barriers (i : Nat) (x : VEnt) : (setVent i x s).barriers = s.barriers := rfl
@[simp] theorem setVent_wave (i : Nat) (x : VEnt) : (setVent i x s).wave = s.wave := rfl
@[simp] theorem setVent_drv (i : Nat) (x : VEnt) : (setVent i x s).drv = s.drv := rfl
@[simp] theorem setVent_prb (i : Nat) (x : VEnt) : (setVent i x s).prb = s.prb := rfl
@[simp] theorem setVent_flux (i : Nat) (x : VEnt) : (setVent i x s).flux = s.flux := rfl
@[simp] theorem setVent_outs (i : Nat) (x : VEnt) : (setVent i x s).outs = s.outs := rfl
@[simp] theorem setVent_bias (i : Nat) (x : VEnt) : (setVent i x s).bias = s.bias := rfl
@[simp] theorem setVent_adcs (i : Nat) (x : VEnt) : (setVent i x s).adcs = s.adcs := rfl
@[simp] theorem setVent_slots (i : Nat) (x : VEnt) : (setVent i x s).slots = s.slots := rfl
@[simp] theorem setVent_halves (i : Nat) (x : VEnt) : (setVent i x s).halves = s.halves := rfl
@[simp] theorem setVent_bus (i : Nat) (x : VEnt) : (setVent i x s).bus = s.bus := rfl
@[simp] theorem setVent_vb (i : Nat) (x : VEnt) : (setVent i x s).vb = tset {} i x s.vb := rfl
@[simp] theorem setVent_binder (i : Nat) (x : VEnt) : (setVent i x s).binder = s.binder := rfl
@[simp] theorem setVent_cores (i : Nat) (x : VEnt) : (setVent i x s).cores = s.cores := rfl
@[simp] theorem setVent_wits (i : Nat) (x : VEnt) : (setVent i x s).wits = s.wits := rfl
@[simp] theorem setVent_gran (i : Nat) (x : VEnt) : (setVent i x s).gran = s.gran := rfl
@[simp] theorem setVent_ce (i : Nat) (x : VEnt) : (setVent i x s).ce = s.ce := rfl
@[simp] theorem setVent_fabric (i : Nat) (x : VEnt) : (setVent i x s).fabric = s.fabric := rfl
@[simp] theorem setVent_ports (i : Nat) (x : VEnt) : (setVent i x s).ports = s.ports := rfl
@[simp] theorem setVent_fed (i : Nat) (x : VEnt) : (setVent i x s).fed = s.fed := rfl
@[simp] theorem setVent_pair (i : Nat) (x : VEnt) : (setVent i x s).pair = s.pair := rfl
@[simp] theorem setVent_mon (i : Nat) (x : VEnt) : (setVent i x s).mon = s.mon := rfl
@[simp] theorem setVent_senses (i : Nat) (x : VEnt) : (setVent i x s).senses = s.senses := rfl
@[simp] theorem setVent_lins (i : Nat) (x : VEnt) : (setVent i x s).lins = s.lins := rfl
@[simp] theorem setVent_therm (i : Nat) (x : VEnt) : (setVent i x s).therm = s.therm := rfl
@[simp] theorem setVent_glean (i : Nat) (x : VEnt) : (setVent i x s).glean = s.glean := rfl
@[simp] theorem setVent_sec (i : Nat) (x : VEnt) : (setVent i x s).sec = s.sec := rfl
@[simp] theorem setVent_host (i : Nat) (x : VEnt) : (setVent i x s).host = s.host := rfl
@[simp] theorem setVent_pins (i : Nat) (x : VEnt) : (setVent i x s).pins = s.pins := rfl
@[simp] theorem setVent_agenda (i : Nat) (x : VEnt) : (setVent i x s).agenda = s.agenda := rfl
@[simp] theorem setVent_modeWas (i : Nat) (x : VEnt) : (setVent i x s).modeWas = s.modeWas := rfl
@[simp] theorem setVent_fresh (i : Nat) (x : VEnt) : (setVent i x s).fresh = s.fresh := rfl
@[simp] theorem setVent_free (i : Nat) (x : VEnt) : (setVent i x s).free = s.free := rfl
@[simp] theorem setVent_pending (i : Nat) (x : VEnt) : (setVent i x s).pending = s.pending := rfl

/-! ### setBarrier -/

@[simp] theorem setBarrier_fuses (b : Nat) (x : Barrier) : (setBarrier b x s).fuses = s.fuses := rfl
@[simp] theorem setBarrier_life (b : Nat) (x : Barrier) : (setBarrier b x s).life = s.life := rfl
@[simp] theorem setBarrier_haltAt (b : Nat) (x : Barrier) : (setBarrier b x s).haltAt = s.haltAt := rfl
@[simp] theorem setBarrier_regs (b : Nat) (x : Barrier) : (setBarrier b x s).regs = s.regs := rfl
@[simp] theorem setBarrier_force (b : Nat) (x : Barrier) : (setBarrier b x s).force = s.force := rfl
@[simp] theorem setBarrier_time (b : Nat) (x : Barrier) : (setBarrier b x s).time = s.time := rfl
@[simp] theorem setBarrier_log (b : Nat) (x : Barrier) : (setBarrier b x s).log = s.log := rfl
@[simp] theorem setBarrier_lbReq (b : Nat) (x : Barrier) : (setBarrier b x s).lbReq = s.lbReq := rfl
@[simp] theorem setBarrier_lbWaited (b : Nat) (x : Barrier) : (setBarrier b x s).lbWaited = s.lbWaited := rfl
@[simp] theorem setBarrier_lbResume (b : Nat) (x : Barrier) : (setBarrier b x s).lbResume = s.lbResume := rfl
@[simp] theorem setBarrier_armAfter (b : Nat) (x : Barrier) : (setBarrier b x s).armAfter = s.armAfter := rfl
@[simp] theorem setBarrier_safePend (b : Nat) (x : Barrier) : (setBarrier b x s).safePend = s.safePend := rfl
@[simp] theorem setBarrier_holdHist (b : Nat) (x : Barrier) : (setBarrier b x s).holdHist = s.holdHist := rfl
@[simp] theorem setBarrier_lbHist (b : Nat) (x : Barrier) : (setBarrier b x s).lbHist = s.lbHist := rfl
@[simp] theorem setBarrier_ballHist (b : Nat) (x : Barrier) : (setBarrier b x s).ballHist = s.ballHist := rfl
@[simp] theorem setBarrier_seqs (b : Nat) (x : Barrier) : (setBarrier b x s).seqs = s.seqs := rfl
@[simp] theorem setBarrier_down (b : Nat) (x : Barrier) : (setBarrier b x s).down = s.down := rfl
@[simp] theorem setBarrier_crcDown (b : Nat) (x : Barrier) : (setBarrier b x s).crcDown = s.crcDown := rfl
@[simp] theorem setBarrier_cutTiles (b : Nat) (x : Barrier) : (setBarrier b x s).cutTiles = s.cutTiles := rfl
@[simp] theorem setBarrier_barriers (b : Nat) (x : Barrier) : (setBarrier b x s).barriers = tset {} b x s.barriers := rfl
@[simp] theorem setBarrier_wave (b : Nat) (x : Barrier) : (setBarrier b x s).wave = s.wave := rfl
@[simp] theorem setBarrier_drv (b : Nat) (x : Barrier) : (setBarrier b x s).drv = s.drv := rfl
@[simp] theorem setBarrier_prb (b : Nat) (x : Barrier) : (setBarrier b x s).prb = s.prb := rfl
@[simp] theorem setBarrier_flux (b : Nat) (x : Barrier) : (setBarrier b x s).flux = s.flux := rfl
@[simp] theorem setBarrier_outs (b : Nat) (x : Barrier) : (setBarrier b x s).outs = s.outs := rfl
@[simp] theorem setBarrier_bias (b : Nat) (x : Barrier) : (setBarrier b x s).bias = s.bias := rfl
@[simp] theorem setBarrier_adcs (b : Nat) (x : Barrier) : (setBarrier b x s).adcs = s.adcs := rfl
@[simp] theorem setBarrier_slots (b : Nat) (x : Barrier) : (setBarrier b x s).slots = s.slots := rfl
@[simp] theorem setBarrier_halves (b : Nat) (x : Barrier) : (setBarrier b x s).halves = s.halves := rfl
@[simp] theorem setBarrier_bus (b : Nat) (x : Barrier) : (setBarrier b x s).bus = s.bus := rfl
@[simp] theorem setBarrier_vb (b : Nat) (x : Barrier) : (setBarrier b x s).vb = s.vb := rfl
@[simp] theorem setBarrier_binder (b : Nat) (x : Barrier) : (setBarrier b x s).binder = s.binder := rfl
@[simp] theorem setBarrier_cores (b : Nat) (x : Barrier) : (setBarrier b x s).cores = s.cores := rfl
@[simp] theorem setBarrier_wits (b : Nat) (x : Barrier) : (setBarrier b x s).wits = s.wits := rfl
@[simp] theorem setBarrier_gran (b : Nat) (x : Barrier) : (setBarrier b x s).gran = s.gran := rfl
@[simp] theorem setBarrier_ce (b : Nat) (x : Barrier) : (setBarrier b x s).ce = s.ce := rfl
@[simp] theorem setBarrier_fabric (b : Nat) (x : Barrier) : (setBarrier b x s).fabric = s.fabric := rfl
@[simp] theorem setBarrier_ports (b : Nat) (x : Barrier) : (setBarrier b x s).ports = s.ports := rfl
@[simp] theorem setBarrier_fed (b : Nat) (x : Barrier) : (setBarrier b x s).fed = s.fed := rfl
@[simp] theorem setBarrier_pair (b : Nat) (x : Barrier) : (setBarrier b x s).pair = s.pair := rfl
@[simp] theorem setBarrier_mon (b : Nat) (x : Barrier) : (setBarrier b x s).mon = s.mon := rfl
@[simp] theorem setBarrier_senses (b : Nat) (x : Barrier) : (setBarrier b x s).senses = s.senses := rfl
@[simp] theorem setBarrier_lins (b : Nat) (x : Barrier) : (setBarrier b x s).lins = s.lins := rfl
@[simp] theorem setBarrier_therm (b : Nat) (x : Barrier) : (setBarrier b x s).therm = s.therm := rfl
@[simp] theorem setBarrier_glean (b : Nat) (x : Barrier) : (setBarrier b x s).glean = s.glean := rfl
@[simp] theorem setBarrier_sec (b : Nat) (x : Barrier) : (setBarrier b x s).sec = s.sec := rfl
@[simp] theorem setBarrier_host (b : Nat) (x : Barrier) : (setBarrier b x s).host = s.host := rfl
@[simp] theorem setBarrier_pins (b : Nat) (x : Barrier) : (setBarrier b x s).pins = s.pins := rfl
@[simp] theorem setBarrier_agenda (b : Nat) (x : Barrier) : (setBarrier b x s).agenda = s.agenda := rfl
@[simp] theorem setBarrier_modeWas (b : Nat) (x : Barrier) : (setBarrier b x s).modeWas = s.modeWas := rfl
@[simp] theorem setBarrier_fresh (b : Nat) (x : Barrier) : (setBarrier b x s).fresh = s.fresh := rfl
@[simp] theorem setBarrier_free (b : Nat) (x : Barrier) : (setBarrier b x s).free = s.free := rfl
@[simp] theorem setBarrier_pending (b : Nat) (x : Barrier) : (setBarrier b x s).pending = s.pending := rfl

/-! ### setSense -/

@[simp] theorem setSense_fuses (n : Nat) (x : Sense) : (setSense n x s).fuses = s.fuses := rfl
@[simp] theorem setSense_life (n : Nat) (x : Sense) : (setSense n x s).life = s.life := rfl
@[simp] theorem setSense_haltAt (n : Nat) (x : Sense) : (setSense n x s).haltAt = s.haltAt := rfl
@[simp] theorem setSense_regs (n : Nat) (x : Sense) : (setSense n x s).regs = s.regs := rfl
@[simp] theorem setSense_force (n : Nat) (x : Sense) : (setSense n x s).force = s.force := rfl
@[simp] theorem setSense_time (n : Nat) (x : Sense) : (setSense n x s).time = s.time := rfl
@[simp] theorem setSense_log (n : Nat) (x : Sense) : (setSense n x s).log = s.log := rfl
@[simp] theorem setSense_lbReq (n : Nat) (x : Sense) : (setSense n x s).lbReq = s.lbReq := rfl
@[simp] theorem setSense_lbWaited (n : Nat) (x : Sense) : (setSense n x s).lbWaited = s.lbWaited := rfl
@[simp] theorem setSense_lbResume (n : Nat) (x : Sense) : (setSense n x s).lbResume = s.lbResume := rfl
@[simp] theorem setSense_armAfter (n : Nat) (x : Sense) : (setSense n x s).armAfter = s.armAfter := rfl
@[simp] theorem setSense_safePend (n : Nat) (x : Sense) : (setSense n x s).safePend = s.safePend := rfl
@[simp] theorem setSense_holdHist (n : Nat) (x : Sense) : (setSense n x s).holdHist = s.holdHist := rfl
@[simp] theorem setSense_lbHist (n : Nat) (x : Sense) : (setSense n x s).lbHist = s.lbHist := rfl
@[simp] theorem setSense_ballHist (n : Nat) (x : Sense) : (setSense n x s).ballHist = s.ballHist := rfl
@[simp] theorem setSense_seqs (n : Nat) (x : Sense) : (setSense n x s).seqs = s.seqs := rfl
@[simp] theorem setSense_down (n : Nat) (x : Sense) : (setSense n x s).down = s.down := rfl
@[simp] theorem setSense_crcDown (n : Nat) (x : Sense) : (setSense n x s).crcDown = s.crcDown := rfl
@[simp] theorem setSense_cutTiles (n : Nat) (x : Sense) : (setSense n x s).cutTiles = s.cutTiles := rfl
@[simp] theorem setSense_barriers (n : Nat) (x : Sense) : (setSense n x s).barriers = s.barriers := rfl
@[simp] theorem setSense_wave (n : Nat) (x : Sense) : (setSense n x s).wave = s.wave := rfl
@[simp] theorem setSense_drv (n : Nat) (x : Sense) : (setSense n x s).drv = s.drv := rfl
@[simp] theorem setSense_prb (n : Nat) (x : Sense) : (setSense n x s).prb = s.prb := rfl
@[simp] theorem setSense_flux (n : Nat) (x : Sense) : (setSense n x s).flux = s.flux := rfl
@[simp] theorem setSense_outs (n : Nat) (x : Sense) : (setSense n x s).outs = s.outs := rfl
@[simp] theorem setSense_bias (n : Nat) (x : Sense) : (setSense n x s).bias = s.bias := rfl
@[simp] theorem setSense_adcs (n : Nat) (x : Sense) : (setSense n x s).adcs = s.adcs := rfl
@[simp] theorem setSense_slots (n : Nat) (x : Sense) : (setSense n x s).slots = s.slots := rfl
@[simp] theorem setSense_halves (n : Nat) (x : Sense) : (setSense n x s).halves = s.halves := rfl
@[simp] theorem setSense_bus (n : Nat) (x : Sense) : (setSense n x s).bus = s.bus := rfl
@[simp] theorem setSense_vb (n : Nat) (x : Sense) : (setSense n x s).vb = s.vb := rfl
@[simp] theorem setSense_binder (n : Nat) (x : Sense) : (setSense n x s).binder = s.binder := rfl
@[simp] theorem setSense_cores (n : Nat) (x : Sense) : (setSense n x s).cores = s.cores := rfl
@[simp] theorem setSense_wits (n : Nat) (x : Sense) : (setSense n x s).wits = s.wits := rfl
@[simp] theorem setSense_gran (n : Nat) (x : Sense) : (setSense n x s).gran = s.gran := rfl
@[simp] theorem setSense_ce (n : Nat) (x : Sense) : (setSense n x s).ce = s.ce := rfl
@[simp] theorem setSense_fabric (n : Nat) (x : Sense) : (setSense n x s).fabric = s.fabric := rfl
@[simp] theorem setSense_ports (n : Nat) (x : Sense) : (setSense n x s).ports = s.ports := rfl
@[simp] theorem setSense_fed (n : Nat) (x : Sense) : (setSense n x s).fed = s.fed := rfl
@[simp] theorem setSense_pair (n : Nat) (x : Sense) : (setSense n x s).pair = s.pair := rfl
@[simp] theorem setSense_mon (n : Nat) (x : Sense) : (setSense n x s).mon = s.mon := rfl
@[simp] theorem setSense_senses (n : Nat) (x : Sense) : (setSense n x s).senses = tset {} n x s.senses := rfl
@[simp] theorem setSense_lins (n : Nat) (x : Sense) : (setSense n x s).lins = s.lins := rfl
@[simp] theorem setSense_therm (n : Nat) (x : Sense) : (setSense n x s).therm = s.therm := rfl
@[simp] theorem setSense_glean (n : Nat) (x : Sense) : (setSense n x s).glean = s.glean := rfl
@[simp] theorem setSense_sec (n : Nat) (x : Sense) : (setSense n x s).sec = s.sec := rfl
@[simp] theorem setSense_host (n : Nat) (x : Sense) : (setSense n x s).host = s.host := rfl
@[simp] theorem setSense_pins (n : Nat) (x : Sense) : (setSense n x s).pins = s.pins := rfl
@[simp] theorem setSense_agenda (n : Nat) (x : Sense) : (setSense n x s).agenda = s.agenda := rfl
@[simp] theorem setSense_modeWas (n : Nat) (x : Sense) : (setSense n x s).modeWas = s.modeWas := rfl
@[simp] theorem setSense_fresh (n : Nat) (x : Sense) : (setSense n x s).fresh = s.fresh := rfl
@[simp] theorem setSense_free (n : Nat) (x : Sense) : (setSense n x s).free = s.free := rfl
@[simp] theorem setSense_pending (n : Nat) (x : Sense) : (setSense n x s).pending = s.pending := rfl

/-! ### takeFree -/

@[simp] theorem takeFree_fuses : (takeFree s).fuses = s.fuses := rfl
@[simp] theorem takeFree_life : (takeFree s).life = s.life := rfl
@[simp] theorem takeFree_haltAt : (takeFree s).haltAt = s.haltAt := rfl
@[simp] theorem takeFree_regs : (takeFree s).regs = s.regs := rfl
@[simp] theorem takeFree_force : (takeFree s).force = s.force := rfl
@[simp] theorem takeFree_time : (takeFree s).time = s.time := rfl
@[simp] theorem takeFree_log : (takeFree s).log = s.log := rfl
@[simp] theorem takeFree_lbReq : (takeFree s).lbReq = s.lbReq := rfl
@[simp] theorem takeFree_lbWaited : (takeFree s).lbWaited = s.lbWaited := rfl
@[simp] theorem takeFree_lbResume : (takeFree s).lbResume = s.lbResume := rfl
@[simp] theorem takeFree_armAfter : (takeFree s).armAfter = s.armAfter := rfl
@[simp] theorem takeFree_safePend : (takeFree s).safePend = s.safePend := rfl
@[simp] theorem takeFree_holdHist : (takeFree s).holdHist = s.holdHist := rfl
@[simp] theorem takeFree_lbHist : (takeFree s).lbHist = s.lbHist := rfl
@[simp] theorem takeFree_ballHist : (takeFree s).ballHist = s.ballHist := rfl
@[simp] theorem takeFree_seqs : (takeFree s).seqs = s.seqs := rfl
@[simp] theorem takeFree_down : (takeFree s).down = s.down := rfl
@[simp] theorem takeFree_crcDown : (takeFree s).crcDown = s.crcDown := rfl
@[simp] theorem takeFree_cutTiles : (takeFree s).cutTiles = s.cutTiles := rfl
@[simp] theorem takeFree_barriers : (takeFree s).barriers = s.barriers := rfl
@[simp] theorem takeFree_wave : (takeFree s).wave = s.wave := rfl
@[simp] theorem takeFree_drv : (takeFree s).drv = s.drv := rfl
@[simp] theorem takeFree_prb : (takeFree s).prb = s.prb := rfl
@[simp] theorem takeFree_flux : (takeFree s).flux = s.flux := rfl
@[simp] theorem takeFree_outs : (takeFree s).outs = s.outs := rfl
@[simp] theorem takeFree_bias : (takeFree s).bias = s.bias := rfl
@[simp] theorem takeFree_adcs : (takeFree s).adcs = s.adcs := rfl
@[simp] theorem takeFree_slots : (takeFree s).slots = s.slots := rfl
@[simp] theorem takeFree_halves : (takeFree s).halves = s.halves := rfl
@[simp] theorem takeFree_bus : (takeFree s).bus = s.bus := rfl
@[simp] theorem takeFree_vb : (takeFree s).vb = s.vb := rfl
@[simp] theorem takeFree_binder : (takeFree s).binder = s.binder := rfl
@[simp] theorem takeFree_cores : (takeFree s).cores = s.cores := rfl
@[simp] theorem takeFree_wits : (takeFree s).wits = s.wits := rfl
@[simp] theorem takeFree_gran : (takeFree s).gran = s.gran := rfl
@[simp] theorem takeFree_ce : (takeFree s).ce = s.ce := rfl
@[simp] theorem takeFree_fabric : (takeFree s).fabric = s.fabric := rfl
@[simp] theorem takeFree_ports : (takeFree s).ports = s.ports := rfl
@[simp] theorem takeFree_fed : (takeFree s).fed = s.fed := rfl
@[simp] theorem takeFree_pair : (takeFree s).pair = s.pair := rfl
@[simp] theorem takeFree_mon : (takeFree s).mon = s.mon := rfl
@[simp] theorem takeFree_senses : (takeFree s).senses = s.senses := rfl
@[simp] theorem takeFree_lins : (takeFree s).lins = s.lins := rfl
@[simp] theorem takeFree_therm : (takeFree s).therm = s.therm := rfl
@[simp] theorem takeFree_glean : (takeFree s).glean = s.glean := rfl
@[simp] theorem takeFree_sec : (takeFree s).sec = s.sec := rfl
@[simp] theorem takeFree_host : (takeFree s).host = s.host := rfl
@[simp] theorem takeFree_pins : (takeFree s).pins = s.pins := rfl
@[simp] theorem takeFree_agenda : (takeFree s).agenda = s.agenda := rfl
@[simp] theorem takeFree_modeWas : (takeFree s).modeWas = s.modeWas := rfl
@[simp] theorem takeFree_fresh : (takeFree s).fresh = s.fresh := rfl
@[simp] theorem takeFree_free : (takeFree s).free = s.free + 1 := rfl
@[simp] theorem takeFree_pending : (takeFree s).pending = s.pending := rfl

/-! ### defer -/

@[simp] theorem defer_fuses (t : Tick) (d : Deferred) : (defer t d s).fuses = s.fuses := rfl
@[simp] theorem defer_life (t : Tick) (d : Deferred) : (defer t d s).life = s.life := rfl
@[simp] theorem defer_haltAt (t : Tick) (d : Deferred) : (defer t d s).haltAt = s.haltAt := rfl
@[simp] theorem defer_regs (t : Tick) (d : Deferred) : (defer t d s).regs = s.regs := rfl
@[simp] theorem defer_force (t : Tick) (d : Deferred) : (defer t d s).force = s.force := rfl
@[simp] theorem defer_time (t : Tick) (d : Deferred) : (defer t d s).time = s.time := rfl
@[simp] theorem defer_log (t : Tick) (d : Deferred) : (defer t d s).log = s.log := rfl
@[simp] theorem defer_lbReq (t : Tick) (d : Deferred) : (defer t d s).lbReq = s.lbReq := rfl
@[simp] theorem defer_lbWaited (t : Tick) (d : Deferred) : (defer t d s).lbWaited = s.lbWaited := rfl
@[simp] theorem defer_lbResume (t : Tick) (d : Deferred) : (defer t d s).lbResume = s.lbResume := rfl
@[simp] theorem defer_armAfter (t : Tick) (d : Deferred) : (defer t d s).armAfter = s.armAfter := rfl
@[simp] theorem defer_safePend (t : Tick) (d : Deferred) : (defer t d s).safePend = s.safePend := rfl
@[simp] theorem defer_holdHist (t : Tick) (d : Deferred) : (defer t d s).holdHist = s.holdHist := rfl
@[simp] theorem defer_lbHist (t : Tick) (d : Deferred) : (defer t d s).lbHist = s.lbHist := rfl
@[simp] theorem defer_ballHist (t : Tick) (d : Deferred) : (defer t d s).ballHist = s.ballHist := rfl
@[simp] theorem defer_seqs (t : Tick) (d : Deferred) : (defer t d s).seqs = s.seqs := rfl
@[simp] theorem defer_down (t : Tick) (d : Deferred) : (defer t d s).down = s.down := rfl
@[simp] theorem defer_crcDown (t : Tick) (d : Deferred) : (defer t d s).crcDown = s.crcDown := rfl
@[simp] theorem defer_cutTiles (t : Tick) (d : Deferred) : (defer t d s).cutTiles = s.cutTiles := rfl
@[simp] theorem defer_barriers (t : Tick) (d : Deferred) : (defer t d s).barriers = s.barriers := rfl
@[simp] theorem defer_wave (t : Tick) (d : Deferred) : (defer t d s).wave = s.wave := rfl
@[simp] theorem defer_drv (t : Tick) (d : Deferred) : (defer t d s).drv = s.drv := rfl
@[simp] theorem defer_prb (t : Tick) (d : Deferred) : (defer t d s).prb = s.prb := rfl
@[simp] theorem defer_flux (t : Tick) (d : Deferred) : (defer t d s).flux = s.flux := rfl
@[simp] theorem defer_outs (t : Tick) (d : Deferred) : (defer t d s).outs = s.outs := rfl
@[simp] theorem defer_bias (t : Tick) (d : Deferred) : (defer t d s).bias = s.bias := rfl
@[simp] theorem defer_adcs (t : Tick) (d : Deferred) : (defer t d s).adcs = s.adcs := rfl
@[simp] theorem defer_slots (t : Tick) (d : Deferred) : (defer t d s).slots = s.slots := rfl
@[simp] theorem defer_halves (t : Tick) (d : Deferred) : (defer t d s).halves = s.halves := rfl
@[simp] theorem defer_bus (t : Tick) (d : Deferred) : (defer t d s).bus = s.bus := rfl
@[simp] theorem defer_vb (t : Tick) (d : Deferred) : (defer t d s).vb = s.vb := rfl
@[simp] theorem defer_binder (t : Tick) (d : Deferred) : (defer t d s).binder = s.binder := rfl
@[simp] theorem defer_cores (t : Tick) (d : Deferred) : (defer t d s).cores = s.cores := rfl
@[simp] theorem defer_wits (t : Tick) (d : Deferred) : (defer t d s).wits = s.wits := rfl
@[simp] theorem defer_gran (t : Tick) (d : Deferred) : (defer t d s).gran = s.gran := rfl
@[simp] theorem defer_ce (t : Tick) (d : Deferred) : (defer t d s).ce = s.ce := rfl
@[simp] theorem defer_fabric (t : Tick) (d : Deferred) : (defer t d s).fabric = s.fabric := rfl
@[simp] theorem defer_ports (t : Tick) (d : Deferred) : (defer t d s).ports = s.ports := rfl
@[simp] theorem defer_fed (t : Tick) (d : Deferred) : (defer t d s).fed = s.fed := rfl
@[simp] theorem defer_pair (t : Tick) (d : Deferred) : (defer t d s).pair = s.pair := rfl
@[simp] theorem defer_mon (t : Tick) (d : Deferred) : (defer t d s).mon = s.mon := rfl
@[simp] theorem defer_senses (t : Tick) (d : Deferred) : (defer t d s).senses = s.senses := rfl
@[simp] theorem defer_lins (t : Tick) (d : Deferred) : (defer t d s).lins = s.lins := rfl
@[simp] theorem defer_therm (t : Tick) (d : Deferred) : (defer t d s).therm = s.therm := rfl
@[simp] theorem defer_glean (t : Tick) (d : Deferred) : (defer t d s).glean = s.glean := rfl
@[simp] theorem defer_sec (t : Tick) (d : Deferred) : (defer t d s).sec = s.sec := rfl
@[simp] theorem defer_host (t : Tick) (d : Deferred) : (defer t d s).host = s.host := rfl
@[simp] theorem defer_pins (t : Tick) (d : Deferred) : (defer t d s).pins = s.pins := rfl
@[simp] theorem defer_agenda (t : Tick) (d : Deferred) : (defer t d s).agenda = s.agenda ++ [(t, d)] := rfl
@[simp] theorem defer_modeWas (t : Tick) (d : Deferred) : (defer t d s).modeWas = s.modeWas := rfl
@[simp] theorem defer_fresh (t : Tick) (d : Deferred) : (defer t d s).fresh = s.fresh := rfl
@[simp] theorem defer_free (t : Tick) (d : Deferred) : (defer t d s).free = s.free := rfl
@[simp] theorem defer_pending (t : Tick) (d : Deferred) : (defer t d s).pending = s.pending := rfl

end Sys2Proof.Machine
end

