-- ==== Sys2Proof/Laws/Table.lean ====
section
/-! SUPPORT. Laws of sparse tables: reading what was set, reading beside it, and the canonical form. -/

namespace Sys2Proof.Machine

variable {α : Type}

theorem tget?_tdel_self (k : Nat) (t : Tab α) : tget? k (tdel k t) = none := by
  induction t with
  | nil => rfl
  | cons e t ih =>
    obtain ⟨j, x⟩ := e
    by_cases h : j = k <;> simp [tdel, tget?, h, ih]

theorem tget?_tdel_ne {k j : Nat} (h : j ≠ k) (t : Tab α) : tget? j (tdel k t) = tget? j t := by
  induction t with
  | nil => rfl
  | cons e t ih =>
    obtain ⟨i, x⟩ := e
    by_cases hi : i = k
    · subst hi
      simp [tdel, tget?, ih, Ne.symm h]
    · by_cases hj : i = j
      · subst hj; simp [tdel, tget?, hi]
      · simp [tdel, tget?, hi, hj, ih]

theorem tget?_tput_self (k : Nat) (x : α) (t : Tab α) : tget? k (tput k x t) = some x := by
  induction t with
  | nil => simp [tput, tget?]
  | cons e t ih =>
    obtain ⟨j, y⟩ := e
    by_cases h : k < j
    · simp [tput, tget?, h]
    · by_cases hj : j = k <;> simp [tput, tget?, h, hj, ih]

theorem tget?_tput_ne {k j : Nat} (h : j ≠ k) (x : α) (t : Tab α) : tget? j (tput k x t) = tget? j t := by
  induction t with
  | nil => simp [tput, tget?, Ne.symm h]
  | cons e t ih =>
    obtain ⟨i, y⟩ := e
    by_cases hi : k < i
    · simp [tput, tget?, hi, Ne.symm h]
    · by_cases hk : i = k
      · subst hk
        simp [tput, tget?, Ne.symm h]
      · by_cases hj : i = j
        · subst hj; simp [tput, tget?, hi, hk]
        · simp [tput, tget?, hi, hk, hj, ih]

/-- Reading the number that was set gives what was set. -/
@[simp] theorem tget_tset_self [DecidableEq α] (d : α) (k : Nat) (x : α) (t : Tab α) : tget d k (tset d k x t) = x := by
  by_cases h : x = d
  · simp [tset, h, tget, tget?_tdel_self]
  · simp [tset, h, tget, tget?_tput_self]

/-- Setting one number leaves every other as it was. -/
theorem tget_tset_ne [DecidableEq α] (d : α) {e : α} {k j : Nat} (h : j ≠ k) (x : α) (t : Tab α) :
    tget e j (tset d k x t) = tget e j t := by
  by_cases hx : x = d
  · simp [tset, hx, tget, tget?_tdel_ne h]
  · simp [tset, hx, tget, tget?_tput_ne h]

/-- Reading after a set, both cases. -/
theorem tget_tset [DecidableEq α] (d : α) (k j : Nat) (x : α) (t : Tab α) :
    tget d j (tset d k x t) = if j = k then x else tget d j t := by
  by_cases h : j = k
  · subst h; simp
  · simp [h, tget_tset_ne d h]

/-- The canonical form of a table: keys rising, no entry at the default. -/
def TabOk (d : α) (t : Tab α) : Prop := t.Pairwise (fun a b => a.1 < b.1) ∧ ∀ e ∈ t, e.2 ≠ d

theorem mem_tdel {k : Nat} {e : Nat × α} {t : Tab α} (h : e ∈ tdel k t) : e ∈ t := by
  induction t with
  | nil => exact h
  | cons a t ih =>
    obtain ⟨j, x⟩ := a
    by_cases hj : j = k
    · rw [tdel, if_pos hj] at h
      exact List.mem_cons_of_mem _ (ih h)
    · rw [tdel, if_neg hj] at h
      rcases List.mem_cons.1 h with h | h
      · exact h ▸ List.mem_cons_self
      · exact List.mem_cons_of_mem _ (ih h)

theorem mem_tput {k : Nat} {x : α} {e : Nat × α} {t : Tab α} (h : e ∈ tput k x t) : e = (k, x) ∨ e ∈ t := by
  induction t with
  | nil => simpa [tput] using h
  | cons a t ih =>
    obtain ⟨j, y⟩ := a
    by_cases hj : k < j
    · rw [tput, if_pos hj] at h
      exact List.mem_cons.1 h
    · by_cases hk : j = k
      · rw [tput, if_neg hj, if_pos hk] at h
        rcases List.mem_cons.1 h with h | h
        · exact .inl h
        · exact .inr (List.mem_cons_of_mem _ h)
      · rw [tput, if_neg hj, if_neg hk] at h
        rcases List.mem_cons.1 h with h | h
        · exact .inr (h ▸ List.mem_cons_self)
        · exact (ih h).imp id (List.mem_cons_of_mem _)

theorem tdel_ok {d : α} {t : Tab α} (k : Nat) (h : TabOk d t) : TabOk d (tdel k t) := by
  refine ⟨?_, fun e he => h.2 e (mem_tdel he)⟩
  have h1 := h.1
  clear h
  induction t with
  | nil => exact h1
  | cons a t ih =>
    obtain ⟨j, x⟩ := a
    have h2 := List.pairwise_cons.1 h1
    by_cases hj : j = k
    · simpa [tdel, hj] using ih h2.2
    · rw [tdel, if_neg hj]
      exact List.pairwise_cons.2 ⟨fun e he => h2.1 e (mem_tdel he), ih h2.2⟩

theorem tput_ok {d x : α} {t : Tab α} (k : Nat) (hx : x ≠ d) (h : TabOk d t) : TabOk d (tput k x t) := by
  refine ⟨?_, fun e he => ?_⟩
  · have h1 := h.1
    clear h
    induction t with
    | nil => simp [tput]
    | cons a t ih =>
      obtain ⟨j, y⟩ := a
      have h2 := List.pairwise_cons.1 h1
      by_cases hj : k < j
      · rw [tput, if_pos hj]
        refine List.pairwise_cons.2 ⟨fun e he => ?_, h1⟩
        rcases List.mem_cons.1 he with rfl | he
        · exact hj
        · exact Nat.lt_trans hj (h2.1 e he)
      · by_cases hk : j = k
        · subst hk
          rw [tput, if_neg hj, if_pos rfl]
          exact List.pairwise_cons.2 ⟨h2.1, h2.2⟩
        · rw [tput, if_neg hj, if_neg hk]
          refine List.pairwise_cons.2 ⟨fun e he => ?_, ih h2.2⟩
          rcases mem_tput he with rfl | he
          · show j < k
            omega
          · exact h2.1 e he
  · rcases mem_tput he with rfl | he
    · exact hx
    · exact h.2 e he

/-- Setting a number keeps the canonical form. -/
theorem tset_ok [DecidableEq α] {d : α} {t : Tab α} (k : Nat) (x : α) (h : TabOk d t) : TabOk d (tset d k x t) := by
  by_cases hx : x = d
  · simpa [tset, hx] using tdel_ok k h
  · simpa [tset, hx] using tput_ok k hx h

theorem filter_ok {d : α} {t : Tab α} (p : Nat × α → Bool) (h : TabOk d t) : TabOk d (t.filter p) :=
  ⟨h.1.filter _, fun e he => h.2 e (List.mem_of_mem_filter he)⟩

/-- Two tables in canonical form that read alike everywhere are equal. -/
theorem tab_ext {d : α} : ∀ {t u : Tab α}, TabOk d t → TabOk d u → (∀ k, tget d k t = tget d k u) → t = u := by
  have key : ∀ (k : Nat) (t : Tab α), (∀ e ∈ t, k < e.1) → tget? k t = none := by
    intro k t
    induction t with
    | nil => intro _; rfl
    | cons a t ih =>
      intro h
      obtain ⟨j, x⟩ := a
      have hj : k < j := h _ List.mem_cons_self
      rw [tget?, if_neg (by omega)]
      exact ih (fun e he => h e (List.mem_cons_of_mem _ he))
  intro t
  induction t with
  | nil =>
    intro u _ hu h
    cases u with
    | nil => rfl
    | cons a u =>
      obtain ⟨j, x⟩ := a
      have := h j
      simp [tget, tget?] at this
      exact absurd this.symm (hu.2 _ List.mem_cons_self)
  | cons a t ih =>
    intro u ht hu h
    obtain ⟨j, x⟩ := a
    have ht1 := List.pairwise_cons.1 ht.1
    cases u with
    | nil =>
      have := h j
      simp [tget, tget?] at this
      exact absurd this (ht.2 _ List.mem_cons_self)
    | cons b u =>
      obtain ⟨i, y⟩ := b
      have hu1 := List.pairwise_cons.1 hu.1
      have hij : j = i := by
        rcases Nat.lt_trichotomy j i with hlt | he | hgt
        · have := h j
          have hn : tget? j ((i, y) :: u) = none := key j _ (fun e he => by
            rcases List.mem_cons.1 he with rfl | he
            · exact hlt
            · exact Nat.lt_trans hlt (hu1.1 e he))
          rw [tget, tget, hn] at this
          simp [tget?] at this
          exact absurd this (ht.2 _ List.mem_cons_self)
        · exact he
        · have := h i
          have hn : tget? i ((j, x) :: t) = none := key i _ (fun e he => by
            rcases List.mem_cons.1 he with rfl | he
            · exact hgt
            · exact Nat.lt_trans hgt (ht1.1 e he))
          rw [tget, tget, hn] at this
          simp [tget?] at this
          exact absurd this.symm (hu.2 _ List.mem_cons_self)
      subst hij
      have hxy : x = y := by simpa [tget, tget?] using h j
      subst hxy
      congr 1
      refine ih ⟨ht1.2, fun e he => ht.2 e (List.mem_cons_of_mem _ he)⟩
        ⟨hu1.2, fun e he => hu.2 e (List.mem_cons_of_mem _ he)⟩ (fun k => ?_)
      by_cases hk : j = k
      · subst hk
        simp [tget, key j t ht1.1, key j u hu1.1]
      · simpa [tget, tget?, hk] using h k

end Sys2Proof.Machine
end

