-- ==== Sys2Proof/Laws/Access.lean ====
section
/-! SUPPORT. Reading a unit of the state after an update: of the same unit, of another, and of another kind of unit. -/

namespace Sys2Proof.Machine

variable (s : State)

@[simp] theorem getR_setR (off : Nat) (v : W40) : getR off (setR off v s) = v := by
  simp [getR, setR]
theorem getR_setR_ne {off o : Nat} (h : o ≠ off) (v : W40) : getR o (setR off v s) = getR o s := by
  simp [getR, setR, tget_tset_ne _ h]

@[simp] theorem getF_setF (off : Nat) (v : W40) : getF off (setF off v s) = v := by
  simp [getF, setF]
theorem getF_setF_ne {off o : Nat} (h : o ≠ off) (v : W40) : getF o (setF off v s) = getF o s := by
  simp [getF, setF, tget_tset_ne _ h]

@[simp] theorem ring_setRing (n : Nat) (r : Ring) : ring n (setRing n r s) = r := by
  simp [ring, setRing]
theorem ring_setRing_ne {n k : Nat} (h : k ≠ n) (r : Ring) : ring k (setRing n r s) = ring k s := by
  simp [ring, setRing, tget_tset_ne _ h]

@[simp] theorem seq_setSeq (g : Nat) (q : Seq) : seq g (setSeq g q s) = q := by
  simp [seq, setSeq]
theorem seq_setSeq_ne {g k : Nat} (h : k ≠ g) (q : Seq) : seq k (setSeq g q s) = seq k s := by
  simp [seq, setSeq, tget_tset_ne _ h]

@[simp] theorem drv_setDrv (g : Nat) (x : Tone) : drv g (setDrv g x s) = x := by
  simp [drv, setDrv]
theorem drv_setDrv_ne {g k : Nat} (h : k ≠ g) (x : Tone) : drv k (setDrv g x s) = drv k s := by
  simp [drv, setDrv, tget_tset_ne _ h]

@[simp] theorem prb_setPrb (g : Nat) (x : Tone) : prb g (setPrb g x s) = x := by
  simp [prb, setPrb]
theorem prb_setPrb_ne {g k : Nat} (h : k ≠ g) (x : Tone) : prb k (setPrb g x s) = prb k s := by
  simp [prb, setPrb, tget_tset_ne _ h]

@[simp] theorem flux_setFlux (g : Nat) (x : Flux) : flux g (setFlux g x s) = x := by
  simp [flux, setFlux]
theorem flux_setFlux_ne {g k : Nat} (h : k ≠ g) (x : Flux) : flux k (setFlux g x s) = flux k s := by
  simp [flux, setFlux, tget_tset_ne _ h]

@[simp] theorem outp_setOut (o : Nat) (x : Output) : outp o (setOut o x s) = x := by
  simp [outp, setOut]
theorem outp_setOut_ne {o k : Nat} (h : k ≠ o) (x : Output) : outp k (setOut o x s) = outp k s := by
  simp [outp, setOut, tget_tset_ne _ h]

@[simp] theorem biasC_setBias (g : Nat) (x : Bias) : biasC g (setBias g x s) = x := by
  simp [biasC, setBias]
theorem biasC_setBias_ne {g k : Nat} (h : k ≠ g) (x : Bias) : biasC k (setBias g x s) = biasC k s := by
  simp [biasC, setBias, tget_tset_ne _ h]

@[simp] theorem adc_setAdc (a : Nat) (x : Adc) : adc a (setAdc a x s) = x := by
  simp [adc, setAdc]
theorem adc_setAdc_ne {a k : Nat} (h : k ≠ a) (x : Adc) : adc k (setAdc a x s) = adc k s := by
  simp [adc, setAdc, tget_tset_ne _ h]

@[simp] theorem slot_setSlot (g : Nat) (x : Slot) : slot g (setSlot g x s) = x := by
  simp [slot, setSlot]
theorem slot_setSlot_ne {g k : Nat} (h : k ≠ g) (x : Slot) : slot k (setSlot g x s) = slot k s := by
  simp [slot, setSlot, tget_tset_ne _ h]

@[simp] theorem core_setCore (k : Nat) (x : Core) : core k (setCore k x s) = x := by
  simp [core, setCore]
theorem core_setCore_ne {k j : Nat} (h : j ≠ k) (x : Core) : core j (setCore k x s) = core j s := by
  simp [core, setCore, tget_tset_ne _ h]

@[simp] theorem wit_setWit (e : Nat) (x : Wit) : wit e (setWit e x s) = x := by
  simp [wit, setWit]
theorem wit_setWit_ne {e k : Nat} (h : k ≠ e) (x : Wit) : wit k (setWit e x s) = wit k s := by
  simp [wit, setWit, tget_tset_ne _ h]

@[simp] theorem port_setPort (p : Nat) (x : Port) : port p (setPort p x s) = x := by
  simp [port, setPort]
theorem port_setPort_ne {p k : Nat} (h : k ≠ p) (x : Port) : port k (setPort p x s) = port k s := by
  simp [port, setPort, tget_tset_ne _ h]

@[simp] theorem pset_setPset (j : Nat) (x : PSet) : pset j (setPset j x s) = x := by
  simp [pset, setPset]
theorem pset_setPset_ne {j k : Nat} (h : k ≠ j) (x : PSet) : pset k (setPset j x s) = pset k s := by
  simp [pset, setPset, tget_tset_ne _ h]

@[simp] theorem decoder_setDecoder (e : Nat) (x : Decoder) : decoder e (setDecoder e x s) = x := by
  simp [decoder, setDecoder]
theorem decoder_setDecoder_ne {e k : Nat} (h : k ≠ e) (x : Decoder) : decoder k (setDecoder e x s) = decoder k s := by
  simp [decoder, setDecoder, tget_tset_ne _ h]

@[simp] theorem vent_setVent (i : Nat) (x : VEnt) : vent i (setVent i x s) = x := by
  simp [vent, setVent]
theorem vent_setVent_ne {i k : Nat} (h : k ≠ i) (x : VEnt) : vent k (setVent i x s) = vent k s := by
  simp [vent, setVent, tget_tset_ne _ h]

@[simp] theorem barrier_setBarrier (b : Nat) (x : Barrier) : barrier b (setBarrier b x s) = x := by
  simp [barrier, setBarrier]
theorem barrier_setBarrier_ne {b k : Nat} (h : k ≠ b) (x : Barrier) : barrier k (setBarrier b x s) = barrier k s := by
  simp [barrier, setBarrier, tget_tset_ne _ h]

@[simp] theorem sense_setSense (n : Nat) (x : Sense) : sense n (setSense n x s) = x := by
  simp [sense, setSense]
theorem sense_setSense_ne {n k : Nat} (h : k ≠ n) (x : Sense) : sense k (setSense n x s) = sense k s := by
  simp [sense, setSense, tget_tset_ne _ h]

@[simp] theorem getR_setF (a off : Nat) (v : W40) : getR a (setF off v s) = getR a s := rfl
@[simp] theorem getR_setRing (a n : Nat) (r : Ring) : getR a (setRing n r s) = getR a s := rfl
@[simp] theorem getR_setSeq (a g : Nat) (q : Seq) : getR a (setSeq g q s) = getR a s := rfl
@[simp] theorem getR_setDrv (a g : Nat) (x : Tone) : getR a (setDrv g x s) = getR a s := rfl
@[simp] theorem getR_setPrb (a g : Nat) (x : Tone) : getR a (setPrb g x s) = getR a s := rfl
@[simp] theorem getR_setFlux (a g : Nat) (x : Flux) : getR a (setFlux g x s) = getR a s := rfl
@[simp] theorem getR_setOut (a o : Nat) (x : Output) : getR a (setOut o x s) = getR a s := rfl
@[simp] theorem getR_setBias (a g : Nat) (x : Bias) : getR a (setBias g x s) = getR a s := rfl
@[simp] theorem getR_setAdc (a b : Nat) (x : Adc) : getR a (setAdc b x s) = getR a s := rfl
@[simp] theorem getR_setSlot (a g : Nat) (x : Slot) : getR a (setSlot g x s) = getR a s := rfl
@[simp] theorem getR_setCore (a k : Nat) (x : Core) : getR a (setCore k x s) = getR a s := rfl
@[simp] theorem getR_setWit (a e : Nat) (x : Wit) : getR a (setWit e x s) = getR a s := rfl
@[simp] theorem getR_setPort (a p : Nat) (x : Port) : getR a (setPort p x s) = getR a s := rfl
@[simp] theorem getR_setPset (a j : Nat) (x : PSet) : getR a (setPset j x s) = getR a s := rfl
@[simp] theorem getR_setDecoder (a e : Nat) (x : Decoder) : getR a (setDecoder e x s) = getR a s := rfl
@[simp] theorem getR_setVent (a i : Nat) (x : VEnt) : getR a (setVent i x s) = getR a s := rfl
@[simp] theorem getR_setBarrier (a b : Nat) (x : Barrier) : getR a (setBarrier b x s) = getR a s := rfl
@[simp] theorem getR_setSense (a n : Nat) (x : Sense) : getR a (setSense n x s) = getR a s := rfl
@[simp] theorem getF_setR (a off : Nat) (v : W40) : getF a (setR off v s) = getF a s := rfl
@[simp] theorem getF_setRing (a n : Nat) (r : Ring) : getF a (setRing n r s) = getF a s := rfl
@[simp] theorem getF_setSeq (a g : Nat) (q : Seq) : getF a (setSeq g q s) = getF a s := rfl
@[simp] theorem getF_setDrv (a g : Nat) (x : Tone) : getF a (setDrv g x s) = getF a s := rfl
@[simp] theorem getF_setPrb (a g : Nat) (x : Tone) : getF a (setPrb g x s) = getF a s := rfl
@[simp] theorem getF_setFlux (a g : Nat) (x : Flux) : getF a (setFlux g x s) = getF a s := rfl
@[simp] theorem getF_setOut (a o : Nat) (x : Output) : getF a (setOut o x s) = getF a s := rfl
@[simp] theorem getF_setBias (a g : Nat) (x : Bias) : getF a (setBias g x s) = getF a s := rfl
@[simp] theorem getF_setAdc (a b : Nat) (x : Adc) : getF a (setAdc b x s) = getF a s := rfl
@[simp] theorem getF_setSlot (a g : Nat) (x : Slot) : getF a (setSlot g x s) = getF a s := rfl
@[simp] theorem getF_setCore (a k : Nat) (x : Core) : getF a (setCore k x s) = getF a s := rfl
@[simp] theorem getF_setWit (a e : Nat) (x : Wit) : getF a (setWit e x s) = getF a s := rfl
@[simp] theorem getF_setPort (a p : Nat) (x : Port) : getF a (setPort p x s) = getF a s := rfl
@[simp] theorem getF_setPset (a j : Nat) (x : PSet) : getF a (setPset j x s) = getF a s := rfl
@[simp] theorem getF_setDecoder (a e : Nat) (x : Decoder) : getF a (setDecoder e x s) = getF a s := rfl
@[simp] theorem getF_setVent (a i : Nat) (x : VEnt) : getF a (setVent i x s) = getF a s := rfl
@[simp] theorem getF_setBarrier (a b : Nat) (x : Barrier) : getF a (setBarrier b x s) = getF a s := rfl
@[simp] theorem getF_setSense (a n : Nat) (x : Sense) : getF a (setSense n x s) = getF a s := rfl
@[simp] theorem ring_setR (a off : Nat) (v : W40) : ring a (setR off v s) = ring a s := rfl
@[simp] theorem ring_setF (a off : Nat) (v : W40) : ring a (setF off v s) = ring a s := rfl
@[simp] theorem ring_setSeq (a g : Nat) (q : Seq) : ring a (setSeq g q s) = ring a s := rfl
@[simp] theorem ring_setDrv (a g : Nat) (x : Tone) : ring a (setDrv g x s) = ring a s := rfl
@[simp] theorem ring_setPrb (a g : Nat) (x : Tone) : ring a (setPrb g x s) = ring a s := rfl
@[simp] theorem ring_setFlux (a g : Nat) (x : Flux) : ring a (setFlux g x s) = ring a s := rfl
@[simp] theorem ring_setOut (a o : Nat) (x : Output) : ring a (setOut o x s) = ring a s := rfl
@[simp] theorem ring_setBias (a g : Nat) (x : Bias) : ring a (setBias g x s) = ring a s := rfl
@[simp] theorem ring_setAdc (a b : Nat) (x : Adc) : ring a (setAdc b x s) = ring a s := rfl
@[simp] theorem ring_setSlot (a g : Nat) (x : Slot) : ring a (setSlot g x s) = ring a s := rfl
@[simp] theorem ring_setCore (a k : Nat) (x : Core) : ring a (setCore k x s) = ring a s := rfl
@[simp] theorem ring_setWit (a e : Nat) (x : Wit) : ring a (setWit e x s) = ring a s := rfl
@[simp] theorem ring_setPort (a p : Nat) (x : Port) : ring a (setPort p x s) = ring a s := rfl
@[simp] theorem ring_setPset (a j : Nat) (x : PSet) : ring a (setPset j x s) = ring a s := rfl
@[simp] theorem ring_setDecoder (a e : Nat) (x : Decoder) : ring a (setDecoder e x s) = ring a s := rfl
@[simp] theorem ring_setVent (a i : Nat) (x : VEnt) : ring a (setVent i x s) = ring a s := rfl
@[simp] theorem ring_setBarrier (a b : Nat) (x : Barrier) : ring a (setBarrier b x s) = ring a s := rfl
@[simp] theorem ring_setSense (a n : Nat) (x : Sense) : ring a (setSense n x s) = ring a s := rfl
@[simp] theorem seq_setR (a off : Nat) (v : W40) : seq a (setR off v s) = seq a s := rfl
@[simp] theorem seq_setF (a off : Nat) (v : W40) : seq a (setF off v s) = seq a s := rfl
@[simp] theorem seq_setRing (a n : Nat) (r : Ring) : seq a (setRing n r s) = seq a s := rfl
@[simp] theorem seq_setDrv (a g : Nat) (x : Tone) : seq a (setDrv g x s) = seq a s := rfl
@[simp] theorem seq_setPrb (a g : Nat) (x : Tone) : seq a (setPrb g x s) = seq a s := rfl
@[simp] theorem seq_setFlux (a g : Nat) (x : Flux) : seq a (setFlux g x s) = seq a s := rfl
@[simp] theorem seq_setOut (a o : Nat) (x : Output) : seq a (setOut o x s) = seq a s := rfl
@[simp] theorem seq_setBias (a g : Nat) (x : Bias) : seq a (setBias g x s) = seq a s := rfl
@[simp] theorem seq_setAdc (a b : Nat) (x : Adc) : seq a (setAdc b x s) = seq a s := rfl
@[simp] theorem seq_setSlot (a g : Nat) (x : Slot) : seq a (setSlot g x s) = seq a s := rfl
@[simp] theorem seq_setCore (a k : Nat) (x : Core) : seq a (setCore k x s) = seq a s := rfl
@[simp] theorem seq_setWit (a e : Nat) (x : Wit) : seq a (setWit e x s) = seq a s := rfl
@[simp] theorem seq_setPort (a p : Nat) (x : Port) : seq a (setPort p x s) = seq a s := rfl
@[simp] theorem seq_setPset (a j : Nat) (x : PSet) : seq a (setPset j x s) = seq a s := rfl
@[simp] theorem seq_setDecoder (a e : Nat) (x : Decoder) : seq a (setDecoder e x s) = seq a s := rfl
@[simp] theorem seq_setVent (a i : Nat) (x : VEnt) : seq a (setVent i x s) = seq a s := rfl
@[simp] theorem seq_setBarrier (a b : Nat) (x : Barrier) : seq a (setBarrier b x s) = seq a s := rfl
@[simp] theorem seq_setSense (a n : Nat) (x : Sense) : seq a (setSense n x s) = seq a s := rfl
@[simp] theorem drv_setR (a off : Nat) (v : W40) : drv a (setR off v s) = drv a s := rfl
@[simp] theorem drv_setF (a off : Nat) (v : W40) : drv a (setF off v s) = drv a s := rfl
@[simp] theorem drv_setRing (a n : Nat) (r : Ring) : drv a (setRing n r s) = drv a s := rfl
@[simp] theorem drv_setSeq (a g : Nat) (q : Seq) : drv a (setSeq g q s) = drv a s := rfl
@[simp] theorem drv_setPrb (a g : Nat) (x : Tone) : drv a (setPrb g x s) = drv a s := rfl
@[simp] theorem drv_setFlux (a g : Nat) (x : Flux) : drv a (setFlux g x s) = drv a s := rfl
@[simp] theorem drv_setOut (a o : Nat) (x : Output) : drv a (setOut o x s) = drv a s := rfl
@[simp] theorem drv_setBias (a g : Nat) (x : Bias) : drv a (setBias g x s) = drv a s := rfl
@[simp] theorem drv_setAdc (a b : Nat) (x : Adc) : drv a (setAdc b x s) = drv a s := rfl
@[simp] theorem drv_setSlot (a g : Nat) (x : Slot) : drv a (setSlot g x s) = drv a s := rfl
@[simp] theorem drv_setCore (a k : Nat) (x : Core) : drv a (setCore k x s) = drv a s := rfl
@[simp] theorem drv_setWit (a e : Nat) (x : Wit) : drv a (setWit e x s) = drv a s := rfl
@[simp] theorem drv_setPort (a p : Nat) (x : Port) : drv a (setPort p x s) = drv a s := rfl
@[simp] theorem drv_setPset (a j : Nat) (x : PSet) : drv a (setPset j x s) = drv a s := rfl
@[simp] theorem drv_setDecoder (a e : Nat) (x : Decoder) : drv a (setDecoder e x s) = drv a s := rfl
@[simp] theorem drv_setVent (a i : Nat) (x : VEnt) : drv a (setVent i x s) = drv a s := rfl
@[simp] theorem drv_setBarrier (a b : Nat) (x : Barrier) : drv a (setBarrier b x s) = drv a s := rfl
@[simp] theorem drv_setSense (a n : Nat) (x : Sense) : drv a (setSense n x s) = drv a s := rfl
@[simp] theorem prb_setR (a off : Nat) (v : W40) : prb a (setR off v s) = prb a s := rfl
@[simp] theorem prb_setF (a off : Nat) (v : W40) : prb a (setF off v s) = prb a s := rfl
@[simp] theorem prb_setRing (a n : Nat) (r : Ring) : prb a (setRing n r s) = prb a s := rfl
@[simp] theorem prb_setSeq (a g : Nat) (q : Seq) : prb a (setSeq g q s) = prb a s := rfl
@[simp] theorem prb_setDrv (a g : Nat) (x : Tone) : prb a (setDrv g x s) = prb a s := rfl
@[simp] theorem prb_setFlux (a g : Nat) (x : Flux) : prb a (setFlux g x s) = prb a s := rfl
@[simp] theorem prb_setOut (a o : Nat) (x : Output) : prb a (setOut o x s) = prb a s := rfl
@[simp] theorem prb_setBias (a g : Nat) (x : Bias) : prb a (setBias g x s) = prb a s := rfl
@[simp] theorem prb_setAdc (a b : Nat) (x : Adc) : prb a (setAdc b x s) = prb a s := rfl
@[simp] theorem prb_setSlot (a g : Nat) (x : Slot) : prb a (setSlot g x s) = prb a s := rfl
@[simp] theorem prb_setCore (a k : Nat) (x : Core) : prb a (setCore k x s) = prb a s := rfl
@[simp] theorem prb_setWit (a e : Nat) (x : Wit) : prb a (setWit e x s) = prb a s := rfl
@[simp] theorem prb_setPort (a p : Nat) (x : Port) : prb a (setPort p x s) = prb a s := rfl
@[simp] theorem prb_setPset (a j : Nat) (x : PSet) : prb a (setPset j x s) = prb a s := rfl
@[simp] theorem prb_setDecoder (a e : Nat) (x : Decoder) : prb a (setDecoder e x s) = prb a s := rfl
@[simp] theorem prb_setVent (a i : Nat) (x : VEnt) : prb a (setVent i x s) = prb a s := rfl
@[simp] theorem prb_setBarrier (a b : Nat) (x : Barrier) : prb a (setBarrier b x s) = prb a s := rfl
@[simp] theorem prb_setSense (a n : Nat) (x : Sense) : prb a (setSense n x s) = prb a s := rfl
@[simp] theorem flux_setR (a off : Nat) (v : W40) : flux a (setR off v s) = flux a s := rfl
@[simp] theorem flux_setF (a off : Nat) (v : W40) : flux a (setF off v s) = flux a s := rfl
@[simp] theorem flux_setRing (a n : Nat) (r : Ring) : flux a (setRing n r s) = flux a s := rfl
@[simp] theorem flux_setSeq (a g : Nat) (q : Seq) : flux a (setSeq g q s) = flux a s := rfl
@[simp] theorem flux_setDrv (a g : Nat) (x : Tone) : flux a (setDrv g x s) = flux a s := rfl
@[simp] theorem flux_setPrb (a g : Nat) (x : Tone) : flux a (setPrb g x s) = flux a s := rfl
@[simp] theorem flux_setOut (a o : Nat) (x : Output) : flux a (setOut o x s) = flux a s := rfl
@[simp] theorem flux_setBias (a g : Nat) (x : Bias) : flux a (setBias g x s) = flux a s := rfl
@[simp] theorem flux_setAdc (a b : Nat) (x : Adc) : flux a (setAdc b x s) = flux a s := rfl
@[simp] theorem flux_setSlot (a g : Nat) (x : Slot) : flux a (setSlot g x s) = flux a s := rfl
@[simp] theorem flux_setCore (a k : Nat) (x : Core) : flux a (setCore k x s) = flux a s := rfl
@[simp] theorem flux_setWit (a e : Nat) (x : Wit) : flux a (setWit e x s) = flux a s := rfl
@[simp] theorem flux_setPort (a p : Nat) (x : Port) : flux a (setPort p x s) = flux a s := rfl
@[simp] theorem flux_setPset (a j : Nat) (x : PSet) : flux a (setPset j x s) = flux a s := rfl
@[simp] theorem flux_setDecoder (a e : Nat) (x : Decoder) : flux a (setDecoder e x s) = flux a s := rfl
@[simp] theorem flux_setVent (a i : Nat) (x : VEnt) : flux a (setVent i x s) = flux a s := rfl
@[simp] theorem flux_setBarrier (a b : Nat) (x : Barrier) : flux a (setBarrier b x s) = flux a s := rfl
@[simp] theorem flux_setSense (a n : Nat) (x : Sense) : flux a (setSense n x s) = flux a s := rfl
@[simp] theorem outp_setR (a off : Nat) (v : W40) : outp a (setR off v s) = outp a s := rfl
@[simp] theorem outp_setF (a off : Nat) (v : W40) : outp a (setF off v s) = outp a s := rfl
@[simp] theorem outp_setRing (a n : Nat) (r : Ring) : outp a (setRing n r s) = outp a s := rfl
@[simp] theorem outp_setSeq (a g : Nat) (q : Seq) : outp a (setSeq g q s) = outp a s := rfl
@[simp] theorem outp_setDrv (a g : Nat) (x : Tone) : outp a (setDrv g x s) = outp a s := rfl
@[simp] theorem outp_setPrb (a g : Nat) (x : Tone) : outp a (setPrb g x s) = outp a s := rfl
@[simp] theorem outp_setFlux (a g : Nat) (x : Flux) : outp a (setFlux g x s) = outp a s := rfl
@[simp] theorem outp_setBias (a g : Nat) (x : Bias) : outp a (setBias g x s) = outp a s := rfl
@[simp] theorem outp_setAdc (a b : Nat) (x : Adc) : outp a (setAdc b x s) = outp a s := rfl
@[simp] theorem outp_setSlot (a g : Nat) (x : Slot) : outp a (setSlot g x s) = outp a s := rfl
@[simp] theorem outp_setCore (a k : Nat) (x : Core) : outp a (setCore k x s) = outp a s := rfl
@[simp] theorem outp_setWit (a e : Nat) (x : Wit) : outp a (setWit e x s) = outp a s := rfl
@[simp] theorem outp_setPort (a p : Nat) (x : Port) : outp a (setPort p x s) = outp a s := rfl
@[simp] theorem outp_setPset (a j : Nat) (x : PSet) : outp a (setPset j x s) = outp a s := rfl
@[simp] theorem outp_setDecoder (a e : Nat) (x : Decoder) : outp a (setDecoder e x s) = outp a s := rfl
@[simp] theorem outp_setVent (a i : Nat) (x : VEnt) : outp a (setVent i x s) = outp a s := rfl
@[simp] theorem outp_setBarrier (a b : Nat) (x : Barrier) : outp a (setBarrier b x s) = outp a s := rfl
@[simp] theorem outp_setSense (a n : Nat) (x : Sense) : outp a (setSense n x s) = outp a s := rfl
@[simp] theorem biasC_setR (a off : Nat) (v : W40) : biasC a (setR off v s) = biasC a s := rfl
@[simp] theorem biasC_setF (a off : Nat) (v : W40) : biasC a (setF off v s) = biasC a s := rfl
@[simp] theorem biasC_setRing (a n : Nat) (r : Ring) : biasC a (setRing n r s) = biasC a s := rfl
@[simp] theorem biasC_setSeq (a g : Nat) (q : Seq) : biasC a (setSeq g q s) = biasC a s := rfl
@[simp] theorem biasC_setDrv (a g : Nat) (x : Tone) : biasC a (setDrv g x s) = biasC a s := rfl
@[simp] theorem biasC_setPrb (a g : Nat) (x : Tone) : biasC a (setPrb g x s) = biasC a s := rfl
@[simp] theorem biasC_setFlux (a g : Nat) (x : Flux) : biasC a (setFlux g x s) = biasC a s := rfl
@[simp] theorem biasC_setOut (a o : Nat) (x : Output) : biasC a (setOut o x s) = biasC a s := rfl
@[simp] theorem biasC_setAdc (a b : Nat) (x : Adc) : biasC a (setAdc b x s) = biasC a s := rfl
@[simp] theorem biasC_setSlot (a g : Nat) (x : Slot) : biasC a (setSlot g x s) = biasC a s := rfl
@[simp] theorem biasC_setCore (a k : Nat) (x : Core) : biasC a (setCore k x s) = biasC a s := rfl
@[simp] theorem biasC_setWit (a e : Nat) (x : Wit) : biasC a (setWit e x s) = biasC a s := rfl
@[simp] theorem biasC_setPort (a p : Nat) (x : Port) : biasC a (setPort p x s) = biasC a s := rfl
@[simp] theorem biasC_setPset (a j : Nat) (x : PSet) : biasC a (setPset j x s) = biasC a s := rfl
@[simp] theorem biasC_setDecoder (a e : Nat) (x : Decoder) : biasC a (setDecoder e x s) = biasC a s := rfl
@[simp] theorem biasC_setVent (a i : Nat) (x : VEnt) : biasC a (setVent i x s) = biasC a s := rfl
@[simp] theorem biasC_setBarrier (a b : Nat) (x : Barrier) : biasC a (setBarrier b x s) = biasC a s := rfl
@[simp] theorem biasC_setSense (a n : Nat) (x : Sense) : biasC a (setSense n x s) = biasC a s := rfl
@[simp] theorem adc_setR (a off : Nat) (v : W40) : adc a (setR off v s) = adc a s := rfl
@[simp] theorem adc_setF (a off : Nat) (v : W40) : adc a (setF off v s) = adc a s := rfl
@[simp] theorem adc_setRing (a n : Nat) (r : Ring) : adc a (setRing n r s) = adc a s := rfl
@[simp] theorem adc_setSeq (a g : Nat) (q : Seq) : adc a (setSeq g q s) = adc a s := rfl
@[simp] theorem adc_setDrv (a g : Nat) (x : Tone) : adc a (setDrv g x s) = adc a s := rfl
@[simp] theorem adc_setPrb (a g : Nat) (x : Tone) : adc a (setPrb g x s) = adc a s := rfl
@[simp] theorem adc_setFlux (a g : Nat) (x : Flux) : adc a (setFlux g x s) = adc a s := rfl
@[simp] theorem adc_setOut (a o : Nat) (x : Output) : adc a (setOut o x s) = adc a s := rfl
@[simp] theorem adc_setBias (a g : Nat) (x : Bias) : adc a (setBias g x s) = adc a s := rfl
@[simp] theorem adc_setSlot (a g : Nat) (x : Slot) : adc a (setSlot g x s) = adc a s := rfl
@[simp] theorem adc_setCore (a k : Nat) (x : Core) : adc a (setCore k x s) = adc a s := rfl
@[simp] theorem adc_setWit (a e : Nat) (x : Wit) : adc a (setWit e x s) = adc a s := rfl
@[simp] theorem adc_setPort (a p : Nat) (x : Port) : adc a (setPort p x s) = adc a s := rfl
@[simp] theorem adc_setPset (a j : Nat) (x : PSet) : adc a (setPset j x s) = adc a s := rfl
@[simp] theorem adc_setDecoder (a e : Nat) (x : Decoder) : adc a (setDecoder e x s) = adc a s := rfl
@[simp] theorem adc_setVent (a i : Nat) (x : VEnt) : adc a (setVent i x s) = adc a s := rfl
@[simp] theorem adc_setBarrier (a b : Nat) (x : Barrier) : adc a (setBarrier b x s) = adc a s := rfl
@[simp] theorem adc_setSense (a n : Nat) (x : Sense) : adc a (setSense n x s) = adc a s := rfl
@[simp] theorem slot_setR (a off : Nat) (v : W40) : slot a (setR off v s) = slot a s := rfl
@[simp] theorem slot_setF (a off : Nat) (v : W40) : slot a (setF off v s) = slot a s := rfl
@[simp] theorem slot_setRing (a n : Nat) (r : Ring) : slot a (setRing n r s) = slot a s := rfl
@[simp] theorem slot_setSeq (a g : Nat) (q : Seq) : slot a (setSeq g q s) = slot a s := rfl
@[simp] theorem slot_setDrv (a g : Nat) (x : Tone) : slot a (setDrv g x s) = slot a s := rfl
@[simp] theorem slot_setPrb (a g : Nat) (x : Tone) : slot a (setPrb g x s) = slot a s := rfl
@[simp] theorem slot_setFlux (a g : Nat) (x : Flux) : slot a (setFlux g x s) = slot a s := rfl
@[simp] theorem slot_setOut (a o : Nat) (x : Output) : slot a (setOut o x s) = slot a s := rfl
@[simp] theorem slot_setBias (a g : Nat) (x : Bias) : slot a (setBias g x s) = slot a s := rfl
@[simp] theorem slot_setAdc (a b : Nat) (x : Adc) : slot a (setAdc b x s) = slot a s := rfl
@[simp] theorem slot_setCore (a k : Nat) (x : Core) : slot a (setCore k x s) = slot a s := rfl
@[simp] theorem slot_setWit (a e : Nat) (x : Wit) : slot a (setWit e x s) = slot a s := rfl
@[simp] theorem slot_setPort (a p : Nat) (x : Port) : slot a (setPort p x s) = slot a s := rfl
@[simp] theorem slot_setPset (a j : Nat) (x : PSet) : slot a (setPset j x s) = slot a s := rfl
@[simp] theorem slot_setDecoder (a e : Nat) (x : Decoder) : slot a (setDecoder e x s) = slot a s := rfl
@[simp] theorem slot_setVent (a i : Nat) (x : VEnt) : slot a (setVent i x s) = slot a s := rfl
@[simp] theorem slot_setBarrier (a b : Nat) (x : Barrier) : slot a (setBarrier b x s) = slot a s := rfl
@[simp] theorem slot_setSense (a n : Nat) (x : Sense) : slot a (setSense n x s) = slot a s := rfl
@[simp] theorem core_setR (a off : Nat) (v : W40) : core a (setR off v s) = core a s := rfl
@[simp] theorem core_setF (a off : Nat) (v : W40) : core a (setF off v s) = core a s := rfl
@[simp] theorem core_setRing (a n : Nat) (r : Ring) : core a (setRing n r s) = core a s := rfl
@[simp] theorem core_setSeq (a g : Nat) (q : Seq) : core a (setSeq g q s) = core a s := rfl
@[simp] theorem core_setDrv (a g : Nat) (x : Tone) : core a (setDrv g x s) = core a s := rfl
@[simp] theorem core_setPrb (a g : Nat) (x : Tone) : core a (setPrb g x s) = core a s := rfl
@[simp] theorem core_setFlux (a g : Nat) (x : Flux) : core a (setFlux g x s) = core a s := rfl
@[simp] theorem core_setOut (a o : Nat) (x : Output) : core a (setOut o x s) = core a s := rfl
@[simp] theorem core_setBias (a g : Nat) (x : Bias) : core a (setBias g x s) = core a s := rfl
@[simp] theorem core_setAdc (a b : Nat) (x : Adc) : core a (setAdc b x s) = core a s := rfl
@[simp] theorem core_setSlot (a g : Nat) (x : Slot) : core a (setSlot g x s) = core a s := rfl
@[simp] theorem core_setWit (a e : Nat) (x : Wit) : core a (setWit e x s) = core a s := rfl
@[simp] theorem core_setPort (a p : Nat) (x : Port) : core a (setPort p x s) = core a s := rfl
@[simp] theorem core_setPset (a j : Nat) (x : PSet) : core a (setPset j x s) = core a s := rfl
@[simp] theorem core_setDecoder (a e : Nat) (x : Decoder) : core a (setDecoder e x s) = core a s := rfl
@[simp] theorem core_setVent (a i : Nat) (x : VEnt) : core a (setVent i x s) = core a s := rfl
@[simp] theorem core_setBarrier (a b : Nat) (x : Barrier) : core a (setBarrier b x s) = core a s := rfl
@[simp] theorem core_setSense (a n : Nat) (x : Sense) : core a (setSense n x s) = core a s := rfl
@[simp] theorem wit_setR (a off : Nat) (v : W40) : wit a (setR off v s) = wit a s := rfl
@[simp] theorem wit_setF (a off : Nat) (v : W40) : wit a (setF off v s) = wit a s := rfl
@[simp] theorem wit_setRing (a n : Nat) (r : Ring) : wit a (setRing n r s) = wit a s := rfl
@[simp] theorem wit_setSeq (a g : Nat) (q : Seq) : wit a (setSeq g q s) = wit a s := rfl
@[simp] theorem wit_setDrv (a g : Nat) (x : Tone) : wit a (setDrv g x s) = wit a s := rfl
@[simp] theorem wit_setPrb (a g : Nat) (x : Tone) : wit a (setPrb g x s) = wit a s := rfl
@[simp] theorem wit_setFlux (a g : Nat) (x : Flux) : wit a (setFlux g x s) = wit a s := rfl
@[simp] theorem wit_setOut (a o : Nat) (x : Output) : wit a (setOut o x s) = wit a s := rfl
@[simp] theorem wit_setBias (a g : Nat) (x : Bias) : wit a (setBias g x s) = wit a s := rfl
@[simp] theorem wit_setAdc (a b : Nat) (x : Adc) : wit a (setAdc b x s) = wit a s := rfl
@[simp] theorem wit_setSlot (a g : Nat) (x : Slot) : wit a (setSlot g x s) = wit a s := rfl
@[simp] theorem wit_setCore (a k : Nat) (x : Core) : wit a (setCore k x s) = wit a s := rfl
@[simp] theorem wit_setPort (a p : Nat) (x : Port) : wit a (setPort p x s) = wit a s := rfl
@[simp] theorem wit_setPset (a j : Nat) (x : PSet) : wit a (setPset j x s) = wit a s := rfl
@[simp] theorem wit_setDecoder (a e : Nat) (x : Decoder) : wit a (setDecoder e x s) = wit a s := rfl
@[simp] theorem wit_setVent (a i : Nat) (x : VEnt) : wit a (setVent i x s) = wit a s := rfl
@[simp] theorem wit_setBarrier (a b : Nat) (x : Barrier) : wit a (setBarrier b x s) = wit a s := rfl
@[simp] theorem wit_setSense (a n : Nat) (x : Sense) : wit a (setSense n x s) = wit a s := rfl
@[simp] theorem port_setR (a off : Nat) (v : W40) : port a (setR off v s) = port a s := rfl
@[simp] theorem port_setF (a off : Nat) (v : W40) : port a (setF off v s) = port a s := rfl
@[simp] theorem port_setRing (a n : Nat) (r : Ring) : port a (setRing n r s) = port a s := rfl
@[simp] theorem port_setSeq (a g : Nat) (q : Seq) : port a (setSeq g q s) = port a s := rfl
@[simp] theorem port_setDrv (a g : Nat) (x : Tone) : port a (setDrv g x s) = port a s := rfl
@[simp] theorem port_setPrb (a g : Nat) (x : Tone) : port a (setPrb g x s) = port a s := rfl
@[simp] theorem port_setFlux (a g : Nat) (x : Flux) : port a (setFlux g x s) = port a s := rfl
@[simp] theorem port_setOut (a o : Nat) (x : Output) : port a (setOut o x s) = port a s := rfl
@[simp] theorem port_setBias (a g : Nat) (x : Bias) : port a (setBias g x s) = port a s := rfl
@[simp] theorem port_setAdc (a b : Nat) (x : Adc) : port a (setAdc b x s) = port a s := rfl
@[simp] theorem port_setSlot (a g : Nat) (x : Slot) : port a (setSlot g x s) = port a s := rfl
@[simp] theorem port_setCore (a k : Nat) (x : Core) : port a (setCore k x s) = port a s := rfl
@[simp] theorem port_setWit (a e : Nat) (x : Wit) : port a (setWit e x s) = port a s := rfl
@[simp] theorem port_setPset (a j : Nat) (x : PSet) : port a (setPset j x s) = port a s := rfl
@[simp] theorem port_setDecoder (a e : Nat) (x : Decoder) : port a (setDecoder e x s) = port a s := rfl
@[simp] theorem port_setVent (a i : Nat) (x : VEnt) : port a (setVent i x s) = port a s := rfl
@[simp] theorem port_setBarrier (a b : Nat) (x : Barrier) : port a (setBarrier b x s) = port a s := rfl
@[simp] theorem port_setSense (a n : Nat) (x : Sense) : port a (setSense n x s) = port a s := rfl
@[simp] theorem pset_setR (a off : Nat) (v : W40) : pset a (setR off v s) = pset a s := rfl
@[simp] theorem pset_setF (a off : Nat) (v : W40) : pset a (setF off v s) = pset a s := rfl
@[simp] theorem pset_setRing (a n : Nat) (r : Ring) : pset a (setRing n r s) = pset a s := rfl
@[simp] theorem pset_setSeq (a g : Nat) (q : Seq) : pset a (setSeq g q s) = pset a s := rfl
@[simp] theorem pset_setDrv (a g : Nat) (x : Tone) : pset a (setDrv g x s) = pset a s := rfl
@[simp] theorem pset_setPrb (a g : Nat) (x : Tone) : pset a (setPrb g x s) = pset a s := rfl
@[simp] theorem pset_setFlux (a g : Nat) (x : Flux) : pset a (setFlux g x s) = pset a s := rfl
@[simp] theorem pset_setOut (a o : Nat) (x : Output) : pset a (setOut o x s) = pset a s := rfl
@[simp] theorem pset_setBias (a g : Nat) (x : Bias) : pset a (setBias g x s) = pset a s := rfl
@[simp] theorem pset_setAdc (a b : Nat) (x : Adc) : pset a (setAdc b x s) = pset a s := rfl
@[simp] theorem pset_setSlot (a g : Nat) (x : Slot) : pset a (setSlot g x s) = pset a s := rfl
@[simp] theorem pset_setCore (a k : Nat) (x : Core) : pset a (setCore k x s) = pset a s := rfl
@[simp] theorem pset_setWit (a e : Nat) (x : Wit) : pset a (setWit e x s) = pset a s := rfl
@[simp] theorem pset_setPort (a p : Nat) (x : Port) : pset a (setPort p x s) = pset a s := rfl
@[simp] theorem pset_setDecoder (a e : Nat) (x : Decoder) : pset a (setDecoder e x s) = pset a s := rfl
@[simp] theorem pset_setVent (a i : Nat) (x : VEnt) : pset a (setVent i x s) = pset a s := rfl
@[simp] theorem pset_setBarrier (a b : Nat) (x : Barrier) : pset a (setBarrier b x s) = pset a s := rfl
@[simp] theorem pset_setSense (a n : Nat) (x : Sense) : pset a (setSense n x s) = pset a s := rfl
@[simp] theorem decoder_setR (a off : Nat) (v : W40) : decoder a (setR off v s) = decoder a s := rfl
@[simp] theorem decoder_setF (a off : Nat) (v : W40) : decoder a (setF off v s) = decoder a s := rfl
@[simp] theorem decoder_setRing (a n : Nat) (r : Ring) : decoder a (setRing n r s) = decoder a s := rfl
@[simp] theorem decoder_setSeq (a g : Nat) (q : Seq) : decoder a (setSeq g q s) = decoder a s := rfl
@[simp] theorem decoder_setDrv (a g : Nat) (x : Tone) : decoder a (setDrv g x s) = decoder a s := rfl
@[simp] theorem decoder_setPrb (a g : Nat) (x : Tone) : decoder a (setPrb g x s) = decoder a s := rfl
@[simp] theorem decoder_setFlux (a g : Nat) (x : Flux) : decoder a (setFlux g x s) = decoder a s := rfl
@[simp] theorem decoder_setOut (a o : Nat) (x : Output) : decoder a (setOut o x s) = decoder a s := rfl
@[simp] theorem decoder_setBias (a g : Nat) (x : Bias) : decoder a (setBias g x s) = decoder a s := rfl
@[simp] theorem decoder_setAdc (a b : Nat) (x : Adc) : decoder a (setAdc b x s) = decoder a s := rfl
@[simp] theorem decoder_setSlot (a g : Nat) (x : Slot) : decoder a (setSlot g x s) = decoder a s := rfl
@[simp] theorem decoder_setCore (a k : Nat) (x : Core) : decoder a (setCore k x s) = decoder a s := rfl
@[simp] theorem decoder_setWit (a e : Nat) (x : Wit) : decoder a (setWit e x s) = decoder a s := rfl
@[simp] theorem decoder_setPort (a p : Nat) (x : Port) : decoder a (setPort p x s) = decoder a s := rfl
@[simp] theorem decoder_setPset (a j : Nat) (x : PSet) : decoder a (setPset j x s) = decoder a s := rfl
@[simp] theorem decoder_setVent (a i : Nat) (x : VEnt) : decoder a (setVent i x s) = decoder a s := rfl
@[simp] theorem decoder_setBarrier (a b : Nat) (x : Barrier) : decoder a (setBarrier b x s) = decoder a s := rfl
@[simp] theorem decoder_setSense (a n : Nat) (x : Sense) : decoder a (setSense n x s) = decoder a s := rfl
@[simp] theorem vent_setR (a off : Nat) (v : W40) : vent a (setR off v s) = vent a s := rfl
@[simp] theorem vent_setF (a off : Nat) (v : W40) : vent a (setF off v s) = vent a s := rfl
@[simp] theorem vent_setRing (a n : Nat) (r : Ring) : vent a (setRing n r s) = vent a s := rfl
@[simp] theorem vent_setSeq (a g : Nat) (q : Seq) : vent a (setSeq g q s) = vent a s := rfl
@[simp] theorem vent_setDrv (a g : Nat) (x : Tone) : vent a (setDrv g x s) = vent a s := rfl
@[simp] theorem vent_setPrb (a g : Nat) (x : Tone) : vent a (setPrb g x s) = vent a s := rfl
@[simp] theorem vent_setFlux (a g : Nat) (x : Flux) : vent a (setFlux g x s) = vent a s := rfl
@[simp] theorem vent_setOut (a o : Nat) (x : Output) : vent a (setOut o x s) = vent a s := rfl
@[simp] theorem vent_setBias (a g : Nat) (x : Bias) : vent a (setBias g x s) = vent a s := rfl
@[simp] theorem vent_setAdc (a b : Nat) (x : Adc) : vent a (setAdc b x s) = vent a s := rfl
@[simp] theorem vent_setSlot (a g : Nat) (x : Slot) : vent a (setSlot g x s) = vent a s := rfl
@[simp] theorem vent_setCore (a k : Nat) (x : Core) : vent a (setCore k x s) = vent a s := rfl
@[simp] theorem vent_setWit (a e : Nat) (x : Wit) : vent a (setWit e x s) = vent a s := rfl
@[simp] theorem vent_setPort (a p : Nat) (x : Port) : vent a (setPort p x s) = vent a s := rfl
@[simp] theorem vent_setPset (a j : Nat) (x : PSet) : vent a (setPset j x s) = vent a s := rfl
@[simp] theorem vent_setDecoder (a e : Nat) (x : Decoder) : vent a (setDecoder e x s) = vent a s := rfl
@[simp] theorem vent_setBarrier (a b : Nat) (x : Barrier) : vent a (setBarrier b x s) = vent a s := rfl
@[simp] theorem vent_setSense (a n : Nat) (x : Sense) : vent a (setSense n x s) = vent a s := rfl
@[simp] theorem barrier_setR (a off : Nat) (v : W40) : barrier a (setR off v s) = barrier a s := rfl
@[simp] theorem barrier_setF (a off : Nat) (v : W40) : barrier a (setF off v s) = barrier a s := rfl
@[simp] theorem barrier_setRing (a n : Nat) (r : Ring) : barrier a (setRing n r s) = barrier a s := rfl
@[simp] theorem barrier_setSeq (a g : Nat) (q : Seq) : barrier a (setSeq g q s) = barrier a s := rfl
@[simp] theorem barrier_setDrv (a g : Nat) (x : Tone) : barrier a (setDrv g x s) = barrier a s := rfl
@[simp] theorem barrier_setPrb (a g : Nat) (x : Tone) : barrier a (setPrb g x s) = barrier a s := rfl
@[simp] theorem barrier_setFlux (a g : Nat) (x : Flux) : barrier a (setFlux g x s) = barrier a s := rfl
@[simp] theorem barrier_setOut (a o : Nat) (x : Output) : barrier a (setOut o x s) = barrier a s := rfl
@[simp] theorem barrier_setBias (a g : Nat) (x : Bias) : barrier a (setBias g x s) = barrier a s := rfl
@[simp] theorem barrier_setAdc (a b : Nat) (x : Adc) : barrier a (setAdc b x s) = barrier a s := rfl
@[simp] theorem barrier_setSlot (a g : Nat) (x : Slot) : barrier a (setSlot g x s) = barrier a s := rfl
@[simp] theorem barrier_setCore (a k : Nat) (x : Core) : barrier a (setCore k x s) = barrier a s := rfl
@[simp] theorem barrier_setWit (a e : Nat) (x : Wit) : barrier a (setWit e x s) = barrier a s := rfl
@[simp] theorem barrier_setPort (a p : Nat) (x : Port) : barrier a (setPort p x s) = barrier a s := rfl
@[simp] theorem barrier_setPset (a j : Nat) (x : PSet) : barrier a (setPset j x s) = barrier a s := rfl
@[simp] theorem barrier_setDecoder (a e : Nat) (x : Decoder) : barrier a (setDecoder e x s) = barrier a s := rfl
@[simp] theorem barrier_setVent (a i : Nat) (x : VEnt) : barrier a (setVent i x s) = barrier a s := rfl
@[simp] theorem barrier_setSense (a n : Nat) (x : Sense) : barrier a (setSense n x s) = barrier a s := rfl
@[simp] theorem sense_setR (a off : Nat) (v : W40) : sense a (setR off v s) = sense a s := rfl
@[simp] theorem sense_setF (a off : Nat) (v : W40) : sense a (setF off v s) = sense a s := rfl
@[simp] theorem sense_setRing (a n : Nat) (r : Ring) : sense a (setRing n r s) = sense a s := rfl
@[simp] theorem sense_setSeq (a g : Nat) (q : Seq) : sense a (setSeq g q s) = sense a s := rfl
@[simp] theorem sense_setDrv (a g : Nat) (x : Tone) : sense a (setDrv g x s) = sense a s := rfl
@[simp] theorem sense_setPrb (a g : Nat) (x : Tone) : sense a (setPrb g x s) = sense a s := rfl
@[simp] theorem sense_setFlux (a g : Nat) (x : Flux) : sense a (setFlux g x s) = sense a s := rfl
@[simp] theorem sense_setOut (a o : Nat) (x : Output) : sense a (setOut o x s) = sense a s := rfl
@[simp] theorem sense_setBias (a g : Nat) (x : Bias) : sense a (setBias g x s) = sense a s := rfl
@[simp] theorem sense_setAdc (a b : Nat) (x : Adc) : sense a (setAdc b x s) = sense a s := rfl
@[simp] theorem sense_setSlot (a g : Nat) (x : Slot) : sense a (setSlot g x s) = sense a s := rfl
@[simp] theorem sense_setCore (a k : Nat) (x : Core) : sense a (setCore k x s) = sense a s := rfl
@[simp] theorem sense_setWit (a e : Nat) (x : Wit) : sense a (setWit e x s) = sense a s := rfl
@[simp] theorem sense_setPort (a p : Nat) (x : Port) : sense a (setPort p x s) = sense a s := rfl
@[simp] theorem sense_setPset (a j : Nat) (x : PSet) : sense a (setPset j x s) = sense a s := rfl
@[simp] theorem sense_setDecoder (a e : Nat) (x : Decoder) : sense a (setDecoder e x s) = sense a s := rfl
@[simp] theorem sense_setVent (a i : Nat) (x : VEnt) : sense a (setVent i x s) = sense a s := rfl
@[simp] theorem sense_setBarrier (a b : Nat) (x : Barrier) : sense a (setBarrier b x s) = sense a s := rfl

/-- A change of sequencer `g` is a setting of it. -/
@[simp] theorem seq_modSeq (g : Nat) (f : Seq → Seq) : seq g (modSeq g f s) = f (seq g s) := by simp [modSeq]
theorem seq_modSeq_ne {g k : Nat} (h : k ≠ g) (f : Seq → Seq) : seq k (modSeq g f s) = seq k s := by
  simp [modSeq, seq_setSeq_ne s h]

end Sys2Proof.Machine
end

