-- ==== Sys2Proof/Laws/Memory.lean ====
section
/-! SUPPORT. Laws of byte memories: a read after a write, the bytes a write leaves alone, words of five bytes (R8), and the
canonical form that every memory operation keeps. -/

namespace Sys2Proof.Machine

/-! ### One byte -/

@[simp] theorem rdByte_wrByte_self (m : List Host.Cell) (a : Nat) (b : Byte) : rdByte (wrByte m a b) a = b :=
  tget_tset_self 0 a b m

theorem rdByte_wrByte_ne (m : List Host.Cell) {a c : Nat} (b : Byte) (h : c ≠ a) : rdByte (wrByte m a b) c = rdByte m c :=
  tget_tset_ne 0 h b m

/-! ### A run of bytes -/

/-- A write of bytes leaves every byte outside it as it was. -/
theorem rdByte_wrBytes_out (bs : List Byte) : ∀ (m : List Host.Cell) {a c : Nat}, (c < a ∨ a + bs.length ≤ c) →
    rdByte (wrBytes m a bs) c = rdByte m c := by
  induction bs with
  | nil => intro m a c _; rfl
  | cons b bs ih =>
    intro m a c h
    simp only [List.length_cons] at h
    rw [wrBytes, ih (wrByte m a b) (by omega), rdByte_wrByte_ne m b (by omega)]

/-- A write of bytes sets byte `i` of its run to byte `i` written. -/
theorem rdByte_wrBytes_in (bs : List Byte) : ∀ (m : List Host.Cell) {a : Nat} (i : Nat) (h : i < bs.length),
    rdByte (wrBytes m a bs) (a + i) = bs[i] := by
  induction bs with
  | nil => intro m a i h; exact absurd h (Nat.not_lt_zero _)
  | cons b bs ih =>
    intro m a i h
    cases i with
    | zero => rw [wrBytes, Nat.add_zero, rdByte_wrBytes_out bs _ (by omega)]; simp
    | succ i =>
      have := ih (wrByte m a b) (a := a + 1) i (by simpa using h)
      rw [wrBytes]
      simpa [Nat.add_assoc, Nat.add_comm 1] using this

@[simp] theorem length_rdBytes (m : List Host.Cell) : ∀ (n a : Nat), (rdBytes m a n).length = n
  | 0, _ => rfl
  | n + 1, a => by simp [rdBytes, length_rdBytes m n]

/-- Bytes written read back. -/
theorem rdBytes_wrBytes (bs : List Byte) : ∀ (m : List Host.Cell) (a : Nat), rdBytes (wrBytes m a bs) a bs.length = bs := by
  induction bs with
  | nil => intro m a; rfl
  | cons b bs ih =>
    intro m a
    have h := rdByte_wrBytes_in (b :: bs) m (a := a) 0 (by simp)
    rw [List.length_cons, rdBytes]
    rw [show rdByte (wrBytes m a (b :: bs)) a = b by simpa using h, wrBytes, ih]

/-- Reading bytes that a write does not touch. -/
theorem rdBytes_congr {m k : List Host.Cell} : ∀ (n a : Nat), (∀ i, a ≤ i → i < a + n → rdByte m i = rdByte k i) →
    rdBytes m a n = rdBytes k a n
  | 0, _, _ => rfl
  | n + 1, a, h => by
    rw [rdBytes, rdBytes, h a (Nat.le_refl _) (by omega), rdBytes_congr n (a + 1) (fun i hi hj => h i (by omega) (by omega))]

/-! ### Words -/

@[simp] theorem length_toLe : ∀ (n x : Nat), (toLe n x).length = n
  | 0, _ => rfl
  | n + 1, x => by simp [toLe, length_toLe n]

/-- The bytes of a number spell it again. -/
theorem leNat_toLe : ∀ (n x : Nat), x < 256 ^ n → leNat (toLe n x) = x
  | 0, x, h => by
    have : x = 0 := by simpa using h
    simp [toLe, leNat, this]
  | n + 1, x, h => by
    have h1 : x / 256 < 256 ^ n := by
      rw [Nat.div_lt_iff_lt_mul (by decide)]
      simpa [Nat.pow_succ] using h
    rw [toLe, leNat, leNat_toLe n (x / 256) h1, BitVec.toNat_ofNat]
    omega

/-- A word written reads back. -/
@[simp] theorem rdWord_wrWord (m : List Host.Cell) (a : Nat) (v : W40) : rdWord (wrWord m a v) a = v := by
  have h : rdBytes (wrWord m a v) a 5 = toLe 5 v.toNat := by
    have := rdBytes_wrBytes (toLe 5 v.toNat) m a
    simpa [wrWord] using this
  rw [rdWord, h, leNat_toLe 5 v.toNat (lt_of_lt_of_le v.isLt (by decide))]
  simp [w]

/-- A write of a word leaves the bytes outside its five as they were. -/
theorem rdByte_wrWord_out (m : List Host.Cell) {a c : Nat} (v : W40) (h : c < a ∨ a + 5 ≤ c) :
    rdByte (wrWord m a v) c = rdByte m c :=
  rdByte_wrBytes_out _ m (by simpa using h)

/-- A write of words leaves the bytes outside them as they were. -/
theorem rdByte_wrWords_out (vs : List W40) : ∀ (m : List Host.Cell) {a c : Nat}, (c < a ∨ a + 5 * vs.length ≤ c) →
    rdByte (wrWords m a vs) c = rdByte m c := by
  induction vs with
  | nil => intro m a c _; rfl
  | cons v vs ih =>
    intro m a c h
    simp only [List.length_cons] at h
    rw [wrWords, ih _ (by omega), rdByte_wrWord_out m v (by omega)]

theorem rdWord_congr {m k : List Host.Cell} {a : Nat} (h : ∀ i, a ≤ i → i < a + 5 → rdByte m i = rdByte k i) :
    rdWord m a = rdWord k a := by
  rw [rdWord, rdWord, rdBytes_congr 5 a h]

/-- Words written read back. -/
theorem rdWords_wrWords (vs : List W40) : ∀ (m : List Host.Cell) (a : Nat), rdWords (wrWords m a vs) a vs.length = vs := by
  induction vs with
  | nil => intro m a; rfl
  | cons v vs ih =>
    intro m a
    rw [List.length_cons, rdWords, wrWords, ih]
    rw [rdWord_congr (k := wrWord m a v) (fun i _ hi => rdByte_wrWords_out vs _ (by omega)), rdWord_wrWord]

/-! ### The canonical form -/

/-- `memWf` says that a memory is a table in canonical form. -/
theorem memWf_iff : ∀ m : List Host.Cell, memWf m = true ↔ TabOk 0 m
  | [] => by simp [memWf, TabOk]
  | [(a, b)] => by simp [memWf, TabOk]
  | (a, b) :: (c, d) :: t => by
    have ih := memWf_iff ((c, d) :: t)
    rw [memWf]
    simp only [Bool.and_eq_true, bne_iff_ne, decide_eq_true_eq, ih]
    constructor
    · rintro ⟨⟨hb, hac⟩, hp, hz⟩
      refine ⟨List.pairwise_cons.2 ⟨fun e he => ?_, hp⟩, fun e he => ?_⟩
      · rcases List.mem_cons.1 he with rfl | he
        · exact hac
        · exact Nat.lt_trans hac ((List.pairwise_cons.1 hp).1 e he)
      · rcases List.mem_cons.1 he with rfl | he
        · exact hb
        · exact hz e he
    · rintro ⟨hp, hz⟩
      have hp' := List.pairwise_cons.1 hp
      exact ⟨⟨hz (a, b) List.mem_cons_self, hp'.1 (c, d) List.mem_cons_self⟩, hp'.2,
        fun e he => hz e (List.mem_cons_of_mem _ he)⟩

theorem wrByte_wf {m : List Host.Cell} (a : Nat) (b : Byte) (h : memWf m = true) : memWf (wrByte m a b) = true :=
  (memWf_iff _).2 (tset_ok a b ((memWf_iff _).1 h))

theorem wrBytes_wf (bs : List Byte) : ∀ {m : List Host.Cell} (a : Nat), memWf m = true → memWf (wrBytes m a bs) = true := by
  induction bs with
  | nil => intro m a h; exact h
  | cons b bs ih => intro m a h; exact ih (a + 1) (wrByte_wf a b h)

theorem wrWord_wf {m : List Host.Cell} (a : Nat) (v : W40) (h : memWf m = true) : memWf (wrWord m a v) = true :=
  wrBytes_wf _ a h

theorem wrWords_wf (vs : List W40) : ∀ {m : List Host.Cell} (a : Nat), memWf m = true → memWf (wrWords m a vs) = true := by
  induction vs with
  | nil => intro m a h; exact h
  | cons v vs ih => intro m a h; exact ih (a + 5) (wrWord_wf a v h)

theorem wrSlots_wf (r : Ring) (sl : List (List W40)) : ∀ {m : List Host.Cell} (c : W40), memWf m = true →
    memWf (wrSlots r m c sl) = true := by
  induction sl with
  | nil => intro m c h; exact h
  | cons x sl ih => intro m c h; exact ih (c + 1) (wrWords_wf x _ h)

theorem filter_wf {m : List Host.Cell} (p : Host.Cell → Bool) (h : memWf m = true) : memWf (m.filter p) = true :=
  (memWf_iff _).2 (filter_ok p ((memWf_iff _).1 h))

theorem zeroRange_wf {m : List Host.Cell} (a b : Nat) (h : memWf m = true) : memWf (zeroRange a b m) = true :=
  filter_wf _ h

/-- Two memories in canonical form that read alike are equal. -/
theorem mem_ext {m k : List Host.Cell} (hm : memWf m = true) (hk : memWf k = true) (h : ∀ a, rdByte m a = rdByte k a) :
    m = k :=
  tab_ext ((memWf_iff _).1 hm) ((memWf_iff _).1 hk) h

end Sys2Proof.Machine
end

