-- ==== Sys2Proof/Laws/Seq.lean ====
section
/-! SUPPORT. What the shared operations of the sequencers do, once each: the issue of an instruction, its advance, the entry of an
action on time, and a program fault. -/

namespace Sys2Proof.Machine

variable {g op : Nat} {v : W40} {s : State}

/-- In the situation of an issue, a row of that opcode acts on the word and the issue tick. -/
theorem issueRow_issues (h : Issues g v s) (hop : fld v 39 34 = op) (act : W40 → Tick → State → State) :
    issueRow op g act s = act v (seq g s).issueAt s := by
  obtain ⟨hg, hst, hb, hd, hpc, hv⟩ := h
  have hm : mayIssue g s = true := by simp [mayIssue, hg, hst, hb, hd]
  simp only [issueRow, hm, if_true, if_neg (Nat.not_le.2 hpc), hv, if_pos hop]

/-- Where sequencer `g` may not issue, a row changes nothing. -/
theorem issueRow_not (h : mayIssue g s = false) (act : W40 → Tick → State → State) : issueRow op g act s = s := by
  simp [issueRow, h]

/-- An action row in the situation of an issue, with room in the queue (R78). -/
theorem actionRow_issues (h : Issues g v s) (hop : fld v 39 34 = op) (hq : (seq g s).queue.length < 64)
    (hr : due (roomTick (seq g s)) s = true) (act : W40 → Tick → State → State) :
    actionRow op g act s = act v (roomTick (seq g s))
      (modSeq g (fun q => { q with issueAt := roomTick (seq g s), roomAt := none }) s) := by
  simp [actionRow, issueRow_issues h hop, Nat.not_le.2 hq, hr]

theorem onlySeq_modSeq (g : Nat) (f : Seq → Seq) (s : State) : OnlySeq g s (modSeq g f s) :=
  ⟨rfl, fun _ hk => seq_modSeq_ne s hk f⟩

theorem OnlySeq.refl (g : Nat) (s : State) : OnlySeq g s s := ⟨rfl, fun _ _ => rfl⟩

theorem OnlySeq.trans {s t u : State} (h : OnlySeq g s t) (k : OnlySeq g t u) : OnlySeq g s u := by
  refine ⟨?_, fun j hj => (k.2 j hj).trans (h.2 j hj)⟩
  have h1 := k.1
  rw [h.1] at h1
  exact h1

theorem onlySeq_goOn (g n k : Nat) (s : State) : OnlySeq g s (goOn g n k s) := onlySeq_modSeq g _ s
theorem onlySeq_goTo (g a k : Nat) (s : State) : OnlySeq g s (goTo g a k s) := onlySeq_modSeq g _ s
theorem onlySeq_setGReg (g i : Nat) (v : W40) (s : State) : OnlySeq g s (setGReg g i v s) := onlySeq_modSeq g _ s
theorem onlySeq_setCursor (g : Nat) (c : Tick) (s : State) : OnlySeq g s (setCursor g c s) := onlySeq_modSeq g _ s
theorem onlySeq_queueEntry (x : QEntry) (g : Nat) (s : State) : OnlySeq g s (queueEntry x g s) := onlySeq_modSeq g _ s
theorem onlySeq_completeAt (x : Tick) (d g : Nat) (s : State) : OnlySeq g s (completeAt x d g s) := onlySeq_modSeq g _ s

@[simp] theorem seq_goOn (g n k : Nat) (s : State) : seq g (goOn g n k s) = advanced (seq g s) n k := by
  simp [goOn, advanced]
@[simp] theorem seq_goTo (g a k : Nat) (s : State) :
    seq g (goTo g a k s) = { seq g s with pc := a, issueAt := plus (seq g s).issueAt k } := by
  simp [goTo]
@[simp] theorem seq_setGReg (g i : Nat) (v : W40) (s : State) :
    seq g (setGReg g i v s) = { seq g s with g := tset 0 i v (seq g s).g } := by
  simp [setGReg]
@[simp] theorem seq_setCursor (g : Nat) (c : Tick) (s : State) : seq g (setCursor g c s) = { seq g s with cursor := c } := by
  simp [setCursor]
@[simp] theorem seq_queueEntry (x : QEntry) (g : Nat) (s : State) : seq g (queueEntry x g s) =
    { seq g s with queue := insertEntry x (seq g s).queue, ends := endsWith x.fin (seq g s).ends } := by
  simp [queueEntry]
@[simp] theorem seq_completeAt (x : Tick) (d g : Nat) (s : State) : seq g (completeAt x d g s) =
    { seq g s with st := .running, wait := .none, cursor := later (seq g s).cursor (plus x 7), issueAt := plus x d } := by
  simp [completeAt]

/-- The place of an entry in a timeline queue (R77): behind all that launch no later, before the next. -/
theorem insertEntry_place (x : QEntry) : ∀ l : List QEntry, ∃ pre post, l = pre ++ post ∧ insertEntry x l = pre ++ x :: post ∧
    (∀ e ∈ pre, notBefore x.launch e.launch = true) ∧ ∀ e ∈ post.head?, notBefore x.launch e.launch = false
  | [] => ⟨[], [], rfl, rfl, by simp, by simp⟩
  | y :: t => by
    by_cases h : notBefore x.launch y.launch = true
    · obtain ⟨pre, post, h1, h2, h3, h4⟩ := insertEntry_place x t
      refine ⟨y :: pre, post, by rw [h1]; rfl, by simp [insertEntry, h, h2], fun e he => ?_, h4⟩
      rcases List.mem_cons.1 he with rfl | he
      · exact h
      · exact h3 e he
    · refine ⟨[], y :: t, rfl, by simp [insertEntry, h], by simp, ?_⟩
      simpa using h

/-- An action on time joins the queue (R80). -/
theorem enqueue_onTime {e : Tick} {x : QEntry} (h : lateness e x.launch g s = none) : enqueue e x g s = queueEntry x g s := by
  simp [enqueue, h]

/-- Lateness is none for a launch tick that is not before E + 4 nor before the shot, with fewer than eight entries of that tick. -/
theorem lateness_none {e x : Tick} (h4 : notBefore x (plus e 4) = true) (hs : notBefore x (seq g s).start = true)
    (h8 : ((seq g s).queue.filter (fun y => y.launch == x)).length
      + (s.down.filter (fun y => y.1 == g && y.2.launch == x)).length < 8) : lateness e x g s = none := by
  simp only [lateness, h4, hs]
  simp [Nat.not_le.2 h8]

/-- A program fault while entries wait in the queue (R75): FAULTED, the queue stays, one record. -/
theorem seqFault_queued (kind a : Nat) (hq : (seq g s).queue ≠ []) :
    seqFault kind a g s = record (0x1000 + g) 0x300 (kind * 2 ^ 17) (w (g * 2 ^ 20 + a))
      (modSeq g (fun q => { q with st := .faulted, wait := .none, bound := none }) s) := by
  have h : (seq g (record (0x1000 + g) 0x300 (kind * 2 ^ 17) (w (g * 2 ^ 20 + a))
      (modSeq g (fun q => { q with st := .faulted, wait := .none, bound := none }) s))).queue.isEmpty = false := by
    show ((seq g (modSeq g (fun q => { q with st := .faulted, wait := .none, bound := none }) s)).queue).isEmpty = false
    simpa using hq
  rw [seqFault]
  exact if_neg (by rw [h]; decide)

/-- What a record adds (R438): itself, behind the records of the tick. -/
theorem logged_record (src code detail : Nat) (w3 : W40) (s : State) (h1 : src < 2 ^ 16) (h2 : code < 2 ^ 16)
    (h3 : detail < 2 ^ 20) : Logged src code detail w3 s (record src code detail w3 s) := by
  refine ⟨_, rfl, ?_, ?_, ?_, rfl, rfl, rfl⟩ <;> simp [BitVec.toNat_ofNat] <;> omega

end Sys2Proof.Machine
end

