-- ==== Sys2Proof/Machine/Balls.lean ====
section
/-! DEFINITION. The package: which signal each ball carries (R427-R431), and what the output and input balls show in each
lifecycle state and mode (Table 2.2, Table 2.4, R16, R37, R39, R41, R64, R143, R144, R147, R367, R377, R380, R388). -/

namespace Sys2Proof.Machine

/-! ### The ball map (R427-R431) -/

/-- The signals of the package (Table 23.3, Table 23.4). A Boolean is the _P leg of a pair; a lane 0 of a port is its clock lane. -/
inductive Sig where
  | gnd | vcore | vtile | vrfa | vrfb | vhbm11 | vhbm18 | vfluxp | vfluxn | vio | vaux
  | xyOut (p : Bool) (t x : Nat)
  | probeOut (p : Bool) (t f : Nat)
  | readIn (p : Bool) (t f : Nat)
  | fluxOut (t c : Nat)
  | fluxRtn (t c : Nat)
  | trip (t : Nat)
  | yalan (tx p : Bool) (port lane : Nat)
  | pcieTx (p : Bool) (n : Nat)
  | pcieRx (p : Bool) (n : Nat)
  | pcieRefclk (p : Bool)
  | perstN
  | sense (kind n : Nat)
  | refIn (p : Bool)
  | syncIn | syncOut | resetN | alertN | mgmtScl | mgmtSda
  | mgmtAddr (i : Nat)
  | tck | tms | tdi | tdo | trstN
  deriving DecidableEq, Repr

/-- The signal of local ball (i, j) of tile `t` (Table 23.3). -/
def tileBall (t i j : Nat) : Sig :=
  let pair := decide (j % 2 = 1) && decide (j ≤ 15)
  match i with
  | 1 => if 1 ≤ j ∧ j ≤ 16 then .xyOut true t (j - 1) else .gnd
  | 2 => if 1 ≤ j ∧ j ≤ 16 then .xyOut false t (j - 1) else .gnd
  | 4 => if pair then .probeOut true t (j / 2) else .gnd
  | 5 => if pair then .probeOut false t (j / 2) else .gnd
  | 7 => if pair then .readIn true t (j / 2) else .gnd
  | 8 => if pair then .readIn false t (j / 2) else .gnd
  | 22 => if j = 0 then .trip t else if j ≤ 13 then .vtile else .vrfb
  | 23 => if j ≤ 9 then .vrfa else .gnd
  | _ =>
    if 10 ≤ i ∧ i ≤ 21 then
      if j ≤ 15 then (if i % 2 = 0 then .fluxOut t (16 * ((i - 10) / 2) + j) else .fluxRtn t (16 * ((i - 10) / 2) + j))
      else if j = 16 then (if i ≤ 15 then .vfluxp else .vfluxn)
      else .gnd
    else .gnd

/-- The signal of block row `k`, column `c` of the six columns of port `p` (Table 23.4). -/
def portBall (p k c : Nat) : Sig :=
  if k ≤ 5 ∧ (c = 1 ∨ c = 2 ∨ c = 4 ∨ c = 5) then .yalan (decide (c ≤ 2)) (c == 1 || c == 4) p k else .gnd

/-- Row 23 of columns 8..23 of the control band. -/
def miscBall (n : Nat) : Sig :=
  nth .gnd [.refIn true, .refIn false, .gnd, .syncIn, .syncOut, .resetN, .alertN, .mgmtScl, .mgmtSda, .mgmtAddr 0,
    .mgmtAddr 1, .tck, .tms, .tdi, .tdo, .trstN] n

/-- Columns 8..23 of row `m` of the control band, n = column - 8. -/
def bandBall (m n : Nat) : Sig :=
  match m with
  | 1 => .pcieTx true n
  | 2 => .pcieTx false n
  | 4 => .pcieRx true n
  | 5 => .pcieRx false n
  | 7 => if n = 0 then .pcieRefclk true else if n = 1 then .pcieRefclk false else if n = 2 then .perstN else .gnd
  | 8 => .vio
  | 17 => .sense 0 n
  | 18 => .sense 1 n
  | 19 => .sense 2 n
  | 20 => .sense 3 n
  | 21 => .sense 4 n
  | 23 => miscBall n
  | 25 => .vaux
  | _ => if 10 ≤ m ∧ m ≤ 15 ∧ (m + n) % 2 = 0 then .vcore else .gnd

/-- Columns 24..67 of row `m` of the control band. -/
def supplyBall (m c : Nat) : Sig :=
  if (m + c) % 2 = 1 then .gnd
  else if c ≤ 55 then .vcore else if c ≤ 61 then .vhbm11 else if c ≤ 63 then .vhbm18 else if c ≤ 65 then .vio else .vaux

/-- The signal of the ball in row index `r` (0..73), column `c` (1..74). -/
def ballSig (r c : Nat) : Sig :=
  if 24 ≤ r ∧ r ≤ 49 then
    let m := r - 24
    if c ≤ 6 then (if m % 9 = 8 then .gnd else portBall (m / 9) (m % 9) c)
    else if 69 ≤ c then (if m % 9 = 8 then .gnd else portBall (3 + m / 9) (m % 9) (75 - c))
    else if c = 7 ∨ c = 68 then .gnd
    else if c ≤ 23 then bandBall m (c - 8)
    else supplyBall m c
  else if c = 1 ∨ c = 74 then .gnd
  else if r ≤ 23 then tileBall ((c - 2) / 18) r ((c - 2) % 18)
  else tileBall (4 + (73 - c) / 18) (73 - r) ((73 - c) % 18)

/-- The letters of row names. -/
def rowLetters : List Char := ['A', 'B', 'C', 'D', 'E', 'F', 'G', 'H', 'J', 'K', 'L', 'M', 'N', 'P', 'T', 'U', 'V', 'W', 'Y']

/-- The name of row index `r` (R427). -/
def rowName (r : Nat) : List Char :=
  nth [] [[], ['A'], ['B'], ['C']] (r / 19) ++ [nth 'A' rowLetters (r % 19)]

/-- The ball has no connection inside the package (R431). -/
def noConnection (x : Sig) (s : State) : Bool :=
  match x with
  | .xyOut _ t _ | .probeOut _ t _ | .readIn _ t _ | .fluxOut t _ | .fluxRtn t _ | .trip t => decide (nTiles s ≤ t)
  | .yalan _ _ p _ => decide (nPorts s ≤ p)
  | _ => false

/-! ### Outputs (Table 2.2, Table 2.4) -/

/-- What an RF output ball shows: nothing, the mute level, or the 16 codes that stand at the DAC; within 20 ns of the unmute,
attenuated by an amount that R143 leaves open. -/
inductive RfBall where
  | unpowered | muted
  | settling (codes : List Int)
  | driven (codes : List Int)
  deriving DecidableEq, Repr

/-- What the fast part of a flux ball shows: nothing, 0 V, or the two codes of the tick. -/
inductive FluxBall where
  | unpowered | zero
  | driven (codes : List Int)
  deriving DecidableEq, Repr

/-- What the bias part of a flux ball shows; `opened` is 100 kΩ to ground; a voltage in units of 0.5 V / 2^19 (R147). -/
inductive BiasBall where
  | opened
  | volts (x : Int)
  deriving DecidableEq, Repr

/-- What a READ_IN ball is connected to. -/
inductive ReadBall where
  | unpowered | connected | disconnected
  deriving DecidableEq, Repr

/-- The die that drives the balls of tile `t` is not powered: outside STAGING, where the balls are muted before their tile powers up
too (Table 2.2, R372). -/
def tileDark (t : Nat) (s : State) : Bool := !powered s || (s.life != .staging && !tilePowered t s)

/-- XY_OUT or PROBE_OUT ball pair of output `o`: the DAC input of 5 ticks ago (Table 6.5), so that a sample stands at the ball 16 ns
after its launch tick (R76, R142). From a mute on, the ball shows the mute level.
[log: 126 DESIGN CHOICE] -/
def rfBall (o : Nat) (s : State) : RfBall :=
  if tileDark (outTile o) s then .unpowered
  else if ballOpen o s then
    let u := match (outp o s).ball with
      | some (true, u) => u
      | some (false, _) => now s
      | none => ballSince s
    if due (plus u 20) s then .driven (dacAt o 4 s) else .settling (dacAt o 4 s)
  else .muted

/-- The fast part of FLUX_OUT of channel `g`: 0 V from 5 ns after a mute on (R143), and while the relays keep the ball from the output
stage.
[log: 25 DEDUCED] -/
def fluxBall (g : Nat) (s : State) : FluxBall :=
  if tileDark (g / 96) s then .unpowered
  else if relays s || biasDisconnected g s || (dacAt (512 + g) 4 s).isEmpty then .zero
  else .driven (dacAt (512 + g) 4 s)

/-- The bias part of FLUX_OUT of channel `g` (R41, R147, R160, R161). -/
def biasBall (g : Nat) (s : State) : BiasBall :=
  if biasDisconnected g s then .opened else .volts (biasLevel g s)

/-- The voltage at FLUX_OUT of channel `g` for each half of the tick: fast part and bias part added and held to the compliance (R141), in
units of 0.1 V / (2^19 · 32,767); none where the ball is disconnected. -/
def fluxVolts (g : Nat) (s : State) : Option (List Int) :=
  match biasBall g s with
  | .opened => none
  | .volts b =>
    let codes := match fluxBall g s with
      | .driven cs => cs
      | _ => [0, 0]
    some (codes.map (fun c => clampI (-stageLimit) stageLimit (stageSum b c)))

/-- READ_IN of tile `t`. -/
def readBall (t : Nat) (s : State) : ReadBall :=
  if tileDark t s then .unpowered
  else if relays s && !s.cutTiles.contains t then .disconnected else .connected

/-- What feeds READ_IN path [t][f] under LOOPBACK, each with its level in dB relative to the level at its ball (R144): its own
PROBE_OUT, and the XY output coupled into every path of the tile. -/
def loopFeeds (t f : Nat) (s : State) : List (Nat × Int) :=
  if readBall t s = .disconnected then
    (256 + 8 * t + f, -20) :: (if bF (oLbCtl t) 4 s then [(16 * t + fF (oLbCtl t) 3 0 s, -26)] else [])
  else []

/-- The codes that READ_IN path [t][f] is fed with in the present tick, each list with its level in dB: what would stand at the balls one
tick ago, so that a looped sample reaches the ADC input 17 ns after its launch tick (R144). -/
def loopInput (t f : Nat) (s : State) : List (List Int × Int) :=
  (loopFeeds t f s).map (fun e => (dacAt e.1 5 s, e.2))

/-! ### Digital outputs (Table 23.8) -/

/-- The symbols 0..15 that YTX_D[p][l] carries in the 5 ns of the frame sent last, before 8b/10b encoding: K codes as 256 more than their
byte (R317, R318). Without a frame, they are K28.5 in CLOCK and ALIGN and the PRBS-31 sequence in EQUALIZE (Table 16.6); none where the
port is not enabled.
[log: 148 DESIGN CHOICE] -/
def yalanBall (p l : Nat) (s : State) : List Nat :=
  let q := port p s
  if gated s then []
  else if !q.tx.isEmpty then (upTo 16).map (frameSymbol q.tx l)
  else match q.phase with
    | 1 | 2 => (upTo 16).map (fun _ => k285)
    | 3 => (upTo 16).map (fun k => (Config.prbsByte p l (q.txAt.toNat / 5 * 16 + k)).toNat)
    | _ => []

/-- YTX_CK[p] carries the clock lane: the port trains or sends frames (R316, Table 16.6). -/
def yalanClock (p : Nat) (s : State) : Bool := !gated s && (training p s || !(port p s).tx.isEmpty)

/-- TRIP[t] is high. -/
def tripBall (t : Nat) (s : State) : Bool := s.pins.trip.contains t

/-- SYNC_OUT is high. -/
def syncOutBall (s : State) : Bool := s.pins.syncOut

/-- ALERT_N is driven low; it is released while the device is off. -/
def alertBall (s : State) : Bool := powered s && alert s

end Sys2Proof.Machine
end

