-- ==== Sys2Proof/Tests/Slice0.lean ====
section
/-! SUPPORT. Tests: the well-formedness of commands, the ball map, single steps checked against figures of the specification, and for every
statement one theorem that shows, clause by clause, states and operands that meet its hypotheses. -/

namespace Sys2Proof.Machine.Tests



set_option Elab.async false
set_option linter.unusedTactic false
set_option linter.unreachableTactic false

/-! ### States to test on -/

/-- A Q512 in READY at tick 1000, SEQUENCE 1, every tile powered, VAUX present. -/
def rdy : State :=
  putB oMode 0 true (putF oPowerStatus 29 20 0x3FF { State.reset with
    life := .ready, time := { locked := true, counting := true, everLocked := true, refValid := true, tick := 1000 },
    pins := { State.reset.pins with vaux := true } })

/-- The same in SAFE. -/
def saf : State := { rdy with life := .safe }

/-- The same in STAGING, the clock not yet locked. -/
def stg : State := { rdy with life := .staging, time := {} }

/-- A 40-bit word. -/
def wd (n : Nat) : W40 := BitVec.ofNat 40 n

/-- A first instruction word. -/
def iw (op x : Nat) : W40 := BitVec.ofNat 40 (op * 2 ^ 34 + x)

/-- Sequencer `g` stands in the state `q`. -/
def sq (g : Nat) (q : Seq) : State := setSeq g q rdy

/-- Sequencer 0 issues the instruction `v` at the present tick. -/
def iss (v : W40) (q : Seq := {}) : State :=
  sq 0 { q with st := .running, imem := [(0, v), (1, 5)], issueAt := 1000, cursor := 2000 }

/-- The same one tick later, at its second issue tick. -/
def iss2 (v : W40) (q : Seq := {}) : State := let s := iss v q; { s with time := { s.time with tick := 1001 } }

/-- Core 0 issues the instruction `v` at the present tick. -/
def cor (v : BitVec 80) (c : Core := {}) : State := setCore 0 { c with st := .running, prog := [(0, v)], nextAt := 1000 } rdy

/-- A core instruction word. -/
def cw (op x : Nat) : BitVec 80 := BitVec.ofNat 80 (op * 2 ^ 72 + x)

/-- A routine of ring 1 that runs. -/
def rout (op tg : Nat) (ps : List W40) : Routine :=
  { ring := 1, dom := 0, secure := false, slots := 1, opcode := op, flags := 0, tag := 7, target := tg, params := ps, started := 900 }

/-- The engine runs a routine. -/
def run (r : Routine) (s : State := rdy) : State := { s with ce := { s.ce with cur := some r } }

/-- Parking place 1 holds a routine. -/
def parkd (r : Routine) (s : State := rdy) : State := { s with ce := { s.ce with parked := [(1, r)] } }

/-- Changes the time of a state. -/
def tm (f : TimeS → TimeS) (s : State := rdy) : State := { s with time := f s.time }

/-- Whether a write reaches its register and is accepted. -/
def reachesB (k : RegK) (is : List Nat) (m off : Nat) (v : W40) (s : State) : Bool :=
  fnReaches m s && (staged m s).isNone && (absentAt off s).isNone && !unpoweredAt off s &&
    match findReg off with
    | some (row, js) => row.k == k && js == is && (writeRefusal m row is off v s).isNone && !writeLost k off s
    | none => false

theorem reaches_of {k : RegK} {is : List Nat} {m off : Nat} {v : W40} {s : State} (h : reachesB k is m off v s = true) :
    Reaches k is m off v s := by
  unfold reachesB at h
  simp only [Bool.and_eq_true, Option.isNone_iff_eq_none, Bool.not_eq_true'] at h
  obtain ⟨⟨⟨⟨h1, h2⟩, h3⟩, h4⟩, h5⟩ := h
  refine ⟨h1, h2, h3, h4, ?_⟩
  split at h5
  · rename_i row js he
    simp only [Bool.and_eq_true, beq_iff_eq, Option.isNone_iff_eq_none, Bool.not_eq_true'] at h5
    obtain ⟨⟨⟨ha, hb⟩, hc⟩, hd⟩ := h5
    subst hb
    exact ⟨row, he, ha, hc, hd⟩
  · cases h5

/-- A ring descriptor in the state. -/
def rg (n : Nat) (r : Ring) (s : State := rdy) : State := setRing n r s

/-- A COMMAND ring 1 with one packet (ECHO), and its STATUS ring 2. -/
def cmd : State :=
  rg 1 { length := 8, tail := 1, base := 0x4000000, w6 := 2 } (rg 2 { length := 8, type := 1, base := 0x4001000 }
    { rdy with
      gran := { rdy.gran with mem := wrWords [] 0x4000000 [0, wd 2], rings := [] }
      ce := { rdy.ce with list := [1] } })

/-- Engine `e` of the witness engines stands in the state `x`, enabled, WITNESS 1. -/
def wi0 (x : Wit) : State := putB oMode 1 true (putB (oWitStatus 0) 0 true (setWit 0 x rdy))

/-- An open Bale of 2,000 raw samples from position 14,400 on. -/
def bale0 : Bale := { causes := 16, primary := 4, pos := 14400, first := 14400, preHave := 0, n := 2000, free := 8, gap := false, ctl := 0, meas := 0 }

/-- Engine 0 records it. -/
def recd : State := wi0 { st := .recording, bale := some bale0 }

/-- The symbols of a frame, lane by lane. -/
def lanes (ws : List W40) : List (List (Option Nat)) := (upTo 5).map (fun l => (upTo 16).map (fun k => some (frameSymbol ws l k)))

/-- A frame of zeros with its CRC. -/
def frame0 : List W40 := [0, 0, wd (frameCrc (List.replicate 12 0)), 0, 0, 0, 0, 0, 0, 0, 0, 0]

/-- A port in the state `q`, enabled. -/
def prt (p : Nat) (q : Port) (s : State := rdy) : State := putB (oPortCtl p) 0 true (setPort p q s)

/-- An UP port. -/
def upp (p : Nat) (q : Port) (s : State := rdy) : State := putB (oPortStatus p) 0 true (prt p { q with phase := 6 } s)

/-- A FED_LOAD runs on a buffer that names device 1, master and only member. -/
def fedBuf : State :=
  { run (rout 0x601 0 [0x4000000, 18]) with
    gran := { rdy.gran with mem := wrWords [] 0x4000000 [wd (1 * 2 ^ 36 + 1 * 2 ^ 32 + 15 * 2 ^ 28 + 2)] } }

/-! ### Every check of well-formedness refuses a command just outside its range -/

theorem test_wf_refuses_0 :
    [(Instr.functionLevelReset 16),
     (Instr.adcSelfCalDone 8 []),
     (Instr.dieLinkCrc 8 false),
     (Instr.tileLinkTimeout 8),
     (Instr.dieLinkLost 8),
     (Instr.modeSequence 16 false),
     (Instr.modeHold 16 false),
     (Instr.modeLoopback 16 false),
     (Instr.modeWitness 16 false),
     (Instr.modeFederated 16 false),
     (Instr.modePaired 16 false),
     (Instr.pairModeMessage 65536),
     (Instr.shotBoundary 768),
     (Instr.armedStart 768),
     (Instr.sequencerResume 768),
     (Instr.tickNowRead 16),
     (Instr.syncInEdge 16),
     (Instr.loadArm 16),
     (Instr.syncInStampRead 16),
     (Instr.syncOutCtlWrite 16 0),
     (Instr.syncOutPeriodWrite 16 0),
     (Instr.ptmNow 16),
     (Instr.ptmTickRead 16),
     (Instr.nop 768),
     (Instr.halt 768),
     (Instr.shot 768),
     (Instr.wait 768),
     (Instr.atCursor 768),
     (Instr.fence 768),
     (Instr.fenceComplete 768),
     (Instr.sync 768),
     (Instr.evwait 768),
     (Instr.evwaitDeadline 768),
     (Instr.play 768),
     (Instr.playf 768),
     (Instr.acq 768),
     (Instr.setf 768),
     (Instr.setp 768),
     (Instr.vz 768),
     (Instr.seta 768),
     (Instr.bias 768),
     (Instr.strobe 768),
     (Instr.brFlags 768),
     (Instr.brVerdict 768),
     (Instr.brDeadline 768)].all (fun i => !i.wf) = true := by decide

theorem test_wf_refuses_1 :
    [(Instr.jmp 768),
     (Instr.call 768),
     (Instr.ret 768),
     (Instr.loopBegin 768),
     (Instr.loopEnd 768),
     (Instr.ldi 768),
     (Instr.add 768),
     (Instr.sub 768),
     (Instr.and 768),
     (Instr.xor 768),
     (Instr.cmp 768),
     (Instr.mark 768),
     (Instr.timelineDispatch 768),
     (Instr.tileAction 768),
     (Instr.start 16 0),
     (Instr.start 0 768),
     (Instr.stop 16 0),
     (Instr.stop 0 768),
     (Instr.abort 16 0),
     (Instr.abort 0 768),
     (Instr.resumeSkip 16 0),
     (Instr.resumeSkip 0 768),
     (Instr.resumeRetime 16 0),
     (Instr.resumeRetime 0 768),
     (Instr.seqCommit 16 0),
     (Instr.seqCommit 0 768),
     (Instr.seqGregWrite 16 0 0 0),
     (Instr.seqGregWrite 0 768 0 0),
     (Instr.seqGregWrite 0 0 16 0),
     (Instr.barrierCfgWrite 16 0 0),
     (Instr.barrierCfgWrite 0 256 0),
     (Instr.barrierNotice 256 0 0),
     (Instr.barrierNotice 0 16 0),
     (Instr.barrierRelease 256),
     (Instr.waveCommit 16 0),
     (Instr.waveCommit 0 8),
     (Instr.drvCommit 16 0),
     (Instr.drvCommit 0 768),
     (Instr.drvCommit 0 64),
     (Instr.prbCommit 16 0),
     (Instr.prbCommit 0 768),
     (Instr.fluxCommit 16 0),
     (Instr.fluxCommit 0 768),
     (Instr.xyCfgWrite 16 0 0 0),
     (Instr.xyCfgWrite 0 8 0 0)].all (fun i => !i.wf) = true := by decide

theorem test_wf_refuses_2 :
    [(Instr.xyCfgWrite 0 0 16 0),
     (Instr.biasCodeWrite 16 0 0),
     (Instr.biasCodeWrite 0 768 0),
     (Instr.biasStrobe 16 0 0),
     (Instr.biasStrobe 0 8 0),
     (Instr.biasSlewStep 768),
     (Instr.spanDwellEnd 768),
     (Instr.biasIlimit 768),
     (Instr.biasLoadMeasure 768 0 0 0),
     (Instr.adcRotationStep 8 []),
     (Instr.adcCtlWrite 16 0 0 0),
     (Instr.adcCtlWrite 0 8 0 0),
     (Instr.adcCtlWrite 0 0 8 0),
     (Instr.adcSettled 8 0),
     (Instr.adcSettled 0 8),
     (Instr.adcRotCtlWrite 16 0 0),
     (Instr.adcRotCtlWrite 0 8 0),
     (Instr.adcOverrange 8 0 []),
     (Instr.adcOverrange 0 8 []),
     (Instr.slotCommit 16 0),
     (Instr.slotCommit 0 768),
     (Instr.detectorUpdate 768 []),
     (Instr.winnowStep 768 0 []),
     (Instr.finalVerdictPost 768 []),
     (Instr.absentVerdictPost 768),
     (Instr.resultFlush 12290),
     (Instr.bndArmSet 16 0),
     (Instr.bndArmSet 0 256),
     (Instr.bndArmAll 16),
     (Instr.binderDeadline 256),
     (Instr.bndCommit 16),
     (Instr.coreStart 16 0),
     (Instr.coreStart 0 128),
     (Instr.coreStop 16 0),
     (Instr.coreStop 0 128),
     (Instr.coreNop 128),
     (Instr.coreMac 128),
     (Instr.coreAlu 128),
     (Instr.coreAcc 128),
     (Instr.coreNorm 128),
     (Instr.coreExp 128),
     (Instr.coreLdi 128),
     (Instr.setag 128),
     (Instr.coreBr 128),
     (Instr.coreLoop 128)].all (fun i => !i.wf) = true := by decide

theorem test_wf_refuses_3 :
    [(Instr.waitt 128),
     (Instr.waittTimeout 128),
     (Instr.rdtap 128),
     (Instr.post 128),
     (Instr.coreEvent 128),
     (Instr.coreHalt 128),
     (Instr.tapWrite 128 0 [] 0),
     (Instr.tapWrite 0 4 [] 0),
     (Instr.tapCfgWrite 16 0 0 0),
     (Instr.tapCfgWrite 0 128 0 0),
     (Instr.tapCfgWrite 0 0 5 0),
     (Instr.witnessEnable 16 0 0),
     (Instr.witnessEnable 0 64 0),
     (Instr.witForce 16 0),
     (Instr.witForce 0 64),
     (Instr.witnessTriggerCommit 64 ⟨0, 0, 0, []⟩),
     (Instr.baleClose 64 []),
     (Instr.witnessRearm 64),
     (Instr.bar2Read 16 0 1 .clean),
     (Instr.bar2Read 0 1099511627776 1 .clean),
     (Instr.bar2Read 0 0 0 .clean),
     (Instr.bar2Write 16 0 []),
     (Instr.bar2Write 0 1099511627776 []),
     (Instr.grRegionWrite 16 0 0),
     (Instr.grRegionWrite 0 64 0),
     (Instr.ringHeadAdv 16 0),
     (Instr.msixUnmask 16 0),
     (Instr.msixUnmask 0 2048),
     (Instr.drainCopy 1048576 .clean),
     (Instr.grEvlogWrite 16 0 0),
     (Instr.grEvlogWrite 0 16 0),
     (Instr.evlogFlush 16),
     (Instr.cmdDoorbell 16 0),
     (Instr.routineResume 0),
     (Instr.routineResume 5),
     (Instr.evFire 16 0),
     (Instr.eventChannelFire 512),
     (Instr.evRouteWrite 16 0 0),
     (Instr.evRouteWrite 0 5121 0),
     (Instr.evChanCfgWrite 16 0 0),
     (Instr.evChanCfgWrite 0 512 0),
     (Instr.frameTransmit 6),
     (Instr.frameReceive 6 ⟨[], [], 0⟩),
     (Instr.itemRelease 6),
     (Instr.timeMessageReceive 6 ⟨0, 0, false, false, false, false, 0, 0, 0, 0, 0⟩)].all (fun i => !i.wf) = true := by decide

theorem test_wf_refuses_4 :
    [(Instr.heartbeatMiss 6),
     (Instr.clockLaneLoss 6),
     (Instr.portCtlWrite 16 0 0),
     (Instr.portCtlWrite 0 6 0),
     (Instr.trainAutostart 6),
     (Instr.trainPhaseComplete 6 [] []),
     (Instr.trainTimeout 6),
     (Instr.linkEyeLow 6 []),
     (Instr.reachMessage 6 ⟨0, 0⟩),
     (Instr.reachTimeout 16),
     (Instr.mirrorHeader 6 0 []),
     (Instr.urgentRequest 130),
     (Instr.senseCfgWrite 16 0 0),
     (Instr.senseCfgWrite 0 16 0),
     (Instr.monScanWrite 16 0 0),
     (Instr.monScanWrite 0 32 0),
     (Instr.senseComplianceCheck 16 false),
     (Instr.senseOvervolt 16),
     (Instr.wmonTick 8 []),
     (Instr.rfOverload 8 0 0),
     (Instr.rfOverload 0 8 0),
     (Instr.railFault 16),
     (Instr.thermalSensorUpdate 42 0),
     (Instr.thermalTrip 16),
     (Instr.thermThrWrite 16 0),
     (Instr.gleanStart 8 0 0),
     (Instr.gleanStart 0 16 0),
     (Instr.gleanComplete 8 ⟨0, 0, 0⟩),
     (Instr.ownerFieldWrite 16 0 0),
     (Instr.ownerFieldWrite 0 67108864 0),
     (Instr.ownerFieldWrite 0 4 0),
     (Instr.secDomainsWrite 16 0),
     (Instr.bar0LowWrite 16 0 0),
     (Instr.bar0LowWrite 0 67108864 0),
     (Instr.bar0LowWrite 0 4 0),
     (Instr.bar0HighWrite 16 0 0),
     (Instr.bar0HighWrite 0 67108864 0),
     (Instr.bar0HighWrite 0 4 0),
     (Instr.bar0LowRead 16 0),
     (Instr.bar0LowRead 0 67108864),
     (Instr.bar0LowRead 0 4),
     (Instr.bar0HighRead 16 0),
     (Instr.bar0HighRead 0 67108864),
     (Instr.bar0HighRead 0 4),
     (Instr.regPartial 16 false 0 0)].all (fun i => !i.wf) = true := by decide

theorem test_wf_refuses_5 :
    [(Instr.regPartial 0 false 67108864 0),
     (Instr.vecAllocWrite 16 0 0),
     (Instr.vecAllocWrite 0 16 0),
     (Instr.registerWrite 16 0 0),
     (Instr.registerWrite 0 67108864 0),
     (Instr.registerWrite 0 4 0),
     (Instr.mgmtSensor 256),
     (Instr.mgmtWriteNak 256),
     (Instr.vauxPowerUp 64),
     (Instr.railToleranceChange 16 false),
     (Instr.pcieConfigWrite 16 .busMaster false),
     (Instr.undefinedOpcode 768),
     (Instr.coreUndefinedOpcode 128)].all (fun i => !i.wf) = true := by decide

/-- The last number of a range is admitted. -/
theorem test_wf_admits : [Instr.functionLevelReset 15, .nop 767, .coreNop 127, .dieLinkLost 7, .drvCommit 0 (7 * 96 + 63), .evFire 15 0,
    .evChanCfgWrite 0 511 0, .grRegionWrite 0 63 0, .msixUnmask 0 2047, .routineResume 4, .frameTransmit 5, .railFault 15,
    .registerWrite 0 0x3FFFFF8 0].all Instr.wf = true := by decide
/-! ### Single steps and shared operations against the figures of the specification -/

/-- The next state of a command, or the state itself where it stops. -/
def nxt (c : Instr) (s : State) : State := match exec c s with | .next t => t | _ => s

/-- 00, the worked example of a complex sample: the five bytes of 0xFF_FFF0_0002 in ascending order. -/
theorem test_word_bytes : wrWords [] 15 [wd 0xFFFFF00002] = [(15, 0x02), (17, 0xF0), (18, 0xFF), (19, 0xFF)] := by decide +kernel

/-- Table 5.16: WAIT 196 moves the cursor 196 ticks on. -/
theorem test_seq_wait : (seq 0 (nxt (.wait 0) (iss 0x10000000C4))).cursor = 2196 := by decide +kernel

/-- Table 5.16: ACQ 600 carries a window of 600 ticks to the timeline of the tile. -/
theorem test_seq_acq : ((seq 0 (nxt (.acq 0) (iss 0x2C4B000000))).queue).length = 1 := by decide +kernel

/-- Table 5.16: SHOT 2000 sets the shot boundary 2,000 ticks after the cursor. -/
theorem test_seq_shot : (seq 0 (nxt (.shot 0) (iss 0x0C000007D0))).bound.isSome = true := by decide +kernel

/-- 11, the example below R233: ACC = 2^40 gives e = 38 and NORM moves its bit to bit 78; 2^82 gives e = -4. -/
theorem test_core_norm : accExp (2 ^ 40) = 38 ∧ accNorm (2 ^ 40) = 2 ^ 78 ∧ accWord (accNorm (2 ^ 40)) = 0x4000000000 ∧
    accExp (2 ^ 82) = -4 ∧ accNorm 0 = 0 ∧ accExp 0 = 79 := by decide +kernel

/-- The pointer after one post-modify. -/
def pm (ptr base len : Nat) (m : Int) : Nat := (coreAg (postModify 0 (putAg 0 ⟨ptr, base, len, m⟩ {}, [])).1 0).ptr

/-- Table 11.4, all rows. -/
theorem test_post_modify : pm 140 100 50 3 = 143 ∧ pm 148 100 50 3 = 101 ∧ pm 100 100 50 (-5) = 145 ∧ pm 140 100 20 3 = 103 ∧
    pm 90 100 20 1 = 115 ∧ pm 16383 16380 10 1 = 0 ∧ pm 140 100 0 3 = 140 := by decide +kernel

/-- 16, the worked example of a verdict through port 2: the words W0, W3 and W5 of the frame, and the top of W2. -/
theorem test_frame_words :
    let f := frameWords 1200187 15 true 0
      [itemPlace 6000935 { kind := 1, word := 0x04B086403D, posted := 6000934, ref := 6000895, src := 0, release := 0, checked := 0 }]
    nth 0 f 0 = 0x0ED0000000 ∧ (nth 0 f 2).toNat / 2 ^ 32 = 0xF8 ∧ nth 0 f 3 = 0x04B086403D ∧ nth 0 f 5 = 0x0002700000 := by
  decide +kernel

/-- 23, the worked example of three balls: FLUX_OUT[5][70] is BW49 and its return BV49, READ_IN[2][3] is H45 and J45,
YRX_D[4][2] is AW71 and AW70. -/
theorem test_ball_map : ballSig 55 49 = .fluxOut 5 70 ∧ ballSig 54 49 = .fluxRtn 5 70 ∧ ballSig 7 45 = .readIn true 2 3 ∧
    ballSig 8 45 = .readIn false 2 3 ∧ ballSig 36 71 = .yalan false true 4 3 ∧ ballSig 36 70 = .yalan false false 4 3 := by
  decide +kernel

/-- 24, the worked example of a lifecycle record: the words of the record that DEV_ENTER_SAFE leaves from READY. -/
theorem test_lifecycle_record :
    recWords false { tick := 0x0005120000, epoch := 2, source := 0, code := 0x100, sev := BitVec.ofNat 4 (sevOf 0x100), detail := 0x32000 } =
      [0x0005120000, 0x0000020000, 0x0100032000, 0] := by decide +kernel

/-- 20, the worked example of a DAC_CELL: 1,800 ns of measurement, 1,200 ns for LO_LEAK. -/
theorem test_glean_times : gleanTime 0 = 1800 ∧ gleanTime 1 = 1200 := by decide

/-- 07, the worked example of a span change: from 0x4_0000 the first step of 4,096 gives 258,048, step 64 gives 0, and an INTERVAL of 5
spaces the steps by 50 ticks. -/
theorem test_bias_steps : stepTo 4096 0 0x40000 = 258048 ∧ (Nat.repeat (stepTo 4096 0) 64 (0x40000 : Int)) = 0 ∧
    stepTicks 5 = 50 ∧ (Nat.repeat (stepTo 4096 314573) 76 (0 : Int)) ≠ 314573 ∧
    (Nat.repeat (stepTo 4096 314573) 77 (0 : Int)) = 314573 := by decide +kernel

/-- R424: a register is reached over its 32-bit halves, the low half first, and only the high half writes the 40 bits. -/
theorem test_halves :
    getR oGleanCtl (nxt (.bar0LowWrite 0 oGleanCtl 5) rdy) = 0 ∧
      getR oGleanCtl (nxt (.bar0HighWrite 0 oGleanCtl 0x30) (nxt (.bar0LowWrite 0 oGleanCtl 5) rdy)) = 0x3000000005 := by
  decide +kernel

/-- R33: a write of SEQUENCE outside READY is refused and changes no bit. -/
theorem test_mode_refused : getR oMode (nxt (.modeSequence 0 true) stg) = getR oMode stg := by decide +kernel

/-- The states right after reset keep the memory form, list nothing and wait for no command. -/
theorem test_reset : memOk State.reset = true ∧ State.reset.gran.mem = [] ∧ State.reset.pending = [] ∧
    State.reset.life = .staging := by decide +kernel

/-- On an empty queue the block lets a tick pass. -/
theorem test_tick : ((nxt (.tickNowRead 0) rdy).time.tick = 1000) ∧ (tickOnce rdy).time.tick = 1001 := by decide +kernel

/-! ### Every statement: states and operands that meet its hypotheses, clause by clause -/

/-! ### Witnesses of hypotheses, clause by clause: sequencers -/

theorem wit_SeqArithmeticAndCompare :
    (Issues 0 (iw 0x19 0) (iss (iw 0x19 0)) ∧ fld (iw 0x19 0) 39 34 = 0x19) ∧
    (Issues 0 (iw 0x1A 0) (iss (iw 0x1A 0)) ∧ fld (iw 0x1A 0) 39 34 = 0x1A) ∧
    (Issues 0 (iw 0x1B 0) (iss (iw 0x1B 0)) ∧ fld (iw 0x1B 0) 39 34 = 0x1B) ∧
    (Issues 0 (iw 0x1C 0) (iss (iw 0x1C 0)) ∧ fld (iw 0x1C 0) 39 34 = 0x1C) ∧
    (Issues 0 (iw 0x1D 0) (iss (iw 0x1D 0)) ∧ fld (iw 0x1D 0) 39 34 = 0x1D) ∧
    (Issues 0 (iw 0x18 9) (iss (iw 0x18 9)) ∧ fld (iw 0x18 9) 39 34 = 0x18 ∧ bit (iw 0x18 9) 29 = false) ∧
    (Issues 0 (iw 0x18 0x20000000) (iss (iw 0x18 0x20000000)) ∧ bit (iw 0x18 0x20000000) 29 = true ∧
      (seq 0 (iss (iw 0x18 0x20000000))).pc + 1 < 8192 ∧ Issues 0 (iw 0x18 0x20000000) (iss2 (iw 0x18 0x20000000)) ∧
      due (plus (seq 0 (iss2 (iw 0x18 0x20000000))).issueAt 1) (iss2 (iw 0x18 0x20000000)) = true) := by
  repeat' (with_reducible apply And.intro)
  all_goals
    first
    | decide +kernel
    | exact reaches_of (by decide +kernel)
    | (unfold Issues; decide +kernel)
    | (unfold Runs; decide +kernel)
    | (unfold NothingHolds; decide +kernel)
    | (unfold CoreIssues; decide +kernel)
    | (unfold NoAccess; decide +kernel)

theorem wit_SeqMarkCaptures :
    (Issues 0 (iw 0x1E 0) (iss (iw 0x1E 0)) ∧ fld (iw 0x1E 0) 39 34 = 0x1E ∧ bit (iw 0x1E 0) 25 = false) ∧
    (Issues 0 (iw 0x1E 0x2000000) (iss (iw 0x1E 0x2000000)) ∧ fld (iw 0x1E 0x2000000) 39 34 = 0x1E ∧ bit (iw 0x1E 0x2000000) 25 = true ∧
      (iss (iw 0x1E 0x2000000)).life ≠ .off ∧ (iss (iw 0x1E 0x2000000)).life ≠ .staging) := by
  repeat' (with_reducible apply And.intro)
  all_goals
    first
    | decide +kernel
    | exact reaches_of (by decide +kernel)
    | (unfold Issues; decide +kernel)
    | (unfold Runs; decide +kernel)
    | (unfold NothingHolds; decide +kernel)
    | (unfold CoreIssues; decide +kernel)
    | (unfold NoAccess; decide +kernel)

theorem wit_SeqControlFlow :
    (Issues 0 (iw 0x01 0) (iss (iw 0x01 0)) ∧ fld (iw 0x01 0) 39 34 = 0x01) ∧
    (Issues 0 (iw 0x13 0) (iss2 (iw 0x13 0)) ∧ fld (iw 0x13 0) 39 34 = 0x13 ∧ due (plus (seq 0 (iss2 (iw 0x13 0))).issueAt 1) (iss2 (iw 0x13 0)) = true) ∧
    (Issues 0 (iw 0x14 0) (iss2 (iw 0x14 0) { calls := [1, 2, 3, 4, 5, 6, 7] }) ∧ fld (iw 0x14 0) 39 34 = 0x14 ∧
      (seq 0 (iss2 (iw 0x14 0) { calls := [1, 2, 3, 4, 5, 6, 7] })).calls.length < 8) ∧
    (Issues 0 (iw 0x15 0) (iss2 (iw 0x15 0) { calls := [9] }) ∧ fld (iw 0x15 0) 39 34 = 0x15 ∧ (seq 0 (iss2 (iw 0x15 0) { calls := [9] })).calls = [9]) ∧
    (Issues 0 (iw 0x16 0x10000) (iss (iw 0x16 0x10000)) ∧ bit (iw 0x16 0x10000) 33 = false ∧ bit (iw 0x16 0x10000) 32 = false ∧
      (BitVec.ofNat 40 (fld (iw 0x16 0x10000) 31 16) : W40) ≠ 0 ∧ (seq 0 (iss (iw 0x16 0x10000))).loops.length < 8) ∧
    (Issues 0 (iw 0x16 7) (iss2 (iw 0x16 7)) ∧ (BitVec.ofNat 40 (fld (iw 0x16 7) 31 16) : W40) = 0 ∧ bit (iw 0x16 7) 33 = false) ∧
    (Issues 0 (iw 0x16 0x200000000) (iss2 (iw 0x16 0x200000000) { loops := [⟨3, 2⟩] }) ∧ bit (iw 0x16 0x200000000) 33 = true ∧
      (seq 0 (iss2 (iw 0x16 0x200000000) { loops := [⟨3, 2⟩] })).loops = [⟨3, 2⟩]) ∧
    (Issues 0 (iw 0x12 0x6000000) (iss2 (iw 0x12 0x6000000)) ∧ fld (iw 0x12 0x6000000) 33 32 = 0 ∧ fld (iw 0x12 0x6000000) 26 23 = 12) := by
  repeat' (with_reducible apply And.intro)
  all_goals
    first
    | decide +kernel
    | exact reaches_of (by decide +kernel)
    | (unfold Issues; decide +kernel)
    | (unfold Runs; decide +kernel)
    | (unfold NothingHolds; decide +kernel)
    | (unfold CoreIssues; decide +kernel)
    | (unfold NoAccess; decide +kernel)

theorem wit_SeqTimeInstructions :
    (Issues 0 (iw 0x04 0) (iss (iw 0x04 0)) ∧ fld (iw 0x04 0) 39 34 = 0x04) ∧
    (Issues 0 (iw 0x05 0) (iss (iw 0x05 0)) ∧ fld (iw 0x05 0) 33 32 = 0) ∧
    (Issues 0 (iw 0x05 0x100000000) (iss (iw 0x05 0x100000000)) ∧ fld (iw 0x05 0x100000000) 33 32 = 1) ∧
    (Issues 0 (iw 0x05 0x200000000) (iss (iw 0x05 0x200000000)) ∧ fld (iw 0x05 0x200000000) 33 32 = 2 ∧
      (seq 0 (iss (iw 0x05 0x200000000))).pc + 1 < 8192) ∧
    (Issues 0 (iw 0x03 8) (iss (iw 0x03 8)) ∧ Issues 0 (iw 0x02 0) (iss (iw 0x02 0)) ∧ Issues 0 (iw 0x06 0) (iss (iw 0x06 0))) := by
  repeat' (with_reducible apply And.intro)
  all_goals
    first
    | decide +kernel
    | exact reaches_of (by decide +kernel)
    | (unfold Issues; decide +kernel)
    | (unfold Runs; decide +kernel)
    | (unfold NothingHolds; decide +kernel)
    | (unfold CoreIssues; decide +kernel)
    | (unfold NoAccess; decide +kernel)

theorem wit_SeqActionsQueue :
    ((seq 0 (iss (iw 0x09 0))).queue.length < 64 ∧ (seq 0 (iss (iw 0x09 0))).roomAt = none ∧ due (seq 0 (iss (iw 0x09 0))).issueAt (iss (iw 0x09 0)) = true ∧ notBefore (seq 0 (iss (iw 0x09 0))).cursor (plus (seq 0 (iss (iw 0x09 0))).issueAt 4) = true ∧
      notBefore (seq 0 (iss (iw 0x09 0))).cursor (seq 0 (iss (iw 0x09 0))).start = true) ∧
    (((seq 0 (iss (iw 0x09 0))).queue.filter (fun y => y.launch == (seq 0 (iss (iw 0x09 0))).cursor)).length
      + ((iss (iw 0x09 0)).down.filter (fun y => y.1 == 0 && y.2.launch == (seq 0 (iss (iw 0x09 0))).cursor)).length < 8) ∧
    (Issues 0 (iw 0x09 0) (iss (iw 0x09 0)) ∧ Issues 0 (iw 0x0A 0) (iss (iw 0x0A 0)) ∧ Issues 0 (iw 0x0C 0) (iss (iw 0x0C 0))) ∧
    (Issues 0 (iw 0x0B 0x200000000) (iss (iw 0x0B 0x200000000)) ∧ fld (iw 0x0B 0x200000000) 33 21 = 4096) ∧
    (fld (iw 0x0C 0x100000000) 33 32 = 1 ∧ fld (iw 0x0D 0) 33 32 = 0 ∧ 0 % 96 < 64 ∧ Issues 0 (iw 0x0D 0) (iss (iw 0x0D 0)) ∧ Issues 0 (iw 0x0E 0) (iss (iw 0x0E 0))) ∧
    (Issues 0 (iw 0x0F 0) (iss (iw 0x0F 0)) ∧ Issues 0 (iw 0x10 0) (iss (iw 0x10 0)) ∧ Issues 0 (iw 0x11 0) (iss (iw 0x11 0))) := by
  repeat' (with_reducible apply And.intro)
  all_goals
    first
    | decide +kernel
    | exact reaches_of (by decide +kernel)
    | (unfold Issues; decide +kernel)
    | (unfold Runs; decide +kernel)
    | (unfold NothingHolds; decide +kernel)
    | (unfold CoreIssues; decide +kernel)
    | (unfold NoAccess; decide +kernel)

theorem wit_SeqFaults :
    ((seq 0 (iss (iw 0 0) { queue := [⟨2000, .strobe, 2000⟩] })).queue ≠ [] ∧ (seq 0 (iss (iw 0 0) { queue := [⟨2000, .strobe, 2000⟩] })).queue.length < 64) ∧
    (Issues 0 (iw 0x1F 0) (iss (iw 0x1F 0) { queue := [⟨2000, .strobe, 2000⟩] }) ∧ 0x1F ≤ fld (iw 0x1F 0) 39 34) ∧
    (fld (iw 0x05 0x300000000) 39 34 = 5 ∧ fld (iw 0x05 0x300000000) 33 32 = 3 ∧ fld (iw 0x0B 0x200200000) 39 34 = 0x0B ∧ 4096 < fld (iw 0x0B 0x200200000) 33 21) ∧
    (fld (iw 0x12 0x6800000) 33 32 = 0 ∧ 13 ≤ fld (iw 0x12 0x6800000) 26 23 ∧ 2 ≤ fld (iw 0x0C 0x200000000) 33 32 ∧ fld (iw 0x0C 0x200000000) 39 34 = 0x0C) ∧
    (fld (iw 0x0D 0x200000000) 39 34 = 0x0D ∧ fld (iw 0x0E 0x200000000) 39 34 = 0x0E ∧ fld (iw 0x0F 0x300000000) 39 34 = 0x0F ∧ 2 ≤ fld (iw 0x0F 0x300000000) 33 32) ∧
    (Issues 0 (iw 0x16 0x10000) (iss (iw 0x16 0x10000) { loops := List.replicate 8 ⟨1, 1⟩, queue := [⟨2000, .strobe, 2000⟩] }) ∧
      8 ≤ (List.replicate 8 (⟨1, 1⟩ : LoopE)).length ∧ (BitVec.ofNat 40 (fld (iw 0x16 0x10000) 31 16) : W40) ≠ 0) ∧
    (bit (iw 0x16 0x200000000) 33 = true ∧ (seq 0 (iss (iw 0x16 0x200000000) { queue := [⟨2000, .strobe, 2000⟩] })).loops = []) ∧
    (Issues 0 (iw 0x14 0) (iss2 (iw 0x14 0) { calls := List.replicate 8 1, queue := [⟨2000, .strobe, 2000⟩] }) ∧ 8 ≤ (List.replicate 8 1).length) ∧
    (Issues 0 (iw 0x15 0) (iss2 (iw 0x15 0) { queue := [⟨2000, .strobe, 2000⟩] }) ∧
      (seq 0 (iss2 (iw 0x15 0) { queue := [⟨2000, .strobe, 2000⟩] })).calls = []) ∧
    (Issues 0 (iw 0x18 0x20000000) (sq 0 { st := .running, imem := [(8191, iw 0x18 0x20000000)], pc := 8191, queue := [⟨2000, .strobe, 2000⟩] }) ∧
      bit (iw 0x18 0x20000000) 29 = true) ∧
    (Issues 64 (iw 0x09 0) (sq 64 { st := .running, imem := [(0, iw 0x09 0)], queue := [⟨2000, .strobe, 2000⟩] }) ∧ 64 ≤ 64 % 96 ∧ bit (iw 0x09 0) 33 = false) := by
  repeat' (with_reducible apply And.intro)
  all_goals
    first
    | decide +kernel
    | (unfold Issues; decide +kernel)

theorem wit_SeqWaitsComplete :
    (767 < nSeqs rdy ∧ (seq 767 (sq 767 { st := .waiting, wait := .fence 900 })).wait = .fence 900 ∧ due 900 (sq 767 { st := .waiting, wait := .fence 900 }) = true) ∧
    ((seq 0 (sq 0 { st := .waiting, wait := .ev 1 (some 1000) })).wait = .ev 1 (some 1000) ∧ due 1000 (sq 0 { wait := .ev 1 (some 1000) }) = true) ∧
    ((seq 0 (sq 0 { wait := .br ⟨1, 5, 0, false, 0, 0, 0, false, true, 7, 2, some 990⟩ })).wait = .br ⟨1, 5, 0, false, 0, 0, 0, false, true, 7, 2, some 990⟩ ∧
      due 990 rdy = true) ∧
    (Issues 0 (iw 0x08 0) (iss (iw 0x08 0) { latch0 := ⟨true, 3⟩ }) ∧ bit (iw 0x08 0) 33 = false ∧ (seq 0 (iss (iw 0x08 0) { latch0 := ⟨true, 3⟩ })).latch0.set = true) ∧
    (Issues 0 (iw 0x08 0x200000000) (iss (iw 0x08 0x200000000) { latch1 := ⟨true, 3⟩ }) ∧ bit (iw 0x08 0x200000000) 33 = true ∧
      (seq 0 (iss (iw 0x08 0x200000000) { latch1 := ⟨true, 3⟩ })).latch1.set = true) ∧
    (Issues 0 (iw 0x08 0) (iss (iw 0x08 0)) ∧ (seq 0 (iss (iw 0x08 0))).latch0.set = false) ∧
    (Issues 0 (iw 0x12 0x100000000) (tm (fun x => { x with tick := 1001 }) (iss (iw 0x12 0x100000000))) ∧ fld (iw 0x12 0x100000000) 33 32 = 1 ∧
      due (plus (seq 0 (iss (iw 0x12 0x100000000))).issueAt 1) (tm (fun x => { x with tick := 1001 }) (iss (iw 0x12 0x100000000))) = true) := by
  repeat' (with_reducible apply And.intro)
  all_goals
    first
    | decide +kernel
    | (unfold Issues; decide +kernel)

theorem wit_BarriersMeetAndRelease :
    (Issues 0 (iw 0x07 255) (putF (oBarrierCfg 255) 9 0 2 (iss (iw 0x07 255) { cursor := 1000 } |> fun s => modSeq 0 (fun q => { q with cursor := 1000 }) s))) ∧
    ((seq 0 (iss (iw 0x07 255))).wait = .none ∧ due (later (seq 0 (iss (iw 0x07 255))).issueAt (seq 0 (iss (iw 0x07 255))).cursor) (iss (iw 0x07 255)) = false) ∧
    (due (later 1000 1000) rdy = true ∧ fR (oBarrierCfg 255) 39 24 (putF (oBarrierCfg 255) 9 0 2 rdy) = 0 ∧ (barrier 255 rdy).release = none ∧
      (barrier 255 rdy).localAt = none ∧ fR (oBarrierCfg 255) 9 0 (putF (oBarrierCfg 255) 9 0 2 rdy) ≠ 0) ∧
    ((barrier 0 (setBarrier 0 { release := some 1000, now := [0] } rdy)).release = some 1000 ∧ due 1000 rdy = true ∧
      (barrier 0 (setBarrier 0 { release := some 1000, now := [0] } rdy)).solo = []) ∧
    (federated (putB oMode 4 true rdy) = true ∧ (barrier 0 rdy).notices = [] ∧ fR (oBarrierCfg 0) 9 0 (putF (oBarrierCfg 0) 39 0 0x0400000001 rdy) ≠ 0 ∧
      (fR (oBarrierCfg 0) 39 24 (putF (oBarrierCfg 0) 39 0 0x0002000001 (putF (oBarrierCfg 0) 39 24 2 rdy))).testBit (0 + 1) = true) ∧
    (bR oFedStatus 1 rdy = false ∧ bR oFedStatus 1 (putB oFedStatus 1 true rdy) = true ∧ bR oFedReach (16 + 15) rdy = false ∧ devNum rdy ≠ 15 ∧
      fR oFedCounts 39 20 rdy < 2 ^ 20 - 1) ∧
    (Reaches .barrierCfg [255] 0 (oBarrierCfg 255) 3 rdy ∧ rdy.fresh = []) := by
  repeat' (with_reducible apply And.intro)
  all_goals
    first
    | decide +kernel
    | exact reaches_of (by decide +kernel)
    | (unfold Issues; decide +kernel)

theorem wit_TimelineAndTileActions :
    ((seq 0 (sq 0 { st := .running, queue := [⟨1004, .strobe, 1004⟩] })).queue = ⟨1004, .strobe, 1004⟩ :: [] ∧
      due (minus 1004 4) (sq 0 { st := .running, queue := [⟨1004, .strobe, 1004⟩] }) = true ∧ (seq 0 (sq 0 { st := .running })).st ≠ .faulted) ∧
    (0 < nSeqs rdy ∧ ({ rdy with down := [(1, ⟨1000, .strobe, 1000⟩), (0, ⟨1000, .setp false 5, 1000⟩)] } : State).down
      = [(1, ⟨1000, .strobe, 1000⟩)] ++ (0, ⟨1000, .setp false 5, 1000⟩) :: [] ∧ due 1000 rdy = true ∧ tilePowered (0 / 96) rdy = true ∧
      ∀ y ∈ ([(1, ⟨1000, .strobe, 1000⟩)] : List (Nat × QEntry)), y.1 ≠ 0) := by
  repeat' (with_reducible apply And.intro)
  all_goals decide +kernel

theorem wit_SeqCommands :
    (Reaches .seqCmd [7, 95] 0 (oSeqCmd 767) 1 rdy ∧ (seq 767 rdy).st = .idle ∧ (seq 767 rdy).unbHeld = false ∧ rdy.glean.run = [] ∧
      ∀ r ∈ rdy.ce.cur.toList ++ rdy.ce.parked.map (fun e => e.2), r.opcode ≠ 0x301) ∧
    (Reaches .seqCmd [0, 0] 0 (oSeqCmd 0) 2 (sq 0 { st := .armed }) ∧ Reaches .seqCmd [0, 0] 0 (oSeqCmd 0) 2 (sq 0 { st := .waiting })) ∧
    (Reaches .seqCmd [0, 0] 0 (oSeqCmd 0) 3 (sq 0 { st := .stopped }) ∧ insideShot (seq 0 (sq 0 { st := .stopped })) = false) ∧
    (Reaches .seqCmd [0, 0] 0 (oSeqCmd 0) 4 (sq 0 { st := .stalled }) ∧ (seq 0 (sq 0 { st := .stalled })).st = .stalled) ∧
    (Reaches .seqCmd [0, 0] 0 (oSeqCmd 0) 5 (sq 0 { st := .stalled, stalled := some ⟨900, .strobe, 900⟩ }) ∧
      (seq 0 (sq 0 { st := .stalled, stalled := some ⟨900, .strobe, 900⟩ })).stalled = some ⟨900, .strobe, 900⟩ ∧
      notBefore (plus 1000 4) (seq 0 (sq 0 { st := .stalled })).start = true) := by
  repeat' (with_reducible apply And.intro)
  all_goals
    first
    | decide +kernel
    | exact reaches_of (by decide +kernel)

theorem wit_SeqStartsAndEnds :
    ((seq 0 (sq 0 { st := .armed })).st = .armed ∧ NothingHolds (sq 0 { st := .armed }) ∧ (sq 0 { st := .armed }).armAfter = none ∧ (sq 0 { st := .armed }).glean.run = []) ∧
    ((seq 0 (sq 0 { st := .stopped, stopReason := 1 })).st = .stopped ∧ NothingHolds (sq 0 { st := .stopped, stopReason := 1 }) ∧
      (seq 0 (sq 0 { st := .stopped, stopReason := 1 })).stopReason ≠ 3) ∧
    ((seq 0 (sq 0 { st := .running, bound := some ⟨1000, 0, true⟩ })).bound = some ⟨1000, 0, true⟩ ∧ due 1000 rdy = true ∧ rdy.safePend = none ∧
      rdy.therm.shutAt = none ∧ NothingHolds (sq 0 { st := .running, bound := some ⟨1000, 0, false⟩ }) ∧ rdy.modeWas = none) := by
  repeat' (with_reducible apply And.intro)
  all_goals
    first
    | decide +kernel
    | (unfold NothingHolds; decide +kernel)

theorem wit_SeqGregAccesses :
    (767 < nSeqs rdy ∧ fnReaches 0 rdy = true ∧ staged 0 rdy = none ∧ absentAt (oSeqGreg 767 15) rdy = none ∧ unpoweredAt (oSeqGreg 767 15) rdy = false ∧
      mayAct 0 (seqDom 767 rdy) (seqSec 767 rdy) = true ∧ insideShot (seq 767 rdy) = false) ∧
    (insideShot (seq 0 (sq 0 { st := .running })) = true ∧ absentAt (oSeqGreg 0 0) (sq 0 { st := .running }) = none ∧
      mayAct 0 (seqDom 0 (sq 0 { st := .running })) (seqSec 0 (sq 0 { st := .running })) = true) := by
  repeat' (with_reducible apply And.intro)
  all_goals decide +kernel

/-! ### Witnesses: outputs, bias, readout, Binder and cores -/

theorem wit_CommitsTakeEffect :
    (0 < nSeqs rdy ∧ insideShot (seq 0 rdy) = false ∧ Reaches .seqCommit [0, 0] 0 (oSeqCommit 0) 1 rdy ∧ Reaches .drvCommit [0, 0] 0 (oDrvCommit 0) 1 rdy) ∧
    (Reaches .prbCommit [7, 95] 0 (oPrbCommit 767) 1 rdy ∧ Reaches .fluxCommit [7, 95] 0 (oFluxCommit 767) 1 rdy ∧
      Reaches .slotCommit [7, 95] 0 (oSlotCommit 767) 1 rdy ∧ (slot 767 rdy).loading = false) ∧
    (insideShot (seq 0 (sq 0 { st := .running })) = true ∧ (seq 0 (sq 0 { st := .running })).commits = [] ∧
      Reaches .seqCommit [0, 0] 0 (oSeqCommit 0) 1 (sq 0 { st := .running }) ∧ Reaches .drvCommit [0, 0] 0 (oDrvCommit 0) 1 (sq 0 { st := .running })) ∧
    (Reaches .prbCommit [0, 0] 0 (oPrbCommit 0) 1 (sq 0 { st := .running }) ∧ Reaches .slotCommit [0, 0] 0 (oSlotCommit 0) 1 (sq 0 { st := .running }) ∧
      Reaches .fluxCommit [0, 0] 0 (oFluxCommit 0) 1 (sq 0 { st := .running })) := by
  repeat' (with_reducible apply And.intro)
  all_goals
    first
    | decide +kernel
    | exact reaches_of (by decide +kernel)

theorem wit_WaveDescriptorsAndXyGain :
    (7 < nTiles rdy ∧ fnReaches 0 rdy = true ∧ staged 0 rdy = none ∧ tilePowered 7 rdy = true ∧ mayAct 0 (tileDom 7 rdy) (tileSec 7 rdy) = true) ∧
    (2097152 < 8 * fld (wd (262143 * 2 ^ 20 + 36)) 37 20 + fld (wd (262143 * 2 ^ 20 + 36)) 19 2) ∧
    (Reaches .waveCommit [7] 0 (oWaveCommit 7) 1 rdy ∧ Reaches .xyCfg [7, 15] 0 (oXyCfg (16 * 7 + 15)) 4 rdy ∧ rdy.fresh = []) := by
  repeat' (with_reducible apply And.intro)
  all_goals
    first
    | decide +kernel
    | exact reaches_of (by decide +kernel)

theorem wit_BiasCodeAndStrobe :
    (Reaches .biasCode [7, 95] 0 (oBiasCode 767) 5 rdy ∧ rdy.fresh = []) ∧
    (Reaches .biasStrobe [0] 0 (oBiasStrobe 0) (BitVec.ofNat 40 (2 ^ 15)) rdy ∧ mode 5 rdy = false ∧ rdy.fabric.strobes = [] ∧
      fF (oBiasCfg 3) 39 36 (setF (oBiasCfg 3) (wd (15 * 2 ^ 36)) rdy) = 15 ∧ (biasC 3 rdy).rest = false ∧ spanBusy (biasC 3 rdy) = false) ∧
    (Reaches .biasStrobe [0] 0 (oBiasStrobe 0) (BitVec.ofNat 40 (2 ^ 0)) saf ∧ saf.life = .safe ∧ fR (oBiasDiscard 0) 39 20 saf < 2 ^ 20 - 1) := by
  repeat' (with_reducible apply And.intro)
  all_goals
    first
    | decide +kernel
    | exact reaches_of (by decide +kernel)

theorem wit_BiasSlewsAndDwells :
    (due 1000 rdy = true ∧ (biasC 0 (setBias 0 { phase := .slew, nextAt := some 1000, connected := true, aim := 9 } rdy)).out ≠ 9 ∧
      fF (oBiasCfg 0) 31 16 rdy = 0) ∧
    (fF (oBiasCfg 0) 31 16 (setF (oBiasCfg 0) (wd (2 * 2 ^ 16)) rdy) ≠ 0 ∧ fF (oBiasCfg 0) 31 16 (setF (oBiasCfg 0) (wd (2 * 2 ^ 16)) rdy) < ((9 : Int) - 0).natAbs) ∧
    ((biasC 0 (setBias 0 { phase := .dwellA 1000, connected := true } rdy)).phase = .dwellA 1000 ∧
      (biasC 0 (setBias 0 { phase := .dwellB 1000, connected := true } rdy)).phase = .dwellB 1000 ∧ (biasC 0 (setBias 0 { phase := .dwellB 1000 } rdy)).aim = 0) := by
  repeat' (with_reducible apply And.intro)
  all_goals decide +kernel

theorem wit_BiasChecksReport :
    ((biasC 0 (setBias 0 { connected := true } rdy)).connected = true ∧ isEcho rdy = false ∧ bR (oBiasStatus 0) 13 rdy = false ∧
      tilePowered (0 / 96) rdy = true ∧ (outp (512 + 0) rdy).switched = false) ∧
    (bR (oBiasCheck 0) 16 rdy = false ∧ ((1 : Int)).natAbs < 10 * fR (oBiasCheck 0) 15 0 (putF (oBiasCheck 0) 15 0 5 rdy) ∧
      above100mV { connected := true, openCnt := 15, out := 500000 } = true ∧ bR (oBiasStatus 0) 12 rdy = false) := by
  repeat' (with_reducible apply And.intro)
  all_goals decide +kernel

theorem wit_AdcCommands :
    (7 < nTiles rdy ∧ (adc (8 * 7) (setAdc 56 { cal := some 1000 } rdy)).cal = some 1000 ∧ due 1000 rdy = true) ∧
    (bR (oAdcRotCtl 0) 5 (putB (oAdcRotCtl 0) 5 true rdy) = true ∧ (adc (8 * 0) rdy).cal = none ∧ rdy.time.counting = true ∧
      ((rdy.time.epoch.toNat * 2 ^ 40 + rdy.time.tick.toNat) >>> fR (oAdcRotCtl 0) 4 0 rdy) % 33 ≠ (adc (8 * 0) rdy).rot) ∧
    (Reaches .adcCtl [7, 7] 0 (oAdcCtl (8 * 7 + 7)) 0xFD (putB (oAdcCtl 63) 0 false saf) ∧ bit (0xFD : W40) 0 = true ∧
      bR (oAdcCtl (8 * 7 + 7)) 0 (putB (oAdcCtl 63) 0 false saf) = false) ∧
    ((adc (8 * 0 + 7) (setAdc 7 { settle := some 1000 } rdy)).settle = some 1000) ∧
    (Reaches .adcRotCtl [7] 0 (oAdcRotCtl 7) 51 saf ∧ saf.fresh = []) ∧
    (bR (oAdcStatus (8 * 0 + 7)) 0 (putB (oAdcStatus 7) 0 true rdy) = true ∧ (List.replicate 16 (600000 : Int)).length = 16 ∧
      fR (oAdcCounts 7) 39 20 rdy < 2 ^ 20 - 1 ∧ fR (oAdcCounts 7) 19 0 rdy + 16 < 2 ^ 20) := by
  repeat' (with_reducible apply And.intro)
  all_goals
    first
    | decide +kernel
    | exact reaches_of (by decide +kernel)

theorem wit_BinderCommands :
    (({ rdy with bus := [{ at_ := 1000, word := 5, ref := 990 }, { at_ := 1001, word := 6, ref := 990 }] } : State).bus
        = { at_ := 1000, word := 5, ref := 990 } :: [{ at_ := 1001, word := 6, ref := 990 }] ∧ due 1000 rdy = true ∧ gated rdy = false ∧
      ∀ q ∈ ([{ at_ := 1001, word := 6, ref := 990 }] : List Posted), q.taken = true ∨ notBefore q.at_ 1000 = true) ∧
    (({ setPset 255 { st := .opn, hb := 900 } rdy with binder := { (setPset 255 { st := .opn, hb := 900 } rdy).binder with inbox := [.deadline 1000 255] } } : State).binder.inbox
        = [.deadline 1000 255] ∧ due (plus 1000 5) rdy = false ∧ ∀ e ∈ rdy.agenda, presents e.2 = true → due e.1 rdy = false) ∧
    (rdy.life = .ready) ∧
    (Reaches .bndArm [] 0 oBndArm (BitVec.ofNat 40 255) rdy ∧ fF (oBndSetCfg 255) 19 18 (setF (oBndSetCfg 255) (wd (2 ^ 18 + 1)) rdy) = 1 ∧
      fF (oBndSetCfg 255) 6 0 (setF (oBndSetCfg 255) (wd (2 ^ 18 + 1)) rdy) ≠ 0 ∧ (pset 255 rdy).pend = false) ∧
    (Reaches .bndArm [] 0 oBndArm 256 rdy) ∧
    ((pset 255 (setPset 255 { st := .opn, hb := 900 } rdy)).st = .opn ∧ bF (oBndSetCfg 255) 23 (setF (oBndSetCfg 255) (wd (2 ^ 23)) rdy) = true ∧
      due (plus 900 (fF (oBndSetCfg 255) 39 24 rdy)) rdy = true) ∧
    (Reaches .bndCommit [] 0 oBndCommit 1 rdy ∧ ∀ j ∈ List.range 256, (pset j rdy).st ≠ .opn) ∧
    (({ rdy with binder := { rdy.binder with goAt := some 0 } } : State).binder.goAt = some 0 ∧ bR oBndStatus 0 (putB oBndStatus 0 true rdy) = true ∧ due (plus 0 1000000) (tm (fun x => { x with tick := 1000000 })) = true ∧ rdy.binder.waited = false) := by
  repeat' (with_reducible apply And.intro)
  all_goals
    first
    | decide +kernel
    | exact reaches_of (by decide +kernel)

theorem wit_FinalVerdictPosted :
    ((slot 0 (setSlot 0 { wins := [⟨500, 16, 0, [], [], true, 0, none, false⟩] } rdy)).wins = [⟨500, 16, 0, [], [], true, 0, none, false⟩] ∧
      tilePowered (0 / 96) rdy = true ∧ winnowNext 0 ⟨500, 16, 0, [], [], true, 0, none, false⟩ = none ∧
      due (plus (plus 500 (16 - 1)) (winV ⟨500, 16, 0, [], [], true, 0, none, false⟩ 0)) rdy = true) := by
  repeat' (with_reducible apply And.intro)
  all_goals decide +kernel

theorem wit_SlotEvents :
    (bit (detNow 0 (setF (oSlotDet 0) 0x20 rdy)).det 5 = true ∧ tilePowered (0 / 96) rdy = true ∧ rdy.life = .ready ∧
      (slot 0 (setF (oSlotDet 0) 0x20 rdy)).detAt ≠ some (detStamp 0 (setF (oSlotDet 0) 0x20 rdy))) ∧
    (due (plus 500 (winV ⟨500, 0, 0, [], [], true, 0, none, false⟩ 0)) rdy = true) ∧
    (winnowNext 0 ⟨500, 64, 0, [(oWinThr 0, 5)], [], true, 0, none, false⟩ = some 1 ∧ due (plus 500 (partN ⟨500, 64, 0, [(oWinThr 0, 5)], [], true, 0, none, false⟩ 0 1
      * winD ⟨500, 64, 0, [(oWinThr 0, 5)], [], true, 0, none, false⟩ 0 - 1 + winV ⟨500, 64, 0, [(oWinThr 0, 5)], [], true, 0, none, false⟩ 0)) rdy = true ∧
      (winnowL ⟨500, 64, 0, [(oWinThr 0, 5)], [], true, 0, none, false⟩ 0 4 0 0).natAbs < (winR ⟨500, 64, 0, [(oWinThr 0, 5)], [], true, 0, none, false⟩ (oWinThr 0)).toNat) ∧
    ((winR ⟨500, 64, 0, [(oWinThr 0, 5), (oWinOfs 0, 9)], [], true, 0, none, false⟩ (oWinThr 0)).toNat
      ≤ (winnowL ⟨500, 64, 0, [(oWinThr 0, 5), (oWinOfs 0, 9)], [], true, 0, none, false⟩ 0 4 0 0).natAbs) ∧
    (tget? 5 ({ rdy with halves := [(5, ⟨[], 1000, 1⟩)] } : State).halves = some ⟨[], 1000, 1⟩ ∧ due 1000 rdy = true) := by
  repeat' (with_reducible apply And.intro)
  all_goals decide +kernel

theorem wit_CoreArithmetic :
    (CoreIssues 0 (cw 0x01 0) (cor (cw 0x01 0)) ∧ cf (cw 0x01 0) 79 72 = 1 ∧ CoreIssues 0 (cw 0x02 0) (cor (cw 0x02 0)) ∧ CoreIssues 0 (cw 0x03 0) (cor (cw 0x03 0))) ∧
    (CoreIssues 0 (cw 0x04 0) (cor (cw 0x04 0)) ∧ cf (cw 0x04 0) 71 69 ≠ 7 ∧ CoreIssues 0 (cw 0x05 0) (cor (cw 0x05 0)) ∧ CoreIssues 0 (cw 0x06 0) (cor (cw 0x06 0))) ∧
    (CoreIssues 0 (cw 0x07 0) (cor (cw 0x07 0)) ∧ CoreIssues 0 (cw 0x08 (2 ^ 68 + 2 ^ 66 + 2 ^ 54)) (cor (cw 0x08 (2 ^ 68 + 2 ^ 66 + 2 ^ 54))) ∧
      cf (cw 0x08 (2 ^ 68 + 2 ^ 66 + 2 ^ 54)) 68 67 = 2 ∧ cf (cw 0x08 (2 ^ 68 + 2 ^ 66 + 2 ^ 54)) 62 40 % 2 ^ 15 ≤ 16384) := by
  repeat' (with_reducible apply And.intro)
  all_goals
    first
    | decide +kernel
    | (unfold CoreIssues; decide +kernel)

theorem wit_CoreBankAccesses :
    (CoreIssues 0 (cw 0x01 (2 ^ 35)) (cor (cw 0x01 (2 ^ 35))) ∧ (core 0 (cor (cw 0x01 0))).taps = [] ∧ (portField (cw 0x01 0) 1).kind = 0 ∧ (portField (cw 0x01 0) 1).pm = false) := by
  repeat' (with_reducible apply And.intro)
  all_goals
    first
    | decide +kernel
    | (unfold CoreIssues; decide +kernel)

theorem wit_CoreFlow :
    (CoreIssues 0 (cw 0x09 (6 * 2 ^ 68)) (cor (cw 0x09 (6 * 2 ^ 68))) ∧ cf (cw 0x09 (6 * 2 ^ 68)) 71 68 < 7) ∧
    (CoreIssues 0 (cw 0x0A (2 ^ 53 + 2 ^ 40)) (cor (cw 0x0A (2 ^ 53 + 2 ^ 40))) ∧ 0 + 1 ≤ cf (cw 0x0A (2 ^ 53 + 2 ^ 40)) 52 40 ∧ cf (cw 0x0A (2 ^ 53 + 2 ^ 40)) 67 53 ≠ 0 ∧
      cf (cw 0x0A (2 ^ 40)) 67 53 = 0) ∧
    (CoreIssues 0 (cw 0x0C 0) (cor (cw 0x0C 0)) ∧ cf (cw 0x0C 0) 66 65 < 2 ∧ ((tget {} 0 (core 0 rdy).taps) : Tap).wrote = none ∧
      cf (cw 0x0C (2 * 2 ^ 65)) 66 65 = 2 ∧ CoreIssues 0 (cw 0x0C (2 * 2 ^ 65)) (cor (cw 0x0C (2 * 2 ^ 65)))) ∧
    (CoreIssues 0 (cw 0x0D 0) (cor (cw 0x0D 0)) ∧ CoreIssues 0 (cw 0x0E 0) (cor (cw 0x0E 0))) ∧
    (CoreIssues 0 (cw 0x0F 0) (cor (cw 0x0F 0)) ∧ CoreIssues 0 (cw 0x0B 0) (cor (cw 0x0B 0)) ∧ notBefore (0 : W40) 0 = true ∧ cf (cw 0x0B 0) 49 49 = 0) ∧
    (CoreIssues 0 (cw 0x0B (2 ^ 50)) (cor (cw 0x0B (2 ^ 50)) { d := [(0, 5)] }) ∧ notBefore (0 : W40) 5 = false ∧ cf (cw 0x0B (2 ^ 50)) 50 50 = 1) ∧
    (CoreIssues 0 (cw 0x10 0) (cor (cw 0x10 0)) ∧ 0x0F < cf (cw 0x10 0) 79 72) ∧
    (NoAccess (cw 0x0B 0) ∧ due 1000 rdy = true ∧ (core 0 (setCore 0 { st := .waiting, prog := [(0, cw 0x0B 0)], d := [(0, 5)], waitDl := some 1000 } rdy)).waitDl = some 1000 ∧
      (core 0 (setCore 0 { st := .waiting, prog := [(0, cw 0x0B 0)], d := [(0, 5)], waitDl := some 1000 } rdy)).loops = []) ∧
    (NoAccess (cw 0x0B 0) ∧ (core 0 (setCore 0 { st := .waiting, prog := [(0, cw 0x0B 0)], metAt := some 1000, waitDl := some 1000 } rdy)).metAt = some 1000 ∧
      notBefore (1000 : Tick) 1000 = true) := by
  repeat' (with_reducible apply And.intro)
  all_goals
    first
    | decide +kernel
    | (unfold CoreIssues; decide +kernel)
    | (unfold NoAccess; decide +kernel)

theorem wit_CoreCommandsAndTaps :
    (127 < 16 * nTiles rdy ∧ Reaches .coreCmd [7, 15] 0 (oCoreCmd 127) 1 rdy ∧ (core 127 rdy).st = .idle ∧
      ∀ r ∈ rdy.ce.cur.toList ++ rdy.ce.parked.map (fun e => e.2), r.opcode ≠ 0x305) ∧
    (Reaches .coreCmd [0, 0] 0 (oCoreCmd 0) 2 (cor 0) ∧ (core 0 (cor 0)).st = .running) ∧
    (Reaches .tapCfg [7, 15, 3] 0 (oTapCfg 127 3) 1 rdy ∧ rdy.fresh = []) ∧
    (fR (oTapCfg 0 3) 14 0 (putF (oTapCfg 0 3) 14 0 16384 (cor 0)) ≠ 0 ∧ bR (oTapCfg 0 3) 38 (putF (oTapCfg 0 3) 14 0 16384 (cor 0)) = false ∧
      (964 : Tick).toNat % chainD (chainAt 0 964 (cor 0)) = 0 ∧
      (cor 0).time.tick = plus 964 (stampDelay (setAt 0 964 (cor 0)) (chainD (chainAt 0 964 (cor 0))) + 5) ∧ (core 0 (cor 0)).taps = []) := by
  repeat' (with_reducible apply And.intro)
  all_goals
    first
    | decide +kernel
    | exact reaches_of (by decide +kernel)

/-! ### Witnesses: the device, its time, memory and engine -/

theorem wit_StepRunsFrontCommand :
    (({ rdy with pending := [.echo, .devInfo] } : State).pending = .echo :: [.devInfo]) := by
  all_goals decide +kernel

theorem wit_TicksAndEpochs :
    (rdy.pending = [] ∧ powered rdy = true ∧ rdy.time.counting = true ∧ stg.time.counting = false) ∧
    ((tm (fun x => { x with tick := 0xFFFFFFFFFF })).time.tick = 0xFFFFFFFFFF ∧ powered (tm (fun x => { x with tick := 0xFFFFFFFFFF })) = true) := by
  repeat' (with_reducible apply And.intro)
  all_goals decide +kernel

theorem wit_ModeWrites :
    (Reaches .mode [] 0 oMode (setBit (getR oMode saf) 0 false) saf ∧ saf.life = .safe ∧ Reaches .mode [] 0 oMode (setBit (getR oMode rdy) 5 true) rdy) ∧
    (fnReaches 15 { rdy with host := { rdy.host with vfEnable := true } } = true ∧ staged 15 rdy = none ∧ (15 : Nat) ≠ 0) ∧
    (fnReaches 0 stg = true ∧ staged 0 stg = none ∧ stg.life ≠ .safe ∧ stg.life ≠ .ready) ∧
    (Runs 0x002 (rout 0x002 0 []) (run (rout 0x002 0 []) saf) ∧ saf.life = .safe ∧ ∀ e ∈ saf.adcs, e.2.cal = none) ∧
    (({ rdy with life := .off } : State).life = .off ∧ rdy.pins.vaux = true) := by
  repeat' (with_reducible apply And.intro)
  all_goals
    first
    | decide +kernel
    | exact reaches_of (by decide +kernel)
    | (unfold Runs; decide +kernel)

theorem wit_LoopbackAndTwinModes :
    (({ rdy with lbReq := some (900, true) } : State).lbReq = some (900, true) ∧ anyInShot rdy = false ∧ rdy.time.req = none ∧ rdy.time.resume = none ∧
      paired rdy = false) ∧
    (due (plus 0 1000000) (tm (fun x => { x with tick := 1000000 })) = true ∧ rdy.lbWaited = false) ∧
    (({ rdy with lbResume := some 1000 } : State).lbResume = some 1000 ∧ due 1000 rdy = true) ∧
    (paired (putB oMode 3 true (putB oPairStatus 35 true (upp 0 {}))) = true ∧ portUp (pairPort (putB oPairStatus 35 true (upp 0 {}))) (upp 0 {}) = true ∧
      bR oModeStatus 9 rdy = false ∧ (63 % 64 ^^^ (getR oMode rdy).toNat) &&& 0x37 ≠ 0 ∧ ¬ ((1 % 64 ^^^ (getR oMode rdy).toNat) &&& 0x37 ≠ 0)) := by
  repeat' (with_reducible apply And.intro)
  all_goals decide +kernel

theorem wit_PowerAndReset :
    (({ rdy with life := .off } : State).life = .off ∧ rdy.pins.vaux = true ∧ ({ rdy with life := .halted } : State).life = .halted ∧ rdy.life ≠ .off) ∧
    (({ rdy with life := .off, pins := { rdy.pins with vaux := false } } : State).pins.vaux = false ∧ 9 < 10) := by
  repeat' (with_reducible apply And.intro)
  all_goals decide +kernel

theorem wit_ClocksAndDieLinks :
    (stg.life = .staging ∧ stg.time.everLocked = false ∧ hotForPower stg = false) ∧
    (hotForPower { stg with therm := { stg.therm with sensors := [(3, { reading := 30000 })] } } = true) ∧
    (rdy.time.locked = true ∧ rdy.time.refValid = true ∧ fR oClkStatus 15 8 rdy < 255 ∧ (tm (fun x => { x with refValid := false })).time.refValid = false ∧
      (tm (fun x => { x with refValid := false, refAt := some 0, tick := 10000000 })).time.refAt = some 0 ∧
      due (plus 0 10000000) (tm (fun x => { x with refValid := false, refAt := some 0, tick := 10000000 })) = true) ∧
    (7 < nTiles rdy ∧ tilePowered 7 rdy = true ∧ 7 ∉ rdy.cutTiles ∧ tileDie .drvCtl = true ∧ (oDrvCtl (96 * 7) - 0x1000000) / 0x400000 = 7) := by
  repeat' (with_reducible apply And.intro)
  all_goals decide +kernel

theorem wit_FatalEventsHalt :
    (rdy.haltAt = none ∧ stg.haltAt = none ∧ stg.time.everLocked = false ∧ rdy.time.locked = true ∧ tilePowered 7 rdy = true ∧ rdy.life ≠ .off) ∧
    (tget? 8 ({ rdy with therm := { rdy.therm with railBad := [(8, 0)] }, time := { rdy.time with tick := 10000 } } : State).therm.railBad = some 0 ∧
      due (plus 0 10000) ({ rdy with time := { rdy.time with tick := 10000 } }) = true) ∧
    (1 ∈ ({ rdy with ce := { rdy.ce with traps := [1] } } : State).ce.traps ∧ 1 ∉ rdy.ce.traps ∧ rdy.life = .ready ∧ ∀ e ∈ rdy.wits, e.2.bale = none) := by
  repeat' (with_reducible apply And.intro)
  all_goals decide +kernel

theorem wit_FunctionResets :
    (rdy.life ≠ .off ∧ 0 < 15 ∧ 15 < 16 ∧ ({ rdy with host := { rdy.host with vfEnable := true } } : State).host.vfEnable = true ∧ rdy.host.vfEnable = false) ∧
    (rdy.ce.hOnly = false ∧ rdy.ce.handlers = [] ∧ rdy.ce.traps = [] ∧ rdy.ce.flrWait = [] ∧
      ({ rdy with ce := { rdy.ce with hOnly := true } } : State).ce.hOnly = true) ∧
    (({ run (rout 0x000 0 []) with ce := { (run (rout 0x000 0 [])).ce with handlers := [(6, 1000)], flrRun := [0] } } : State).ce.handlers = (6, 1000) :: [] ∧
      due 1000 rdy = true ∧ (rout 0x000 0 []).ended = none ∧ (rout 0x000 0 []).dom ∈ [0]) := by
  repeat' (with_reducible apply And.intro)
  all_goals decide +kernel

theorem wit_StagingSteps :
    (({ stg with therm := { stg.therm with schedAt := some 0 } } : State).therm.schedAt = some 0 ∧ stepPresent (.bias 0) stg = true ∧ PwrStep.bias 0 ∉ stg.therm.steps ∧
      due (plus 0 (stepTime (.bias 0))) { stg with time := { stg.time with tick := 100000000 } } = true) ∧
    (stg.sec.nvmDone = false ∧ stg.sec.booted = false ∧ ({ stg with time := { stg.time with locked := true } } : State).time.locked = true) ∧
    (∀ n ∈ List.range (nStacks stg), PwrStep.stack n ∈ ({ stg with therm := { stg.therm with steps := [.stack 0, .stack 1] } } : State).therm.steps) ∧
    ((∀ p ∈ allSteps stg, p ∈ ({ stg with therm := { stg.therm with steps := allSteps stg } } : State).therm.steps) ∧ bR oGrStatus 2 (putB oGrStatus 2 true stg) = true ∧
      ∀ e ∈ stg.adcs, e.2.cal = none) ∧
    (rdy.life = .ready ∧ bR oSecStatus 14 rdy = false) := by
  repeat' (with_reducible apply And.intro)
  all_goals decide +kernel

theorem wit_DeviceRoutines :
    (Runs 0x000 (rout 0x000 0 [1, 2]) (run (rout 0x000 0 [1, 2])) ∧ Runs 0x001 (rout 0x001 0 []) (run (rout 0x001 0 []))) ∧
    (Runs 0x002 (rout 0x002 0 []) (run (rout 0x002 0 []) saf) ∧ (∀ e ∈ saf.adcs, e.2.cal = none) ∧ ∃ e ∈ (setAdc 0 { cal := some 5 } saf).adcs, e.2.cal ≠ none) ∧
    (Runs 0x003 (rout 0x003 0 []) (run (rout 0x003 0 [])) ∧ anyInShot rdy = false ∧ anyInShot (sq 0 { st := .running }) = true) ∧
    (due (plus 0 100000000) (tm (fun x => { x with tick := 100000000 })) = true ∧ ({ rdy with safePend := some 0 } : State).safePend = some 0) ∧
    (Runs 0x004 (rout 0x004 0 [20, 1]) (run (rout 0x004 0 [20, 1])) ∧ federated rdy = false ∧ rdy.time.req = none ∧ (prm (rout 0x004 0 [20, 1]) 0).toNat % 10 = 0) ∧
    (Runs 0x005 (rout 0x005 0 []) (run (rout 0x005 0 []) (putB oMode 4 true rdy)) ∧ federated (putB oMode 4 true rdy) = true ∧ fR oTimeStatus 2 0 rdy ≠ 1) := by
  repeat' (with_reducible apply And.intro)
  all_goals
    first
    | decide +kernel
    | (unfold Runs; decide +kernel)

theorem wit_TimeSteps :
    ((tm (fun x => { x with req := some ⟨.load 5000, 0, 900, some 980, false, false⟩ })).time.req = some ⟨.load 5000, 0, 900, some 980, false, false⟩ ∧
      due (ck3After 980) rdy = true ∧ rdy.time.counting = true) ∧
    ((tm (fun x => { x with resume := some 1000 })).time.resume = some 1000 ∧ due 1000 rdy = true) ∧
    (due (plus 0 1000000) (tm (fun x => { x with tick := 1000000 })) = true) := by
  repeat' (with_reducible apply And.intro)
  all_goals decide +kernel

theorem wit_SyncInAndOut :
    (rdy.life ≠ .staging ∧ bR oSyncInStat 0 (putB oSyncInStat 0 true rdy) = true ∧ bR oSyncInStat 2 rdy = false ∧ rdy.time.lastEdge = none ∧ rdy.time.fifo.length < 16) ∧
    (0 ≤ posDiff (samplePos 1000 (15 % 16)) ((16000 : BitVec 64)).toNat ∧ posDiff (samplePos 1000 (15 % 16)) ((16000 : BitVec 64)).toNat < 1600 ∧
      fR oSyncInStat 23 8 rdy < 2 ^ 16 - 1) ∧
    (Reaches .syncInStat [] 0 oSyncInStat (BitVec.ofNat 40 (fR oSyncInStat 1 0 saf + 4)) saf) ∧
    (fnReaches 0 rdy = true ∧ (tm (fun x => { x with fifo := [⟨5, 0, 3⟩] })).time.fifo = ⟨5, 0, 3⟩ :: [] ∧ rdy.time.fifo = []) ∧
    (fR oSyncOutCtl 1 0 (putF oSyncOutCtl 1 0 1 rdy) = 1 ∧ (tm (fun x => { x with fireNext := some 1000 })).time.fireNext = some 1000) ∧
    (Reaches .syncOutCtl [] 0 oSyncOutCtl 1 rdy ∧ notBefore (getR oSyncOutTime (setR oSyncOutTime 2000 rdy)) 1000 = true ∧ notBefore (getR oSyncOutTime (setR oSyncOutTime 900 rdy)) 1000 = false) ∧
    (Reaches .syncOutPeriod [] 0 oSyncOutPeriod 16 rdy ∧ rdy.fresh = []) := by
  repeat' (with_reducible apply And.intro)
  all_goals
    first
    | decide +kernel
    | exact reaches_of (by decide +kernel)

theorem wit_PtmAndTickReads :
    (fR oPtmCtl 15 0 (putF oPtmCtl 15 0 1 rdy) ≠ 0 ∧ rdy.time.ptmOut = none ∧ rdy.time.ptmNext = none ∧ ({ rdy with host := { rdy.host with ptmOn := true } } : State).host.ptmOn = true) ∧
    (Reaches .ptmCtl [] 0 oPtmCtl (BitVec.ofNat 40 (fR oPtmCtl 15 0 rdy + 2 ^ 16)) rdy) ∧
    ((tm (fun x => { x with ptmOut := some 0, tick := 10000 })).time.ptmOut = some 0 ∧ due (plus 0 10000) (tm (fun x => { x with ptmOut := some 0, tick := 10000 })) = true ∧
      due (plus 0 10001) (tm (fun x => { x with ptmOut := some 0, tick := 10000 })) = false ∧
      due (plus 0 10001) (tm (fun x => { x with ptmOut := some 0, tick := 10001 })) = true) ∧
    (fnReaches 0 rdy = true) := by
  repeat' (with_reducible apply And.intro)
  all_goals
    first
    | decide +kernel
    | exact reaches_of (by decide +kernel)

theorem wit_WitnessCommands :
    (63 < 8 * nTiles rdy ∧ Reaches .witCtl [0, 0] 0 (oWitCtl 0) 1 (rg 0 { type := 3, length := 8 }) ∧ bR (oWitStatus 0) 0 rdy = false ∧ bit (1 : W40) 0 = true ∧
      witHeld rdy + witReservation (fld (1 : W40) 19 17) (decim (96 * (0 / 8) + fld (1 : W40) 16 10) rdy) ≤ witCeiling rdy) ∧
    (witCeiling rdy < witHeld (setWit 1 { res := 1400000000 } rdy) + witReservation 0 1) ∧
    (Reaches .witCtl [0, 0] 0 (oWitCtl 0) 0 (wi0 {}) ∧ bR (oWitStatus 0) 0 (wi0 {}) = true ∧ bit (0 : W40) 0 = false) ∧
    (Reaches .witForce [0, 0] 0 (oWitForce 0) 1 (wi0 { st := .armed }) ∧ witRuns 0 (wi0 { st := .armed }) = true ∧ bR (oWitCtl 0) 9 (wi0 { st := .armed }) = false ∧
      (wit 0 (wi0 { st := .armed })).met = [] ∧ fR (oWitStatus 0) 39 20 (wi0 { st := .armed }) < 2 ^ 20 - 1 ∧
      (wit 0 (wi0 { st := .armed })).armedAt ≤ gridAt 0 (fullPos (wi0 { st := .armed }).time.tick 0 (wi0 { st := .armed })) (wi0 { st := .armed }) ∧
      (wit 0 (wi0 { st := .armed })).busyTo ≤ fullPos (wi0 { st := .armed }).time.tick 0 (wi0 { st := .armed }) / 16) ∧
    (Reaches .witForce [0, 0] 0 (oWitForce 0) 1 (wi0 { st := .armed, busyTo := 1001 }) ∧
      fullPos rdy.time.tick 0 rdy / 16 < (wit 0 (wi0 { st := .armed, busyTo := 1001 })).busyTo) ∧
    (Reaches .witForce [0, 0] 0 (oWitForce 0) 1 recd ∧ witRuns 0 recd = true ∧ (wit 0 recd).st = .recording ∧ (wit 0 recd).bale = some bale0 ∧
      (wit 0 recd).met = [] ∧ fullPos recd.time.tick 0 recd / 16 < baleEnd 0 bale0 recd ∧
      fR (oWitStatus 0) 39 20 recd < 2 ^ 20 - 1) ∧
    ((wit 0 (trigRun 0 ⟨0, []⟩ 0 0 (wi0 { st := .armed, met := [⟨4, 14400, 900, 0⟩] }))).met = ⟨4, 14400, 900, 0⟩ :: [] ∧
      commitDue 14400 (wi0 { st := .armed, met := [⟨4, 14400, 900, 0⟩] }) = true ∧ (wit 0 (wi0 { st := .armed })).bale = none ∧
      witFree 0 (wi0 { st := .armed }) < witHead 0 (wi0 { st := .armed })) ∧
    (witHead 0 (rg 0 { type := 3, length := 8 } (wi0 { st := .armed })) ≤ witFree 0 (rg 0 { type := 3, length := 8 } (wi0 { st := .armed }))) ∧
    ((wit 0 recd).closed = [] ∧ bale0.place = none ∧ baleDone 0 { bale0 with n := 0 } recd = true ∧ baleRoom bale0 recd < headSlots bale0.ctl ∧
      headSlots bale0.ctl ≤ baleRoom bale0 (rg 0 { type := 3, length := 8 } recd)) ∧
    ((wit 0 (wi0 { closed := [{ bale0 with place := some ⟨0x4000000, 8, 0, 8⟩ }] })).closed = { bale0 with place := some ⟨0x4000000, 8, 0, 8⟩ } :: [] ∧
      (⟨0x4000000, 8, 0, 8⟩ : BalePlace).length ≠ 0) ∧
    ((wit 0 (wi0 { st := .holdoff, hoEnd := some 16000 })).hoEnd = some 16000 ∧ witRuns 0 (wi0 { st := .holdoff, hoEnd := some 16000 }) = true ∧
      16000 / 16 ≤ (fullTime (wi0 { st := .holdoff, hoEnd := some 16000 })).toNat) ∧
    ((wit 0 (wi0 { st := .holdoff })).hoEnd = none) ∧
    (Runs 0x501 (rout 0x501 0xFFFFFF []) (run (rout 0x501 0xFFFFFF []) (wi0 {})) ∧ bR (oWitStatus 0) 0 (wi0 {}) = true ∧ mayAct 0 (tileDom 0 rdy) (tileSec 0 rdy) = true) := by
  repeat' (with_reducible apply And.intro)
  all_goals
    first
    | decide +kernel
    | exact reaches_of (by decide +kernel)
    | (unfold Runs; decide +kernel)

theorem wit_GranaryAccesses :
    (fnExists 0 rdy = true ∧ 0x04000000 ≤ memEnd rdy - 2 ∧ memEnd rdy - 2 + ([1, 2] : List Byte).length ≤ memEnd rdy ∧ refusedAt 0 false (memEnd rdy - 2) 2 rdy = false ∧
      rdy.gran.scrub = none) ∧
    (refusedAt 3 false 0x04000000 2 rdy = true ∧ fnExists 3 { rdy with host := { rdy.host with vfEnable := true } } = true) ∧
    (refusedAt 0 true 0x04000000 0 rdy = false ∧ bR oGrStatus 2 (putB oGrStatus 2 true rdy) = true ∧ fR oPowerStatus 29 28 rdy ≠ 0) ∧
    (Reaches .grRegion [63] 0 (oGrRegion 63) 0 rdy ∧ leavesSecure 63 (0 &&& 0xFFFFFFFFCF) rdy = false) ∧
    (({ rdy with gran := { rdy.gran with scrub := some (63, 5) } } : State).gran.scrub = some (63, 5)) := by
  repeat' (with_reducible apply And.intro)
  all_goals
    first
    | decide +kernel
    | exact reaches_of (by decide +kernel)

theorem wit_RingIndicesAndDrain :
    (Reaches .ringHeadAdv [] 0 oRingHeadAdv (wd (5 * 2 ^ 20 + 3)) (rg 5 { type := 2, length := 8, tail := 3 }) ∧
      headAdvRefusal 0 5 3 (rg 5 { type := 2, length := 8, tail := 3 }) = none ∧ headAdvRefusal 0 5 4 (rg 5 { type := 2, length := 8, tail := 3 }) = some 0x604) ∧
    (2048 * 0 + 7 ∈ ({ rdy with host := { rdy.host with msixOn := [0], pba := [7] } } : State).host.pba ∧ 0 ∈ ({ rdy with host := { rdy.host with msixOn := [0] } } : State).host.msixOn ∧
      0 ∉ rdy.host.fmask) ∧
    (drainReady 9 (rg 9 { type := 6, length := 8, w8 := 4 } (rg 4 { type := 2, length := 8, tail := 1, drained := true, drainer := 9 })) = true ∧ srcRing { type := 6, w8 := 4 } ≠ 9 ∧
      mayMaster 0 { rdy with host := { rdy.host with busMaster := [0] } } = true) ∧
    (Reaches .grEvlog [15] 0 (oGrEvlog 15) 7 rdy ∧ Reaches .grEvlog [0] 0 (oGrEvlog 0) (wd (2 ^ 20)) rdy ∧ bit (wd (2 ^ 20)) 20 = true) ∧
    (logHalf 3 { rdy with log := { rdy.log with half := [(3, ⟨[], 1000, 6⟩)] } } = some ⟨[], 1000, 6⟩ ∧ due 1000 rdy = true ∧ freeSlots { type := 4, owner := 3, length := 8 } ≠ 0) := by
  repeat' (with_reducible apply And.intro)
  all_goals
    first
    | decide +kernel
    | exact reaches_of (by decide +kernel)

theorem wit_RingRoutines :
    (Runs 0x101 (rout 0x101 5 [2]) (run (rout 0x101 5 [2])) ∧ bit (prm (rout 0x101 5 [2]) 0) 0 = false ∧ rdy.ce.handlers = [] ∧ (ring 5 rdy).length = 0) ∧
    (Runs 0x102 (rout 0x102 5 [wd (2 * 2 ^ 37), 0]) (run (rout 0x102 5 [wd (2 * 2 ^ 37), 0])) ∧ ringConfigRefusal 0 5 (ringAsk (rout 0x102 5 [wd (2 * 2 ^ 37), 0])) rdy = none) ∧
    (Runs 0x103 (rout 0x103 5 [0, 0]) (run (rout 0x103 5 [0, 0])) ∧ resizeRefusal 5 (prm (rout 0x103 5 [0, 0]) 0).toNat (fld (prm (rout 0x103 5 [0, 0]) 1) 29 0) false rdy = none) ∧
    (Runs 0x104 (rout 0x104 5 []) (run (rout 0x104 5 [])) ∧ Runs 0x105 (rout 0x105 5 []) (run (rout 0x105 5 [])) ∧ descrBad 5 rdy = false ∧
      Runs 0x105 (rout 0x105 5 []) (run (rout 0x105 5 []) (rg 5 { eccStop := true })) ∧ descrBad 5 (rg 5 { eccStop := true }) = true) := by
  repeat' (with_reducible apply And.intro)
  all_goals
    first
    | decide +kernel
    | (unfold Runs; decide +kernel)

theorem wit_EngineQueue :
    (Reaches .cmdDoorbell [] 0 oCmdDoorbell (wd (1 * 2 ^ 20 + 2)) cmd ∧ mayAct 0 (ring 1 cmd).owner (ring 1 cmd).secure = true ∧ (ring 1 cmd).type = 0 ∧ 2 ≤ freeSlots (ring 1 cmd)) ∧
    (mayAct 3 (ring 1 cmd).owner (ring 1 cmd).secure = false ∧ freeSlots (ring 1 cmd) < 8 ∧
      Reaches .cmdDoorbell [] 3 oCmdDoorbell (wd (1 * 2 ^ 20 + 2)) { cmd with host := { cmd.host with vfEnable := true } }) ∧
    (engineRuns cmd = true ∧ cmd.ce.cur = none ∧ cmd.ce.list.find? (startable cmd) = some 1 ∧ replyOk 1 cmd = true ∧ packetSlots (ring 1 cmd) cmd ≤ (ring 1 cmd).length) ∧
    (replyOk 1 cmd = true ∧ (toSlots (replyWords (rout 0 0 []) 0 ([] : List W40) 950)).length ≤ freeSlots (ring (replyRing (ring 1 cmd)) cmd) ∧
      (ring (replyRing (ring 1 cmd)) cmd).eccStop = false ∧ replyRing (ring 1 cmd) ≠ 1 ∧ (rout 0 0 []).flags.testBit 2 = false ∧ (rout 0 0 []).consume = true ∧ eccBad .corrected = false) ∧
    (tget? 1 (parkd { rout 0x003 0 [] with ended := some (0, [0], 950) }).ce.parked = some { rout 0x003 0 [] with ended := some (0, [0], 950) } ∧
      rdy.ce.cur = none ∧ rdy.ce.handlers = []) ∧
    (worstCase (rout 0 0 []) < ((200000 : Tick) - (rout 0 0 []).started).toNat - (rout 0 0 []).inHandlers ∧
      ¬ worstCase (rout 0 0 []) < ((901 : Tick) - (rout 0 0 []).started).toNat - (rout 0 0 []).inHandlers) := by
  repeat' (with_reducible apply And.intro)
  all_goals try exact reaches_of (by decide +kernel)
  all_goals decide +kernel

theorem wit_UnitLoads :
    (Runs 0x301 (rout 0x301 0 [0x4000000, 0, 2]) (run (rout 0x301 0 [0x4000000, 0, 2])) ∧ loadCheck (rout 0x301 0 [0x4000000, 0, 2]) 2 false (decide (8192 < 0 + 2)) rdy = none ∧
      (unbounded (fillTab 0 (bufWords 0x4000000 2 rdy) (seq 0 rdy).imem)).any (unbRefused (devNum rdy)) = false) ∧
    (loadCheck (rout 0x302 0 [0x4000000, 8190, 2]) 2 false (decide (8192 < 8190 + 2)) rdy = none ∧ loadCheck (rout 0x303 0 [0x4000000, 2097150, 2]) 2 false (decide (2097152 < 2097150 + 2)) rdy = none ∧
      (rout 0x303 0 [0x4000000, 2097150, 2]).progress.toNat = 0 ∧ ({ rout 0x303 0 [0x4000000, 2097150, 2] with progress := 1 } : Routine).progress.toNat ≠ 0) ∧
    (loadCheck (rout 0x401 0 [0x4000000, 4094, 2]) 2 false (decide (4096 < 4094 + 2)) rdy = none ∧ loadCheck (rout 0x402 0 [0x4000000, 65534, 2]) 2 false (decide (65536 < 65534 + 2)) rdy = none) ∧
    (Runs 0x305 (rout 0x305 0 [0x4000000, 0, 2, 0]) (run (rout 0x305 0 [0x4000000, 0, 2, 0])) ∧ coreCheck (rout 0x305 0 [0x4000000, 0, 2, 0]) rdy = none ∧
      coreCheck (rout 0x305 0 [0x4000000, 0, 2, 1]) rdy = none ∧ coreCheck (rout 0x306 0 [0x4000000, 0, 2, 2]) rdy = none) ∧
    (Runs 0x201 (rout 0x201 7 []) (run (rout 0x201 7 [])) ∧ 7 < nTiles rdy) := by
  repeat' (with_reducible apply And.intro)
  all_goals
    first
    | decide +kernel
    | (unfold Runs; decide +kernel)

/-- A buffer of at most 1 MiB at the beginning of the memory of domain 0 passes the checks. -/
theorem buffer_in_first_block (n : Nat) (h1 : 1 ≤ n) (h : n ≤ 0x100000) :
    bufferCheck (rout 0x704 0 [0x4000000]) 0x4000000 n (run (rout 0x704 0 [0x4000000])) = none := by
  have he : memEnd (run (rout 0x704 0 [0x4000000])) = 0x0C00000000 := by decide +kernel
  have ho : (fun o : Nat × Bool => o.1 == (rout 0x704 0 [0x4000000]).dom && o.2 == (rout 0x704 0 [0x4000000]).secure)
      (byteOwner 0x4000000 (run (rout 0x704 0 [0x4000000]))) = true := by decide +kernel
  have hb : blocksAll (fun o => o.1 == (rout 0x704 0 [0x4000000]).dom && o.2 == (rout 0x704 0 [0x4000000]).secure) 0x4000000 n
      (run (rout 0x704 0 [0x4000000])) = true := by
    unfold blocksAll
    have hk : (0x4000000 + n - 1) / 0x100000 - 0x4000000 / 0x100000 + 1 = 1 := by omega
    rw [hk]
    simpa [upTo, List.range_succ] using Or.inr ho
  unfold bufferCheck
  rw [he]
  have hm : min (max n 1) (0x0C00000000 - 0x4000000) = n := by omega
  simp only [hm, hb]
  simp only [Nat.lt_irrefl, if_false]
  rw [if_neg (by omega), if_neg (by simp), if_neg (by omega)]

theorem bundle_fits : 1 ≤ (identityBundle rdy).length ∧ (identityBundle rdy).length ≤ 0x100000 := by
  simp only [identityBundle, List.length_append, length_toLe, List.length_map, List.length_take, upTo, List.length_range]
  omega

/-- The checks of an IDENTITY whose buffer is the first memory of domain 0. -/
theorem wit_identity_buffer :
    bufferCheck (rout 0x704 0 [0x4000000]) 0x4000000 (identityBundle rdy).length (run (rout 0x704 0 [0x4000000])) = none :=
  buffer_in_first_block _ bundle_fits.1 bundle_fits.2

theorem wit_SecurityRoutines :
    (Runs 0x701 (rout 0x701 0 [0x4000000]) (run (rout 0x701 0 [0x4000000])) ∧ bufferCheck (rout 0x701 0 [0x4000000]) 0x4000000 3877 rdy = none ∧
      bR oSecStatus 32 (putB oSecStatus 32 true rdy) = true ∧ bR oSecStatus 32 rdy = false) ∧
    (Runs 0x702 (rout 0x702 0 [0x4000000, 100]) (run (rout 0x702 0 [0x4000000, 100])) ∧ bufferCheck (rout 0x702 0 [0x4000000, 100]) 0x4000000 100 rdy = none ∧ bR oLoftStatus 2 rdy = false) ∧
    (Runs 0x703 (rout 0x703 0 [2]) (run (rout 0x703 0 [2])) ∧ (prm (rout 0x703 0 [2]) 0).toNat ≤ fR oSecStatus 24 19 (putF oSecStatus 24 17 0x3FF rdy) ∧
      (prm (rout 0x703 0 [2]) 0).toNat ≤ 16 * fR oSecStatus 18 17 rdy + 15 ∧ rdy.sec.rollback < 2) ∧
    (Runs 0x704 (rout 0x704 0 [0x4000000]) (run (rout 0x704 0 [0x4000000]))) ∧
    (Runs 0x801 (rout 0x801 0 [0x4000000, 0, 16]) (run (rout 0x801 0 [0x4000000, 0, 16])) ∧ nvmCheck (rout 0x801 0 [0x4000000, 0, 16]) 0 16 true rdy = none) ∧
    (Runs 0x802 (rout 0x802 0 [0x4000000, 0x21FFFF0, 16]) (run (rout 0x802 0 [0x4000000, 0x21FFFF0, 16])) ∧ nvmCheck (rout 0x802 0 [0x4000000, 0x21FFFF0, 16]) 0x21FFFF0 16 false rdy = none) ∧
    (Runs 0x803 (rout 0x803 0 [0x4000000, 100]) (run (rout 0x803 0 [0x4000000, 100])) ∧ bufferCheck (rout 0x803 0 [0x4000000, 100]) 0x4000000 100 rdy = none) ∧
    (Runs 0x804 (rout 0x804 0 [5]) (run (rout 0x804 0 [5])) ∧ Runs 0x805 (rout 0x805 0 [7]) (run (rout 0x805 0 [7])) ∧ fld (prm (rout 0x805 0 [7]) 0) 2 0 = 7 ∧ fld (prm (rout 0x805 0 [1]) 0) 13 8 ≤ 39) := by
  repeat' (with_reducible apply And.intro)
  all_goals
    first
    | decide +kernel
    | (unfold Runs; decide +kernel)

theorem wit_NvmAndFuses :
    (tget? 1 (parkd (rout 0x802 0 [0, 0x2000000, 1])).ce.parked = some (rout 0x802 0 [0, 0x2000000, 1]) ∧ rdy.ce.cur = none) ∧
    (({ rdy with glean := { rdy.glean with pages := [(3, 5), (4, 6)] } } : State).glean.pages = (3, 5) :: [(4, 6)] ∧ rdy.glean.rewriting = none ∧ anyInShot rdy = false ∧ nvmFree rdy = true ∧
      bR oGleanCtl 27 (putB oGleanCtl 27 true rdy) = true ∧ rdy.therm.shutAt = none ∧ rdy.ce.handlers = []) ∧
    (({ rdy with glean := { rdy.glean with rewriting := some 3 } } : State).glean.rewriting = some 3 ∧ anyInShot (sq 0 { st := .running }) = true ∧
      ({ rdy with sec := { rdy.sec with burst := some 0 } } : State).sec.burst = some 0) ∧
    (rdy.life ≠ .off ∧ bR oSecStatus 32 (putB oSecStatus 32 true rdy) = true) := by
  repeat' (with_reducible apply And.intro)
  all_goals decide +kernel

theorem wit_MonitorConversions :
    (Runs 0x901 (rout 0x901 20 [5]) (run (rout 0x901 20 [5]) { rdy with mon := { rdy.mon with cur := some ⟨3, 1, 2000, false, false, false, false⟩ } }) ∧ fR oMonStatus 19 12 rdy < 2 ^ 8 - 1 ∧
      rdy.mon.urgent = [] ∧ (prm (rout 0x901 20 [5]) 0).toNat ≤ 5) ∧
    ((tget {} (57 - 16) ({ rdy with therm := { rdy.therm with sensors := [(41, { urgentPend := true })] } } : State).therm.sensors).urgentPend = true ∧ rdy.mon.cur = none ∧
      trapPends 5 { rdy with ce := { rdy.ce with traps := [5] } } = true ∧ trapFree 5 { rdy with ce := { rdy.ce with traps := [5] } } = true) ∧
    (({ rdy with mon := { rdy.mon with urgent := [⟨57, 0, false, 1000⟩] } } : State).mon.urgent = ⟨57, 0, false, 1000⟩ :: [] ∧ 16 ≤ 57) ∧
    (monRuns rdy = true ∧ due 1000 rdy = true ∧ sourceHere 129 rdy = true ∧ (sense 3 rdy).open_ = false) ∧
    (Reaches .senseCfg [15] 0 (oSenseCfg 15) 1 rdy ∧ bit (1 : W40) 0 = true ∧ bR (oSenseCfg 15) 0 rdy = false) ∧
    (Reaches .monScan [31] 0 (oMonScan 31) 1 rdy) := by
  repeat' (with_reducible apply And.intro)
  all_goals
    first
    | decide +kernel
    | exact reaches_of (by decide +kernel)
    | (unfold Runs; decide +kernel)

theorem wit_MonitorChecks :
    (monRuns rdy = true ∧ bR (oSenseCfg 15) 0 (putB (oSenseCfg 15) 0 true rdy) = true ∧ (sense 15 rdy).failed = 0 ∧ (sense 15 (setSense 15 { failed := 1 } rdy)).failed = 1) ∧
    (bR (oSenseStat 15) 9 rdy = false) ∧
    (fR (oWmonTile 7) 13 0 (putF (oWmonTile 7) 13 0 10 rdy) ≠ 0 ∧ rdy.time.tick.toNat % (100 * fR (oWmonTile 7) 13 0 (putF (oWmonTile 7) 13 0 10 rdy)) = 0 ∧ selfTesting 7 rdy = false) ∧
    (bR (oOvlCfg 7) 10 (putB (oOvlCfg 7) 10 true rdy) = true ∧ tget? 7 rdy.mon.ovl ≠ some rdy.time.tick ∧ fR (oOvlStat 7) 39 20 rdy < 2 ^ 20 - 1 ∧ 1000 * fR (oOvlCfg 7) 9 0 (putB (oOvlCfg 7) 10 true rdy) < 600001) ∧
    (Runs 0x902 (rout 0x902 0 []) (run (rout 0x902 0 []) saf)) := by
  repeat' (with_reducible apply And.intro)
  all_goals
    first
    | decide +kernel
    | (unfold Runs; decide +kernel)

/-! ### Witnesses: events, ports, federations, heat, the Gleaner and the host -/

theorem wit_EventCommands :
    (Reaches .evFire [] 0 oEvFire 511 rdy ∧ fabricRuns rdy = true) ∧
    (firstFire 511 { rdy with fabric := { rdy.fabric with fires := [⟨1000, 511, 2, none, true⟩] } } = some ⟨1000, 511, 2, none, true⟩ ∧ fR (oEvChanStat 511) 39 16 rdy < 2 ^ 24 - 1) ∧
    (Reaches .evRoute [0] 0 (oEvRoute 0) (wd (2 ^ 9)) rdy ∧ Reaches .evChanCfg [511] 0 (oEvChanCfg 511) 3 rdy ∧ rdy.fresh = []) ∧
    (Reaches .evRoute [5120] 0 (oEvRoute 5120) (wd (2 ^ 9)) rdy) := by
  repeat' (with_reducible apply And.intro)
  all_goals
    first
    | decide +kernel
    | exact reaches_of (by decide +kernel)

theorem wit_FramesAndItems :
    (bR (oPortCtl 5) 0 (prt 5 { phase := 4 }) = true ∧ fullMod 5 rdy = true ∧ rdy.time.counting = true ∧ (port 5 (prt 5 { phase := 4 })).phase = 4) ∧
    ((port 0 (prt 0 { phase := 5 })).phase = 5 ∧ (port 0 (prt 0 { phase := 3 })).phase = 3 ∧ gated rdy = false) ∧
    (bR (oPortCtl 0) 0 (upp 0 { out := [⟨1, 0, 1000, 990, 0, 0, 0⟩] } (tm (fun x => { x with tick := 1005 }))) = true ∧ fullMod 1000 (tm (fun x => { x with tick := 1005 })) = false ∧
      fullMod 5 (tm (fun x => { x with tick := 1005 })) = true ∧ notBefore 1000 1005 = false ∧ notBefore (plus 1000 5) 1005 = true ∧ federated rdy = false ∧
      usable 0 (putF (oPortStatus 0) 23 20 1 (putB oFedStatus 0 true { upp 0 { lastMsg := some 900, out := [⟨1, 0, 1000, 990, 0, 0, 0⟩] }
        (tm (fun x => { x with tick := 1005 })) with fed := { words := [0, wd 17] } })) = true) ∧
    ((rxFrame 0 ⟨[], [], 0⟩ (laneChange 0 ⟨[], [], 0⟩ (prt 0 { phase := 5 }))).twoErasures = true ∧ fR (oPortCounts 0) 29 20 rdy < 2 ^ 10 - 1) ∧
    ((rxFrame 0 ⟨lanes frame0, [], 0⟩ (laneChange 0 ⟨lanes frame0, [], 0⟩ (prt 0 { phase := 5 }))).twoErasures = false ∧
      (rxFrame 0 ⟨lanes frame0, [], 0⟩ (laneChange 0 ⟨lanes frame0, [], 0⟩ (prt 0 { phase := 5 }))).kOk = true ∧
      (rxFrame 0 ⟨lanes frame0, [], 0⟩ (laneChange 0 ⟨lanes frame0, [], 0⟩ (prt 0 { phase := 5 }))).words = frame0 ∧
      (port 0 (laneChange 0 ⟨lanes frame0, [], 0⟩ (prt 0 { phase := 5 }))).phase = 5 ∧ frameCrc frame0 = fld (nth 0 frame0 2) 31 0) ∧
    (firstItem rdy [⟨1, 0, 900, 890, 1, 1000, 900⟩] none = some ⟨1, 0, 900, 890, 1, 1000, 900⟩ ∧ federated (putB oMode 4 true rdy) = true ∧
      usable 0 (putF (oPortStatus 0) 23 20 1 (putB oFedStatus 0 true { upp 0 { lastMsg := some 900 } with fed := { words := [0, wd 17] } })) = true ∧ devNum rdy = 0) := by
  repeat' (with_reducible apply And.intro)
  all_goals decide +kernel

theorem wit_PortStates :
    (portUp 5 (upp 5 {}) = true) ∧
    (due (plus ((port 0 (upp 0 { missAt := some 0 })).missAt.getD 0) 1000) rdy = true ∧ (port 0 (upp 0 { missAt := some 0 })).missRun < 2 ∧ fR (oPortCounts 0) 9 0 rdy < 2 ^ 10 - 1) ∧
    (2 ≤ (port 0 (upp 0 { missRun := 2, missAt := some 0 })).missRun) ∧
    (training 5 (putB (oPortStatus 5) 26 true (prt 5 { phase := 5 })) = true ∧ bR (oPortStatus 5) 26 (putB (oPortStatus 5) 26 true (prt 5 { phase := 5 })) = true ∧
      gated rdy = false) ∧
    (Reaches .portCtl [5] 0 (oPortCtl 5) 1 rdy) ∧
    (bR (oPortCtl 0) 0 (prt 0 {}) = true ∧ (port 0 (prt 0 {})).phase = 0) ∧
    (phaseOver 0 (prt 0 { phase := 1, phaseAt := 900 }) = false ∧ phaseOver 0 (prt 0 { phase := 5, phaseAt := 900, goodRun := 1024 }) = false) ∧
    (phaseOver 0 (prt 0 { phase := 1, phaseAt := 0 } (tm (fun x => { x with tick := 100001 }))) = true) ∧
    (([15, 20, 30, 40, 50] : List Nat).length = 5 ∧ ([15, 20, 30, 40, 50] : List Nat).foldl min 255 < 16 ∧ (port 0 (upp 0 {})).eyeLow = false) ∧
    (Runs 0x605 (rout 0x605 0 []) (run (rout 0x605 0 []) (upp 0 {})) ∧ (rout 0x605 0 []).target = 0 ∧ (port 0 (upp 0 {})).phase = 6) := by
  repeat' (with_reducible apply And.intro)
  all_goals
    first
    | decide +kernel
    | exact reaches_of (by decide +kernel)
    | (unfold Runs; decide +kernel)

theorem wit_FederationReach :
    (Runs 0x601 (rout 0x601 0 [0x4000000, 18]) (run (rout 0x601 0 [0x4000000, 18])) ∧ federated rdy = false ∧ bufferCheck (rout 0x601 0 [0x4000000, 18]) 0x4000000 90 rdy = none ∧
      unbStarted rdy = false) ∧
    (fedContents (wd (1 * 2 ^ 36 + 1 * 2 ^ 32 + 15 * 2 ^ 28 + 2) :: List.replicate 17 0) rdy = none ∧
      bufferCheck (rout 0x601 0 [0x4000000, 18]) (prm (rout 0x601 0 [0x4000000, 18]) 0).toNat 90 fedBuf = none ∧
      fedContents (bufWords (prm (rout 0x601 0 [0x4000000, 18]) 0).toNat 18 fedBuf) fedBuf = none ∧ Runs 0x601 (rout 0x601 0 [0x4000000, 18]) fedBuf) ∧
    (Runs 0x602 (rout 0x602 0 []) (run (rout 0x602 0 [])) ∧ devNum rdy = 0) ∧
    (usable 0 (putF (oPortStatus 0) 23 20 1 (putB oFedStatus 0 true { upp 0 { lastMsg := some 900 } with fed := { words := [0, wd 17] } })) = true ∧ fld (wd (15 * 2 ^ 36)) 39 36 ≠ devNum rdy) ∧
    (fld (wd 5) 39 36 = devNum rdy ∧ fld (wd 5) 31 0 ≠ rdy.fuses.serial.toNat % 2 ^ 32 ∧ rdy.fed.clash = false ∧ bR oPairStatus 35 rdy = false ∧ gated rdy = false) ∧
    (fedWhole (putF oFedStatus 31 16 1 (putF oFedReach 15 0 1 (putB oMode 4 true rdy))) = true ∧ federated (putB oMode 4 true rdy) = true ∧
      bR oFedReach 15 rdy = false ∧ bR oFedStatus 1 rdy = false) ∧
    (tget? 15 ({ rdy with fed := { rdy.fed with seen := [(15, 0)] } } : State).fed.seen = some 0 ∧ bR oFedReach 15 (putB oFedReach 15 true rdy) = true ∧
      due (plus 0 3000) (tm (fun x => { x with tick := 3000 })) = true) := by
  repeat' (with_reducible apply And.intro)
  all_goals
    first
    | decide +kernel
    | (unfold Runs; decide +kernel)

theorem wit_PairsAndHandover :
    (Runs 0x603 (rout 0x603 0 [wd 16]) (run (rout 0x603 0 [wd 16]) (upp 0 {})) ∧ (upp 0 {}).pair.startAt.any (fun x => notBefore x 900) = false ∧ twinFresh (upp 0 {}) = none ∧
      twinFresh { upp 0 {} with pair := { (upp 0 {}).pair with twinHalf := some (ownHalf 0 false true rdy, 900) } } = some (ownHalf 0 false true rdy) ∧ gated rdy = false ∧
      pairOver 900 rdy = false ∧ fld (prm (rout 0x603 0 [wd 16]) 0) 3 0 < nPorts rdy) ∧
    (pairFailed (ownHalf 0 true false rdy) (ownHalf 0 false true rdy) = none ∧ pairFailed (ownHalf 0 true false rdy) (ownHalf 0 true true rdy) = some 2) ∧
    (due (plus 0 20000) (tm (fun x => { x with tick := 20000 })) = true ∧ ({ rdy with pair := { rdy.pair with startAt := some 0 } } : State).pair.startAt = some 0 ∧ rdy.pair.twinHalf = none) ∧
    (Runs 0x604 (rout 0x604 0 [9]) (run (rout 0x604 0 [9])) ∧ bR oPairStatus 35 (putB oPairStatus 35 true (upp 0 {})) = true ∧ portUp (pairPort (putB oPairStatus 35 true (upp 0 {}))) (upp 0 {}) = true ∧
      rdy.pair.myN = none ∧ rdy.pair.agreed = none ∧ rdy.pair.twinN = none) ∧
    (({ rdy with pair := { rdy.pair with myN := some (9, 900) } } : State).pair.myN = some (9, 900) ∧ due (plus 900 8001) rdy = false ∧
      due (plus 900 8001) (tm (fun x => { x with tick := 8901 })) = true) ∧
    (({ rdy with pair := { rdy.pair with agreed := some (9, 1000) } } : State).pair.agreed = some (9, 1000) ∧ rdy.pair.switching = false ∧ due 1000 rdy = true ∧
      ∀ g ∈ List.range (nSeqs rdy), inShot g ({ rdy with seqs := (List.range 768).map (fun g => (g, { st := .running })) }) = true) ∧
    (due (plus 0 8000) (tm (fun x => { x with tick := 8000 })) = true) ∧
    (cmpRuns (putB oMode 6 true (putB oMode 3 true (putB oPairStatus 35 true (upp 0 {})))) = true ∧ isEcho (putB oMode 6 true (putB oMode 3 true (putB oPairStatus 35 true (upp 0 {})))) = true ∧
      rdy.pair.items = [] ∧ vcmpOff (putB oMode 6 true (putB oMode 3 true (putB oPairStatus 35 true (upp 0 {})))) = false) ∧
    (({ rdy with pair := { rdy.pair with items := [⟨0, 1, 2, 3, 0, true⟩] } } : State).pair.items[0]? = some ⟨0, 1, 2, 3, 0, true⟩ ∧ due (plus 0 (cmpWait rdy)) (tm (fun x => { x with tick := 600000 })) = true ∧ cmpWait rdy ≤ 600000 ∧
      fR oPairCounts 19 0 rdy < 2 ^ 20 - 1) ∧
    ((ring 5 (rg 5 { type := 2, length := 8 })).type = 2 ∧ (ring 5 (rg 5 { type := 2, length := 8 })).eccStop = false ∧ freeSlots (ring 5 (rg 5 { type := 2, length := 8 })) ≠ 0 ∧ fld (wd 5) 19 0 = 5) := by
  repeat' (with_reducible apply And.intro)
  all_goals
    first
    | decide +kernel
    | (unfold Runs; decide +kernel)

theorem wit_ThermalCommands :
    (rdy.pins.vaux = true ∧ 41 ∈ sensorsOf rdy ∧ 31 ∈ sensorsOf rdy) ∧
    (trapPends 3 { rdy with ce := { rdy.ce with traps := [3] } } = true ∧ trapFree 3 { rdy with ce := { rdy.ce with traps := [3] }, therm := { rdy.therm with thrSet := true } } = true ∧
      bR oThermStatus 2 rdy = false ∧ bR oThermStatus 2 (putB oThermStatus 2 true rdy) = true ∧ rdy.therm.thrSet = false) ∧
    (trapPends 2 { rdy with ce := { rdy.ce with traps := [2] } } = true ∧ trapFree 2 { rdy with ce := { rdy.ce with traps := [2] } } = true ∧ bR oThermStatus 3 rdy = false ∧
      quiet rdy = true ∧ rdy.therm.graceAt = none) ∧
    (graceEnds 0 (tm (fun x => { x with tick := 10000000 })) = true ∧ ({ rdy with therm := { rdy.therm with shutAt := some 0 } } : State).therm.graceAt = none) ∧
    (restEnds 0 (setBias 5 { connected := true, out := 9 } (tm (fun x => { x with tick := 50000000 }))) = true) ∧
    (offReady { rdy with therm := { rdy.therm with graceAt := some 900 } } = true) ∧
    (lastTile rdy = some 7 ∧ due (plus 1000 (500000 * (nTiles rdy - 1 - 7))) rdy = true ∧ ({ rdy with life := .stopping, therm := { rdy.therm with offAt := some 1000 } } : State).therm.offAt = some 1000) ∧
    (86400000000000 ≤ ({ rdy with therm := { rdy.therm with saveNs := 86400000000000 } } : State).therm.saveNs ∧ rdy.therm.shutAt = none ∧ Reaches .thermThr [] 0 oThermThr 0x73695F rdy ∧ rdy.fresh = []) := by
  repeat' (with_reducible apply And.intro)
  all_goals
    first
    | decide +kernel
    | exact reaches_of (by decide +kernel)

theorem wit_GleanerMeasures :
    (gleanMay 0 0 0 (putF oGleanCtl 39 28 1 (tm (fun x => { x with tick := 1000020 }))) = true ∧
      plus (quietStart (putF oGleanCtl 39 28 1 (tm (fun x => { x with tick := 20 }))) (gleanOwners 0 0 0 rdy)) 20 = 20 ∧ receiverFree 20 0 rdy = true ∧
      (∀ g ∈ gleanOwners 0 0 0 rdy, ownerQuiet 20 g (tm (fun x => { x with tick := 20 })) = true) ∧ (∀ g ∈ gleanOwners 0 0 0 rdy, gapHolds (plus 20 (gleanTime 0)) rdy g = true) ∧
      periodOver 20 (gleanKey 0 0 0) rdy = true ∧ gleanFirst 0 0 0 (putF oGleanCtl 39 28 1 (tm (fun x => { x with tick := 20 }))) = true) ∧
    (tget? 7 ({ rdy with glean := { rdy.glean with run := [(7, ⟨0, 23, 1000⟩)] } } : State).glean.run = some ⟨0, 23, 1000⟩ ∧ due 1000 rdy = true ∧ gleanUnit 7 0 23 rdy = true) := by
  repeat' (with_reducible apply And.intro)
  all_goals decide +kernel

theorem wit_HostAccesses :
    (Reaches .evRoute [0] 0 (oEvRoute 0) 512 rdy ∧ effectA 0 ⟨.evRoute, 0, [], 0, 0, 0, false, .dom0⟩ [0] (oEvRoute 0) 512 rdy = none ∧
      effectB 0 ⟨.evRoute, 0, [], 0, 0, 0, false, .dom0⟩ [0] 512 rdy = none) ∧
    (fnReaches 0 rdy = true ∧ staged 0 rdy = none ∧ staged 0 { rdy with host := { rdy.host with stage := [(0, (oMode, 1))] } } = some (oMode, 1) ∧ fR (oHostStatus 0) 19 8 rdy < 2 ^ 12 - 1) ∧
    (tget? 0 ({ rdy with host := { rdy.host with rlatch := [(0, (oMode, 5))] } } : State).host.rlatch = some (oMode, 5)) ∧
    (Reaches .vecAlloc [15] 0 (oVecAlloc 15) 0 rdy ∧ Reaches .seqOwner [7, 95] 0 (oSeqOwner 767) 3 rdy ∧ movesSecure (getR (oSeqOwner 767) rdy) 3 = false) ∧
    (Reaches .seqOwner [0, 0] 0 (oSeqOwner 0) 3 (setR (oSeqOwner 0) 0x10 rdy) ∧ movesSecure (getR (oSeqOwner 0) (setR (oSeqOwner 0) 0x10 rdy)) 3 = true) ∧
    (Reaches .secDomains [] 0 oSecDomains 0xFFFF rdy) := by
  repeat' (with_reducible apply And.intro)
  all_goals
    first
    | decide +kernel
    | exact reaches_of (by decide +kernel)

theorem wit_RefusedWritesChangeNothing :
    (fnReaches 0 rdy = true ∧ staged 0 rdy = none ∧ (absentAt 0x1084000 rdy).isSome = true) ∧
    (absentAt oMode stg = none ∧ unpoweredAt oMode stg = false ∧ (findReg oMode).map (fun e => writeRefusal 0 e.1 e.2 oMode 1 stg) = some (some 2)) ∧
    (absentAt oSyncInStat rdy = none ∧ (findReg oSyncInStat).map (fun e => (e.1.k, writeRefusal 0 e.1 e.2 oSyncInStat 4 rdy)) = some (.syncInStat, some 2)) := by
  repeat' (with_reducible apply And.intro)
  all_goals decide +kernel

theorem wit_ManagementAnswers :
    (rdy.pins.vaux = true ∧ 41 < 42) := by
  repeat' (with_reducible apply And.intro)
  all_goals decide +kernel

theorem wit_StepKeepsInvariant :
    (memOk rdy = true) := by
  all_goals decide +kernel

end Sys2Proof.Machine.Tests
end

section
/-! PROOF. Modes (R33, R34): what a write of MODE does in each lifecycle state, the entry to READY, and the entry to STAGING. -/

namespace Sys2Proof.Machine

/-! ### Bits of a word after a field of it is set -/

/-- The number that `setFld` builds, cut at the two ends of the field. -/
theorem setFld_sum (v : W40) (hi lo y : Nat) :
    v.toNat - fld v hi lo * 2 ^ lo + y * 2 ^ lo =
      2 ^ lo * (2 ^ (hi + 1 - lo) * (v.toNat / 2 ^ lo / 2 ^ (hi + 1 - lo)) + y) + v.toNat % 2 ^ lo := by
  have hlow := Nat.div_add_mod v.toNat (2 ^ lo)
  have hfld := Nat.div_add_mod (v.toNat / 2 ^ lo) (2 ^ (hi + 1 - lo))
  rw [fld, Nat.shiftRight_eq_div_pow, Nat.mul_comm _ (2 ^ lo), Nat.mul_comm y, Nat.mul_add]
  rw [← hfld, Nat.mul_add] at hlow
  omega

/-- Setting bits hi:lo replaces those bits and leaves every other as it was. -/
theorem bit_setFld (v : W40) {hi lo : Nat} (x j : Nat) (hl : lo ≤ hi) (hh : hi < 40) :
    bit (setFld v hi lo x) j = if lo ≤ j ∧ j ≤ hi then x.testBit (j - lo) else bit v j := by
  have hlow : v.toNat % 2 ^ lo < 2 ^ lo := Nat.mod_lt _ (Nat.two_pow_pos _)
  have hfld : x % 2 ^ (hi + 1 - lo) < 2 ^ (hi + 1 - lo) := Nat.mod_lt _ (Nat.two_pow_pos _)
  have hout : 40 ≤ j → v.toNat.testBit j = false := fun h =>
    Nat.testBit_lt_two_pow (lt_of_lt_of_le v.isLt (Nat.pow_le_pow_right (by decide) h))
  rw [bit, bit, setFld, BitVec.toNat_ofNat, Nat.testBit_mod_two_pow, setFld_sum,
    Nat.testBit_two_pow_mul_add _ hlow, Nat.testBit_two_pow_mul_add _ hfld]
  simp only [Nat.testBit_mod_two_pow, Nat.testBit_div_two_pow]
  by_cases hj : j < lo
  · simp [hj, Nat.not_le.2 hj, show j < 40 by omega]
  · by_cases hk : j ≤ hi
    · simp [hj, hk, Nat.not_lt.1 hj, show j < 40 by omega, show j - lo < hi + 1 - lo by omega]
    · have hback : j - lo - (hi + 1 - lo) + (hi + 1 - lo) + lo = j := by omega
      simp only [if_neg hj, if_neg (show ¬ j - lo < hi + 1 - lo by omega), hback,
        if_neg (fun h : lo ≤ j ∧ j ≤ hi => hk h.2)]
      by_cases h40 : j < 40
      · simp [h40]
      · simp [h40, hout (by omega)]

/-- Setting bit `i` gives it its value and leaves every other as it was. -/
theorem bit_setBit (v : W40) {i : Nat} (b : Bool) (j : Nat) (hi : i < 40) :
    bit (setBit v i b) j = if j = i then b else bit v j := by
  rw [setBit, bit_setFld v _ j (Nat.le_refl i) hi]
  by_cases hj : j = i
  · subst hj; cases b <;> simp
  · rw [if_neg hj, if_neg (by omega)]

/-- The bits of a field of a word are the bits of the word there. -/
theorem testBit_fld (v : W40) (hi lo j : Nat) (hj : lo + j ≤ hi) : (fld v hi lo).testBit j = bit v (lo + j) := by
  rw [fld, bit, Nat.testBit_mod_two_pow, Nat.testBit_shiftRight]
  simp [show j < hi + 1 - lo by omega]

/-! ### What an operation leaves alone

`ModeKept`: MODE and the lifecycle state. `EntryFrame`: all that an entry to READY does not touch. `EntryStep`: both. -/

/-- MODE and the lifecycle state stay. -/
structure ModeKept (s t : State) : Prop where
  life : t.life = s.life
  reg : getR oMode t = getR oMode s

/-- Nothing has changed but what the units hold that MODE and the lifecycle state govern. -/
def EntryFrame (s t : State) : Prop :=
  t = { s with
    life := t.life, regs := t.regs, force := t.force, time := t.time, log := t.log, lbReq := t.lbReq, lbWaited := t.lbWaited,
      lbResume := t.lbResume, armAfter := t.armAfter, seqs := t.seqs, outs := t.outs, bias := t.bias, slots := t.slots,
      wits := t.wits, fed := t.fed, pair := t.pair }

/-- An operation of the entry to READY that leaves MODE and the lifecycle state. -/
structure EntryStep (s t : State) : Prop where
  frame : EntryFrame s t
  kept : ModeKept s t

variable {s t u : State}

theorem ModeKept.refl (s : State) : ModeKept s s := ⟨rfl, rfl⟩

theorem ModeKept.trans (h : ModeKept s t) (k : ModeKept t u) : ModeKept s u :=
  ⟨k.life.trans h.life, k.reg.trans h.reg⟩

theorem ModeKept.mode (h : ModeKept s t) (j : Nat) : mode j t = mode j s := by
  rw [Machine.mode, Machine.mode, bR, bR, h.reg]

theorem EntryFrame.refl (s : State) : EntryFrame s s := rfl

theorem EntryFrame.trans (h : EntryFrame s t) (k : EntryFrame t u) : EntryFrame s u := by
  unfold EntryFrame at h k ⊢
  rw [h] at k
  exact k

theorem EntryStep.refl (s : State) : EntryStep s s := ⟨.refl s, .refl s⟩

theorem EntryStep.trans (h : EntryStep s t) (k : EntryStep t u) : EntryStep s u :=
  ⟨h.frame.trans k.frame, h.kept.trans k.kept⟩

theorem EntryStep.ite {c : Prop} [Decidable c] (h : EntryStep s t) (k : EntryStep s u) :
    EntryStep s (if c then t else u) := by
  split
  · exact h
  · exact k

theorem ModeKept.ite {c : Prop} [Decidable c] (h : ModeKept s t) (k : ModeKept s u) :
    ModeKept s (if c then t else u) := by
  split
  · exact h
  · exact k

/-- What every turn of a fold keeps, the fold keeps. -/
theorem foldS_rel {α : Type} {R : State → State → Prop} (hr : ∀ s, R s s) (ht : ∀ {s t u}, R s t → R t u → R s u)
    {f : α → State → State} (hf : ∀ a s, R s (f a s)) : ∀ (l : List α) (s : State), R s (foldS f l s)
  | [], s => hr s
  | a :: l, s => ht (hf a s) (foldS_rel hr ht hf l (f a s))

theorem EntryStep.foldS {α : Type} {f : α → State → State} (hf : ∀ a s, EntryStep s (f a s)) (l : List α) (s : State) :
    EntryStep s (foldS f l s) := foldS_rel .refl .trans hf l s

theorem ModeKept.foldS {α : Type} {f : α → State → State} (hf : ∀ a s, ModeKept s (f a s)) (l : List α) (s : State) :
    ModeKept s (foldS f l s) := foldS_rel .refl .trans hf l s

/-! ### Registers, records and units -/

theorem entryStep_setR {off : Nat} (h : oMode ≠ off) (v : W40) (s : State) : EntryStep s (setR off v s) :=
  ⟨rfl, rfl, getR_setR_ne s h v⟩

theorem entryStep_putB {off : Nat} (h : oMode ≠ off) (i : Nat) (b : Bool) (s : State) : EntryStep s (putB off i b s) :=
  entryStep_setR h _ s

theorem entryStep_putF {off : Nat} (h : oMode ≠ off) (hi lo x : Nat) (s : State) : EntryStep s (putF off hi lo x s) :=
  entryStep_setR h _ s

theorem entryStep_bump {off : Nat} (h : oMode ≠ off) (hi lo : Nat) (s : State) : EntryStep s (bump off hi lo s) :=
  entryStep_putF h _ _ _ s

theorem entryStep_setF (off : Nat) (v : W40) (s : State) : EntryStep s (setF off v s) := ⟨rfl, rfl, rfl⟩

theorem entryStep_commitRegs (offs : List Nat) (s : State) : EntryStep s (commitRegs offs s) :=
  .foldS (fun o s => entryStep_setF o (getR o s) s) offs s

theorem entryStep_record (src code detail : Nat) (w3 : W40) (s : State) : EntryStep s (record src code detail w3 s) :=
  ⟨rfl, rfl, rfl⟩

theorem entryStep_setSeq (g : Nat) (q : Seq) (s : State) : EntryStep s (setSeq g q s) := ⟨rfl, rfl, rfl⟩
theorem entryStep_modSeq (g : Nat) (f : Seq → Seq) (s : State) : EntryStep s (modSeq g f s) := entryStep_setSeq g _ s
theorem entryStep_setBias (g : Nat) (x : Bias) (s : State) : EntryStep s (setBias g x s) := ⟨rfl, rfl, rfl⟩
theorem entryStep_setSlot (g : Nat) (x : Slot) (s : State) : EntryStep s (setSlot g x s) := ⟨rfl, rfl, rfl⟩
theorem entryStep_setOut (o : Nat) (x : Output) (s : State) : EntryStep s (setOut o x s) := ⟨rfl, rfl, rfl⟩
theorem entryStep_setWit (e : Nat) (x : Wit) (s : State) : EntryStep s (setWit e x s) := ⟨rfl, rfl, rfl⟩

theorem entryStep_lbReq (x : Option (Tick × Bool)) (b : Bool) (s : State) : EntryStep s { s with lbReq := x, lbWaited := b } :=
  ⟨rfl, rfl, rfl⟩
theorem entryStep_lbResume (x : Option Tick) (s : State) : EntryStep s { s with lbResume := x } := ⟨rfl, rfl, rfl⟩
theorem entryStep_armAfter (x : Option Tick) (s : State) : EntryStep s { s with armAfter := x } := ⟨rfl, rfl, rfl⟩
theorem entryStep_itemsOff (p : CmpItem → Bool) (s : State) : EntryStep s (itemsOff p s) := ⟨rfl, rfl, rfl⟩

/-! ### The units that follow MODE -/

theorem oMode_ne_oSlotStatus (g : Nat) : oMode ≠ oSlotStatus g := by simp only [oMode, oSlotStatus]; omega
theorem oMode_ne_oWitStatus (e : Nat) : oMode ≠ oWitStatus e := by simp only [oMode, oWitStatus]; omega
theorem oMode_ne_oEvInCnt (i : Nat) : oMode ≠ oEvInCnt i := by simp only [oMode, oEvInCnt]; omega
theorem oMode_ne_oBarrierStat (b : Nat) : oMode ≠ oBarrierStat b := by simp only [oMode, oBarrierStat]; omega
theorem oMode_ne_oHostStatus (m : Nat) : oMode ≠ oHostStatus m := by simp only [oMode, oHostStatus]; omega
theorem oMode_ne_oTimeStatus : oMode ≠ oTimeStatus := by decide
theorem oMode_ne_oModeStatus : oMode ≠ oModeStatus := by decide

theorem entryStep_fsetUpdate (g : Nat) (s : State) : EntryStep s (fsetUpdate g s) := by
  unfold fsetUpdate
  refine .ite (entryStep_setSlot g _ s) ?_
  split
  · exact entryStep_setSlot g _ s
  · exact ((entryStep_setSlot g _ s).trans (entryStep_putB (oMode_ne_oSlotStatus g) _ _ _)).trans (entryStep_setSlot g _ _)

theorem entryStep_fsetAll (s : State) : EntryStep s (fsetAll s) :=
  .foldS (fun g s => .ite (entryStep_fsetUpdate g s) (.refl s)) _ s

theorem entryStep_reasonsUpdate (s : State) : EntryStep s (reasonsUpdate s) :=
  .foldS (fun (e : Nat × Seq) s => .ite (entryStep_modSeq e.1 _ s) (.refl s)) _ s

theorem entryStep_goRest (life : Bool) (x : Tick) (g : Nat) (s : State) : EntryStep s (goRest life x g s) :=
  .ite (.refl s) (entryStep_setBias g _ s)

theorem entryStep_leaveRest (x : Tick) (g : Nat) (s : State) : EntryStep s (leaveRest x g s) :=
  .ite (entryStep_setBias g _ s) (.refl s)

theorem entryStep_biasFollow (x : Tick) (s : State) : EntryStep s (biasFollow x s) :=
  .ite (.foldS (fun g s => .ite (.refl s) (entryStep_goRest false x g s)) _ s) (.foldS (entryStep_leaveRest x) _ s)

theorem entryStep_cmpHalt (s : State) : EntryStep s (cmpHalt s) :=
  (entryStep_itemsOff (fun _ => true) s).trans (.foldS (fun (e : Nat × Output) s => entryStep_setOut e.1 _ s) _ _)

theorem entryStep_witIgnore (e cause : Nat) (s : State) : EntryStep s (witIgnore e cause s) :=
  (entryStep_bump (oMode_ne_oWitStatus e) _ _ s).trans
    (.ite (entryStep_bump (oMode_ne_oEvInCnt _) _ _ _) (.refl _))

theorem entryStep_witSettle (e : Nat) (ms : List Met) (s : State) : EntryStep s (witSettle e ms s) := by
  cases ms with
  | nil => exact entryStep_setWit e _ s
  | cons m ms => exact (entryStep_setWit e _ s).trans (.foldS (fun (x : Met) s => entryStep_witIgnore e x.cause s) _ _)

theorem entryStep_witArm (x : Tick) (e : Nat) (s : State) : EntryStep s (witArm x e s) :=
  ((entryStep_setWit e _ s).trans (entryStep_setWit e _ _)).trans (entryStep_witSettle e _ _)

theorem entryStep_witArmAll (x : Tick) (s : State) : EntryStep s (witArmAll x s) :=
  .foldS (fun e s => .ite (entryStep_witArm x e s) (.refl s)) _ s

theorem entryStep_relaySwitch (lb : Bool) (s : State) : EntryStep s (relaySwitch lb s) := by
  unfold relaySwitch
  extract_lets shown committed recorded moved noted
  have hshown : EntryStep s shown := (entryStep_lbReq none false s).trans
    ((entryStep_putB oMode_ne_oModeStatus 8 false _).trans (entryStep_putB oMode_ne_oModeStatus 7 lb _))
  have hcommitted : EntryStep shown committed := entryStep_commitRegs _ _
  have hrecorded : EntryStep committed recorded := entryStep_record _ _ _ _ _
  have hmoved : EntryStep recorded moved := .ite (.refl _) (entryStep_biasFollow _ _)
  have hnoted : EntryStep moved noted := .foldS (fun g s => entryStep_setSlot g _ s) _ _
  exact hshown.trans (hcommitted.trans (hrecorded.trans (hmoved.trans (hnoted.trans
    ((entryStep_lbResume _ _).trans ((entryStep_itemsOff _ _).trans (entryStep_fsetAll _)))))))

/-! ### FEDERATED takes effect, or returns to 0 (R34) -/

theorem mode_putB_oMode (i : Nat) (b : Bool) (j : Nat) (s : State) (hi : i < 40) :
    mode j (putB oMode i b s) = if j = i then b else mode j s := by
  rw [mode, bR, putB, getR_setR, bit_setBit _ b j hi]
  rfl

theorem entryStep_fedStart (s : State) : EntryStep s (fedStart s) := by
  have hB (i : Nat) (b : Bool) (s : State) := entryStep_putB oMode_ne_oTimeStatus i b s
  have hF (hi lo x : Nat) (s : State) := entryStep_putF oMode_ne_oTimeStatus hi lo x s
  unfold fedStart
  refine .ite ?_ ?_
  · exact (hB _ _ s).trans ((hB _ _ _).trans ((hF _ _ _ _).trans ((hF _ _ _ _).trans (hF _ _ _ _))))
  · have hacq (x : TimeS) (y : Fed) : EntryStep s { s with time := x, fed := y } := ⟨rfl, rfl, rfl⟩
    exact (hacq _ _).trans ((hB _ _ _).trans ((hB _ _ _).trans ((hF _ _ _ _).trans (hF _ _ _ _))))

theorem fedTake_loaded (h : bR oFedStatus 0 s = true) : fedTake s = fedStart s := if_pos h

theorem fedTake_unloaded (h : bR oFedStatus 0 s = false) : fedTake s = record 0x700F 0x103 0 0 (putB oMode 4 false s) :=
  if_neg (by simp [h])

theorem entryFrame_fedTake (s : State) : EntryFrame s (fedTake s) := by
  cases h : bR oFedStatus 0 s with
  | true => exact fedTake_loaded h ▸ (entryStep_fedStart s).frame
  | false => exact fedTake_unloaded h ▸ rfl

theorem life_fedTake (s : State) : (fedTake s).life = s.life := by
  cases h : bR oFedStatus 0 s with
  | true => rw [fedTake_loaded h, (entryStep_fedStart s).kept.life]
  | false => rw [fedTake_unloaded h]; rfl

/-- R34: FEDERATED stays where a configuration is loaded, and returns to 0 where none is; no other mode changes. -/
theorem mode_fedTake (j : Nat) (s : State) :
    mode j (fedTake s) = if j = 4 then mode 4 s && bR oFedStatus 0 s else mode j s := by
  cases h : bR oFedStatus 0 s with
  | true =>
    rw [fedTake_loaded h, (entryStep_fedStart s).kept.mode]
    by_cases hj : j = 4 <;> simp [hj]
  | false =>
    rw [fedTake_unloaded h, (entryStep_record _ _ _ _ _).kept.mode, mode_putB_oMode _ _ _ _ (by decide)]
    simp

/-! ### Entry to READY (R29, R33) -/

/-- A mode acts only in READY. -/
theorem modeOn_of_ready (h : s.life = .ready) (j : Nat) : modeOn j s = mode j s := by simp [modeOn, h]

theorem modeOn_of_not_ready (h : s.life ≠ .ready) (j : Nat) : modeOn j s = false := by simp [modeOn, h]

/-- FEDERATED taken on an entry to READY: every other mode stays. -/
theorem fedTake_if_federated (s : State) :
    let t := if mode 4 s then fedTake s else s
    EntryFrame s t ∧ t.life = s.life ∧ ∀ j, j ≠ 4 → mode j t = mode j s := by
  intro t
  simp only [t]
  split
  · exact ⟨entryFrame_fedTake s, life_fedTake s, fun j hj => (mode_fedTake j s).trans (if_neg hj)⟩
  · exact ⟨rfl, rfl, fun _ _ => rfl⟩

/-- What an entry to READY does to MODE and to what it leaves alone. -/
theorem enterReady_entry (s : State) : EntryFrame s (enterReady s) ∧ (enterReady s).life = .ready ∧
    ∀ j, j ≠ 4 → mode j (enterReady s) = mode j s := by
  unfold enterReady
  extract_lets entered federated compared switched looped
  have hentered : EntryFrame s entered := rfl
  have hlife : entered.life = .ready := rfl
  have hmode (j : Nat) : mode j entered = mode j s := rfl
  obtain ⟨hframe2, hlife2, hmode2⟩ : EntryFrame entered federated ∧ federated.life = entered.life ∧
    ∀ j, j ≠ 4 → mode j federated = mode j entered := fedTake_if_federated entered
  have hcompared : EntryStep federated compared := .ite (entryStep_cmpHalt _) (.refl _)
  have hswitched : EntryStep compared switched := entryStep_relaySwitch true compared
  have hlooped : EntryStep compared looped := .ite (hswitched.trans (entryStep_armAfter _ switched)) (.refl _)
  clear_value entered federated compared switched looped
  have hrest := hcompared.trans (hlooped.trans ((entryStep_witArmAll (now looped) looped).trans
    ((entryStep_fsetAll _).trans (entryStep_reasonsUpdate _))))
  refine ⟨hentered.trans (hframe2.trans hrest.frame), hrest.kept.life.trans (hlife2.trans hlife), fun j hj => ?_⟩
  rw [hrest.kept.mode, hmode2 j hj, hmode]

/-- A routine that holds no load ends: only the engine changes. -/
theorem finish_of_plain {r : Routine} (h : s.ce.cur = some r) (h1 : r.opcode ≠ 0x401) (h2 : r.opcode ≠ 0x402) (st : Nat)
    (res : List W40) :
    finish st res s = { s with ce := { s.ce with cur := some (closeRoutine st res (now s) r) } } := by
  simp [finish, h, releaseHold, h1, h2]

/-- DEV_ENTER_READY runs to its end where no ADC calibrates. -/
theorem doEnterReady_runs {r : Routine} (h : Runs 0x002 r s) (ha : ∀ e ∈ s.adcs, e.2.cal = none) :
    doEnterReady s = finish 0 [] (enterReady s) := by
  obtain ⟨hcur, hop, hend, hhand⟩ := h
  have hcal : s.adcs.any (fun e => e.2.cal.isSome) = false := by
    rw [List.any_eq_false]
    intro e he
    simp [ha e he]
  simp [doEnterReady, opRun, opDo, hhand, hcur, hop, hend, hcal]

/-- DEV_ENTER_READY changes only what the modes govern, the engine and the log, and every mode but FEDERATED acts as it is set. -/
theorem doEnterReady_entry {r : Routine} (h : Runs 0x002 r s) (ha : ∀ e ∈ s.adcs, e.2.cal = none) :
    EntryFrame { s with ce := (doEnterReady s).ce } (doEnterReady s) ∧
      ∀ j, j ≠ 4 → modeOn j (doEnterReady s) = mode j s := by
  rw [doEnterReady_runs h ha]
  obtain ⟨hcur, hop, -, -⟩ := h
  obtain ⟨hframe, hlife, hmode⟩ := enterReady_entry s
  have hce : (enterReady s).ce = s.ce := by rw [hframe]
  rw [finish_of_plain (hce ▸ hcur) (by simp [hop]) (by simp [hop])]
  refine ⟨?_, fun j hj => ?_⟩
  · unfold EntryFrame at hframe ⊢
    rw [hframe]
  · rw [modeOn_of_ready (by exact hlife), ← hmode j hj]
    rfl

/-! ### Entry to STAGING (R33) -/

/-- MODE is 0 on every entry to STAGING. -/
theorem getR_oMode_enterStaging (old : Nat) (s : State) : getR oMode (enterStaging old s) = 0 := by
  have h : oMode ≠ oSecStatus := by decide
  rw [enterStaging, (entryStep_record _ _ _ _ _).kept.reg, (entryStep_putF h _ _ _ _).kept.reg]
  rfl

/-! ### A write of MODE in READY (R33-R38) -/

theorem modeKept_seqModeChange (g : Nat) (old : Bool × Bool × Bool) (s : State) : ModeKept s (seqModeChange g old s) :=
  .ite (entryStep_setSeq g _ s).kept (entryStep_setSeq g _ s).kept

theorem modeKept_pairedCheck (was : Bool) (s : State) : ModeKept s (pairedCheck was s) :=
  .ite (entryStep_cmpHalt s).kept (.refl s)

theorem modeKept_loopbackChange (s : State) : ModeKept s (loopbackChange s) := by
  have hshow (x : Option (Tick × Bool)) (b : Bool) :
      ModeKept s (putB oModeStatus 8 b { s with lbReq := x, lbWaited := false }) :=
    ((entryStep_lbReq x false s).trans (entryStep_putB oMode_ne_oModeStatus 8 b _)).kept
  unfold loopbackChange
  extract_lets want
  split
  · exact .ite (hshow _ _) (.refl s)
  · exact .ite (.refl s) (hshow _ _)

theorem modeKept_sendMsix (m v : Nat) (s : State) : ModeKept s (sendMsix m v s) :=
  .ite (.ite ⟨rfl, rfl⟩ ⟨rfl, rfl⟩) (entryStep_bump (oMode_ne_oHostStatus m) 7 0 s).kept

theorem modeKept_setRing (n : Nat) (r : Ring) (s : State) : ModeKept s (setRing n r s) := ⟨rfl, rfl⟩

theorem modeKept_watermark (n : Nat) (s : State) : ModeKept s (watermark n s) :=
  .ite (.refl s) (.ite (.ite ((modeKept_setRing n _ s).trans (modeKept_sendMsix _ _ _)) (.refl s)) (modeKept_setRing n _ s))

theorem modeKept_fireProd (u : Nat) (x : Tick) (depth : Nat) (s : State) : ModeKept s (fireProd u x depth s) :=
  .ite ⟨rfl, rfl⟩ (.refl s)

theorem modeKept_baleDropped (e : Nat) (s : State) : ModeKept s (baleDropped e s) :=
  (entryStep_bump (oMode_ne_oWitStatus e) _ _ s).kept.trans (.ite (entryStep_record _ _ _ _ _).kept (.refl _))

theorem modeKept_baleShut (e : Nat) (b : Bale) (s : State) : ModeKept s (baleShut e b s).2 := by
  unfold baleShut
  extract_lets x r room closed numbered cap cut tailed
  have hclosed : ModeKept s closed := (entryStep_setWit e _ s).kept
  split
  · exact hclosed.trans (modeKept_baleDropped e _)
  · have hcut : ModeKept closed cut := .ite (entryStep_bump (oMode_ne_oWitStatus e) _ _ _).kept (.refl _)
    exact hclosed.trans (hcut.trans ((modeKept_setRing _ _ _).trans ((modeKept_watermark _ _).trans (modeKept_fireProd _ _ _ _))))

theorem modeKept_witCloseEarly (ts : Bool) (e : Nat) (s : State) : ModeKept s (witCloseEarly ts e s) := by
  unfold witCloseEarly
  extract_lets x off
  have hoff : ModeKept s off := (entryStep_setWit e _ s).kept
  split
  · exact hoff.trans ((modeKept_baleShut e _ _).trans (.ite (entryStep_setWit e _ _).kept (.refl _)))
  · exact hoff

theorem modeKept_witStopAll (ts : Bool) (s : State) : ModeKept s (witStopAll ts s) :=
  .foldS (fun (e : Nat × Wit) s => modeKept_witCloseEarly ts e.1 s) _ s

theorem modeKept_setBarrier (b : Nat) (x : Barrier) (s : State) : ModeKept s (setBarrier b x s) := ⟨rfl, rfl⟩

theorem modeKept_recordFor (doms : List Nat) (src code detail : Nat) (w3 : W40) (s : State) :
    ModeKept s (recordFor doms src code detail w3 s) := ⟨rfl, rfl⟩

theorem modeKept_barFail (k : Tick) (b : Nat) (s : State) : ModeKept s (barFail k b s) :=
  (modeKept_setBarrier b _ s).trans ((entryStep_putB (oMode_ne_oBarrierStat b) 26 true _).kept.trans
    (modeKept_recordFor _ _ _ _ _ _))

theorem modeKept_barFailNext (k : Tick) (b : Nat) (gs : List Nat) (s : State) : ModeKept s (barFailNext k b gs s) :=
  (modeKept_setBarrier b _ s).trans ((entryStep_putB (oMode_ne_oBarrierStat b) 26 true _).kept.trans
    (modeKept_recordFor _ _ _ _ _ _))

theorem modeKept_barFailAll (k : Tick) (p : Nat → Bool) (s : State) : ModeKept s (barFailAll k p s) :=
  .foldS (fun (e : Nat × Barrier) s => .ite
    (.trans (.ite (.refl s) (modeKept_barFailNext k e.1 _ s)) (.ite (modeKept_barFail k e.1 _) (.refl _))) (.refl s)) _ s

theorem modeKept_acquireEnd (s : State) : ModeKept s (acquireEnd s) := ⟨rfl, rfl⟩

theorem modeKept_acquireStop (s : State) : ModeKept s (acquireStop s) := by
  refine .ite ?_ (modeKept_acquireEnd s)
  have hdrop : ModeKept s { s with time := { s.time with req := none } } := ⟨rfl, rfl⟩
  exact hdrop.trans ((entryStep_putB oMode_ne_oTimeStatus 7 false _).kept.trans (modeKept_acquireEnd _))

theorem modeKept_fedLeave (s : State) : ModeKept s (fedLeave s) := by
  have hB (i : Nat) (b : Bool) (s : State) := (entryStep_putB oMode_ne_oTimeStatus i b s).kept
  have hF (hi lo x : Nat) (s : State) := (entryStep_putF oMode_ne_oTimeStatus hi lo x s).kept
  exact (modeKept_acquireEnd s).trans ((hF _ _ _ _).trans ((hF _ _ _ _).trans ((hB _ _ _).trans (hB _ _ _))))

theorem modeKept_fedStop (s : State) : ModeKept s (fedStop s) :=
  (modeKept_acquireStop s).trans ((modeKept_fedLeave _).trans (modeKept_barFailAll _ _ _))

/-- FEDERATED starts or stops in a write of MODE that turns `old` into `v`. -/
def fedFollow (v old : W40) (s : State) : State :=
  if bit v 4 && !bit old 4 then fedTake s else if !bit v 4 && bit old 4 then fedStop s else s

theorem life_fedFollow (v old : W40) (s : State) : (fedFollow v old s).life = s.life := by
  unfold fedFollow
  split
  · exact life_fedTake s
  · exact (ModeKept.ite (modeKept_fedStop s) (.refl s)).life

/-- Only a write that turns FEDERATED on looks for a configuration. -/
theorem mode_fedFollow (v old : W40) (j : Nat) (s : State) : mode j (fedFollow v old s) =
    if j = 4 ∧ bit v 4 = true ∧ bit old 4 = false then mode 4 s && bR oFedStatus 0 s else mode j s := by
  unfold fedFollow
  by_cases h : bit v 4 = true ∧ bit old 4 = false
  · simp [h, mode_fedTake]
  · rw [if_neg (by simpa using h), (ModeKept.ite (modeKept_fedStop s) (.refl s)).mode, if_neg (fun k => h k.2)]

/-- What follows FEDERATED in a write of MODE leaves MODE as it is. -/
theorem modeKept_modeInReady (v : W40) (s : State) :
    ModeKept (fedFollow v (getR oMode s) (putF oMode 5 0 (fld v 5 0) { s with modeWas := some (s.modeWas.getD (getR oMode s)) }))
      (modeInReady v s) := by
  unfold modeInReady
  extract_lets old written federated changed compared armed looped followed
  have hchanged : ModeKept federated changed :=
    .foldS (fun (e : Nat × Seq) s => modeKept_seqModeChange e.1 _ s) _ _
  have hcompared : ModeKept changed compared := modeKept_pairedCheck _ _
  have harmed : ModeKept compared armed := .ite (entryStep_witArmAll _ _).kept (.ite (modeKept_witStopAll _ _) (.refl _))
  have hlooped : ModeKept armed looped := modeKept_loopbackChange _
  have hfollowed : ModeKept looped followed := .ite (entryStep_biasFollow _ _).kept (.refl _)
  exact hchanged.trans (hcompared.trans (harmed.trans (hlooped.trans (hfollowed.trans
    ((entryStep_fsetAll _).kept.trans (entryStep_reasonsUpdate _).kept)))))

theorem life_modeInReady (v : W40) (s : State) : (modeInReady v s).life = s.life := by
  rw [(modeKept_modeInReady v s).life, life_fedFollow]
  rfl

theorem mode_putF_oMode (v : W40) {j : Nat} (hj : j < 6) (s : State) : mode j (putF oMode 5 0 (fld v 5 0) s) = bit v j := by
  rw [mode, bR, putF, getR_setR, bit_setFld _ _ _ (by decide) (by decide), if_pos (by omega), Nat.sub_zero,
    testBit_fld v 5 0 j (by omega), Nat.zero_add]

theorem mode_putF_oMode_above (v : W40) {j : Nat} (hj : 6 ≤ j) (s : State) :
    mode j (putF oMode 5 0 (fld v 5 0) s) = mode j s := by
  rw [mode, bR, putF, getR_setR, bit_setFld _ _ _ (by decide) (by decide), if_neg (by omega)]
  rfl

/-- R33, R34: in READY every bit takes the value written, but for FEDERATED, which is turned on only with a configuration loaded. -/
theorem mode_modeInReady (v : W40) {j : Nat} (hj : j < 6) (s : State) : mode j (modeInReady v s) =
    if j = 4 then bit v 4 && (mode 4 s || bR oFedStatus 0 s) else bit v j := by
  have hstatus (x : Option W40) : bR oFedStatus 0 (putF oMode 5 0 (fld v 5 0) { s with modeWas := x }) = bR oFedStatus 0 s := by
    rw [bR, putF, getR_setR_ne _ (by decide)]
    rfl
  rw [(modeKept_modeInReady v s).mode, mode_fedFollow, mode_putF_oMode v hj, mode_putF_oMode v (by decide), hstatus]
  by_cases h4 : j = 4
  · subst h4
    rw [show bit (getR oMode s) 4 = mode 4 s from rfl]
    cases bit v 4 <;> cases mode 4 s <;> simp
  · simp [h4]

/-! ### A write of MODE as the block receives it (R33, R450) -/

/-- The row of MODE in the register map. -/
def modeRow : RegRow := ⟨.mode, 0x100, [], 0x3f, 0x0, 0x0, false, .dom0⟩

theorem findReg_oMode : findReg oMode = some (modeRow, []) := rfl

theorem hostWrite_of_unstaged {m : Nat} (hf : fnReaches m s = true) (hs : staged m s = none) (off : Nat) (v : W40) :
    hostWrite m off v s = regWrite m off v s := by
  simp [hostWrite, hf, dropStaged, hs]

/-- A write that reaches MODE and is accepted acts on it. -/
theorem hostWrite_oMode_accepted {m : Nat} {v : W40} (h : Reaches .mode [] m oMode v s) :
    hostWrite m oMode v s = modeWrite v s := by
  obtain ⟨hf, hs, ha, hu, row, hrow, hk, hw, hl⟩ := h
  simp [hostWrite_of_unstaged hf hs, regWrite, ha, hu, hrow, hw, hk, hl, regEffect, effectA]

/-- A write of MODE that is refused with a code leaves the record of `refuseWrite`. -/
theorem hostWrite_oMode_refused {m code : Nat} {v : W40} (hf : fnReaches m s = true) (hs : staged m s = none)
    (hw : writeRefusal m modeRow [] oMode v s = some code) : hostWrite m oMode v s = refuseWrite m code modeRow [] v s := by
  have ha : absentAt oMode s = none := rfl
  have hu : unpoweredAt oMode s = false := rfl
  simp [hostWrite_of_unstaged hf hs, regWrite, ha, hu, findReg_oMode, hw]

/-- Only domain 0 may write MODE. -/
theorem writeRefusal_oMode_of_other {m : Nat} (hm : m ≠ 0) (v : W40) (s : State) :
    writeRefusal m modeRow [] oMode v s = some 3 := by
  simp [writeRefusal, mayWrite, modeRow, hm]

/-- MODE may be written in SAFE and READY only. -/
theorem writeRefusal_oMode_of_state (h1 : s.life ≠ .safe) (h2 : s.life ≠ .ready) (v : W40) :
    writeRefusal 0 modeRow [] oMode v s = some 2 := by
  simp [writeRefusal, mayWrite, stateRefused, modeRow, h1, h2]

theorem modeWrite_of_ready (h : s.life = .ready) (v : W40) : modeWrite v s = modeInReady v s := if_pos h

theorem modeWrite_of_safe (h : s.life = .safe) (v : W40) : modeWrite v s = putF oMode 5 0 (fld v 5 0) s :=
  if_neg (by simp [h])

/-- In SAFE a write that changes bit `i` stores it, and changes nothing else. -/
theorem modeWrite_setBit_safe (h : s.life = .safe) {i : Nat} (hi : i < 6) (b : Bool) :
    OnlyRegs [oMode] s (modeWrite (setBit (getR oMode s) i b) s) ∧ mode i (modeWrite (setBit (getR oMode s) i b) s) = b ∧
      ∀ j, j ≠ i → mode j (modeWrite (setBit (getR oMode s) i b) s) = mode j s := by
  have hbit (j : Nat) := bit_setBit (getR oMode s) b j (show i < 40 by omega)
  rw [modeWrite_of_safe h]
  refine ⟨⟨rfl, fun o ho => getR_setR_ne s (by simpa using ho) _⟩, ?_, fun j hj => ?_⟩
  · rw [mode_putF_oMode _ hi, hbit, if_pos rfl]
  · by_cases h6 : j < 6
    · rw [mode_putF_oMode _ h6, hbit, if_neg hj]
      rfl
    · exact mode_putF_oMode_above _ (by omega) s

/-- In READY a write that changes bit `i` gives it its value, but for FEDERATED without a configuration. -/
theorem modeWrite_setBit_ready (h : s.life = .ready) {i : Nat} (hi : i < 6) (b : Bool) :
    (modeWrite (setBit (getR oMode s) i b) s).life = .ready ∧
      ∀ j, j < 6 → mode j (modeWrite (setBit (getR oMode s) i b) s) =
        if j = 4 ∧ i = 4 then b && (mode 4 s || bR oFedStatus 0 s) else if j = i then b else mode j s := by
  rw [modeWrite_of_ready h]
  refine ⟨(life_modeInReady _ s).trans h, fun j hj => ?_⟩
  rw [mode_modeInReady _ hj, bit_setBit _ b j (by omega), bit_setBit _ b 4 (by omega),
    show bit (getR oMode s) j = mode j s from rfl, show bit (getR oMode s) 4 = mode 4 s from rfl]
  by_cases h4 : j = 4
  · subst h4
    by_cases hi4 : i = 4
    · simp [hi4]
    · cases mode 4 s <;> simp [hi4, Ne.symm hi4]
  · simp [h4]

/-- A refused write of MODE only adds a record of its code to those of the tick. -/
theorem refuseWrite_oMode (m : Nat) {code : Nat} (hc : code = 3 ∨ code = 2) (v : W40) (s : State) :
    refuseWrite m code modeRow [] v s = { s with log := (refuseWrite m code modeRow [] v s).log } ∧
      ∃ r : Rec, (refuseWrite m code modeRow [] v s).log.pool = s.log.pool ++ [r] ∧ r.code = BitVec.ofNat 16 code ∧
        r.tick = s.time.tick := by
  rcases hc with rfl | rfl <;> exact ⟨rfl, _, rfl, rfl, rfl⟩

/-- R33, R34: the writes of MODE's bits, the entry to READY, and the entries to STAGING.
Settles O28: it holds. -/
theorem modeWrites : Obligations.ModeWrites := by
  refine ⟨fun m b s => ?_, fun r s hr hs ha => ⟨modeOn_of_not_ready (by simp [hs]), ?_⟩,
    fun s => ⟨fun hl hv => ⟨_, rfl, ?_⟩, fun hl => ⟨_, rfl, ?_⟩⟩⟩
  · intro wr safe ready refused writes
    have key (c : Instr) (i : Nat) (hi : i < 6) (hc : exec c s = .next (modeBit m i b s)) : writes c i := by
      refine ⟨fun h => ⟨_, hc, ?_⟩, fun hf hst hm => ⟨_, hc, ?_⟩, fun hf hst hm h1 h2 => ⟨_, hc, ?_⟩⟩
      · rw [show modeBit m i b s = modeWrite (wr i) s from hostWrite_oMode_accepted h]
        refine ⟨fun hs => ?_, fun hr => modeWrite_setBit_ready hr hi b⟩
        obtain ⟨honly, hset, hrest⟩ := modeWrite_setBit_safe hs hi b
        exact ⟨honly, hset, fun j _ => hrest j⟩
      · rw [show modeBit m i b s = _ from hostWrite_oMode_refused hf hst (writeRefusal_oMode_of_other hm _ s)]
        exact refuseWrite_oMode m (.inl rfl) _ s
      · subst hm
        rw [show modeBit 0 i b s = _ from hostWrite_oMode_refused hf hst (writeRefusal_oMode_of_state h1 h2 _)]
        exact refuseWrite_oMode 0 (.inr rfl) _ s
    exact ⟨key _ 0 (by decide) rfl, key _ 1 (by decide) rfl, key _ 2 (by decide) rfl, key _ 3 (by decide) rfl,
      key _ 4 (by decide) rfl, key _ 5 (by decide) rfl⟩
  · obtain ⟨hframe, hmode⟩ := doEnterReady_entry hr ha
    exact ⟨_, rfl, hframe, fun j _ => hmode j⟩
  · rw [powerOnRow, if_pos (by simp [hl, hv])]
    exact getR_oMode_enterStaging 0 s
  · rw [resetNRow, if_pos (by simpa using hl)]
    exact getR_oMode_enterStaging _ s

end Sys2Proof.Machine
end

section
/-! PROOF. Shared time as the host reads it (R56, R65, R66): PTM dialogs and their pairs, and the reads of PTM_TICK and TICK_NOW. -/

namespace Sys2Proof.Machine

variable {s : State}

/-! ### Whole accesses of a register (R418, R420) -/

/-- An accepted write has the effect of its register. -/
theorem hostWrite_reaches {k : RegK} {is : List Nat} {m off : Nat} {v : W40} (h : Reaches k is m off v s) :
    ∃ row, findReg off = some (row, is) ∧ row.k = k ∧ hostWrite m off v s = regEffect m row is off v s := by
  obtain ⟨hf, hst, ha, hu, row, hrow, hk, hw, hl⟩ := h
  refine ⟨row, hrow, hk, ?_⟩
  rw [hostWrite_of_unstaged hf hst]
  simp [regWrite, ha, hu, hrow, hw, hk, hl]

/-- A whole read answers the value of the register, in the state that the read leaves. -/
theorem hostRead_reaches {m : Nat} (hf : fnReaches m s = true) (off : Nat) :
    hostRead m off s = answer m (regRead m off s).1 none (regRead m off s).2 := by
  simp [hostRead, hf]

/-- A read reaches a register whose unit is there and powered, and which its domain may read. -/
theorem readable_of_mayRead {m off : Nat} {row : RegRow} {is : List Nat} (ha : absentAt off s = none)
    (hu : unpoweredAt off s = false) (hrow : findReg off = some (row, is)) (hr : mayRead m row is s = true) :
    readable m off s = some (row, is) := by
  simp [readable, ha, hu, hrow, hr]

theorem findReg_oTickNow : findReg oTickNow = some (⟨.tickNow, 0x208, [], 0, 0, 0, false, .dom0⟩, []) := rfl

theorem findReg_oPtmTick : findReg oPtmTick = some (⟨.ptmTick, 0x258, [], 0, 0, 0, false, .dom0⟩, []) := rfl

/-- Every domain reads TICK_NOW. -/
theorem regRead_oTickNow (m : Nat) (s : State) : regRead m oTickNow s = tickNowRead s := by
  simp [regRead, readable_of_mayRead (s := s) (m := m) rfl rfl findReg_oTickNow rfl]

/-- Every domain reads PTM_TICK. -/
theorem regRead_oPtmTick (m : Nat) (s : State) : regRead m oPtmTick s = ptmLatch s := by
  simp [regRead, readable_of_mayRead (s := s) (m := m) rfl rfl findReg_oPtmTick rfl]

section
variable (m : Nat) (v : W40) (latch : Option (Nat × W40)) (s : State)

@[simp] theorem answer_readOut : (answer m v latch s).host.readOut = v := rfl
@[simp] theorem answer_time : (answer m v latch s).time = s.time := rfl
@[simp] theorem getR_answer (o : Nat) : getR o (answer m v latch s) = getR o s := rfl

end

/-! ### The latches of the two reads (R56, R66) -/

/-- R66: a read of PTM_TICK returns the tick of the pair and latches the rest of the same pair, which it leaves as it is. -/
theorem ptmLatch_pair (s : State) :
    (ptmLatch s).1 = s.time.ptm.tick ∧ (ptmLatch s).2.time = s.time ∧
      getR oPtmInfo (ptmLatch s).2 = w (s.time.ptm.epoch.toNat * 2 ^ 16 + s.time.ptm.seq) ∧
      getR oPtmHostLo (ptmLatch s).2 = w (s.time.ptm.host.toNat % 2 ^ 32) ∧
      getR oPtmHostHi (ptmLatch s).2 = w (s.time.ptm.host.toNat / 2 ^ 32) := by
  have hInfoLo : oPtmInfo ≠ oPtmHostLo := by decide
  have hInfoHi : oPtmInfo ≠ oPtmHostHi := by decide
  have hLoHi : oPtmHostLo ≠ oPtmHostHi := by decide
  refine ⟨rfl, rfl, ?_, ?_, getR_setR _ _ _⟩
  · exact (getR_setR_ne _ hInfoHi _).trans ((getR_setR_ne _ hInfoLo _).trans (getR_setR _ _ _))
  · exact (getR_setR_ne _ hLoHi _).trans (getR_setR _ _ _)

/-- R56: a read of TICK_NOW returns TICK and latches EPOCH. -/
theorem tickNowRead_latch (s : State) :
    (tickNowRead s).1 = s.time.tick ∧ (tickNowRead s).2.time = s.time ∧
      getR oEpochLatch (tickNowRead s).2 = w s.time.epoch.toNat ∧
      ∀ o, o ≠ oEpochLatch → getR o (tickNowRead s).2 = getR o s :=
  ⟨rfl, rfl, getR_setR _ _ _, fun _ ho => getR_setR_ne _ ho _⟩

/-! ### A dialog begins (R65) -/

theorem ptmBegin_of_on (h : s.host.ptmOn = true) : ptmBegin s = { s with time := { s.time with
    ptmOut := some s.time.tick
    ptmNext := if fR oPtmCtl 15 0 s = 0 then none else some (plus s.time.tick (1000 * fR oPtmCtl 15 0 s)) } } :=
  if_pos h

/-- The first periodic dialog begins at once where INTERVAL is not 0 and none is under way. -/
theorem ptmDialogRow_first (hi : fR oPtmCtl 15 0 s ≠ 0) (ho : s.time.ptmOut = none) (hn : s.time.ptmNext = none) :
    ptmDialogRow s = ptmBegin s := by
  simp [ptmDialogRow, hi, ho, hn]

/-- INTERVAL of a number written to PTM_CTL. -/
theorem fld_w_interval (n : Nat) : fld (w n) 15 0 = n % 2 ^ 16 := by
  simp only [fld, w, BitVec.toNat_ofNat, Nat.shiftRight_zero]
  omega

/-- The number of an INTERVAL with NOW has bit 16 set. -/
theorem bit_w_now {n : Nat} (h : n < 2 ^ 16) : bit (w (n + 2 ^ 16)) 16 = true := by
  rw [bit, w, BitVec.toNat_ofNat, Nat.mod_eq_of_lt (by omega), Nat.add_comm, Nat.testBit_two_pow_add_eq,
    Nat.testBit_lt_two_pow h]
  rfl

theorem ptmInterval_lt (s : State) : fR oPtmCtl 15 0 s < 2 ^ 16 := Nat.mod_lt _ (by decide)

/-- A write of NOW beside the INTERVAL that stands begins a dialog where none is under way. -/
theorem ptmCtlSet_now {v : W40} (hi : fld v 15 0 = fR oPtmCtl 15 0 s) (hn : bit v 16 = true) (ho : s.time.ptmOut = none) :
    ptmCtlSet v s = ptmBegin (setR oPtmCtl (w (fR oPtmCtl 15 0 s)) s) := by
  simp [ptmCtlSet, hi, hn, ho]

/-- An accepted write of PTM_CTL sets INTERVAL and acts on NOW. -/
theorem hostWrite_oPtmCtl {m : Nat} {v : W40} (h : Reaches .ptmCtl [] m oPtmCtl v s) :
    hostWrite m oPtmCtl v s = ptmCtlSet v s := by
  obtain ⟨row, -, hk, hw⟩ := hostWrite_reaches h
  rw [hw]
  simp [regEffect, effectA, hk]

/-! ### How a dialog ends (R65, R66) -/

/-- The time since a tick, as a number of either sign. -/
theorem sinceTick_toInt (x : Tick) (s : State) :
    (sinceTick x s : Int) = if due x s then ((s.time.tick - x).toNat : Int) else 0 :=
  apply_ite Nat.cast _ _ _

/-- A Response within 10 µs forms the pair of the present tick. -/
theorem ptmPairIn_inTime {x : Tick} (hx : s.time.ptmOut = some x) (hd : due (plus x 10001) s = false)
    (turn : BitVec 32) (host : BitVec 64) :
    ptmPairIn turn host s = { s with time := { s.time with
      ptmOut := none
      ptmCount := (s.time.ptmCount + 1) % 65536
      ptm := ptmPairOf x turn host s } } := by
  simp [ptmPairIn, hx, hd, ptmPairOf]

/-- A Response that comes later fails its dialog. -/
theorem ptmPairIn_late {x : Tick} (hx : s.time.ptmOut = some x) (hd : due (plus x 10001) s = true)
    (turn : BitVec 32) (host : BitVec 64) : ptmPairIn turn host s = ptmLost s := by
  simp [ptmPairIn, hx, hd]

/-- A dialog without a Response in 10 µs fails with a record. -/
theorem ptmLost_of_due {x : Tick} (hx : s.time.ptmOut = some x) (hd : due (plus x 10000) s = true) :
    ptmLost s = record 0 0x208 0 0 { s with time := { s.time with ptmOut := none } } := by
  simp [ptmLost, hx, hd]

theorem logged_ptmLost {x : Tick} (hx : s.time.ptmOut = some x) (hd : due (plus x 10000) s = true) :
    Logged 0 0x208 0 0 s (ptmLost s) := by
  rw [ptmLost_of_due hx hd]
  exact logged_record 0 0x208 0 0 { s with time := _ } (by decide) (by decide) (by decide)

/-- R56, R65, R66: PTM dialogs from their beginning to their pair or their failure, and the reads that latch.
Settles O38: it holds. -/
theorem ptmAndTickReads : Obligations.PtmAndTickReads := by
  intro s
  refine ⟨fun hi ho hn hon => ⟨_, rfl, ?dialog⟩, fun m hr ho hon => ⟨_, rfl, ?now⟩, fun x turn hi lo hx => ?response,
    fun x hx hd => ⟨_, rfl, ?fail⟩, fun m hf => ⟨_, rfl, ?ptmTick⟩, fun m hf => ⟨_, rfl, ?tickNow⟩⟩
  case dialog =>
    rw [ptmDialogRow_first hi ho hn, ptmBegin_of_on hon]
    exact ⟨rfl, rfl, if_neg hi, rfl⟩
  case now =>
    have hlt := ptmInterval_lt s
    have hi : fld (w (fR oPtmCtl 15 0 s + 2 ^ 16)) 15 0 = fR oPtmCtl 15 0 s := by
      rw [fld_w_interval]
      omega
    have hwrite : hostWrite m oPtmCtl (w (fR oPtmCtl 15 0 s + 2 ^ 16)) s = ptmBegin (setR oPtmCtl (w (fR oPtmCtl 15 0 s)) s) :=
      (hostWrite_oPtmCtl hr).trans (ptmCtlSet_now hi (bit_w_now hlt) ho)
    rw [hwrite, ptmBegin_of_on (s := setR _ _ s) hon]
    refine ⟨rfl, ?_⟩
    calc fld (getR oPtmCtl (setR oPtmCtl (w (fR oPtmCtl 15 0 s)) s)) 15 0
        = fR oPtmCtl 15 0 s % 2 ^ 16 := by rw [getR_setR, fld_w_interval]
      _ = fR oPtmCtl 15 0 s := Nat.mod_eq_of_lt hlt
  case response =>
    intro trip
    have htrip : (sinceTick x s : Int) = trip := sinceTick_toInt x s
    refine ⟨fun hd => ⟨_, rfl, ?_⟩, fun hlate hd => ⟨_, rfl, ?_⟩⟩
    · rw [ptmPairIn_inTime hx hd, ← htrip]
      exact ⟨rfl, rfl, rfl, rfl, rfl, rfl⟩
    · rw [ptmPairIn_late hx hlate]
      exact ⟨by rw [ptmLost_of_due hx hd]; rfl, logged_ptmLost hx hd⟩
  case fail =>
    refine ⟨?_, logged_ptmLost hx hd, ?_⟩
    all_goals rw [ptmLost_of_due hx hd]
    · rfl
    · exact ⟨rfl, rfl⟩
  case ptmTick =>
    rw [hostRead_reaches hf, regRead_oPtmTick]
    simp only [answer_readOut, answer_time, getR_answer]
    exact ptmLatch_pair s
  case tickNow =>
    rw [hostRead_reaches hf, regRead_oTickNow]
    simp only [answer_readOut, answer_time, getR_answer]
    obtain ⟨hout, htime, hepoch, hrest⟩ := tickNowRead_latch s
    exact ⟨hout, hepoch, htime, hrest⟩

end Sys2Proof.Machine
end

section
/-! PROOF. The register map as a whole (R421): no two rows of it meet at an offset, so an offset is found at the row and the indices
at which it falls. -/

namespace Sys2Proof.Machine

/-! ### Where a row lies -/

/-- The last offset past its base that a row with these indices reaches. -/
def rowSpan : List (Nat × Nat) → Nat
  | [] => 0
  | (n, st) :: ds => (n - 1) * st + rowSpan ds

/-- Rows with bases `a` and `b` meet nowhere: one ends before the other begins, or both repeat with one stride, and within one stride
their rest meets nowhere. -/
def rowsApart (a b : Nat) : List (Nat × Nat) → List (Nat × Nat) → Bool
  | (n, st) :: da, (k, st') :: db =>
    decide (a + rowSpan ((n, st) :: da) < b) || decide (b + rowSpan ((k, st') :: db) < a)
      || (decide (st = st' ∧ a + rowSpan da < b + st ∧ b + rowSpan db < a + st) && rowsApart a b da db)
  | da, db => decide (a + rowSpan da < b) || decide (b + rowSpan db < a)

theorem rowIdx_cons {n st r : Nat} {ds : List (Nat × Nat)} {is : List Nat} : rowIdx ((n, st) :: ds) r = some is ↔
    r / st < n ∧ ∃ js, rowIdx ds (r % st) = some js ∧ is = r / st :: js := by
  rw [rowIdx]
  by_cases h : r / st < n
  · cases rowIdx ds (r % st) <;> simp [h, eq_comm]
  · simp [h]

theorem le_rowSpan_of_rowIdx {ds : List (Nat × Nat)} : ∀ {r : Nat} {is : List Nat}, rowIdx ds r = some is → r ≤ rowSpan ds := by
  induction ds with
  | nil =>
    intro r is h
    simp only [rowIdx, Option.ite_none_right_eq_some] at h
    exact Nat.le_of_eq h.1
  | cons d ds ih =>
    intro r is h
    obtain ⟨hn, js, hjs, -⟩ := rowIdx_cons.1 h
    calc r = r / d.2 * d.2 + r % d.2 := (Nat.div_add_mod' r d.2).symm
      _ ≤ (d.1 - 1) * d.2 + rowSpan ds := Nat.add_le_add (Nat.mul_le_mul_right _ (Nat.le_sub_one_of_lt hn)) (ih hjs)

/-- Two places that differ modulo one stride, and lie within it of each other there, differ wherever the stride repeats them. -/
theorem ne_of_sameStride {a b x y st : Nat} (hab : a + x % st < b + st) (hba : b + y % st < a + st)
    (hne : a + x % st ≠ b + y % st) : a + x ≠ b + y := by
  intro h
  have hx := Nat.div_add_mod' x st
  have hy := Nat.div_add_mod' y st
  have step {i j : Nat} (hij : i < j) : i * st + st ≤ j * st := by
    calc i * st + st = (i + 1) * st := by ring
      _ ≤ j * st := Nat.mul_le_mul_right _ hij
  rcases Nat.lt_trichotomy (x / st) (y / st) with hlt | heq | hgt
  · have := step hlt
    omega
  · rw [heq] at hx
    omega
  · have := step hgt
    omega

theorem ne_of_rowsApart {a b : Nat} {da db : List (Nat × Nat)} {x y : Nat} {is js : List Nat} (h : rowsApart a b da db = true)
    (hx : rowIdx da x = some is) (hy : rowIdx db y = some js) : a + x ≠ b + y := by
  have hxs := le_rowSpan_of_rowIdx hx
  have hys := le_rowSpan_of_rowIdx hy
  induction da, db using rowsApart.induct generalizing x y is js with
  | case1 n st da k st' db ih =>
    simp only [rowsApart, Bool.or_eq_true, Bool.and_eq_true, decide_eq_true_eq] at h
    rcases h with (h | h) | ⟨⟨rfl, hab, hba⟩, h⟩
    · omega
    · omega
    · obtain ⟨-, is', hx', -⟩ := rowIdx_cons.1 hx
      obtain ⟨-, js', hy', -⟩ := rowIdx_cons.1 hy
      have hxs' := le_rowSpan_of_rowIdx hx'
      have hys' := le_rowSpan_of_rowIdx hy'
      exact ne_of_sameStride (by omega) (by omega) (ih h hx' hy' hxs' hys')
  | case2 da db hnil =>
    rw [rowsApart] at h
    · simp only [Bool.or_eq_true, decide_eq_true_eq] at h
      omega
    · exact hnil

/-! ### The rows of the map -/

/-- No two rows of the map meet. -/
theorem regRows_apart : regRows.Pairwise (fun p q => rowsApart p.base q.base p.dims q.dims = true) := by decide +kernel

/-- In a map whose rows meet nowhere, an offset is found at the row at which it falls. -/
theorem findRow_of_rowIdx {rows : List RegRow} {row : RegRow} {off : Nat} {is : List Nat}
    (ha : rows.Pairwise (fun p q => rowsApart p.base q.base p.dims q.dims = true)) (hm : row ∈ rows) (hb : row.base ≤ off)
    (hi : rowIdx row.dims (off - row.base) = some is) : findRow rows off = some (row, is) := by
  induction rows with
  | nil => cases hm
  | cons r rest ih =>
    obtain ⟨hr, hrest⟩ := List.pairwise_cons.1 ha
    rcases List.mem_cons.1 hm with rfl | hm
    · simp [findRow, hb, hi]
    · have hmiss : r.base ≤ off → rowIdx r.dims (off - r.base) = none := by
        intro hle
        by_contra hsome
        obtain ⟨js, hjs⟩ := Option.ne_none_iff_exists'.1 hsome
        exact ne_of_rowsApart (hr row hm) hjs hi (by omega)
      by_cases hle : r.base ≤ off
      · simp [findRow, hle, hmiss hle, ih hrest hm]
      · simp [findRow, hle, ih hrest hm]

/-- Every register is found at its offset. -/
theorem findReg_of_rowIdx {row : RegRow} {off : Nat} {is : List Nat} (hm : row ∈ regRows) (hb : row.base ≤ off)
    (hi : rowIdx row.dims (off - row.base) = some is) : findReg off = some (row, is) :=
  findRow_of_rowIdx regRows_apart hm hb hi

/-- What is found is a row of the map. -/
theorem mem_of_findRow {rows : List RegRow} {row : RegRow} {off : Nat} {is : List Nat} (h : findRow rows off = some (row, is)) :
    row ∈ rows := by
  induction rows with
  | nil => cases h
  | cons r rest ih =>
    rw [findRow] at h
    split at h
    · split at h
      · cases h
        exact List.mem_cons_self
      · exact List.mem_cons_of_mem _ (ih h)
    · exact List.mem_cons_of_mem _ (ih h)

theorem mem_regRows_of_findReg {row : RegRow} {off : Nat} {is : List Nat} (h : findReg off = some (row, is)) : row ∈ regRows :=
  mem_of_findRow h

end Sys2Proof.Machine
end

section
/-! PROOF. Registers as the host reads and writes them (R417-R422, R450): what refuses a write, the record of a refusal, the bits that a
write stores, a read of the low half, and the commit of shadows. -/

namespace Sys2Proof.Machine

variable {s : State}

/-! ### Refused writes (R438, R450) -/

/-- What refuses a write by a domain that may write the register, where the register has no order of its own (R450). -/
theorem writeRefusal_of_mayWrite {m off : Nat} {row : RegRow} {is : List Nat} {v : W40} (h : mayWrite m row is off v s = true)
    (hwit : row.k ≠ .witCtl) (hgr : row.k ≠ .grRegion) : writeRefusal m row is off v s =
      if stateRefused row is v s then some 2
      else if busyRefused row is off v s then some 1
      else if paramA row is v s || paramB row is v s then some 4
      else none := by
  rw [writeRefusal, h]
  split
  · contradiction
  · split
    · contradiction
    · contradiction
    · rfl

/-- A write that its register refuses leaves what `refuseWrite` says. -/
theorem hostWrite_refused {m off code : Nat} {row : RegRow} {is : List Nat} {v : W40} (hf : fnReaches m s = true)
    (hs : staged m s = none) (ha : absentAt off s = none) (hu : unpoweredAt off s = false) (hrow : findReg off = some (row, is))
    (hw : writeRefusal m row is off v s = some code) : hostWrite m off v s = refuseWrite m code row is v s := by
  rw [hostWrite_of_unstaged hf hs]
  simp [regWrite, ha, hu, hrow, hw]

theorem logged_recordOwned (o : Nat × Bool) (src code detail : Nat) (w3 : W40) (s : State) (h1 : src < 2 ^ 16) (h2 : code < 2 ^ 16)
    (h3 : detail < 2 ^ 20) : Logged src code detail w3 s (recordOwned o src code detail w3 s) :=
  ⟨_, rfl, Nat.mod_eq_of_lt h1, Nat.mod_eq_of_lt h2, Nat.mod_eq_of_lt h3, rfl, rfl, rfl⟩

/-! ### Stored bits (Table 0.4) -/

theorem storeReg_only (row : RegRow) (off : Nat) (v : W40) (s : State) : OnlyRegs [off] s (storeReg row off v s) :=
  ⟨rfl, fun _ ho => getR_setR_ne s (by simpa using ho) _⟩

/-- A bit that the register stores takes the value written. -/
theorem bit_storeReg {row : RegRow} {j : Nat} (hrw : row.rw < 2 ^ 40) (hj : row.rw.testBit j = true) (off : Nat) (v : W40)
    (s : State) : bit (getR off (storeReg row off v s)) j = bit v j := by
  have hj40 : j < 40 := by
    by_contra h
    have hlt : row.rw < 2 ^ j := lt_of_lt_of_le hrw (Nat.pow_le_pow_right (by decide) (Nat.le_of_not_lt h))
    simp [Nat.testBit_lt_two_pow hlt] at hj
  have hmask : (2 ^ 40 - 1 - row.rw).testBit j = false := by
    rw [Nat.sub_sub, Nat.add_comm 1, Nat.testBit_two_pow_sub_succ hrw, hj]
    simp
  rw [storeReg, getR_setR, bit, bit, w, BitVec.toNat_ofNat, Nat.testBit_mod_two_pow, Nat.testBit_or, Nat.testBit_and, Nat.testBit_and,
    Nat.testBit_and, hmask, hj]
  simp [hj40]

theorem fld_congr {v u : W40} {hi lo : Nat} (h : ∀ j, lo ≤ j → j ≤ hi → bit v j = bit u j) : fld v hi lo = fld u hi lo := by
  refine Nat.eq_of_testBit_eq fun j => ?_
  rw [fld, fld, Nat.testBit_mod_two_pow, Nat.testBit_mod_two_pow, Nat.testBit_shiftRight, Nat.testBit_shiftRight]
  by_cases hj : j < hi + 1 - lo
  · simpa [hj, bit] using h (lo + j) (by omega) (by omega)
  · simp [hj]

/-- A field that the register stores takes the value written. -/
theorem fR_storeReg {row : RegRow} {hi lo : Nat} (hrw : row.rw < 2 ^ 40) (h : ∀ j, lo ≤ j → j ≤ hi → row.rw.testBit j = true)
    (off : Nat) (v : W40) (s : State) : fR off hi lo (storeReg row off v s) = fld v hi lo :=
  fld_congr fun j hl hh => bit_storeReg hrw (h j hl hh) off v s

/-- No commit of the tick takes in a write where none has come. -/
theorem joinCommit_of_noFresh {off : Nat} (h : s.fresh = []) : joinCommit off s = s := by
  rw [joinCommit, h]
  rfl

/-! ### Reads of the low half (R418) -/

/-- A read of the low half answers its 32 bits and latches the register, in the state that the read leaves. -/
theorem lowRead_reaches {m : Nat} (hf : fnReaches m s = true) (off : Nat) : lowRead m off s =
    answer m (w ((regRead m off s).1.toNat % 2 ^ 32)) (some (off, (regRead m off s).1)) (regRead m off s).2 := by
  simp [lowRead, hf]

theorem answer_latched (m : Nat) (v : W40) (x : Nat × W40) (s : State) : tget? m (answer m v (some x) s).host.rlatch = some x :=
  tget?_tput_self m x s.host.rlatch

/-- The owner of a unit reads it, and domain 0 where it is not SECURE (R406). -/
theorem mayRead_of_mayAct {m : Nat} {row : RegRow} {is : List Nat} (hk : row.k ≠ .hostStatus)
    (h : mayAct m (regOwner row is s).1 (regOwner row is s).2 = true) : mayRead m row is s = true := by
  simp only [mayAct, Bool.or_eq_true, Bool.and_eq_true] at h
  rw [mayRead, if_neg hk]
  rcases h with h | ⟨-, h⟩ <;> simp [h]

/-! ### Shadows and values in force (R422) -/

theorem commitRegs_force (offs : List Nat) (s : State) : commitRegs offs s = { s with force := (commitRegs offs s).force } :=
  foldS_rel (R := fun s t => t = { s with force := t.force }) (fun _ => rfl) (fun {s t u} hst htu => by rw [htu, hst])
    (fun _ _ => rfl) offs s

theorem getF_commitRegs (o : Nat) (offs : List Nat) (s : State) :
    getF o (commitRegs offs s) = if o ∈ offs then getR o s else getF o s := by
  induction offs generalizing s with
  | nil => simp [commitRegs, foldS]
  | cons a l ih =>
    have hfold : commitRegs (a :: l) s = commitRegs l (setF a (getR a s) s) := rfl
    rw [hfold, ih]
    by_cases hl : o ∈ l
    · simp [hl]
    · by_cases ha : o = a
      · subst ha; simp [hl]
      · simp [hl, ha, getF_setF_ne s ha]

theorem tget?_of_notListed {α : Type} {k : Nat} {t : Tab α} (h : k ∉ t.map Prod.fst) : tget? k t = none := by
  induction t with
  | nil => rfl
  | cons e t ih =>
    obtain ⟨hne, ht⟩ : k ≠ e.1 ∧ k ∉ t.map Prod.fst := by simpa using h
    rw [tget?, if_neg (Ne.symm hne), ih ht]

/-- A register that neither table lists holds in force what its shadow holds: its reset value. -/
theorem getF_eq_getR_of_notListed {o : Nat} (h : o ∉ (s.regs ++ s.force).map Prod.fst) : getF o s = getR o s := by
  obtain ⟨hr, hf⟩ : o ∉ s.regs.map Prod.fst ∧ o ∉ s.force.map Prod.fst := by
    rw [List.map_append, List.mem_append, not_or] at h
    exact h
  rw [getF, getR, tget, tget, tget?_of_notListed hr, tget?_of_notListed hf]

end Sys2Proof.Machine
end

section
/-! PROOF. The general registers of a sequencer as the host reads and writes them (R73, R101). -/

namespace Sys2Proof.Machine

variable {s : State}

/-- The row of SEQ_GREG in the register map. -/
def seqGregRow : RegRow := ⟨.seqGreg, 0x1200080, [(8, 0x400000), (96, 0x100), (16, 0x8)], 0xffffffffff, 0x0, 0x0, false, .seq⟩

theorem seq_lt_768 {g : Nat} (hg : g < nSeqs s) : g < 768 := by
  rw [nSeqs, nTiles] at hg
  split at hg <;> omega

theorem findReg_oSeqGreg {g i : Nat} (hg : g < 768) (hi : i < 16) :
    findReg (oSeqGreg g i) = some (seqGregRow, [g / 96, g % 96, i]) := by
  refine findReg_of_rowIdx (by simp [regRows, regRows2, seqGregRow]) (by simp only [oSeqGreg, tileStep, seqGregRow]; omega) ?_
  have hoff : oSeqGreg g i - seqGregRow.base = 0x400000 * (g / 96) + (0x100 * (g % 96) + 0x8 * i) := by
    simp only [oSeqGreg, tileStep, seqGregRow]
    omega
  rw [hoff]
  refine rowIdx_cons.2 ⟨by omega, _, rowIdx_cons.2 ⟨by omega, _, rowIdx_cons.2 ⟨by omega, [], if_pos (by omega), rfl⟩, rfl⟩, ?_⟩
  simp only [List.cons.injEq, and_true]
  omega

theorem unit96_seq (g i : Nat) : unit96 [g / 96, g % 96, i] = g := Nat.div_add_mod g 96

/-- What refuses a write of SEQ_GREG by a domain that may command the sequencer: that it is inside a shot (R101). -/
theorem writeRefusal_seqGreg {m g i off : Nat} (h : mayAct m (seqDom g s) (seqSec g s) = true) (v : W40) :
    writeRefusal m seqGregRow [g / 96, g % 96, i] off v s = if insideShot (seq g s) then some 2 else none := by
  have hmay : mayWrite m seqGregRow [g / 96, g % 96, i] off v s = true := by
    simp [mayWrite, regOwner, seqGregRow, unit96_seq, h]
  rw [writeRefusal_of_mayWrite hmay (by decide) (by decide)]
  simp [stateRefused, busyRefused, paramA, paramB, inShot, seqGregRow, unit96_seq]

/-- An accepted write of SEQ_GREG sets the general register. -/
theorem hostWrite_oSeqGreg {m g i : Nat} {v : W40} (h : Reaches .seqGreg [g / 96, g % 96, i] m (oSeqGreg g i) v s) :
    hostWrite m (oSeqGreg g i) v s = modSeq g (fun q => { q with g := tset 0 i v q.g }) s := by
  obtain ⟨row, -, hk, hw⟩ := hostWrite_reaches h
  rw [hw]
  simp [regEffect, effectA, effectB, hk, unit96_seq, nth]

/-- A refused write of SEQ_GREG adds its record to those of the tick. -/
theorem refuseWrite_seqGreg (m g i : Nat) (v : W40) (s : State) : refuseWrite m 2 seqGregRow [g / 96, g % 96, i] v s =
    recordOwned (seqDom g s, seqSec g s) (0x1000 + g) 2 0 0 s := by
  simp [refuseWrite, regSource, regDetail, regOwner, seqGregRow, unit96_seq]

/-- A read of SEQ_GREG returns the general register. -/
theorem regRead_oSeqGreg {m g i : Nat} (hg : g < 768) (hi : i < 16) (ha : absentAt (oSeqGreg g i) s = none)
    (hu : unpoweredAt (oSeqGreg g i) s = false) (h : mayAct m (seqDom g s) (seqSec g s) = true) :
    regRead m (oSeqGreg g i) s = (reg (seq g s) i, s) := by
  have hown : regOwner seqGregRow [g / 96, g % 96, i] s = (seqDom g s, seqSec g s) := by
    simp [regOwner, seqGregRow, unit96_seq]
  have hmay : mayRead m seqGregRow [g / 96, g % 96, i] s = true := mayRead_of_mayAct (by decide) (by rwa [hown])
  rw [regRead, readable_of_mayRead ha hu (findReg_oSeqGreg hg hi) hmay]
  simp [seqGregRow, regView, viewA, viewB, unit96_seq, nth, reg]

/-- R73, R101: SEQ_GREG is written outside a shot only, and read at any time.
Settles O12: it holds. -/
theorem seqGregAccesses : Obligations.SeqGregAccesses := by
  intro m g i v s hg hi hf hst ha hu hact
  have hg768 := seq_lt_768 hg
  have hrow := findReg_oSeqGreg hg768 hi
  have hrefusal := writeRefusal_seqGreg (i := i) (off := oSeqGreg g i) hact v
  refine ⟨fun hout => ⟨_, rfl, ?write⟩, fun hin => ?refused, ⟨_, rfl, ?read⟩⟩
  case write =>
    rw [hostWrite_oSeqGreg ⟨hf, hst, ha, hu, seqGregRow, hrow, rfl, by rw [hrefusal, hout]; rfl, rfl⟩]
    refine ⟨onlySeq_modSeq g _ s, by rw [seq_modSeq], fun k => ?_⟩
    rw [seq_modSeq]
    exact tget_tset 0 i k v (seq g s).g
  case refused =>
    have hwrite : hostWrite m (oSeqGreg g i) v s = recordOwned (seqDom g s, seqSec g s) (0x1000 + g) 2 0 0 s := by
      rw [hostWrite_refused hf hst ha hu hrow (by rw [hrefusal, hin]; rfl), refuseWrite_seqGreg]
    refine ⟨⟨_, rfl, ?_⟩, ⟨_, rfl, ?_⟩⟩
    all_goals rw [hwrite]
    · exact logged_recordOwned _ _ _ _ _ s (by omega) (by decide) (by decide)
    · rfl
  case read =>
    rw [lowRead_reaches hf, regRead_oSeqGreg hg768 hi ha hu hact]
    exact ⟨answer_readOut .., answer_latched .., rfl⟩

end Sys2Proof.Machine
end

section
/-! PROOF. Waveform descriptors and the configuration of the XY outputs (R97, R98, R133). -/

namespace Sys2Proof.Machine

variable {s : State}

/-! ### WAVE_DESC: the shadow of a descriptor (R97) -/

/-- The row of WAVE_DESC in the register map. -/
def waveDescRow : RegRow := ⟨.waveDesc, 0x1300000, [(8, 0x400000), (4096, 0x8)], 0xfffffffffc, 0x0, 0x0, true, .tile⟩

theorem tile_lt_8 {u : Nat} (hu : u < nTiles s) : u < 8 := by
  rw [nTiles] at hu
  split at hu <;> omega

theorem findReg_oWaveDesc {u n : Nat} (hu : u < 8) (hn : n < 4096) : findReg (oWaveDesc u n) = some (waveDescRow, [u, n]) := by
  refine findReg_of_rowIdx (by simp [regRows, regRows1, waveDescRow]) (by simp only [oWaveDesc, waveDescRow]; omega) ?_
  have hoff : oWaveDesc u n - waveDescRow.base = 0x400000 * u + 0x8 * n := by
    simp only [oWaveDesc, tileStep, waveDescRow]
    omega
  rw [hoff]
  refine rowIdx_cons.2 ⟨by omega, _, rowIdx_cons.2 ⟨by omega, [], if_pos (by omega), rfl⟩, ?_⟩
  simp only [List.cons.injEq, and_true]
  omega

theorem tileOf_oWaveDesc {u n : Nat} (hu : u < 8) (hn : n < 4096) : tileOf (oWaveDesc u n) = some u := by
  have hin : 0x1000000 ≤ oWaveDesc u n ∧ oWaveDesc u n < 0x3000000 := by
    simp only [oWaveDesc, tileStep]
    omega
  rw [tileOf, if_pos hin]
  simp only [oWaveDesc, tileStep, Option.some.injEq]
  omega

/-- The descriptors of a tile of the part are present. -/
theorem absentAt_oWaveDesc {u n : Nat} (hu : u < nTiles s) (hn : n < 4096) : absentAt (oWaveDesc u n) s = none := by
  have hdrive : driveAbsent u (oWaveDesc u n) = none := by
    refine if_neg fun h => ?_
    simp only [oWaveDesc, tileStep] at h
    omega
  simp [absentAt, tileOf_oWaveDesc (tile_lt_8 hu) hn, Nat.not_le.2 hu, hdrive]

theorem unpoweredAt_oWaveDesc {u n : Nat} (hu : u < 8) (hn : n < 4096) (hp : tilePowered u s = true) :
    unpoweredAt (oWaveDesc u n) s = false := by
  simp [unpoweredAt, tileOf_oWaveDesc hu hn, hp]

/-- A descriptor that would end beyond the waveform memory is PARAM_INVALID. -/
theorem writeRefusal_waveDesc {m u n off : Nat} {v : W40} (h : mayAct m (tileDom u s) (tileSec u s) = true)
    (hend : 2097152 < 8 * fld v 37 20 + fld v 19 2) : writeRefusal m waveDescRow [u, n] off v s = some 4 := by
  have hmay : mayWrite m waveDescRow [u, n] off v s = true := by simp [mayWrite, regOwner, waveDescRow, nth, h]
  rw [writeRefusal_of_mayWrite hmay (by decide) (by decide)]
  simp [stateRefused, busyRefused, paramB, waveDescRow, hend]

theorem refuseWrite_waveDesc (m u n : Nat) (v : W40) (s : State) : refuseWrite m 4 waveDescRow [u, n] v s =
    recordOwned (srcOwner (0xF000 + u) s) (0xF000 + u) 4 0 0 s := by
  simp [refuseWrite, regSource, regDetail, waveDescRow, nth]

/-! ### WAVE_COMMIT (R98) -/

/-- The descriptors of a tile are the registers, eight bytes apart, from its first descriptor to its last. -/
theorem mem_waveDescs {u o : Nat} (ho : o % 8 = 0) :
    o ∈ (upTo 4096).map (oWaveDesc u) ↔ oWaveDesc u 0 ≤ o ∧ o ≤ oWaveDesc u 4095 := by
  simp only [upTo, List.mem_map, List.mem_range, oWaveDesc, tileStep]
  constructor
  · rintro ⟨n, hn, rfl⟩
    omega
  · rintro ⟨hlo, hhi⟩
    exact ⟨(o - (0x1300000 + 0x400000 * u)) / 8, by omega, by omega⟩

theorem oWaveDesc_aligned (u n : Nat) : oWaveDesc u n % 8 = 0 := by
  simp only [oWaveDesc, tileStep]
  omega

theorem waveCommit_frame (u : Nat) (s : State) :
    waveCommit u s = { s with force := (waveCommit u s).force, fresh := (waveCommit u s).fresh } := by
  rw [waveCommit, commitRegs_force]
  rfl

/-- A register from the first descriptor of the tile to its last is in force as its shadow stands, listed or not; no other changes. -/
theorem getF_waveCommit (u o : Nat) (s : State) : getF o (waveCommit u s) =
    if oWaveDesc u 0 ≤ o ∧ o ≤ oWaveDesc u 4095 then getR o s else getF o s := by
  rw [waveCommit, getF_commitRegs]
  by_cases hin : oWaveDesc u 0 ≤ o ∧ o ≤ oWaveDesc u 4095
  · rw [if_pos hin]
    split
    case isTrue => rfl
    case isFalse hnot =>
      refine getF_eq_getR_of_notListed (s := s) fun hlisted => hnot (List.mem_filter.2 ⟨hlisted, ?_⟩)
      simpa using hin
  · rw [if_neg hin, if_neg (fun h => hin (by simpa using (List.mem_filter.1 h).2))]
    rfl

theorem waveCommit_commits (u : Nat) (s : State) : Commits ((upTo 4096).map (oWaveDesc u)) s (waveCommit u s) := by
  refine ⟨fun o ho => ?_, fun o ho h8 => ?_⟩
  · have h8 : o % 8 = 0 := by
      obtain ⟨n, -, rfl⟩ := List.mem_map.1 ho
      exact oWaveDesc_aligned u n
    rw [getF_waveCommit, if_pos ((mem_waveDescs h8).1 ho)]
  · rw [getF_waveCommit, if_neg fun h => ho ((mem_waveDescs h8).2 h)]

/-- An accepted write of COMMIT to WAVE_COMMIT commits the descriptors of the tile. -/
theorem hostWrite_oWaveCommit {m u : Nat} (h : Reaches .waveCommit [u] m (oWaveCommit u) 1 s) :
    hostWrite m (oWaveCommit u) 1 s = waveCommit u s := by
  obtain ⟨row, -, hk, hw⟩ := hostWrite_reaches h
  rw [hw]
  simp [regEffect, effectA, effectB, hk, nth, bit]

/-! ### XY_CFG (R133) -/

/-- XY_CFG stores its bits 2:0, SUM_SHIFT, and no other. -/
theorem regRows_xyCfg_rw : ∀ row ∈ regRows, row.k = .xyCfg → row.rw = 7 := by decide +kernel

/-- An accepted write of XY_CFG is stored, where no commit of the tick could take it in. -/
theorem hostWrite_xyCfg {m off : Nat} {is : List Nat} {v : W40} (h : Reaches .xyCfg is m off v s) (hfresh : s.fresh = []) :
    ∃ row, row.rw = 7 ∧ hostWrite m off v s = storeReg row off v s := by
  obtain ⟨row, hrow, hk, hw⟩ := hostWrite_reaches h
  refine ⟨row, regRows_xyCfg_rw row (mem_regRows_of_findReg hrow) hk, ?_⟩
  rw [hw, ← joinCommit_of_noFresh (s := storeReg row off v s) (off := off) hfresh]
  simp [regEffect, effectA, effectB, hk]

/-- R97, R98, R133: refused descriptors, WAVE_COMMIT, and writes of XY_CFG.
Settles O14: it holds. -/
theorem waveDescriptorsAndXyGain : Obligations.WaveDescriptorsAndXyGain := by
  refine ⟨fun m u n v s hu hn hf hst hp hact hend => ⟨_, rfl, ?_⟩, fun m u s h => ⟨_, rfl, ?_⟩,
    fun m u x v s _ h hfresh => ⟨_, rfl, ?_⟩⟩
  · have hu8 := tile_lt_8 hu
    rw [hostWrite_refused hf hst (absentAt_oWaveDesc hu hn) (unpoweredAt_oWaveDesc hu8 hn hp) (findReg_oWaveDesc hu8 hn)
      (writeRefusal_waveDesc hact hend), refuseWrite_waveDesc]
    exact ⟨rfl, logged_recordOwned _ _ _ _ _ s (by omega) (by decide) (by decide), rfl⟩
  · rw [hostWrite_oWaveCommit h]
    have hframe := waveCommit_frame u s
    have hregs := congrArg State.regs hframe
    exact ⟨hframe, waveCommit_commits u s, hregs⟩
  · obtain ⟨row, hrw, hwrite⟩ := hostWrite_xyCfg h hfresh
    rw [hwrite]
    refine ⟨storeReg_only row _ v s, fR_storeReg (by rw [hrw]; decide) (fun j _ hj => ?_) _ v s⟩
    rw [hrw]
    interval_cases j <;> rfl

end Sys2Proof.Machine
end

section
/-! PROOF. The management port (R424, R425): the part code that MGMT_IDENTITY answers with stands in bits 39:24 of DEV_ID, above the four
bits of STEPPING, and holds only while STEPPING fits in them. -/

namespace Sys2Proof.Machine

variable {s : State}

/-- PART_CODE of the part (DEV_ID). -/
def partCode (s : State) : Nat := if s.fuses.part = .q512 then 0x0512 else 0x0256

theorem identWord_zero (s : State) : identWord 0 s = w (partCode s * 2 ^ 24 + s.fuses.stepping * 2 ^ 20 + partCode s) := by
  cases h : s.fuses.part <;> simp [identWord, partCode, h]

/-- What of STEPPING lies above its four bits is carried into the part code. -/
theorem fld_identWord_partCode (s : State) : fld (identWord 0 s) 39 24 = (partCode s + s.fuses.stepping / 16) % 2 ^ 16 := by
  have hcode : partCode s < 2 ^ 20 := by
    rw [partCode]
    split <;> decide
  have hword : (partCode s * 2 ^ 24 + s.fuses.stepping * 2 ^ 20 + partCode s) / 2 ^ 24 = partCode s + s.fuses.stepping / 16 := by
    omega
  have hfield (n : Nat) : n % 2 ^ 40 / 2 ^ 24 % 2 ^ 16 = n / 2 ^ 24 % 2 ^ 16 := by
    rw [show 2 ^ 40 = 2 ^ 24 * 2 ^ 16 from rfl, Nat.mod_mul_right_div_self, Nat.mod_mod]
  rw [identWord_zero, fld, w, BitVec.toNat_ofNat, Nat.shiftRight_eq_div_pow, hfield, hword]

/-- MGMT_IDENTITY completes while VAUX is present, and its answer is all that changes. -/
theorem exec_mgmtIdentity_of_vaux (hv : s.pins.vaux = true) :
    exec .mgmtIdentity s = .next { s with host := { s.host with mgmt := some (toLe 2 ((partCode s + s.fuses.stepping / 16) % 2 ^ 16)
      ++ toLe 1 s.fuses.stepping ++ toLe 10 s.fuses.serial.toNat) } } := by
  have hanswer : exec .mgmtIdentity s = .next (mgmtAnswer (some (mgmtIdentBytes s)) s) := rfl
  rw [hanswer, mgmtAnswer, if_pos hv, mgmtIdentBytes, fld_identWord_partCode]

/-- A stepping of four bits, as DEV_ID has it, leaves the part code that MGMT_IDENTITY answers with as it is (Table 22.8). -/
theorem mgmtIdentity_answers_partCode (hv : s.pins.vaux = true) (hstep : s.fuses.stepping < 16) :
    Completes .mgmtIdentity s (fun t => t = { s with host := { s.host with mgmt := some (toLe 2 (partCode s)
      ++ toLe 1 s.fuses.stepping ++ toLe 10 s.fuses.serial.toNat) } }) := by
  have hcode : (partCode s + s.fuses.stepping / 16) % 2 ^ 16 = partCode s := by
    rw [Nat.div_eq_of_lt hstep, partCode]
    split <;> rfl
  refine ⟨_, exec_mgmtIdentity_of_vaux hv, ?_⟩
  rw [hcode]

/-- R424, Table 22.8: the fuses of the model hold STEPPING as a number of any size. At STEPPING 16 it is carried out of its four bits of
DEV_ID, and MGMT_IDENTITY of an ABQ-512 answers with the part code 0x0513.
Refutes O58: the statement asks for 0x0512 at every STEPPING. -/
theorem not_managementAnswers : ¬ Obligations.ManagementAnswers := by
  intro h
  have hv : ({ State.reset with fuses := { stepping := 16 } } : State).pins.vaux = true := rfl
  obtain ⟨⟨t, hexec, ht⟩, -⟩ := h _ hv
  rw [exec_mgmtIdentity_of_vaux hv, Host.Outcome.next.injEq] at hexec
  have hbytes := congrArg (fun u => u.host.mgmt) (hexec.trans ht)
  exact absurd hbytes (by decide)

end Sys2Proof.Machine
end

section
/-! PROOF. Which parts of the state an operation touches. `Touches K s t` says that from `s` to `t` nothing changes but the parts `K`,
and that nothing is undone that no step may undo. It composes, so that the frame of each operation follows the shape of its definition. -/

set_option Elab.async false

namespace Sys2Proof.Machine

/-- The parts of the state that an operation may change: its fields, with the memories, the rings, the fuses of ROLLBACK and the count of
TICK told apart from what stands beside them; `pool` allows the records that wait to leave. -/
inductive Fld
  | fuses | life | haltAt | regs | force | time | clock | log | lbReq | lbWaited | lbResume | armAfter | safePend | holdHist
  | lbHist | ballHist | seqs | down | crcDown | cutTiles | barriers | wave | drv | prb | flux | outs | bias | adcs | slots |
  halves | bus | vb | binder | cores | wits | mem | rings | gran | hostMem | made | ce | fabric | ports | fed | pair | mon |
  senses | lins | therm | glean | nvm | rollback | sec | safeAt | host | pins | agenda | modeWas | fresh | free | pending | pool
  deriving DecidableEq

/-- Part `f` of the new state where `K` lists it, of the old one otherwise. -/
def pick {α : Type} (K : List Fld) (f : Fld) (old new : α) : α := if f ∈ K then new else old

/-- The state `s` with the parts that `K` lists as `t` has them. -/
def merged (K : List Fld) (s t : State) : State :=
  {
    fuses := pick K .fuses s.fuses t.fuses
    life := pick K .life s.life t.life
    haltAt := pick K .haltAt s.haltAt t.haltAt
    regs := pick K .regs s.regs t.regs
    force := pick K .force s.force t.force
    time := {
      locked := pick K .time s.time.locked t.time.locked
      counting := pick K .time s.time.counting t.time.counting
      everLocked := pick K .time s.time.everLocked t.time.everLocked
      refValid := pick K .time s.time.refValid t.time.refValid
      refAt := pick K .time s.time.refAt t.time.refAt
      tick := pick K .clock s.time.tick t.time.tick
      epoch := pick K .clock s.time.epoch t.time.epoch
      req := pick K .time s.time.req t.time.req
      resume := pick K .time s.time.resume t.time.resume
      fifo := pick K .time s.time.fifo t.time.fifo
      lastEdge := pick K .time s.time.lastEdge t.time.lastEdge
      overflowed := pick K .time s.time.overflowed t.time.overflowed
      fireNext := pick K .time s.time.fireNext t.time.fireNext
      pulseEnd := pick K .time s.time.pulseEnd t.time.pulseEnd
      ptmOut := pick K .time s.time.ptmOut t.time.ptmOut
      ptmNext := pick K .time s.time.ptmNext t.time.ptmNext
      ptmCount := pick K .time s.time.ptmCount t.time.ptmCount
      ptm := pick K .time s.time.ptm t.time.ptm
      phase := pick K .time s.time.phase t.time.phase
      slew := pick K .time s.time.slew t.time.slew
      shifts := pick K .time s.time.shifts t.time.shifts
      acquiring := pick K .time s.time.acquiring t.time.acquiring
      stepAcq := pick K .time s.time.stepAcq t.time.stepAcq }
    log := pick K .log s.log t.log
    lbReq := pick K .lbReq s.lbReq t.lbReq
    lbWaited := pick K .lbWaited s.lbWaited t.lbWaited
    lbResume := pick K .lbResume s.lbResume t.lbResume
    armAfter := pick K .armAfter s.armAfter t.armAfter
    safePend := pick K .safePend s.safePend t.safePend
    holdHist := pick K .holdHist s.holdHist t.holdHist
    lbHist := pick K .lbHist s.lbHist t.lbHist
    ballHist := pick K .ballHist s.ballHist t.ballHist
    seqs := pick K .seqs s.seqs t.seqs
    down := pick K .down s.down t.down
    crcDown := pick K .crcDown s.crcDown t.crcDown
    cutTiles := pick K .cutTiles s.cutTiles t.cutTiles
    barriers := pick K .barriers s.barriers t.barriers
    wave := pick K .wave s.wave t.wave
    drv := pick K .drv s.drv t.drv
    prb := pick K .prb s.prb t.prb
    flux := pick K .flux s.flux t.flux
    outs := pick K .outs s.outs t.outs
    bias := pick K .bias s.bias t.bias
    adcs := pick K .adcs s.adcs t.adcs
    slots := pick K .slots s.slots t.slots
    halves := pick K .halves s.halves t.halves
    bus := pick K .bus s.bus t.bus
    vb := pick K .vb s.vb t.vb
    binder := pick K .binder s.binder t.binder
    cores := pick K .cores s.cores t.cores
    wits := pick K .wits s.wits t.wits
    gran := {
      mem := pick K .mem s.gran.mem t.gran.mem
      rings := pick K .rings s.gran.rings t.gran.rings
      scrub := pick K .gran s.gran.scrub t.gran.scrub
      unmapped := pick K .gran s.gran.unmapped t.gran.unmapped
      hostMem := pick K .hostMem s.gran.hostMem t.gran.hostMem
      resQ := pick K .gran s.gran.resQ t.gran.resQ
      spent := pick K .gran s.gran.spent t.gran.spent
      overran := pick K .gran s.gran.overran t.gran.overran
      made := pick K .made s.gran.made t.gran.made
      refused := pick K .gran s.gran.refused t.gran.refused }
    ce := pick K .ce s.ce t.ce
    fabric := pick K .fabric s.fabric t.fabric
    ports := pick K .ports s.ports t.ports
    fed := pick K .fed s.fed t.fed
    pair := pick K .pair s.pair t.pair
    mon := pick K .mon s.mon t.mon
    senses := pick K .senses s.senses t.senses
    lins := pick K .lins s.lins t.lins
    therm := pick K .therm s.therm t.therm
    glean := pick K .glean s.glean t.glean
    sec := {
      nvm := pick K .nvm s.sec.nvm t.sec.nvm
      rollback := pick K .rollback s.sec.rollback t.sec.rollback
      selector := pick K .sec s.sec.selector t.sec.selector
      booted := pick K .sec s.sec.booted t.sec.booted
      slot := pick K .sec s.sec.slot t.sec.slot
      digest := pick K .sec s.sec.digest t.sec.digest
      loftDigest := pick K .sec s.sec.loftDigest t.sec.loftDigest
      nvmDone := pick K .sec s.sec.nvmDone t.sec.nvmDone
      safeAt := pick K .safeAt s.sec.safeAt t.sec.safeAt
      burst := pick K .rollback s.sec.burst t.sec.burst
      trngBad := pick K .sec s.sec.trngBad t.sec.trngBad
      factoryDigest := pick K .sec s.sec.factoryDigest t.sec.factoryDigest
      journal := pick K .sec s.sec.journal t.sec.journal
      trimBad := pick K .sec s.sec.trimBad t.sec.trimBad
      restNvm := pick K .sec s.sec.restNvm t.sec.restNvm
      slewNvm := pick K .sec s.sec.slewNvm t.sec.slewNvm
      ledger := pick K .sec s.sec.ledger t.sec.ledger }
    host := pick K .host s.host t.host
    pins := pick K .pins s.pins t.pins
    agenda := pick K .agenda s.agenda t.agenda
    modeWas := pick K .modeWas s.modeWas t.modeWas
    fresh := pick K .fresh s.fresh t.fresh
    free := pick K .free s.free t.free
    pending := pick K .pending s.pending t.pending }

/-- From `s` to `t` nothing has changed but the parts that `K` lists, what no step may undo stands, and unless `K` lists `pool` the
records that wait still do. -/
structure Touches (K : List Fld) (s t : State) : Prop where
  frame : t = merged K s t
  keeps : Keeps s t
  grows : Fld.pool ∉ K → s.log.pool <+: t.log.pool

theorem pick_trans {α : Type} {K L : List Fld} {f : Fld} {a b c : α} (h : b = pick K f a b) (k : c = pick L f b c) :
    c = pick (K ++ L) f a c := by
  unfold pick at *
  by_cases hL : f ∈ L
  · simp [hL]
  · rw [if_neg hL] at k
    subst k
    simpa [hL] using h

theorem pick_mono {α : Type} {K L : List Fld} {f : Fld} {a b : α} (hKL : ∀ f ∈ K, f ∈ L) (h : b = pick K f a b) :
    b = pick L f a b := by
  unfold pick at *
  by_cases hL : f ∈ L
  · simp [hL]
  · rw [if_neg (fun hK => hL (hKL f hK))] at h
    rw [if_neg hL, h]

theorem eq_merged {M : List Fld} {a c : State}
    (part : ∀ {α : Type} (π : State → α) (f : Fld), (∀ K s t, π (merged K s t) = pick K f (π s) (π t)) → π c = pick M f (π a) (π c)) :
    c = merged M a c := by
  have part {α : Type} (π : State → α) (f : Fld) (h : ∀ K s t, π (merged K s t) = pick K f (π s) (π t) := by intros; rfl) :=
    part π f h
  obtain ⟨_, _, _, _, _, ⟨⟩, _, _, _, _, _, _, _, _, _, _, _, _, _, _, _, _, _, _, _, _, _, _, _, _, _, _, _, _, ⟨⟩, _, _, _, _, _, _, _, _, _, _, ⟨⟩, _, _, _, _, _, _, _⟩ := c
  simp only [merged, State.mk.injEq, TimeS.mk.injEq, Gran.mk.injEq, Sec.mk.injEq]
  exact ⟨
    part (·.fuses) .fuses, part (·.life) .life, part (·.haltAt) .haltAt, part (·.regs) .regs, part (·.force) .force,
    ⟨part (·.time.locked) .time, part (·.time.counting) .time, part (·.time.everLocked) .time, part (·.time.refValid) .time,
    part (·.time.refAt) .time, part (·.time.tick) .clock, part (·.time.epoch) .clock, part (·.time.req) .time,
    part (·.time.resume) .time, part (·.time.fifo) .time, part (·.time.lastEdge) .time, part (·.time.overflowed) .time,
    part (·.time.fireNext) .time, part (·.time.pulseEnd) .time, part (·.time.ptmOut) .time, part (·.time.ptmNext) .time,
    part (·.time.ptmCount) .time, part (·.time.ptm) .time, part (·.time.phase) .time, part (·.time.slew) .time,
    part (·.time.shifts) .time, part (·.time.acquiring) .time, part (·.time.stepAcq) .time⟩, part (·.log) .log,
    part (·.lbReq) .lbReq, part (·.lbWaited) .lbWaited, part (·.lbResume) .lbResume, part (·.armAfter) .armAfter,
    part (·.safePend) .safePend, part (·.holdHist) .holdHist, part (·.lbHist) .lbHist, part (·.ballHist) .ballHist,
    part (·.seqs) .seqs, part (·.down) .down, part (·.crcDown) .crcDown, part (·.cutTiles) .cutTiles,
    part (·.barriers) .barriers, part (·.wave) .wave, part (·.drv) .drv, part (·.prb) .prb, part (·.flux) .flux,
    part (·.outs) .outs, part (·.bias) .bias, part (·.adcs) .adcs, part (·.slots) .slots, part (·.halves) .halves,
    part (·.bus) .bus, part (·.vb) .vb, part (·.binder) .binder, part (·.cores) .cores, part (·.wits) .wits,
    ⟨part (·.gran.mem) .mem, part (·.gran.rings) .rings, part (·.gran.scrub) .gran, part (·.gran.unmapped) .gran,
    part (·.gran.hostMem) .hostMem, part (·.gran.resQ) .gran, part (·.gran.spent) .gran, part (·.gran.overran) .gran,
    part (·.gran.made) .made, part (·.gran.refused) .gran⟩, part (·.ce) .ce, part (·.fabric) .fabric, part (·.ports) .ports,
    part (·.fed) .fed, part (·.pair) .pair, part (·.mon) .mon, part (·.senses) .senses, part (·.lins) .lins,
    part (·.therm) .therm, part (·.glean) .glean, ⟨part (·.sec.nvm) .nvm, part (·.sec.rollback) .rollback,
    part (·.sec.selector) .sec, part (·.sec.booted) .sec, part (·.sec.slot) .sec, part (·.sec.digest) .sec,
    part (·.sec.loftDigest) .sec, part (·.sec.nvmDone) .sec, part (·.sec.safeAt) .safeAt, part (·.sec.burst) .rollback,
    part (·.sec.trngBad) .sec, part (·.sec.factoryDigest) .sec, part (·.sec.journal) .sec, part (·.sec.trimBad) .sec,
    part (·.sec.restNvm) .sec, part (·.sec.slewNvm) .sec, part (·.sec.ledger) .sec⟩, part (·.host) .host, part (·.pins) .pins,
    part (·.agenda) .agenda, part (·.modeWas) .modeWas, part (·.fresh) .fresh, part (·.free) .free, part (·.pending) .pending⟩

theorem merged_trans {K L : List Fld} {a b c : State} (h : b = merged K a b) (k : c = merged L b c) : c = merged (K ++ L) a c :=
  eq_merged fun π _ hπ => pick_trans ((congrArg π h).trans (hπ K a b)) ((congrArg π k).trans (hπ L b c))

theorem merged_mono {K L : List Fld} {a b : State} (hKL : ∀ f ∈ K, f ∈ L) (h : b = merged K a b) : b = merged L a b :=
  eq_merged fun π _ hπ => pick_mono hKL ((congrArg π h).trans (hπ K a b))

variable {s t u : State} {K L : List Fld}

theorem Keeps.refl (s : State) : Keeps s s := ⟨rfl, le_rfl, id⟩
theorem Keeps.trans (h : Keeps s t) (k : Keeps t u) : Keeps s u :=
  ⟨k.fuses.trans h.fuses, h.burnt.trans k.burnt, fun m => k.mem (h.mem m)⟩

theorem Touches.refl (s : State) : Touches [] s s := ⟨rfl, .refl s, fun _ => List.prefix_rfl⟩

theorem Touches.trans (h : Touches K s t) (k : Touches L t u) : Touches (K ++ L) s u :=
  ⟨merged_trans h.frame k.frame, h.keeps.trans k.keeps, fun hp =>
    (h.grows fun hK => hp (List.mem_append_left _ hK)).trans (k.grows fun hL => hp (List.mem_append_right _ hL))⟩

theorem Touches.mono (h : Touches K s t) (hKL : ∀ f ∈ K, f ∈ L := by decide) : Touches L s t :=
  ⟨merged_mono hKL h.frame, h.keeps, fun hp => h.grows fun hK => hp (hKL _ hK)⟩

/-- A change of parts that leaves the memories, the fuses and the records that wait. -/
theorem Touches.setLog (K : List Fld) (h : t = merged K s t) (hlog : Fld.pool ∉ K → s.log.pool <+: t.log.pool)
    (hK : ∀ f ∈ [Fld.fuses, .mem, .hostMem, .nvm, .rollback], f ∉ K := by decide) : Touches K s t := by
  have part {α : Type} (π : State → α) (f : Fld) (hf : f ∈ [Fld.fuses, .mem, .hostMem, .nvm, .rollback])
      (hπ : ∀ K s t, π (merged K s t) = pick K f (π s) (π t) := by intros; rfl) : π t = π s := by
    rw [h, hπ, pick, if_neg (hK f hf)]
  have hmem := part (·.gran.mem) .mem (by decide)
  have hhost := part (·.gran.hostMem) .hostMem (by decide)
  have hnvm := part (·.sec.nvm) .nvm (by decide)
  have hroll := part (·.sec.rollback) .rollback (by decide)
  have hburst := part (·.sec.burst) .rollback (by decide)
  refine ⟨h, ⟨part (·.fuses) .fuses (by decide), ?_, ?_⟩, hlog⟩
  · rw [burnt, burnt, show t.sec.rollback = _ from hroll, show t.sec.burst = _ from hburst]
  · rw [memOk, memOk, show t.gran.mem = _ from hmem, show t.gran.hostMem = _ from hhost, show t.sec.nvm = _ from hnvm]
    exact id

/-- A change of parts that leaves the memories, the fuses and the log. -/
theorem Touches.set (K : List Fld) (h : t = merged K s t)
    (hK : ∀ f ∈ [Fld.fuses, .mem, .hostMem, .nvm, .rollback], f ∉ K := by decide) (hlog : Fld.log ∉ K := by decide) : Touches K s t := by
  have hsame : t.log = s.log := by
    rw [h]
    exact if_neg hlog
  exact .setLog K h (fun _ => hsame ▸ List.prefix_rfl) hK

theorem Touches.life {x : Life} : Touches [.life] s { s with life := x } := .set _ rfl
theorem Touches.haltAt {x : Option (Tick × Nat)} : Touches [.haltAt] s { s with haltAt := x } := .set _ rfl
theorem Touches.regs {x : Tab W40} : Touches [.regs] s { s with regs := x } := .set _ rfl
theorem Touches.force {x : Tab W40} : Touches [.force] s { s with force := x } := .set _ rfl
theorem Touches.log {x : Log} (hx : s.log.pool <+: x.pool := by exact List.prefix_rfl) : Touches [.log] s { s with log := x } :=
  .setLog _ rfl fun _ => hx
theorem Touches.pool {x : Log} : Touches [.log, .pool] s { s with log := x } := .setLog _ rfl fun hp => absurd (by decide) hp
theorem Touches.lbReq {x : Option (Tick × Bool)} : Touches [.lbReq] s { s with lbReq := x } := .set _ rfl
theorem Touches.lbWaited {x : Bool} : Touches [.lbWaited] s { s with lbWaited := x } := .set _ rfl
theorem Touches.lbResume {x : Option Tick} : Touches [.lbResume] s { s with lbResume := x } := .set _ rfl
theorem Touches.armAfter {x : Option Tick} : Touches [.armAfter] s { s with armAfter := x } := .set _ rfl
theorem Touches.safePend {x : Option Tick} : Touches [.safePend] s { s with safePend := x } := .set _ rfl
theorem Touches.holdHist {x : List (Tick × Bool)} : Touches [.holdHist] s { s with holdHist := x } := .set _ rfl
theorem Touches.lbHist {x : List (Tick × Bool)} : Touches [.lbHist] s { s with lbHist := x } := .set _ rfl
theorem Touches.ballHist {x : List (Tick × Bool)} : Touches [.ballHist] s { s with ballHist := x } := .set _ rfl
theorem Touches.seqs {x : Tab Seq} : Touches [.seqs] s { s with seqs := x } := .set _ rfl
theorem Touches.down {x : List (Nat × QEntry)} : Touches [.down] s { s with down := x } := .set _ rfl
theorem Touches.crcDown {x : List Nat} : Touches [.crcDown] s { s with crcDown := x } := .set _ rfl
theorem Touches.cutTiles {x : List Nat} : Touches [.cutTiles] s { s with cutTiles := x } := .set _ rfl
theorem Touches.barriers {x : Tab Barrier} : Touches [.barriers] s { s with barriers := x } := .set _ rfl
theorem Touches.wave {x : Tab W40} : Touches [.wave] s { s with wave := x } := .set _ rfl
theorem Touches.drv {x : Tab Tone} : Touches [.drv] s { s with drv := x } := .set _ rfl
theorem Touches.prb {x : Tab Tone} : Touches [.prb] s { s with prb := x } := .set _ rfl
theorem Touches.flux {x : Tab Flux} : Touches [.flux] s { s with flux := x } := .set _ rfl
theorem Touches.outs {x : Tab Output} : Touches [.outs] s { s with outs := x } := .set _ rfl
theorem Touches.bias {x : Tab Bias} : Touches [.bias] s { s with bias := x } := .set _ rfl
theorem Touches.adcs {x : Tab Adc} : Touches [.adcs] s { s with adcs := x } := .set _ rfl
theorem Touches.slots {x : Tab Slot} : Touches [.slots] s { s with slots := x } := .set _ rfl
theorem Touches.halves {x : Tab Half} : Touches [.halves] s { s with halves := x } := .set _ rfl
theorem Touches.bus {x : List Posted} : Touches [.bus] s { s with bus := x } := .set _ rfl
theorem Touches.vb {x : Tab VEnt} : Touches [.vb] s { s with vb := x } := .set _ rfl
theorem Touches.binder {x : Binder} : Touches [.binder] s { s with binder := x } := .set _ rfl
theorem Touches.cores {x : Tab Core} : Touches [.cores] s { s with cores := x } := .set _ rfl
theorem Touches.wits {x : Tab Wit} : Touches [.wits] s { s with wits := x } := .set _ rfl
theorem Touches.ce {x : Ce} : Touches [.ce] s { s with ce := x } := .set _ rfl
theorem Touches.fabric {x : Fabric} : Touches [.fabric] s { s with fabric := x } := .set _ rfl
theorem Touches.ports {x : Tab Port} : Touches [.ports] s { s with ports := x } := .set _ rfl
theorem Touches.fed {x : Fed} : Touches [.fed] s { s with fed := x } := .set _ rfl
theorem Touches.pair {x : Pair} : Touches [.pair] s { s with pair := x } := .set _ rfl
theorem Touches.mon {x : Mon} : Touches [.mon] s { s with mon := x } := .set _ rfl
theorem Touches.senses {x : Tab Sense} : Touches [.senses] s { s with senses := x } := .set _ rfl
theorem Touches.lins {x : Tab LinSet} : Touches [.lins] s { s with lins := x } := .set _ rfl
theorem Touches.therm {x : Therm} : Touches [.therm] s { s with therm := x } := .set _ rfl
theorem Touches.glean {x : Gleaner} : Touches [.glean] s { s with glean := x } := .set _ rfl
theorem Touches.host {x : HostS} : Touches [.host] s { s with host := x } := .set _ rfl
theorem Touches.pins {x : Pins} : Touches [.pins] s { s with pins := x } := .set _ rfl
theorem Touches.agenda {x : List (Tick × Deferred)} : Touches [.agenda] s { s with agenda := x } := .set _ rfl
theorem Touches.modeWas {x : Option W40} : Touches [.modeWas] s { s with modeWas := x } := .set _ rfl
theorem Touches.fresh {x : List (Nat × Nat)} : Touches [.fresh] s { s with fresh := x } := .set _ rfl
theorem Touches.free {x : Nat} : Touches [.free] s { s with free := x } := .set _ rfl

/-- A change of the time other than its count. -/
theorem Touches.time {x : TimeS} (htick : x.tick = s.time.tick := by rfl) (hepoch : x.epoch = s.time.epoch := by rfl) :
    Touches [.time] s { s with time := x } := by
  refine .set _ ?_
  obtain ⟨⟩ := x
  subst htick hepoch
  rfl

/-- A change of the Granary that leaves both memories, the rings and the result records. -/
theorem Touches.gran {x : Gran} (hmem : x.mem = s.gran.mem := by rfl) (hhost : x.hostMem = s.gran.hostMem := by rfl)
    (hrings : x.rings = s.gran.rings := by rfl) (hmade : x.made = s.gran.made := by rfl) :
    Touches [.gran] s { s with gran := x } := by
  refine .set _ ?_
  obtain ⟨⟩ := x
  subst hmem hhost hrings hmade
  rfl

/-- A change of the NVM's side that leaves its bytes, the fuses of ROLLBACK and the tick of SAFE. -/
theorem Touches.sec {x : Sec} (hnvm : x.nvm = s.sec.nvm := by rfl) (hroll : x.rollback = s.sec.rollback := by rfl)
    (hburst : x.burst = s.sec.burst := by rfl) (hsafe : x.safeAt = s.sec.safeAt := by rfl) :
    Touches [.sec] s { s with sec := x } := by
  refine .set _ ?_
  obtain ⟨⟩ := x
  subst hnvm hroll hburst hsafe
  rfl

theorem Touches.after (k : Touches L t u) (h : Touches K s t) : Touches (K ++ L) s u := h.trans k

theorem Touches.left (h : Touches K s t) : Touches (K ++ L) s t := h.mono fun _ => List.mem_append_left _

theorem Touches.right (h : Touches L s t) : Touches (K ++ L) s t := h.mono fun _ => List.mem_append_right _

theorem Touches.ite {c : Prop} [Decidable c] (h : Touches K s t) (k : Touches L s u) : Touches (K ++ L) s (if c then t else u) := by
  split
  · exact h.mono fun _ => List.mem_append_left _
  · exact k.mono fun _ => List.mem_append_right _

theorem Touches.foldS {α : Type} {f : α → State → State} (h : ∀ a s, Touches K s (f a s)) :
    ∀ {l : List α} {s : State}, Touches K s (foldS f l s)
  | [], s => (Touches.refl s).mono fun _ => nofun
  | a :: l, s => ((h a s).trans (Touches.foldS h (l := l))).mono fun _ hf => (List.mem_append.1 hf).elim id id

theorem Touches.foldl {α : Type} {f : State → α → State} (h : ∀ s a, Touches K s (f s a)) :
    ∀ {l : List α} {s : State}, Touches K s (l.foldl f s)
  | [], s => (Touches.refl s).mono fun _ => nofun
  | a :: l, s => ((h s a).trans (Touches.foldl h (l := l))).mono fun _ hf => (List.mem_append.1 hf).elim id id

end Sys2Proof.Machine
end

section
/-! PROOF. What may change with the shared operations on registers, log and tables. -/

set_option Elab.async false

namespace Sys2Proof.Machine

variable {K : List Fld}

theorem touches_setR {off : ℕ} {v : W40} {s : State} : Touches [.regs] s (setR off v s) := by
  unfold setR
  exact .mono Touches.regs

theorem touches_putF {off : ℕ} {hi : ℕ} {lo : ℕ} {x : ℕ} {s : State} : Touches [.regs] s (putF off hi lo x s) := by
  unfold putF
  exact .mono touches_setR

theorem touches_putB {off : ℕ} {i : ℕ} {b : Bool} {s : State} : Touches [.regs] s (putB off i b s) := by
  unfold putB
  exact .mono touches_setR

theorem touches_bump {off : ℕ} {hi : ℕ} {lo : ℕ} {s : State} : Touches [.regs] s (bump off hi lo s) := by
  unfold bump
  exact .mono touches_putF

theorem touches_bumpBy {off : ℕ} {hi : ℕ} {lo : ℕ} {n : ℕ} {s : State} : Touches [.regs] s (bumpBy off hi lo n s) := by
  unfold bumpBy
  exact .mono touches_putF

theorem touches_setF {off : ℕ} {v : W40} {s : State} : Touches [.force] s (setF off v s) := by
  unfold setF
  exact .mono Touches.force

theorem touches_commitRegs {offs : List ℕ} {s : State} : Touches [.force] s (commitRegs offs s) := by
  unfold commitRegs
  exact .mono (Touches.foldS fun _ _ => touches_setF)

theorem touches_setRing {n : ℕ} {r : Ring} {s : State} : Touches [.rings] s (setRing n r s) := by
  unfold setRing
  exact .mono (Touches.set [.rings] rfl)

theorem touches_recordAt {a0 : Tick} {ep : BitVec 24} {key : ℕ} {doms : List ℕ} {src : ℕ} {code : ℕ} {detail : ℕ} {w3 : W40} {s
    : State} : Touches [.log] s (recordAt a0 ep key doms src code detail w3 s) := by
  unfold recordAt
  exact .mono (Touches.log (List.prefix_append _ _))

theorem touches_record {src : ℕ} {code : ℕ} {detail : ℕ} {w3 : W40} {s : State} : Touches [.log] s (record src code detail w3
    s) := by
  unfold record
  exact .mono touches_recordAt

theorem touches_recordFor {doms : List ℕ} {src : ℕ} {code : ℕ} {detail : ℕ} {w3 : W40} {s : State} : Touches [.log] s (recordFor
    doms src code detail w3 s) := by
  unfold recordFor
  exact .mono touches_recordAt

theorem touches_recordOwned {o : ℕ × Bool} {src : ℕ} {code : ℕ} {detail : ℕ} {w3 : W40} {s : State} : Touches [.log] s
    (recordOwned o src code detail w3 s) := by
  unfold recordOwned
  exact .mono (Touches.log (List.prefix_append _ _))

theorem touches_ringRecord {n : ℕ} {code : ℕ} {s : State} : Touches [.log] s (ringRecord n code s) := by
  unfold ringRecord
  exact .mono touches_recordOwned

theorem touches_recordB {g : ℕ} {src : ℕ} {code : ℕ} {detail : ℕ} {w3 : W40} {s : State} : Touches [.log] s (recordB g src code
    detail w3 s) := by
  unfold recordB
  exact .mono touches_recordAt

theorem touches_recordIf {c : Bool} {src : ℕ} {code : ℕ} {detail : ℕ} {w3 : W40} {s : State} : Touches [.log] s (recordIf c src
    code detail w3 s) := by
  unfold recordIf
  exact .mono (.ite touches_record (.refl _))

theorem touches_defer {a0 : Tick} {d : Deferred} {s : State} : Touches [.agenda] s (defer a0 d s) := by
  unfold defer
  exact .mono Touches.agenda

theorem touches_clocked {f : State → State} (h : ∀ s, Touches K s (f s)) : Touches K s (clocked f s) := by
  unfold clocked
  split
  · exact (Touches.refl s).mono fun _ => nofun
  · exact h s

theorem touches_addFire {f : Fire} {s : State} : Touches [.fabric] s (addFire f s) := by
  unfold addFire
  exact .mono (.ite Touches.fabric (.refl _))

theorem touches_fireChan {v : ℕ} {a1 : Tick} {depth : ℕ} {s : State} : Touches [.fabric] s (fireChan v a1 depth s) := by
  unfold fireChan
  exact .mono touches_addFire

theorem touches_fireProd {u : ℕ} {a1 : Tick} {depth : ℕ} {s : State} : Touches [.fabric] s (fireProd u a1 depth s) := by
  unfold fireProd
  exact .mono touches_addFire

theorem touches_routeFires {s : State} : Touches [.fabric] s (routeFires s) := by
  unfold routeFires
  exact .mono Touches.fabric

theorem touches_sendMsix {m : ℕ} {v : ℕ} {s : State} : Touches [.host, .regs] s (sendMsix m v s) := by
  unfold sendMsix
  exact .mono (.ite (.ite Touches.host Touches.host) touches_bump)

/-- Granary memory takes contents in canonical form. -/
theorem touches_setMem {m : List Host.Cell} {s : State} (h : memWf s.gran.mem = true → memWf m = true) :
    Touches [.mem] s (setMem m s) := by
  refine ⟨rfl, ⟨rfl, le_rfl, fun hs => ?_⟩, fun _ => List.prefix_rfl⟩
  simp only [memOk, Bool.and_eq_true, setMem] at hs ⊢
  exact ⟨⟨h hs.1.1, hs.1.2⟩, hs.2⟩

theorem touches_eccCount {e : Ecc} {a : ℕ} {n : Option ℕ} {s : State} : Touches [.regs, .log] s (eccCount e a n s) := by
  unfold eccCount
  split
  · exact .mono (.refl _)
  · exact .mono touches_bump
  · exact .mono ((show Touches [.log] _ _ by
        extract_lets
        split
        · exact .mono touches_ringRecord
        · exact .mono touches_record).after (touches_setR.after touches_bump))

theorem touches_watermark {n : ℕ} {s : State} : Touches [.rings, .host, .regs] s (watermark n s) := by
  unfold watermark
  exact .mono (.ite (.refl _) (.ite (.ite (touches_sendMsix.after touches_setRing) (.refl _)) touches_setRing))

theorem touches_ringDrop {n : ℕ} {s : State} : Touches [.rings, .log] s (ringDrop n s) := by
  unfold ringDrop
  exact .mono (.ite ((Touches.ite touches_ringRecord (.refl _)).after touches_setRing) ((Touches.ite touches_ringRecord (.refl
      _)).after touches_setRing))

theorem touches_ringAppend {n : ℕ} {slots : List (List W40)} {s : State} :
    Touches [.mem, .rings, .host, .regs] s (ringAppend n slots s) :=
  .mono (touches_watermark.after (touches_setRing.after (touches_setMem (wrSlots_wf _ _ _))))

theorem touches_ringPut {n : ℕ} {slot : List W40} {s : State} : Touches [.rings, .log, .mem, .host, .regs] s ((ringPut n slot
    s).1) := by
  unfold ringPut
  extract_lets
  split
  · exact .mono (.refl _)
  · split
    · dsimp only
      exact .mono touches_ringDrop
    · dsimp only
      exact .mono touches_ringAppend

theorem touches_setSeq {g : ℕ} {q : Seq} {s : State} : Touches [.seqs] s (setSeq g q s) := by
  unfold setSeq
  exact .mono Touches.seqs

theorem touches_modSeq {g : ℕ} {f : Seq → Seq} {s : State} : Touches [.seqs] s (modSeq g f s) := by
  unfold modSeq
  exact .mono touches_setSeq

theorem touches_setDrv {g : ℕ} {x : Tone} {s : State} : Touches [.drv] s (setDrv g x s) := by
  unfold setDrv
  exact .mono Touches.drv

theorem touches_setPrb {g : ℕ} {x : Tone} {s : State} : Touches [.prb] s (setPrb g x s) := by
  unfold setPrb
  exact .mono Touches.prb

theorem touches_setTone {probe : Bool} {g : ℕ} {x : Tone} {s : State} : Touches [.prb, .drv] s (setTone probe g x s) := by
  unfold setTone
  exact .mono (.ite touches_setPrb touches_setDrv)

theorem touches_setFlux {g : ℕ} {x : Flux} {s : State} : Touches [.flux] s (setFlux g x s) := by
  unfold setFlux
  exact .mono Touches.flux

theorem touches_setOut {o : ℕ} {x : Output} {s : State} : Touches [.outs] s (setOut o x s) := by
  unfold setOut
  exact .mono Touches.outs

theorem touches_setBias {g : ℕ} {x : Bias} {s : State} : Touches [.bias] s (setBias g x s) := by
  unfold setBias
  exact .mono Touches.bias

theorem touches_setAdc {a : ℕ} {x : Adc} {s : State} : Touches [.adcs] s (setAdc a x s) := by
  unfold setAdc
  exact .mono Touches.adcs

theorem touches_setSlot {g : ℕ} {x : Slot} {s : State} : Touches [.slots] s (setSlot g x s) := by
  unfold setSlot
  exact .mono Touches.slots

theorem touches_setCore {k : ℕ} {x : Core} {s : State} : Touches [.cores] s (setCore k x s) := by
  unfold setCore
  exact .mono Touches.cores

theorem touches_setWit {e : ℕ} {x : Wit} {s : State} : Touches [.wits] s (setWit e x s) := by
  unfold setWit
  exact .mono Touches.wits

theorem touches_setPort {p : ℕ} {x : Port} {s : State} : Touches [.ports] s (setPort p x s) := by
  unfold setPort
  exact .mono Touches.ports

theorem touches_setPset {j : ℕ} {x : PSet} {s : State} : Touches [.binder] s (setPset j x s) := by
  unfold setPset
  exact .mono Touches.binder

theorem touches_setDecoder {e : ℕ} {x : Decoder} {s : State} : Touches [.binder] s (setDecoder e x s) := by
  unfold setDecoder
  exact .mono Touches.binder

theorem touches_setVent {i : ℕ} {x : VEnt} {s : State} : Touches [.vb] s (setVent i x s) := by
  unfold setVent
  exact .mono Touches.vb

theorem touches_setBarrier {b : ℕ} {x : Barrier} {s : State} : Touches [.barriers] s (setBarrier b x s) := by
  unfold setBarrier
  exact .mono Touches.barriers

theorem touches_setSense {n : ℕ} {x : Sense} {s : State} : Touches [.senses] s (setSense n x s) := by
  unfold setSense
  exact .mono Touches.senses

theorem touches_takeFree {s : State} : Touches [.free] s (takeFree s) := by
  unfold takeFree
  exact .mono Touches.free

end Sys2Proof.Machine
end

section
/-! PROOF. What may change with the operations of the drive, probe and flux outputs. -/

set_option Elab.async false

namespace Sys2Proof.Machine

theorem touches_retrim {probe : Bool} {g : ℕ} {s : State} : Touches [.prb, .drv] s (retrim probe g s) := by
  unfold retrim
  exact .mono (.ite (.ite touches_setTone touches_setTone) (.refl _))

theorem touches_noteTrn {g : ℕ} {k : ℕ} {x : Tick} {s : State} : Touches [.slots] s (noteTrn g k x s) := by
  unfold noteTrn
  exact .mono touches_setSlot

theorem touches_demodNote {g : ℕ} {x : Tick} {was s : State} : Touches [.regs, .slots] s (demodNote g x was s) := by
  unfold demodNote
  exact .mono (.ite (.refl _) (touches_noteTrn.after touches_setSlot))

theorem touches_noteSet {g : ℕ} {was : Bool} {min : Bool} {s : State} : Touches [.slots] s (noteSet g was min s) := by
  unfold noteSet
  exact .mono touches_setSlot

theorem touches_chainNote {g : ℕ} {was : ChainSet} {s : State} : Touches [.slots] s (chainNote g was s) := by
  unfold chainNote
  exact .mono (touches_noteTrn.after touches_setSlot)

theorem touches_commitTone {probe : Bool} {g : ℕ} {s : State} : Touches [.force, .prb, .drv, .regs, .slots] s (commitTone probe
    g s) := by
  unfold commitTone
  exact .mono (.ite (touches_demodNote.after (touches_retrim.after (touches_setTone.after touches_commitRegs)))
      (touches_retrim.after (touches_setTone.after touches_commitRegs)))

theorem touches_fsetUpdate {g : ℕ} {s : State} : Touches [.slots, .regs] s (fsetUpdate g s) := by
  unfold fsetUpdate
  exact .mono (.ite touches_setSlot (show Touches [.slots, .regs] _ _ by
      split
      · exact .mono touches_setSlot
      · exact .mono (touches_noteSet.after (touches_putB.after touches_setSlot))))

theorem touches_fsetAll {s : State} : Touches [.slots, .regs] s (fsetAll s) := by
  unfold fsetAll
  exact .mono (Touches.foldS fun _ _ => .ite touches_fsetUpdate (.refl _))

theorem touches_fsetDenied {g : ℕ} {s : State} : Touches [.regs, .log] s (fsetDenied g s) := by
  unfold fsetDenied
  exact .mono (.ite (touches_record.after touches_putB) (.refl _))

theorem touches_commitSlot {g : ℕ} {s : State} : Touches [.slots, .force, .regs, .log] s (commitSlot g s) := by
  unfold commitSlot
  exact .mono (.ite touches_setSlot ((((touches_fsetUpdate.after touches_fsetDenied).after touches_chainNote).after
      touches_putB).after touches_commitRegs))

theorem touches_commitFlux {g : ℕ} {s : State} : Touches [.flux, .force] s (commitFlux g s) := by
  unfold commitFlux
  exact .mono (touches_commitRegs.after (show Touches [.flux] _ _ by
      split
      · exact .mono (.ite (.refl _) touches_setFlux)
      · exact .mono (.refl _)))

theorem touches_commitUnit {u : ℕ} {g : ℕ} {s : State} : Touches [.force, .prb, .drv, .regs, .slots, .log, .flux] s (commitUnit
    u g s) := by
  unfold commitUnit
  split
  · exact .mono touches_commitRegs
  · exact .mono touches_commitTone
  · exact .mono touches_commitTone
  · exact .mono touches_commitSlot
  · exact .mono touches_commitFlux

theorem touches_arrive {k : ℕ} {g : ℕ} {s : State} : Touches [.fresh] s (arrive k g s) := by
  unfold arrive
  exact .mono Touches.fresh

theorem touches_commitReq {u : ℕ} {g : ℕ} {s : State} : Touches [.seqs, .fresh, .force, .prb, .drv, .regs, .slots, .log, .flux]
    s (commitReq u g s) := by
  unfold commitReq
  exact .mono (.ite (.ite (.refl _) (touches_arrive.after touches_modSeq)) (touches_commitUnit.after touches_arrive))

theorem touches_joinCommit {off : ℕ} {s : State} : Touches [.force, .prb, .drv, .regs, .slots, .log] s (joinCommit off s) := by
  unfold joinCommit
  exact .mono (Touches.foldS fun _ _ => .ite (show Touches [.force, .prb, .drv, .regs, .slots, .log] _ _ by
      split
      · exact .mono touches_commitTone
      · exact .mono touches_commitTone
      · exact .mono (.ite (.refl _) (touches_fsetUpdate.after (.ite (.ite touches_commitRegs (touches_chainNote.after
            touches_commitRegs)) (touches_fsetDenied.after (.ite touches_commitRegs (touches_chainNote.after
            touches_commitRegs))))))
      · exact .mono touches_commitRegs) (.ite touches_commitRegs (.refl _)))

theorem touches_bandTone {probe : Bool} {g : ℕ} {s : State} : Touches [.prb, .drv] s (bandTone probe g s) := by
  unfold bandTone
  exact .mono (touches_retrim.after touches_setTone)

theorem touches_applyBand {g : ℕ} {s : State} : Touches [.seqs, .prb, .drv] s (applyBand g s) := by
  unfold applyBand
  exact .mono (((Touches.ite touches_bandTone (.refl _)).after touches_bandTone).after touches_modSeq)

theorem touches_gleanTone {probe : Bool} {g : ℕ} {s : State} : Touches [.prb, .drv, .log] s (gleanTone probe g s) := by
  unfold gleanTone
  split
  · exact .mono (touches_recordB.after touches_setTone)
  · exact .mono (.refl _)

theorem touches_gleanCell {g : ℕ} {o : ℕ} {s : State} : Touches [.outs, .log] s (gleanCell g o s) := by
  unfold gleanCell
  split
  · exact .mono (touches_recordB.after touches_setOut)
  · exact .mono (.refl _)

theorem touches_crcPut {o : ℕ} {codes : List ℤ} {s : State} : Touches [.outs] s (crcPut o codes s) := by
  unfold crcPut
  exact .mono touches_setOut

theorem touches_crcClose {o : ℕ} {x : Tick} {s : State} : Touches [.outs] s ((crcClose o x s).2) := by
  unfold crcClose
  exact .mono touches_setOut

theorem touches_outTidy {o : ℕ} {s : State} : Touches [.outs] s (outTidy o s) := by
  unfold outTidy
  exact .mono touches_setOut

theorem touches_rfTick {o : ℕ} {s : State} : Touches [.outs, .regs, .log] s (rfTick o s).2 := by
  unfold rfTick
  generalize tonesOf o = tones
  obtain ⟨probe, gs⟩ := tones
  dsimp only
  split
  · exact .mono (.ite (touches_recordIf.after (touches_bump.after touches_crcPut)) touches_crcPut)
  · exact .mono (.refl _)

theorem touches_fluxTick {g : ℕ} {s : State} : Touches [.flux, .outs, .regs, .log] s (fluxTick g s).2 := by
  have hdelay {x : Tick} {h : ℕ} {s : State} : Touches [.flux] s (fluxDelay g x h s).2.2 := touches_setFlux
  have hstep {x : Int} {s : State} : Touches [.flux] s (fluxStep g x s).2.2 := touches_setFlux
  unfold fluxTick
  extract_lets
  split
  · exact .mono ((Touches.ite (touches_recordIf.after touches_bump) (.refl _)).after
      (touches_crcPut.after (hstep.after (hdelay.after (hstep.after hdelay)))))
  · exact .mono (.refl _)

theorem touches_fluxEnvDone {g : ℕ} {s : State} : Touches [.flux] s (fluxEnvDone g s) := by
  unfold fluxEnvDone
  exact .mono (.ite touches_setFlux (.refl _))

theorem touches_envDone {probe : Bool} {g : ℕ} {s : State} : Touches [.prb, .drv] s (envDone probe g s) := by
  unfold envDone
  split
  · exact .mono (.ite touches_setTone (.refl _))
  · exact .mono (.refl _)

end Sys2Proof.Machine
end

section
/-! PROOF. What may change with the readout chain. -/

set_option Elab.async false

namespace Sys2Proof.Machine

theorem touches_marksEnd {s : State} : Touches [.adcs] s (marksEnd s) := by
  unfold marksEnd
  exact .mono (Touches.foldS fun _ _ => .ite touches_setAdc (.refl _))

theorem touches_noteSat {g : ℕ} {zs : List (Tick × Sample)} {s : State} : Touches [.regs, .slots] s (noteSat g zs s) := by
  unfold noteSat
  extract_lets
  split
  · exact .mono (touches_setSlot.after touches_bumpBy)
  · exact .mono (.refl _)

theorem touches_slotsTidy {s : State} : Touches [.slots] s (slotsTidy s) := by
  unfold slotsTidy
  exact .mono (Touches.foldS fun _ _ => touches_setSlot)

end Sys2Proof.Machine
end

section
/-! PROOF. What may change with the operations of the bias outputs. -/

set_option Elab.async false

namespace Sys2Proof.Machine

theorem touches_strobeLoad {a0 : Tick} {g : ℕ} {s : State} : Touches [.force, .bias] s (strobeLoad a0 g s) := by
  unfold strobeLoad
  exact .mono (.ite (.ite (touches_setBias.after touches_commitRegs) (touches_commitRegs.after touches_setBias)) (.ite
      touches_setBias (touches_setBias.after touches_commitRegs)))

theorem touches_noteStrobe {a0 : ℕ} {grp : ℕ} {ms : List ℕ} {ok : List ℕ} {s : State} : Touches [.fabric] s (noteStrobe a0 grp
    ms ok s) := by
  unfold noteStrobe
  exact .mono Touches.fabric

theorem touches_strobeGroup {a0 : ℕ} {grp : ℕ} {dom : ℕ} {all : Bool} {x : Tick} {s : State} : Touches [.regs, .fabric, .force,
    .bias] s (strobeGroup a0 grp dom all x s) := by
  unfold strobeGroup
  exact .mono (.ite (touches_noteStrobe.after (.ite (.refl _) touches_bump)) ((Touches.foldS fun _ _ =>
      touches_strobeLoad).after touches_noteStrobe))

theorem touches_strobesEnd {s : State} : Touches [.fabric, .regs, .log] s (strobesEnd s) := by
  unfold strobesEnd
  exact .mono ((Touches.foldS fun _ _ => .ite (touches_recordIf.after touches_bump) (.refl _)).after Touches.fabric)

theorem touches_goRest {life : Bool} {x : Tick} {g : ℕ} {s : State} : Touches [.bias] s (goRest life x g s) := by
  unfold goRest
  exact .mono (.ite (.refl _) touches_setBias)

theorem touches_tileRest {life : Bool} {x : Tick} {a2 : ℕ} {s : State} : Touches [.bias] s (tileRest life x a2 s) := by
  unfold tileRest
  exact .mono (Touches.foldS fun _ _ => touches_goRest)

theorem touches_allRest {life : Bool} {x : Tick} {s : State} : Touches [.bias] s (allRest life x s) := by
  unfold allRest
  exact .mono (Touches.foldS fun _ _ => touches_tileRest)

theorem touches_leaveRest {x : Tick} {g : ℕ} {s : State} : Touches [.bias] s (leaveRest x g s) := by
  unfold leaveRest
  exact .mono (.ite touches_setBias (.refl _))

theorem touches_allLeaveRest {x : Tick} {s : State} : Touches [.bias] s (allLeaveRest x s) := by
  unfold allLeaveRest
  exact .mono (Touches.foldS fun _ _ => touches_leaveRest)

theorem touches_biasFollow {x : Tick} {s : State} : Touches [.bias] s (biasFollow x s) := by
  unfold biasFollow
  exact .mono (.ite (Touches.foldS fun _ _ => .ite (.refl _) touches_goRest) touches_allLeaveRest)

theorem touches_biasConnect {x : Tick} {g : ℕ} {s : State} : Touches [.regs, .force, .bias] s (biasConnect x g s) := by
  unfold biasConnect
  exact .mono (touches_setBias.after (touches_setF.after touches_setR))

theorem touches_biasOff {g : ℕ} {s : State} : Touches [.bias] s (biasOff g s) := by
  unfold biasOff
  exact .mono touches_setBias

end Sys2Proof.Machine
end

section
/-! PROOF. What may change with the result records. -/

set_option Elab.async false

namespace Sys2Proof.Machine

theorem touches_producerDrops {n : ℕ} {key : ℕ} {s : State} : Touches [.gran, .regs] s (producerDrops n key s) := by
  unfold producerDrops
  exact .mono (touches_bumpBy.after (.ite Touches.gran (.refl _)))

theorem touches_producerDrop {key : ℕ} {s : State} : Touches [.gran, .regs] s (producerDrop key s) := by
  unfold producerDrop
  exact .mono touches_producerDrops

theorem touches_producerRefuse {key : ℕ} {code : ℕ} {s : State} : Touches [.gran, .regs, .log] s (producerRefuse key code
    s) := by
  unfold producerRefuse
  exact .mono ((touches_recordIf.after Touches.gran).after touches_producerDrop)

theorem touches_resWrite {key : ℕ} {n : ℕ} {sl : List W40} {s : State} : Touches [.rings, .log, .mem, .host, .regs, .gran] s
    (resWrite key n sl s) := by
  unfold resWrite
  exact .mono ((Touches.ite (.refl _) touches_producerDrops).after touches_ringPut)

theorem touches_resSlot {key n : ℕ} {sl : List W40} {s : State} :
    Touches [.gran, .mem, .rings, .host, .regs, .log] s (resSlot key n sl s) := by
  unfold resSlot
  exact .mono (.ite (touches_resWrite.after (Touches.gran)) (.ite (Touches.gran)
    (touches_recordIf.after (touches_producerDrops.after (Touches.gran)))))

theorem touches_resDrain : ∀ {q : List (ℕ × ℕ × List W40)} {s : State},
    Touches [.gran, .mem, .rings, .host, .regs, .log] s (resDrain q s)
  | [], _ => .mono Touches.gran
  | (key, n, sl) :: q, s => by
    rw [resDrain]
    exact .mono (.ite ((touches_resDrain (q := q)).after ((touches_resWrite (key := key) (n := n) (sl := sl)).after (Touches.gran))) Touches.gran)

theorem touches_resTick {s : State} : Touches [.gran, .mem, .rings, .host, .regs, .log] s (resTick s) := by
  unfold resTick
  exact .mono (touches_resDrain.after Touches.gran)

theorem touches_delHalf {key : ℕ} {s : State} : Touches [.halves] s (delHalf key s) := by
  unfold delHalf
  exact .mono Touches.halves

theorem touches_resFlush {key : ℕ} {s : State} : Touches [.halves, .gran, .mem, .rings, .host, .regs, .log] s (resFlush key
    s) := by
  unfold resFlush
  split
  · exact .mono (touches_resSlot.after touches_delHalf)
  · exact .mono (.refl _)

theorem touches_resPut {key : ℕ} {n : ℕ} {dom : ℕ} {flush : ℕ} {ws : List W40} {s : State} : Touches [.gran, .regs, .log,
    .halves, .mem, .rings, .host] s (resPut key n dom flush ws s) := by
  unfold resPut
  exact .mono (.ite touches_producerRefuse (.ite touches_producerRefuse (.ite (touches_resSlot.after touches_resFlush) (show Touches
      [.halves, .gran, .mem, .rings, .host, .regs, .log] _ _ by
      extract_lets
      split
      · exact .mono (.ite (touches_resSlot.after touches_delHalf) (Touches.halves.after touches_resFlush))
      · exact .mono Touches.halves))))

/-- A result record joins those of the tick. -/
theorem touches_resMake {x : Tick} {key n dom flush : ℕ} {ws : List W40} {s : State} :
    Touches [.made] s (resMake x key n dom flush ws s) := .set _ rfl

theorem touches_resMade {s : State} : Touches [.made, .gran, .regs, .log, .halves, .mem, .rings, .host] s (resMade s) := by
  unfold resMade
  exact .mono ((Touches.foldS fun _ _ => touches_resPut).after (Touches.set [.made] rfl))

end Sys2Proof.Machine
end

section
/-! PROOF. What may change with the verdicts and the Binder. -/

set_option Elab.async false

namespace Sys2Proof.Machine

theorem touches_exportDrop {p : ℕ} {fwd : Bool} {idx : ℕ} {posted : Tick} {s : State} : Touches [.regs, .log] s (exportDrop p
    fwd idx posted s) := by
  unfold exportDrop
  exact .mono (touches_recordIf.after touches_bump)

theorem touches_toPort {p : ℕ} {fwd : Bool} {idx : ℕ} {it : Item} {s : State} : Touches [.regs, .log, .ports] s (toPort p fwd
    idx it s) := by
  unfold toPort
  exact .mono (.ite touches_exportDrop touches_setPort)

theorem touches_exportVerdict {x : Tick} {word : W40} {ref : Tick} {s : State} : Touches [.regs, .log, .ports] s (exportVerdict
    x word ref s) := by
  unfold exportVerdict
  exact .mono (.ite (Touches.foldS fun _ _ => .ite touches_toPort (.refl _)) (.refl _))

theorem touches_pairSend {type : ℕ} {word : W40} {field : BitVec 16} {s : State} : Touches [.pair] s (pairSend type word field
    s) := by
  unfold pairSend
  exact .mono (.ite Touches.pair (.refl _))

theorem touches_diverge {k : ℕ} {idx : ℕ} {v : W40} {s : State} : Touches [.regs, .pair, .log] s (diverge k idx v s) := by
  unfold diverge
  exact .mono ((Touches.ite (touches_record.after Touches.pair) (.refl _)).after touches_bump)

theorem touches_cmpAdd {it : CmpItem} {s : State} : Touches [.pair, .regs, .log] s (cmpAdd it s) := by
  unfold cmpAdd
  split
  · exact .mono ((Touches.ite (.refl _) touches_diverge).after Touches.pair)
  · exact .mono Touches.pair

theorem touches_pairVerdict {x : Tick} {word : W40} {ref : Tick} {s : State} : Touches [.pair, .regs, .log] s (pairVerdict x
    word ref s) := by
  unfold pairVerdict
  exact .mono (.ite (.refl _) (.ite (.ite touches_cmpAdd (.refl _)) touches_pairSend))

theorem touches_postVerdict {x : Tick} {word : W40} {ref : Tick} {s : State} : Touches [.bus] s (postVerdict x word ref s) := by
  unfold postVerdict
  exact .mono Touches.bus

theorem touches_postedOut {s : State} : Touches [.bus, .regs, .log, .ports, .pair] s (postedOut s) := by
  unfold postedOut
  exact .mono ((Touches.foldS fun _ _ => touches_pairVerdict.after touches_exportVerdict).after Touches.bus)

theorem touches_decDecide {x : Tick} {e : ℕ} {s : State} : Touches [.binder, .agenda, .gran, .regs, .log, .halves, .mem, .rings,
    .host] s (decDecide x e s) := by
  unfold decDecide
  exact .mono ((Touches.ite touches_resPut (.refl _)).after (touches_defer.after touches_setDecoder))

theorem touches_decCheck {x : Tick} {e : ℕ} {s : State} : Touches [.binder, .agenda, .gran, .regs, .log, .halves, .mem, .rings,
    .host] s (decCheck x e s) := by
  unfold decCheck
  exact .mono (.ite touches_decDecide (.refl _))

theorem touches_decsBreak {j : ℕ} {s : State} : Touches [.binder] s (decsBreak j s) := by
  unfold decsBreak
  exact .mono (Touches.foldS fun _ _ => touches_setDecoder)

theorem touches_decFollow {x : Tick} {was : Bool} {e : ℕ} {s : State} : Touches [.binder, .agenda, .gran, .regs, .log, .halves,
    .mem, .rings, .host] s (decFollow x was e s) := by
  unfold decFollow
  exact .mono (.ite touches_setDecoder (.ite (.refl _) touches_decDecide))

theorem touches_setPresent {x : Tick} {j : ℕ} {s : State} : Touches [.binder, .agenda, .regs, .log, .gran, .halves, .mem,
    .rings, .host] s (setPresent x j s) := by
  unfold setPresent
  exact .mono ((((Touches.foldS fun _ _ => touches_decCheck).after (.ite (touches_recordIf.after touches_putF) (.refl _))).after
      touches_defer).after touches_setPset)

theorem touches_setDecide {x : Tick} {j : ℕ} {s : State} : Touches [.binder, .agenda] s (setDecide x j s) := by
  unfold setDecide
  exact .mono (touches_defer.after touches_setPset)

theorem touches_cancelSet {j : ℕ} {s : State} : Touches [.agenda] s (cancelSet j s) := by
  unfold cancelSet
  exact .mono Touches.agenda

theorem touches_abandonRound {j : ℕ} {s : State} : Touches [.regs] s (abandonRound j s) := by
  unfold abandonRound
  exact .mono (.ite touches_bump (.refl _))

theorem touches_decAdopt {x : Tick} {e : ℕ} {s : State} : Touches [.binder, .force, .agenda, .gran, .regs, .log, .halves, .mem,
    .rings, .host] s (decAdopt x e s) := by
  unfold decAdopt
  exact .mono (.ite touches_setDecoder ((touches_decCheck.after touches_setDecoder).after touches_commitRegs))

theorem touches_decAdoptReady {x : Tick} {was : List ℕ} {s : State} : Touches [.binder, .force, .agenda, .gran, .regs, .log,
    .halves, .mem, .rings, .host] s (decAdoptReady x was s) := by
  unfold decAdoptReady
  exact .mono (Touches.foldS fun _ _ => (Touches.ite (.refl _) touches_decFollow).after (.ite touches_decAdopt (.refl _)))

theorem touches_bndSettle {s : State} : Touches [.binder, .regs] s (bndSettle s) := by
  unfold bndSettle
  exact .mono (.ite (.refl _) (touches_putB.after Touches.binder))

theorem touches_setAdopt {j : ℕ} {s : State} : Touches [.force, .agenda, .binder] s (setAdopt j s) := by
  unfold setAdopt
  exact .mono ((Touches.ite (touches_setPset.after touches_cancelSet) touches_setPset).after touches_commitRegs)

theorem touches_roundOpen {o : Tick} {j : ℕ} {s : State} : Touches [.regs, .agenda, .force, .binder, .gran, .log, .halves, .mem,
    .rings, .host] s (roundOpen o j s) := by
  unfold roundOpen
  exact .mono ((((Touches.ite (touches_bndSettle.after touches_decAdoptReady) (.refl _)).after (.ite touches_setPset
      (touches_decsBreak.after touches_setPset))).after (.ite touches_setAdopt (.refl _))).after (touches_cancelSet.after
      touches_abandonRound))

theorem touches_paceRounds {g : ℕ} {o : Tick} {s : State} : Touches [.regs, .agenda, .force, .binder, .gran, .log, .halves,
    .mem, .rings, .host] s (paceRounds g o s) := by
  unfold paceRounds
  exact .mono (Touches.foldS fun _ _ => .ite touches_roundOpen (.refl _))

theorem touches_memberFinal {word : W40} {ref : Tick} {j : ℕ} {i : ℕ} {shot : ℕ} {e : Tick} {s : State} : Touches [.binder,
    .regs] s (memberFinal word ref j i shot e s) := by
  unfold memberFinal
  exact .mono (.ite (.ite (.refl _) touches_setPset) (.ite (.refl _) (.ite (touches_bump.after touches_setPset)
      touches_setPset)))

theorem touches_memberVerdict {r : Tick} {word : W40} {ref : Tick} {j : ℕ} {i : ℕ} {s : State} : Touches [.binder, .agenda,
    .regs] s (memberVerdict r word ref j i s) := by
  unfold memberVerdict
  exact .mono (.ite (.refl _) (show Touches [.binder, .agenda, .regs] _ _ by
      split
      · exact .mono (.ite ((Touches.ite touches_setDecide (.refl _)).after touches_setPset) (.refl _))
      · exact .mono touches_memberFinal
      · exact .mono (.refl _)))

theorem touches_binderVerdict {r : Tick} {word : W40} {ref : Tick} {s : State} : Touches [.binder, .agenda, .regs] s
    (binderVerdict r word ref s) := by
  unfold binderVerdict
  exact .mono (Touches.foldS fun _ _ => Touches.foldS fun _ _ => touches_memberVerdict)

theorem touches_setDeadline {x : Tick} {j : ℕ} {s : State} : Touches [.binder, .agenda] s (setDeadline x j s) := by
  unfold setDeadline
  exact .mono (.ite (touches_setDecide.after touches_setPset) (.refl _))

theorem touches_bndIn {b : BndIn} {s : State} : Touches [.binder, .agenda, .regs] s (bndIn b s) := by
  unfold bndIn
  split
  · exact .mono touches_binderVerdict
  · exact .mono touches_setDeadline

theorem touches_bndTake {b : BndIn} {s : State} : Touches [.binder] s (bndTake b s) := by
  unfold bndTake
  exact .mono (.ite Touches.binder (.refl _))

theorem touches_busArrival {x : Tick} {word : W40} {ref : Tick} {s : State} : Touches [.vb, .agenda, .binder] s (busArrival x
    word ref s) := by
  unfold busArrival
  exact .mono ((touches_bndTake.after touches_defer).after touches_setVent)

end Sys2Proof.Machine
end

section
/-! PROOF. What may change with the witness engines. -/

set_option Elab.async false

namespace Sys2Proof.Machine

theorem touches_witIgnore {e : ℕ} {cause : ℕ} {s : State} : Touches [.regs] s (witIgnore e cause s) := by
  unfold witIgnore
  exact .mono ((Touches.ite touches_bump (.refl _)).after touches_bump)

theorem touches_witDrop {e : ℕ} {p : Met → Bool} {ms : List Met} {s : State} : Touches [.wits, .regs] s (witDrop e p ms s) := by
  unfold witDrop
  exact .mono ((Touches.foldS fun _ _ => touches_witIgnore).after touches_setWit)

theorem touches_witSettle {e : ℕ} {ms : List Met} {s : State} : Touches [.wits, .regs] s (witSettle e ms s) := by
  unfold witSettle
  split
  · exact .mono touches_setWit
  · exact .mono touches_witDrop

theorem touches_witArmPos {p : ℤ} {e : ℕ} {s : State} : Touches [.wits, .regs] s (witArmPos p e s) := by
  unfold witArmPos
  exact .mono (touches_witSettle.after touches_setWit)

theorem touches_witArm {x : Tick} {e : ℕ} {s : State} : Touches [.wits, .regs] s (witArm x e s) := by
  unfold witArm
  exact .mono (touches_witArmPos.after touches_setWit)

theorem touches_witArmAll {x : Tick} {s : State} : Touches [.wits, .regs] s (witArmAll x s) := by
  unfold witArmAll
  exact .mono (Touches.foldS fun _ _ => .ite touches_witArm (.refl _))

theorem touches_baleDropped {e : ℕ} {s : State} : Touches [.regs, .log] s (baleDropped e s) := by
  unfold baleDropped
  exact .mono (touches_recordIf.after touches_bump)

theorem touches_baleShut {e : ℕ} {b : Bale} {s : State} : Touches [.wits, .regs, .log, .rings, .host, .fabric] s ((baleShut e b
    s).2) := by
  unfold baleShut
  exact .mono ((show Touches [.regs, .log, .rings, .host, .fabric] _ _ by
      extract_lets
      split
      · dsimp only
        exact .mono touches_baleDropped
      · dsimp only
        exact .mono (((touches_fireProd.after touches_watermark).after touches_setRing).after (.ite touches_bump (.refl _)))).after
      touches_setWit)

theorem touches_witCloseEarly {ts : Bool} {e : ℕ} {s : State} : Touches [.wits, .regs, .log, .rings, .host, .fabric] s
    (witCloseEarly ts e s) := by
  unfold witCloseEarly
  exact .mono ((show Touches [.wits, .regs, .log, .rings, .host, .fabric] _ _ by
      extract_lets
      split
      · exact .mono ((Touches.ite touches_setWit (.refl _)).after touches_baleShut)
      · exact .mono (.refl _)).after touches_setWit)

theorem touches_witStopAll {ts : Bool} {s : State} : Touches [.wits, .regs, .log, .rings, .host, .fabric] s (witStopAll ts
    s) := by
  unfold witStopAll
  exact .mono (Touches.foldS fun _ _ => touches_witCloseEarly)

theorem touches_witDrain {e : ℕ} {s : State} : Touches [.wits, .regs] s (witDrain e s) := by
  unfold witDrain
  extract_lets
  split
  · exact .mono (.refl _)
  · exact .mono (.refl _)
  · exact .mono touches_witDrop
  · exact .mono (((Touches.foldS fun _ _ => touches_witIgnore).after touches_setWit).after touches_witDrop)

theorem touches_witMet {e : ℕ} {m : Met} {s : State} : Touches [.wits, .regs] s (witMet e m s) := by
  unfold witMet
  exact .mono (.ite (.refl _) (.ite (touches_witDrain.after touches_setWit) (.ite touches_witIgnore touches_witSettle)))

theorem touches_witCauseAt {e : ℕ} {cause : ℕ} {x : Tick} {depth : ℕ} {s : State} : Touches [.wits, .regs] s (witCauseAt e cause
    x depth s) := by
  unfold witCauseAt
  exact .mono touches_witMet

theorem touches_witWindow {g : ℕ} {x : Tick} {s : State} : Touches [.wits, .regs] s (witWindow g x s) := by
  unfold witWindow
  exact .mono (Touches.foldS fun _ _ => .ite touches_witCauseAt (.refl _))

end Sys2Proof.Machine
end

section
/-! PROOF. What may change with the boundaries and commits. -/

set_option Elab.async false

namespace Sys2Proof.Machine

theorem touches_completeAt {x : Tick} {d : ℕ} {g : ℕ} {s : State} : Touches [.seqs] s (completeAt x d g s) := by
  unfold completeAt
  exact .mono touches_modSeq

theorem touches_brResolve {x : Tick} {taken : Bool} {b : BrWait} {g : ℕ} {s : State} : Touches [.seqs] s (brResolve x taken b g
    s) := by
  unfold brResolve
  exact .mono (touches_completeAt.after touches_modSeq)

theorem touches_brTry {x : Tick} {g : ℕ} {s : State} : Touches [.seqs] s (brTry x g s) := by
  unfold brTry
  split
  · split
    · exact .mono (.ite touches_brResolve (.refl _))
    · exact .mono (.refl _)
  · exact .mono (.refl _)

theorem touches_brTryAll {x : Tick} {s : State} : Touches [.seqs] s (brTryAll x s) := by
  unfold brTryAll
  exact .mono (Touches.foldS fun _ _ => touches_brTry)

theorem touches_endRoutine {op : ℕ} {st : ℕ} {res : List W40} {s : State} : Touches [.ce] s (endRoutine op st res s) := by
  unfold endRoutine
  exact .mono Touches.ce

theorem touches_endRoutineAt {op : ℕ} {tg : ℕ} {st : ℕ} {res : List W40} {s : State} : Touches [.ce] s (endRoutineAt op tg st
    res s) := by
  unfold endRoutineAt
  exact .mono Touches.ce

theorem touches_progressRoutine {op : ℕ} {p : W40} {s : State} : Touches [.ce] s (progressRoutine op p s) := by
  unfold progressRoutine
  exact .mono Touches.ce

theorem touches_releaseHold {op : ℕ} {a1 : ℕ} {s : State} : Touches [.slots, .seqs, .fresh, .force, .prb, .drv, .regs, .log,
    .flux, .binder, .agenda, .gran, .halves, .mem, .rings, .host] s (releaseHold op a1 s) := by
  unfold releaseHold
  exact .mono (.ite ((Touches.ite touches_commitReq (.refl _)).after touches_setSlot) (.ite ((Touches.ite
      (touches_brTryAll.after (touches_bndSettle.after touches_decAdopt)) (.refl _)).after touches_setDecoder) (.refl _)))

theorem touches_monForget {s : State} : Touches [.mon] s (monForget s) := by
  unfold monForget
  exact .mono Touches.mon

theorem touches_abortRoutines {p : Routine → Bool} {s : State} : Touches [.ce, .mon, .safePend, .slots, .seqs, .fresh, .force,
    .prb, .drv, .regs, .log, .flux, .binder, .agenda, .gran, .halves, .mem, .rings, .host] s (abortRoutines p s) := by
  unfold abortRoutines
  exact .mono ((((Touches.foldS fun _ _ => touches_releaseHold).after (.ite Touches.safePend (.refl _))).after (.ite
      touches_monForget (.refl _))).after Touches.ce)

theorem touches_cmpStop {s : State} : Touches [.outs] s (cmpStop s) := by
  unfold cmpStop
  exact .mono (Touches.foldS fun _ _ => touches_setOut)

theorem touches_itemsOff {p : CmpItem → Bool} {s : State} : Touches [.pair] s (itemsOff p s) := by
  unfold itemsOff
  exact .mono Touches.pair

theorem touches_cmpHalt {s : State} : Touches [.pair, .outs] s (cmpHalt s) := by
  unfold cmpHalt
  exact .mono (touches_cmpStop.after touches_itemsOff)

theorem touches_compareOut {x : Tick} {n : W40} {g : ℕ} {o : ℕ} {s : State} : Touches [.outs, .pair, .regs, .log] s (compareOut
    x n g o s) := by
  unfold compareOut
  exact .mono (((Touches.ite (.refl _) (.ite (.ite touches_cmpAdd (.refl _)) touches_pairSend)).after touches_setOut).after
      touches_crcClose)

theorem touches_compareShot {x : Tick} {g : ℕ} {s : State} : Touches [.regs, .outs, .pair, .log] s (compareShot x g s) := by
  unfold compareShot
  exact .mono ((Touches.foldS fun _ _ => touches_compareOut).after (.ite touches_putB (.refl _)))

theorem touches_roleFlip {g : ℕ} {s : State} : Touches [.regs, .outs, .pair, .log, .ce] s (roleFlip g s) := by
  unfold roleFlip
  exact .mono ((((((touches_endRoutine.after touches_recordB).after Touches.pair).after (Touches.foldS fun _ _ =>
      touches_setOut)).after touches_putB).after touches_putB).after touches_putB)

theorem touches_switchOut {g : ℕ} {o : ℕ} {s : State} : Touches [.outs, .regs, .pair, .log, .ce] s (switchOut g o s) := by
  unfold switchOut
  exact .mono (.ite ((Touches.ite touches_roleFlip (.refl _)).after touches_setOut) (.refl _))

theorem touches_handoverItem {x : Tick} {n : W40} {leave : Bool} {g : ℕ} {s : State} : Touches [.outs, .regs, .pair, .log, .ce]
    s (handoverItem x n leave g s) := by
  unfold handoverItem
  split
  · exact .mono (.ite (Touches.foldS fun _ _ => touches_switchOut) (.refl _))
  · exact .mono (.refl _)

theorem touches_gleanAbandon {a0 : ℕ} {s : State} : Touches [.glean, .regs, .outs] s (gleanAbandon a0 s) := by
  unfold gleanAbandon
  split
  · exact .mono ((Touches.ite touches_setOut (.refl _)).after (touches_bump.after Touches.glean))
  · exact .mono (.refl _)

theorem touches_gleanAbandonIf {p : ℕ → Glean → Bool} {s : State} : Touches [.glean, .regs, .outs] s (gleanAbandonIf p s) := by
  unfold gleanAbandonIf
  exact .mono (Touches.foldS fun _ _ => .ite touches_gleanAbandon (.refl _))

theorem touches_gleanLeave {g : ℕ} {s : State} : Touches [.glean, .regs, .outs] s (gleanLeave g s) := by
  unfold gleanLeave
  exact .mono touches_gleanAbandonIf

theorem touches_gleanCells {late : Bool} {x : Tick} {g : ℕ} {s : State} : Touches [.outs, .log] s (gleanCells late x g s) := by
  unfold gleanCells
  exact .mono (Touches.foldS fun _ _ => .ite touches_gleanCell (.refl _))

theorem touches_applyRec {g : ℕ} {kind : ℕ} {src : ℕ} {w3 : W40} {s : State} : Touches [.log] s (applyRec g kind src w3 s) := by
  unfold applyRec
  exact .mono touches_recordB

theorem touches_modeItem {late : Bool} {g : ℕ} {s : State} : Touches [.seqs, .log, .slots, .regs] s (modeItem late g s) := by
  unfold modeItem
  exact .mono (.ite ((touches_fsetAll.after (.ite (.refl _) touches_applyRec)).after touches_modSeq) (.refl _))

theorem touches_commitItem {g : ℕ} {u : ℕ} {s : State} : Touches [.force, .prb, .drv, .regs, .slots, .log, .flux] s (commitItem
    g u s) := by
  unfold commitItem
  exact .mono (.ite touches_commitUnit (touches_applyRec.after touches_commitUnit))

theorem touches_bandItem {late : Bool} {g : ℕ} {s : State} : Touches [.seqs, .prb, .drv, .log] s (bandItem late g s) := by
  unfold bandItem
  exact .mono (.ite ((Touches.ite (.refl _) touches_applyRec).after touches_applyBand) (.refl _))

theorem touches_boundaryItems {x : Tick} {n : W40} {leave : Bool} {g : ℕ} {s : State} : Touches [.seqs, .log, .slots, .regs,
    .force, .prb, .drv, .flux, .outs, .pair, .ce] s (boundaryItems x n leave g s) := by
  unfold boundaryItems
  exact .mono ((((((touches_handoverItem.after touches_gleanCells).after (Touches.foldS fun _ _ => touches_gleanTone)).after
      touches_bandItem).after (Touches.foldS fun _ _ => touches_commitItem)).after touches_modSeq).after touches_modeItem)

theorem touches_lifeTo {l : Life} {s : State} : Touches [.log, .life] s (lifeTo l s) := by
  unfold lifeTo
  exact .mono (Touches.life.after touches_record)

theorem touches_relaysBack {s : State} : Touches [.lbReq, .lbWaited, .lbResume, .armAfter, .regs, .log] s (relaysBack s) := by
  unfold relaysBack
  exact .mono (((Touches.ite (touches_record.after touches_putB) (.refl _)).after touches_putB).after (Touches.set [.lbReq,
      .lbWaited, .lbResume, .armAfter] rfl))

theorem touches_acquireEnd {s : State} : Touches [.time] s (acquireEnd s) := by
  unfold acquireEnd
  exact .mono Touches.time

theorem touches_acquireStop {s : State} : Touches [.time, .regs] s (acquireStop s) := by
  unfold acquireStop
  exact .mono (.ite (touches_acquireEnd.after (touches_putB.after Touches.time)) touches_acquireEnd)

theorem touches_fedLeave {s : State} : Touches [.time, .regs] s (fedLeave s) := by
  unfold fedLeave
  exact .mono (touches_putB.after (touches_putB.after (touches_putF.after (touches_putF.after touches_acquireEnd))))

theorem touches_stepQuiet {s : State} : Touches [.time] s (stepQuiet s) := by
  unfold stepQuiet
  split
  · exact .mono (.ite Touches.time (.refl _))
  · exact .mono (.refl _)

theorem touches_enterSafe {s : State} : Touches [.wits, .regs, .log, .rings, .host, .fabric, .safePend, .life, .time, .lbReq,
    .lbWaited, .lbResume, .armAfter, .bias, .slots] s (enterSafe s) := by
  unfold enterSafe
  exact .mono (((((touches_fsetAll.after touches_stepQuiet).after (touches_allRest.after touches_relaysBack)).after (.ite
      touches_fedLeave (.refl _))).after (touches_lifeTo.after Touches.safePend)).after touches_witStopAll)

theorem touches_safeCheck {st : ℕ} {res : List W40} {s : State} : Touches [.wits, .regs, .log, .rings, .host, .fabric,
    .safePend, .life, .time, .lbReq, .lbWaited, .lbResume, .armAfter, .bias, .slots, .ce] s (safeCheck st res s) := by
  unfold safeCheck
  exact .mono (.ite (.ite (touches_endRoutine.after touches_enterSafe) touches_progressRoutine) (.refl _))

theorem touches_biasFreeze {g : ℕ} {s : State} : Touches [.bias] s (biasFreeze g s) := by
  unfold biasFreeze
  exact .mono touches_setBias

theorem touches_allFreeze {s : State} : Touches [.bias] s (allFreeze s) := by
  unfold allFreeze
  exact .mono (Touches.foldS fun _ _ => touches_biasFreeze)

theorem touches_graceOutputs {s : State} : Touches [.therm, .bias] s (graceOutputs s) := by
  unfold graceOutputs
  exact .mono ((Touches.ite touches_allFreeze touches_allRest).after Touches.therm)

theorem touches_graceCheck {s : State} : Touches [.therm, .bias] s (graceCheck s) := by
  unfold graceCheck
  exact .mono (.ite touches_graceOutputs (.refl _))

theorem touches_quietCheck {s : State} : Touches [.time, .therm, .bias, .wits, .regs, .log, .rings, .host, .fabric, .safePend,
    .life, .lbReq, .lbWaited, .lbResume, .armAfter, .slots, .ce] s (quietCheck s) := by
  unfold quietCheck
  exact .mono (touches_safeCheck.after (touches_graceCheck.after touches_stepQuiet))

end Sys2Proof.Machine
end

section
/-! PROOF. What may change with the operations of the sequencers. -/

set_option Elab.async false

namespace Sys2Proof.Machine

theorem touches_barFail {k : Tick} {b : ℕ} {s : State} : Touches [.barriers, .regs, .log] s (barFail k b s) := by
  unfold barFail
  exact .mono (touches_recordFor.after (touches_putB.after touches_setBarrier))

theorem touches_barFailNext {k : Tick} {b : ℕ} {gs : List ℕ} {s : State} : Touches [.barriers, .regs, .log] s (barFailNext k b
    gs s) := by
  unfold barFailNext
  exact .mono (touches_recordFor.after (touches_putB.after touches_setBarrier))

theorem touches_barSend {b : ℕ} {ad : Tick} {s : State} : Touches [.regs, .log, .ports] s (barSend b ad s) := by
  unfold barSend
  exact .mono (.ite (Touches.foldS fun _ _ => .ite touches_toPort (.refl _)) (.refl _))

theorem touches_barCheck {x : Tick} {b : ℕ} {s : State} : Touches [.barriers, .log] s (barCheck x b s) := by
  unfold barCheck
  exact .mono (.ite (.refl _) (.ite (show Touches [.barriers, .log] _ _ by
      split
      · exact .mono (.refl _)
      · exact .mono (.ite (touches_recordFor.after touches_setBarrier) touches_setBarrier)) (.refl _)))

theorem touches_barLocal {x : Tick} {ad : Tick} {b : ℕ} {s : State} : Touches [.barriers, .regs, .log, .ports] s (barLocal x ad
    b s) := by
  unfold barLocal
  exact .mono (.ite (.ite (touches_barCheck.after (touches_barSend.after touches_setBarrier)) touches_setBarrier)
      touches_setBarrier)

theorem touches_barArrive {e : Tick} {b : ℕ} {g : ℕ} {s : State} : Touches [.barriers, .regs, .log, .ports] s (barArrive e b g
    s) := by
  unfold barArrive
  exact .mono (.ite touches_setBarrier (.ite touches_barFailNext (.ite touches_setBarrier ((Touches.ite (.refl _) (.ite
      touches_barFail (.ite touches_barLocal (.refl _)))).after touches_setBarrier))))

theorem touches_barNotice {x : Tick} {b : ℕ} {dev : ℕ} {ad : Tick} {s : State} : Touches [.barriers, .regs, .log, .ports] s
    (barNotice x b dev ad s) := by
  unfold barNotice
  exact .mono (.ite touches_setBarrier ((Touches.ite touches_barLocal touches_barCheck).after touches_setBarrier))

theorem touches_barWithdraw {g : ℕ} {s : State} : Touches [.barriers] s (barWithdraw g s) := by
  unfold barWithdraw
  exact .mono (Touches.foldS fun _ _ => .ite touches_setBarrier (.refl _))

theorem touches_barFailAll {k : Tick} {p : ℕ → Bool} {s : State} : Touches [.barriers, .regs, .log] s (barFailAll k p s) := by
  unfold barFailAll
  exact .mono (Touches.foldS fun _ _ => .ite ((Touches.ite touches_barFail (.refl _)).after (.ite (.refl _)
      touches_barFailNext)) (.refl _))

theorem touches_leaveShot {x : Tick} {g : ℕ} {s : State} : Touches [.seqs, .log, .slots, .regs, .force, .prb, .drv, .flux,
    .outs, .pair, .ce, .time, .therm, .bias, .wits, .rings, .host, .fabric, .safePend, .life, .lbReq, .lbWaited, .lbResume,
    .armAfter] s (leaveShot x g s) := by
  unfold leaveShot
  exact .mono (touches_quietCheck.after (touches_boundaryItems.after touches_modSeq))

theorem touches_seqFault {kind : ℕ} {a : ℕ} {g : ℕ} {s : State} : Touches [.seqs, .log, .slots, .regs, .force, .prb, .drv,
    .flux, .outs, .pair, .ce, .time, .therm, .bias, .wits, .rings, .host, .fabric, .safePend, .life, .lbReq, .lbWaited,
    .lbResume, .armAfter] s (seqFault kind a g s) := by
  unfold seqFault
  exact .mono (((Touches.ite touches_leaveShot (.refl _)).after touches_record).after touches_modSeq)

theorem touches_seqEnd {g : ℕ} {s : State} : Touches [.barriers, .seqs, .log, .slots, .regs, .force, .prb, .drv, .flux, .outs,
    .pair, .ce, .time, .therm, .bias, .wits, .rings, .host, .fabric, .safePend, .life, .lbReq, .lbWaited, .lbResume, .armAfter]
    s (seqEnd g s) := by
  unfold seqEnd
  exact .mono (((Touches.ite touches_leaveShot (.refl _)).after touches_modSeq).after touches_barWithdraw)

theorem touches_forcedStop {p : ℕ → Bool} {s : State} : Touches [.barriers, .seqs, .log, .slots, .regs, .force, .prb, .drv,
    .flux, .outs, .pair, .ce, .time, .therm, .bias, .wits, .rings, .host, .fabric, .safePend, .life, .lbReq, .lbWaited,
    .lbResume, .armAfter] s (forcedStop p s) := by
  unfold forcedStop
  exact .mono (Touches.foldS fun _ _ => .ite touches_seqEnd (.refl _))

theorem touches_lateReport {e : Tick} {l : ℕ} {gap : Bool} {stall : Bool} {g : ℕ} {s : State} : Touches [.regs, .fabric, .seqs,
    .log] s (lateReport e l gap stall g s) := by
  unfold lateReport
  exact .mono ((((Touches.ite (.refl _) (touches_record.after touches_modSeq)).after touches_fireProd).after touches_putF).after
      touches_bump)

theorem touches_queueEntry {x : QEntry} {g : ℕ} {s : State} : Touches [.seqs] s (queueEntry x g s) := by
  unfold queueEntry
  exact .mono touches_modSeq

theorem touches_enqueue {e : Tick} {x : QEntry} {g : ℕ} {s : State} : Touches [.seqs, .regs, .fabric, .log] s (enqueue e x g
    s) := by
  unfold enqueue
  split
  · exact .mono touches_queueEntry
  · exact .mono (.ite (touches_lateReport.after touches_modSeq) touches_lateReport)

theorem touches_evComplete {x : Tick} {i : ℕ} {g : ℕ} {s : State} : Touches [.seqs] s (evComplete x i g s) := by
  unfold evComplete
  exact .mono (touches_completeAt.after touches_modSeq)

theorem touches_evReach {x : Tick} {i : ℕ} {depth : ℕ} {g : ℕ} {s : State} : Touches [.seqs, .regs] s (evReach x i depth g
    s) := by
  unfold evReach
  exact .mono (.ite (.refl _) (.ite (touches_bump.after touches_modSeq) ((show Touches [.seqs] _ _ by
      extract_lets
      split
      · exact .mono (.ite touches_evComplete (.refl _))
      · exact .mono (.refl _)).after touches_modSeq)))

theorem touches_nextShot {o : Tick} {g : ℕ} {s : State} : Touches [.seqs] s (nextShot o g s) := by
  unfold nextShot
  exact .mono touches_modSeq

theorem touches_openShot {o : Tick} {g : ℕ} {s : State} : Touches [.seqs, .agenda] s (openShot o g s) := by
  unfold openShot
  exact .mono (touches_defer.after touches_nextShot)

theorem touches_shotStarts {x : Tick} {g : ℕ} {s : State} : Touches [.seqs, .regs, .agenda, .force, .binder, .gran, .log,
    .halves, .mem, .rings, .host] s (shotStarts x g s) := by
  unfold shotStarts
  exact .mono (.ite (touches_paceRounds.after touches_modSeq) (.refl _))

theorem touches_boundary {b : Bound} {g : ℕ} {s : State} : Touches [.regs, .outs, .pair, .log, .seqs, .slots, .force, .prb,
    .drv, .flux, .ce, .agenda, .time, .therm, .bias, .wits, .rings, .host, .fabric, .safePend, .life, .lbReq, .lbWaited,
    .lbResume, .armAfter] s (boundary b g s) := by
  unfold boundary
  exact .mono ((((Touches.ite touches_openShot (touches_quietCheck.after touches_nextShot)).after touches_boundaryItems).after
      touches_modSeq).after touches_compareShot)

theorem touches_resumeSeq {u : Tick} {g : ℕ} {s : State} : Touches [.seqs, .agenda, .glean, .regs, .outs] s (resumeSeq u g
    s) := by
  unfold resumeSeq
  exact .mono (touches_gleanLeave.after (touches_openShot.after touches_modSeq))

theorem touches_reasonsUpdate {s : State} : Touches [.seqs] s (reasonsUpdate s) := by
  unfold reasonsUpdate
  exact .mono (Touches.foldS fun _ _ => .ite touches_modSeq (.refl _))

theorem touches_startArmed {a : Tick} {g : ℕ} {s : State} : Touches [.force, .prb, .drv, .regs, .slots, .seqs, .agenda, .glean,
    .outs] s (startArmed a g s) := by
  unfold startArmed
  exact .mono (((((touches_gleanLeave.after touches_openShot).after touches_modSeq).after (.ite touches_setDrv (.refl _))).after
      (touches_demodNote.after touches_setPrb)).after (touches_commitTone.after (.ite touches_commitTone (.refl _))))

end Sys2Proof.Machine
end

section
/-! PROOF. What may change with the commands of the sequencers. -/

set_option Elab.async false

namespace Sys2Proof.Machine

theorem touches_shotBoundaryRow {g : ℕ} {s : State} : Touches [.regs, .outs, .pair, .log, .seqs, .slots, .force, .prb, .drv,
    .flux, .ce, .agenda, .time, .therm, .bias, .wits, .rings, .host, .fabric, .safePend, .life, .lbReq, .lbWaited, .lbResume,
    .armAfter] s (shotBoundaryRow g s) := by
  unfold shotBoundaryRow
  extract_lets
  split
  · exact .mono (.ite touches_boundary (.refl _))
  · exact .mono (.refl _)

theorem touches_armedStartRow {g : ℕ} {s : State} : Touches [.force, .prb, .drv, .regs, .slots, .seqs, .agenda, .glean, .outs] s
    (armedStartRow g s) := by
  unfold armedStartRow
  exact .mono (.ite touches_startArmed (.refl _))

theorem touches_sequencerResumeRow {g : ℕ} {s : State} : Touches [.seqs, .agenda, .glean, .regs, .outs] s (sequencerResumeRow g
    s) := by
  unfold sequencerResumeRow
  exact .mono (.ite touches_resumeSeq (.refl _))

theorem touches_timelineDispatchRow {g : ℕ} {s : State} : Touches [.down, .seqs, .log, .slots, .regs, .force, .prb, .drv, .flux,
    .outs, .pair, .ce, .time, .therm, .bias, .wits, .rings, .host, .fabric, .safePend, .life, .lbReq, .lbWaited, .lbResume,
    .armAfter] s (timelineDispatchRow g s) := by
  unfold timelineDispatchRow
  extract_lets
  split
  · exact .mono (.refl _)
  · exact .mono (.ite (((Touches.ite touches_leaveShot (.refl _)).after touches_modSeq).after Touches.down) (.refl _))

theorem touches_setEnvAt {p : EnvPlace} {g : ℕ} {e : Env} {s : State} : Touches [.prb, .drv, .flux] s (setEnvAt p g e s) := by
  unfold setEnvAt
  split
  · exact .mono touches_setTone
  · exact .mono touches_setFlux

theorem touches_playAct {p : EnvPlace} {o : ℕ} {u : ℕ} {wid : ℕ} {x : Tick} {g : ℕ} {s : State} : Touches [.regs, .prb, .drv,
    .flux, .log] s (playAct p o u wid x g s) := by
  unfold playAct
  exact .mono (((Touches.ite (.refl _) touches_recordOwned).after touches_setEnvAt).after (.ite touches_bump (.refl _)))

theorem touches_addWindow {x : Tick} {n : ℕ} {shot : W40} {g : ℕ} {s : State} : Touches [.slots] s (addWindow x n shot g
    s) := by
  unfold addWindow
  exact .mono touches_setSlot

theorem touches_acqAct {n : ℕ} {shot : W40} {x : Tick} {g : ℕ} {s : State} : Touches [.slots, .regs, .log, .wits] s (acqAct n
    shot x g s) := by
  unfold acqAct
  exact .mono (.ite touches_addWindow (.ite ((touches_recordIf.after touches_bump).after touches_addWindow) (.ite
      (touches_record.after touches_bump) (touches_witWindow.after touches_addWindow))))

theorem touches_setfAct {probe : Bool} {bank : ℕ} {f : Option W40} {g : ℕ} {s : State} : Touches [.force, .prb, .drv] s (setfAct
    probe bank f g s) := by
  unfold setfAct
  exact .mono ((touches_retrim.after touches_setF).after (show Touches [.force, .prb, .drv] _ _ by
      split
      · exact .mono (touches_setTone.after touches_setF)
      · exact .mono (.refl _)))

theorem touches_biasAct {e : QEntry} {g : ℕ} {s : State} : Touches [.regs, .fabric, .force, .bias] s (biasAct e g s) := by
  unfold biasAct
  cases e.act with
  | bias c => exact .mono touches_setR
  | strobe => exact .mono touches_strobeGroup
  | _ => exact .mono (.refl _)

theorem touches_biasActs {s : State} : Touches [.fabric, .regs, .force, .bias] s (biasActs s) := by
  unfold biasActs
  exact .mono ((Touches.foldS fun _ _ => touches_biasAct).after Touches.fabric)

theorem touches_tileAct {e : QEntry} {g : ℕ} {s : State} : Touches [.regs, .prb, .drv, .flux, .log, .slots, .wits, .force,
    .fabric] s (tileAct e g s) := by
  unfold tileAct
  exact .mono (touches_demodNote.after (show Touches [.regs, .prb, .drv, .flux, .log, .slots, .wits, .force, .fabric] _ _ by
      split
      · exact .mono touches_playAct
      · exact .mono touches_playAct
      · exact .mono touches_acqAct
      · exact .mono touches_setfAct
      · exact .mono touches_setTone
      · exact .mono touches_setTone
      · exact .mono touches_setF
      · exact .mono Touches.fabric
      · exact .mono Touches.fabric))

theorem touches_tileActionRow {g : ℕ} {s : State} : Touches [.down, .regs, .prb, .drv, .flux, .log, .slots, .wits, .force,
    .fabric] s (tileActionRow g s) := by
  unfold tileActionRow
  split
  · exact .mono (.ite ((Touches.ite touches_tileAct (.refl _)).after Touches.down) (.refl _))
  · exact .mono (.refl _)

theorem touches_seqStart {g : ℕ} {s : State} : Touches [.seqs, .agenda, .glean, .regs, .outs] s ((seqStart g s).1) := by
  unfold seqStart
  extract_lets
  split
  · exact .mono (.refl _)
  · split
    · exact .mono (.refl _)
    · split
      · exact .mono (.refl _)
      · split
        · dsimp only
          exact .mono touches_modSeq
        · split
          · dsimp only
            exact .mono (touches_resumeSeq.after touches_modSeq)
          · dsimp only
            exact .mono touches_modSeq

theorem touches_seqStop {g : ℕ} {s : State} : Touches [.seqs] s (seqStop g s).1 := by
  unfold seqStop
  split
  · exact touches_setSeq
  · exact touches_setSeq
  · exact touches_setSeq
  · exact .mono (.refl _)


theorem touches_seqSkip {g : ℕ} {s : State} : Touches [.seqs] s ((seqSkip g s).1) := by
  unfold seqSkip
  split
  · dsimp only
    exact .mono touches_modSeq
  · exact .mono (.refl _)

theorem touches_seqRetime {g : ℕ} {s : State} : Touches [.seqs, .regs, .fabric, .log] s ((seqRetime g s).1) := by
  unfold seqRetime
  split
  · exact .mono (touches_enqueue.after touches_modSeq)
  · exact .mono (.refl _)

theorem touches_seqCommand {cmd : ℕ} {g : ℕ} {s : State} : Touches [.seqs, .agenda, .glean, .regs, .outs, .barriers, .log,
    .slots, .force, .prb, .drv, .flux, .pair, .ce, .time, .therm, .bias, .wits, .rings, .host, .fabric, .safePend, .life,
    .lbReq, .lbWaited, .lbResume, .armAfter] s ((seqCommand cmd g s).1) := by
  unfold seqCommand
  split
  · exact .mono touches_seqStart
  · exact .mono touches_seqStop
  · exact .mono touches_seqEnd
  · exact .mono touches_seqSkip
  · exact .mono touches_seqRetime
  · exact .mono (.refl _)

theorem touches_seqCmdWrite {cmd g : ℕ} {s : State} : Touches [.barriers, .seqs, .log, .slots, .regs, .force, .prb, .drv, .flux,
    .outs, .pair, .ce, .time, .therm, .bias, .wits, .rings, .host, .fabric, .safePend, .life, .lbReq, .lbWaited, .lbResume, .armAfter,
    .agenda, .glean] s (seqCmdWrite cmd g s) := by
  have hcmd := touches_seqCommand (cmd := cmd) (g := g) (s := s)
  unfold seqCmdWrite
  generalize seqCommand cmd g s = r at hcmd ⊢
  obtain ⟨s', _ | c⟩ := r
  · exact .mono ((Touches.ite touches_gleanLeave (.refl _)).after hcmd)
  · exact .mono (touches_record.after hcmd)

theorem touches_barrierNoticeRow {b : ℕ} {dev : ℕ} {ad : Tick} {s : State} : Touches [.regs, .barriers, .log, .ports] s
    (barrierNoticeRow b dev ad s) := by
  unfold barrierNoticeRow
  exact .mono (.ite (.ite touches_bump touches_barNotice) (.refl _))

theorem touches_barMember {r : Tick} {b : ℕ} {failed : Bool} {g : ℕ} {s : State} : Touches [.seqs] s (barMember r b failed g
    s) := by
  unfold barMember
  exact .mono (.ite (touches_completeAt.after (.ite touches_modSeq (.refl _))) (.refl _))

theorem touches_soloRelease {b : ℕ} {s : State} : Touches [.barriers, .seqs] s (soloRelease b s) := by
  unfold soloRelease
  exact .mono ((Touches.foldS fun _ _ => touches_barMember).after touches_setBarrier)

theorem touches_useRelease {b : ℕ} {s : State} : Touches [.seqs, .barriers, .regs, .log, .ports] s (useRelease b s) := by
  unfold useRelease
  extract_lets q
  split
  · split
    · extract_lets members k now' reset
      have hreset : Touches [.seqs, .barriers] s reset :=
        .mono (touches_setBarrier.after (Touches.foldS fun _ _ => touches_barMember))
      split
      · exact .mono (touches_barFail.after hreset)
      · split
        · split
          · exact .mono (touches_barLocal.after hreset)
          · exact .mono hreset
        · exact .mono ((Touches.ite touches_barLocal touches_barCheck).after hreset)
    · exact .mono (.refl _)
  · exact .mono (.refl _)

theorem touches_barrierReleaseRow {b : ℕ} {s : State} : Touches [.barriers, .seqs, .regs, .log, .ports] s (barrierReleaseRow b
    s) := by
  unfold barrierReleaseRow
  exact .mono (.ite (touches_useRelease.after touches_soloRelease) (.refl _))

end Sys2Proof.Machine
end

section
/-! PROOF. What may change with the changes of the lifecycle. -/

set_option Elab.async false

namespace Sys2Proof.Machine

theorem touches_raiseTrap {p : ℕ} {s : State} : Touches [.ce] s (raiseTrap p s) := by
  unfold raiseTrap
  exact .mono Touches.ce

theorem touches_takeTrap {p : ℕ} {s : State} : Touches [.ce, .regs, .free] s (takeTrap p s) := by
  unfold takeTrap
  exact .mono ((Touches.ite Touches.ce (touches_takeFree.after Touches.ce)).after (touches_bump.after Touches.ce))

theorem touches_ceAbortAll {s : State} : Touches [.ce, .mon, .safePend, .slots, .seqs, .fresh, .force, .prb, .drv, .regs, .log,
    .flux, .binder, .agenda, .gran, .halves, .mem, .rings, .host] s (ceAbortAll s) := by
  unfold ceAbortAll
  exact .mono (Touches.ce.after touches_abortRoutines)

theorem touches_coresIdle {s : State} : Touches [.cores] s (coresIdle s) := by
  unfold coresIdle
  exact .mono (Touches.foldS fun _ _ => touches_setCore)

theorem touches_readoutStops {s : State} : Touches [.slots, .bus, .made] s (readoutStops s) := by
  unfold readoutStops
  exact .mono ((Touches.set [.bus, .made] rfl).after (Touches.foldS fun _ _ => touches_setSlot))

theorem touches_dropStep {s : State} : Touches [.time, .regs] s (dropStep s) := by
  unfold dropStep
  exact .mono (touches_putB.after Touches.time)

theorem touches_stopAll {l : Life} {s : State} : Touches [.wits, .regs, .log, .rings, .host, .fabric, .safePend, .life, .time,
    .barriers, .seqs, .slots, .force, .prb, .drv, .flux, .outs, .pair, .ce, .therm, .bias, .lbReq, .lbWaited, .lbResume,
    .armAfter, .cores, .glean] s (stopAll l s) := by
  unfold stopAll
  exact .mono ((((((touches_fsetAll.after (touches_allRest.after touches_relaysBack)).after (touches_gleanAbandonIf.after
      touches_coresIdle)).after (touches_forcedStop.after touches_dropStep)).after (.ite touches_fedLeave (.refl _))).after
      (touches_lifeTo.after Touches.safePend)).after touches_witStopAll)

theorem touches_enterHalted {code : ℕ} {s : State} : Touches [.haltAt, .regs, .wits, .log, .rings, .host, .fabric, .safePend,
    .life, .time, .barriers, .seqs, .slots, .force, .prb, .drv, .flux, .outs, .pair, .ce, .therm, .bias, .lbReq, .lbWaited,
    .lbResume, .armAfter, .cores, .glean, .bus, .made] s (enterHalted code s) := by
  unfold enterHalted
  exact .mono (.ite (show Touches [.haltAt, .regs] _ _ by
      split
      · exact .mono (touches_putF.after Touches.haltAt)
      · exact .mono (.ite (touches_putF.after Touches.haltAt) (.refl _))) (touches_readoutStops.after (touches_stopAll.after (show Touches
      [.haltAt, .regs] _ _ by
      split
      · exact .mono (touches_putF.after Touches.haltAt)
      · exact .mono (.ite (touches_putF.after Touches.haltAt) (.refl _))))))

theorem touches_fatal {src : ℕ} {code : ℕ} {detail : ℕ} {w3 : W40} {s : State} : Touches [.log, .ce, .haltAt, .regs, .wits,
    .rings, .host, .fabric, .safePend, .life, .time, .barriers, .seqs, .slots, .force, .prb, .drv, .flux, .outs, .pair, .therm,
    .bias, .lbReq, .lbWaited, .lbResume, .armAfter, .cores, .glean, .bus, .made] s (fatal src code detail w3 s) := by
  unfold fatal
  exact .mono (touches_enterHalted.after (touches_raiseTrap.after touches_record))

theorem touches_enterStopping {s : State} : Touches [.wits, .regs, .log, .rings, .host, .fabric, .safePend, .life, .time,
    .barriers, .seqs, .slots, .force, .prb, .drv, .flux, .outs, .pair, .ce, .therm, .bias, .lbReq, .lbWaited, .lbResume,
    .armAfter, .cores, .glean] s (enterStopping s) := by
  unfold enterStopping
  exact .mono touches_stopAll

theorem touches_fedStart {s : State} : Touches [.regs, .time, .fed] s (fedStart s) := by
  unfold fedStart
  exact .mono (.ite (touches_putF.after (touches_putF.after (touches_putF.after (touches_putB.after touches_putB))))
      ((touches_putF.after (touches_putF.after (touches_putB.after touches_putB))).after (Touches.set [.time, .fed] rfl)))

theorem touches_fedTake {s : State} : Touches [.regs, .time, .fed, .log] s (fedTake s) := by
  unfold fedTake
  exact .mono (.ite touches_fedStart (touches_record.after touches_putB))

theorem touches_fedStop {s : State} : Touches [.time, .regs, .barriers, .log] s (fedStop s) := by
  unfold fedStop
  exact .mono (touches_barFailAll.after (touches_fedLeave.after touches_acquireStop))

theorem touches_seqModeChange {g : ℕ} {old : Bool × Bool × Bool} {s : State} : Touches [.seqs] s (seqModeChange g old s) := by
  unfold seqModeChange
  exact .mono (.ite touches_setSeq touches_setSeq)

theorem touches_loopbackChange {s : State} : Touches [.lbReq, .lbWaited, .regs] s (loopbackChange s) := by
  unfold loopbackChange
  extract_lets
  split
  · exact .mono (.ite (touches_putB.after (Touches.set [.lbReq, .lbWaited] rfl)) (.refl _))
  · exact .mono (.ite (.refl _) (touches_putB.after (Touches.set [.lbReq, .lbWaited] rfl)))

theorem touches_pairedCheck {was : Bool} {s : State} : Touches [.pair, .outs] s (pairedCheck was s) := by
  unfold pairedCheck
  exact .mono (.ite touches_cmpHalt (.refl _))

theorem touches_modeInReady {v : W40} {s : State} : Touches [.modeWas, .regs, .time, .fed, .log, .barriers, .seqs, .pair, .outs,
    .wits, .rings, .host, .fabric, .lbReq, .lbWaited, .bias, .slots] s (modeInReady v s) := by
  unfold modeInReady
  exact .mono ((((((((touches_reasonsUpdate.after touches_fsetAll).after (.ite touches_biasFollow (.refl _))).after
      touches_loopbackChange).after (.ite touches_witArmAll (.ite touches_witStopAll (.refl _)))).after
      touches_pairedCheck).after (Touches.foldS fun _ _ => touches_seqModeChange)).after (.ite touches_fedTake (.ite
      touches_fedStop (.refl _)))).after (touches_putF.after Touches.modeWas))

theorem touches_modeWrite {v : W40} {s : State} : Touches [.modeWas, .regs, .time, .fed, .log, .barriers, .seqs, .pair, .outs,
    .wits, .rings, .host, .fabric, .lbReq, .lbWaited, .bias, .slots] s (modeWrite v s) := by
  unfold modeWrite
  exact .mono (.ite touches_modeInReady touches_putF)

theorem touches_relaySwitch {lb : Bool} {s : State} : Touches [.lbReq, .lbWaited, .regs, .force, .log, .bias, .slots, .lbResume,
    .pair] s (relaySwitch lb s) := by
  unfold relaySwitch
  exact .mono ((((((touches_fsetAll.after (touches_itemsOff.after Touches.lbResume)).after (Touches.foldS fun _ _ =>
      touches_noteTrn)).after (.ite (.refl _) touches_biasFollow)).after touches_record).after touches_commitRegs).after
      (touches_putB.after (touches_putB.after (Touches.set [.lbReq, .lbWaited] rfl))))

theorem touches_loopbackSwitchRow {s : State} : Touches [.lbReq, .lbWaited, .regs, .force, .log, .bias, .slots, .lbResume,
    .pair] s (loopbackSwitchRow s) := by
  unfold loopbackSwitchRow
  split
  · exact .mono (.ite touches_relaySwitch (.refl _))
  · exact .mono (.refl _)

theorem touches_loopbackWaitRow {s : State} : Touches [.lbWaited, .log] s (loopbackWaitRow s) := by
  unfold loopbackWaitRow
  split
  · exact .mono (.ite (touches_record.after Touches.lbWaited) (.refl _))
  · exact .mono (.refl _)

theorem touches_loopbackResumeRow {s : State} : Touches [.lbResume, .seqs] s (loopbackResumeRow s) := by
  unfold loopbackResumeRow
  exact .mono (.ite (touches_reasonsUpdate.after Touches.lbResume) (.refl _))

theorem touches_enterReady {s : State} : Touches [.log, .life, .regs, .time, .fed, .pair, .outs, .lbReq, .lbWaited, .force,
    .bias, .slots, .lbResume, .armAfter, .wits, .seqs] s (enterReady s) := by
  unfold enterReady
  exact .mono (((((touches_reasonsUpdate.after (touches_fsetAll.after touches_witArmAll)).after (.ite (Touches.armAfter.after
      touches_relaySwitch) (.refl _))).after (.ite touches_cmpHalt (.refl _))).after (.ite touches_fedTake (.refl _))).after
      touches_lifeTo)

theorem touches_enterSafeForced {s : State} : Touches [.safePend, .barriers, .seqs, .log, .slots, .regs, .force, .prb, .drv,
    .flux, .outs, .pair, .ce, .time, .therm, .bias, .wits, .rings, .host, .fabric, .life, .lbReq, .lbWaited, .lbResume,
    .armAfter] s (enterSafeForced s) := by
  unfold enterSafeForced
  exact .mono ((touches_endRoutine.after touches_enterSafe).after ((Touches.foldS fun _ _ => touches_seqEnd).after
      Touches.safePend))

theorem touches_pairModeRow {bits : ℕ} {s : State} : Touches [.pair, .regs, .log, .outs] s (pairModeRow bits s) := by
  unfold pairModeRow
  exact .mono (.ite ((Touches.ite (touches_cmpHalt.after (touches_record.after touches_putB)) (.refl _)).after Touches.pair)
      (.refl _))

end Sys2Proof.Machine
end

section
/-! PROOF. What may change with the commands of the ADCs. -/

set_option Elab.async false

namespace Sys2Proof.Machine

theorem touches_spareUpdate {a : ℕ} {s : State} : Touches [.regs] s (spareUpdate a s) := by
  unfold spareUpdate
  exact .mono (touches_putF.after touches_putF)

theorem touches_calBegin {x : Tick} {a1 : ℕ} {s : State} : Touches [.adcs, .regs] s (calBegin x a1 s) := by
  unfold calBegin
  exact .mono (Touches.foldS fun _ _ => touches_putB.after touches_setAdc)

theorem touches_sliceResult {a0 : ℕ} {r : SliceCal} {s : State} : Touches [.regs, .free] s (sliceResult a0 r s) := by
  unfold sliceResult
  exact .mono (.ite (touches_takeFree.after touches_setR) touches_setR)

theorem touches_adcFigures {hi : ℕ} {a : ℕ} {s : State} : Touches [.regs, .free] s (adcFigures hi a s) := by
  unfold adcFigures
  exact .mono (touches_takeFree.after touches_putF)

theorem touches_calEnd {f : ℕ} {a : ℕ} {s : State} : Touches [.adcs, .regs, .free, .log] s (calEnd f a s) := by
  unfold calEnd
  exact .mono ((((touches_recordIf.after touches_spareUpdate).after (touches_putB.after (touches_putF.after
      touches_putB))).after (.ite (.refl _) touches_adcFigures)).after touches_setAdc)

theorem touches_selfCalDoneRow {a0 : ℕ} {res : List SliceCal} {s : State} : Touches [.regs, .free, .adcs, .log, .ce] s
    (selfCalDoneRow a0 res s) := by
  unfold selfCalDoneRow
  exact .mono (.ite (((touches_endRoutineAt.after (Touches.foldS fun _ _ => touches_calEnd)).after (Touches.foldS fun _ _ =>
      touches_sliceResult)).after (Touches.foldS fun _ _ => Touches.foldS fun _ _ => touches_putF)) (.refl _))

theorem touches_sliceBack {a0 : ℕ} {r : SliceBack} {s : State} : Touches [.regs, .log] s (sliceBack a0 r s) := by
  unfold sliceBack
  exact .mono (touches_recordIf.after touches_setR)

theorem touches_cycleFigures {a : ℕ} {old : ℕ} {r : ℕ} {s : State} : Touches [.adcs, .regs, .free] s (cycleFigures a old r
    s) := by
  unfold cycleFigures
  exact .mono (.ite touches_setAdc (.ite (touches_setAdc.after (.ite touches_adcFigures (.refl _))) (.refl _)))

theorem touches_rotationRow {a0 : ℕ} {back : List SliceBack} {s : State} : Touches [.adcs, .regs, .fabric, .free, .log] s
    (rotationRow a0 back s) := by
  unfold rotationRow
  exact .mono (.ite ((((Touches.foldS fun _ _ => touches_sliceBack).after ((Touches.foldS fun _ _ => touches_cycleFigures).after
      touches_fireProd)).after touches_setR).after (Touches.foldS fun _ _ => touches_spareUpdate.after touches_setAdc)) (.refl
      _))

theorem touches_adcCtlSet {a : ℕ} {v : W40} {s : State} : Touches [.regs, .adcs] s (adcCtlSet a v s) := by
  unfold adcCtlSet
  exact .mono ((Touches.ite (touches_putB.after (touches_putB.after touches_setAdc)) (.ite (touches_putB.after
      (touches_putB.after touches_setAdc)) (.refl _))).after (touches_spareUpdate.after touches_setR))

theorem touches_adcSettledRow {a0 : ℕ} {f : ℕ} {s : State} : Touches [.adcs, .regs] s (adcSettledRow a0 f s) := by
  unfold adcSettledRow
  exact .mono (.ite (touches_putB.after touches_setAdc) (.refl _))

theorem touches_overrangeRow {a0 : ℕ} {f : ℕ} {uv : List ℤ} {s : State} : Touches [.regs, .log] s (overrangeRow a0 f uv s) := by
  unfold overrangeRow
  exact .mono (.ite ((Touches.ite (touches_recordIf.after touches_bump) (.refl _)).after touches_bumpBy) (.refl _))

end Sys2Proof.Machine
end

section
/-! PROOF. What may change with the commands of the bias outputs. -/

set_option Elab.async false

namespace Sys2Proof.Machine

theorem touches_biasSlewStepRow {g : ℕ} {s : State} : Touches [.bias] s (biasSlewStepRow g s) := by
  unfold biasSlewStepRow
  extract_lets
  split
  · exact .mono (.ite (show Touches [.bias] _ _ by
        split
        · exact .mono touches_setBias
        · exact .mono touches_setBias
        · exact .mono touches_setBias
        · exact .mono (.refl _)) (.refl _))
  · exact .mono (.refl _)

theorem touches_spanSwitch {g : ℕ} {s : State} : Touches [.regs] s (spanSwitch g s) := by
  unfold spanSwitch
  exact .mono (touches_putF.after touches_putF)

theorem touches_spanDwellEndRow {g : ℕ} {s : State} : Touches [.bias, .regs] s (spanDwellEndRow g s) := by
  unfold spanDwellEndRow
  extract_lets
  split
  · exact .mono (.ite (touches_spanSwitch.after touches_setBias) (.refl _))
  · exact .mono (.ite (.ite touches_setBias touches_setBias) (.refl _))
  · exact .mono (.refl _)

theorem touches_biasIlimitRow {g : ℕ} {s : State} : Touches [.regs, .log] s (biasIlimitRow g s) := by
  unfold biasIlimitRow
  exact .mono (.ite (touches_recordIf.after touches_putB) (.refl _))

theorem touches_checkFlag {cnt : ℕ} {g : ℕ} {bitNo : ℕ} {code : ℕ} {s : State} : Touches [.regs, .log] s (checkFlag cnt g bitNo
    code s) := by
  unfold checkFlag
  exact .mono (.ite (touches_record.after touches_putB) (.refl _))

theorem touches_biasHeld {s : State} : Touches [.bias] s (biasHeld s) := by
  unfold biasHeld
  exact .mono Touches.bias

theorem touches_biasLoadMeasureRow {g : ℕ} {iload : ℤ} {diff : ℤ} {inl : ℕ} {s : State} : Touches [.bias, .regs, .log] s
    (biasLoadMeasureRow g iload diff inl s) := by
  unfold biasLoadMeasureRow
  exact .mono (.ite ((((touches_checkFlag.after (.ite (.refl _) touches_checkFlag)).after (.ite touches_putF (.refl _))).after
      touches_putF).after touches_setBias) (.refl _))

end Sys2Proof.Machine
end

section
/-! PROOF. What may change with the commands of the Binder. -/

set_option Elab.async false

namespace Sys2Proof.Machine

theorem touches_busTake {i : ℕ} {p : Posted} {s : State} : Touches [.bus] s (busTake i p s) := by
  unfold busTake
  exact .mono Touches.bus

theorem touches_busArrivalRow {i : ℕ} {s : State} : Touches [.bus, .vb, .agenda, .binder] s (busArrivalRow i s) := by
  unfold busArrivalRow
  split
  · exact .mono (.ite (touches_busArrival.after touches_busTake) (.refl _))
  · exact .mono (.refl _)

theorem touches_armSet {j : ℕ} {s : State} : Touches [.regs, .agenda, .force, .binder, .gran, .log, .halves, .mem, .rings,
    .host, .seqs] s (armSet j s) := by
  unfold armSet
  exact .mono (.ite (touches_brTryAll.after touches_roundOpen) (.refl _))

theorem touches_bndArm {v : W40} {s : State} : Touches [.regs, .agenda, .force, .binder, .gran, .log, .halves, .mem, .rings,
    .host, .seqs] s (bndArm v s) := by
  unfold bndArm
  exact .mono (.ite (Touches.foldS fun _ _ => touches_armSet) touches_armSet)

theorem touches_goSet {j : ℕ} {s : State} : Touches [.binder, .force, .agenda] s (goSet j s) := by
  unfold goSet
  exact .mono (.ite touches_setPset touches_setAdopt)

theorem touches_bndGo {s : State} : Touches [.binder, .regs, .force, .agenda, .gran, .log, .halves, .mem, .rings, .host, .seqs]
    s (bndGo s) := by
  unfold bndGo
  exact .mono ((((touches_brTryAll.after (touches_bndSettle.after touches_decAdoptReady)).after (Touches.foldS fun _ _ =>
      touches_setDecoder)).after (Touches.foldS fun _ _ => touches_goSet)).after (touches_putB.after (.ite (.refl _)
      Touches.binder)))

theorem touches_setStatSet {j : ℕ} {v : W40} {s : State} : Touches [.binder] s (setStatSet j v s) := by
  unfold setStatSet
  exact .mono (.ite (.refl _) touches_setPset)

theorem touches_binderDeadlineRow {j : ℕ} {s : State} : Touches [.binder] s (binderDeadlineRow j s) := by
  unfold binderDeadlineRow
  exact .mono (.ite touches_bndTake (.refl _))

theorem touches_commitWaitRow {s : State} : Touches [.binder, .log] s (commitWaitRow s) := by
  unfold commitWaitRow
  split
  · exact .mono (.ite (touches_record.after Touches.binder) (.refl _))
  · exact .mono (.refl _)

end Sys2Proof.Machine
end

section
/-! PROOF. What may change with the flush of the logs. -/

set_option Elab.async false

namespace Sys2Proof.Machine

theorem touches_logLost {d : ℕ} {n : ℕ} {s : State} : Touches [.regs] s (logLost d n s) := by
  unfold logLost
  exact .mono touches_bumpBy

theorem touches_logSlot {d : ℕ} {r : ℕ} {n : ℕ} {sl : List W40} {s : State} : Touches [.regs, .mem, .rings, .host] s (logSlot d
    r n sl s) := by
  unfold logSlot
  exact .mono (.ite touches_logLost touches_ringAppend)

theorem touches_setLogHalf {d : ℕ} {h : Option Half} {s : State} : Touches [.log] s (setLogHalf d h s) := by
  unfold setLogHalf
  exact .mono Touches.log

theorem touches_logFlush {d : ℕ} {s : State} : Touches [.log, .regs, .mem, .rings, .host] s (logFlush d s) := by
  unfold logFlush
  split
  · exact .mono (touches_logSlot.after touches_setLogHalf)
  · exact .mono (.refl _)

theorem touches_logPut {d : ℕ} {r : Rec} {s : State} : Touches [.regs, .log, .mem, .rings, .host] s (logPut d r s) := by
  unfold logPut
  exact .mono (.ite touches_logLost (show Touches [.log, .regs, .mem, .rings, .host] _ _ by
      extract_lets
      split
      · exact .mono (.ite (touches_logSlot.after touches_setLogHalf) (touches_setLogHalf.after touches_logFlush))
      · exact .mono touches_setLogHalf))

theorem touches_deliver {r : Rec} {s : State} : Touches [.regs, .log, .mem, .rings, .host] s (deliver r s) := by
  unfold deliver
  exact .mono ((Touches.foldS fun _ _ => touches_logPut).after touches_logPut)

theorem touches_logRecord {r : Rec} {s : State} : Touches [.log, .regs, .mem, .rings, .host] s (logRecord r s) := by
  unfold logRecord
  exact .mono (.ite (.ite Touches.log touches_logLost) touches_deliver)

theorem touches_earlyEnd {s : State} : Touches [.log, .regs, .mem, .rings, .host] s (earlyEnd s) := by
  unfold earlyEnd
  exact .mono (.ite ((Touches.foldS fun _ _ => touches_deliver).after Touches.log) (.refl _))

theorem touches_logTick {s : State} : Touches [.log, .pool, .regs, .mem, .rings, .host] s (logTick s) := by
  unfold logTick
  exact .mono ((Touches.foldS fun _ _ => touches_logRecord).after Touches.pool)

end Sys2Proof.Machine
end

section
/-! PROOF. What may change with the operations of the Granary. -/

set_option Elab.async false

namespace Sys2Proof.Machine

theorem touches_readEcc {e : Ecc} {a : ℕ} {s : State} : Touches [.regs, .log, .rings] s (readEcc e a s) := by
  unfold readEcc
  exact .mono (.ite ((Touches.ite touches_setRing (.refl _)).after touches_eccCount) touches_eccCount)

theorem touches_bar2Read {m : ℕ} {a : ℕ} {n : ℕ} {e : Ecc} {s : State} : Touches [.host, .log, .regs, .rings] s (bar2Read m a n
    e s) := by
  unfold bar2Read
  exact .mono ((Touches.ite (.refl _) (.ite (touches_record.after Touches.host) ((Touches.ite (.refl _) (touches_readEcc.after
      Touches.host)).after Touches.host))).after Touches.host)

theorem writeRange_wf {s : State} : ∀ {bs : List Byte} {a : ℕ} {m : List Host.Cell}, memWf m = true →
    memWf (writeRange s a bs m) = true
  | [], _, _, h => h
  | b :: bs, a, m, h => writeRange_wf (bs := bs) (by
      split
      · exact h
      · exact wrByte_wf a b h)

theorem touches_bar2Write {m a : ℕ} {bs : List Byte} {s : State} : Touches [.log, .mem, .gran] s (bar2Write m a bs s) := by
  have hbytes : Touches [.mem] s (setMem (writeRange s a bs s.gran.mem) s) := touches_setMem writeRange_wf
  unfold bar2Write
  exact .mono (.ite (.refl _) (.ite touches_record (.ite (touches_recordIf.after ((Touches.gran).after hbytes)) hbytes)))

theorem touches_headAdv {n : ℕ} {c : ℕ} {s : State} : Touches [.rings, .host, .regs] s (headAdv n c s) := by
  unfold headAdv
  exact .mono (.ite (.refl _) (touches_watermark.after touches_setRing))

theorem touches_ringHeadAdv {m : ℕ} {v : W40} {s : State} : Touches [.log, .rings, .host, .regs] s (ringHeadAdv m v s) := by
  unfold ringHeadAdv
  extract_lets
  split
  · exact .mono touches_ringRecord
  · exact .mono touches_headAdv

theorem touches_doorbell {m : ℕ} {v : W40} {s : State} : Touches [.log, .rings, .host, .regs, .ce] s (doorbell m v s) := by
  unfold doorbell
  exact .mono (.ite touches_ringRecord (.ite (.refl _) (.ite touches_ringRecord ((Touches.ite Touches.ce (.refl _)).after
      (touches_watermark.after touches_setRing)))))

theorem touches_regionSet {r : ℕ} {v : W40} {s : State} : Touches [.gran, .regs] s (regionSet r v s) := by
  unfold regionSet
  exact .mono (.ite (touches_putB.after Touches.gran) touches_setR)

/-- Granary memory takes contents in canonical form, and the region change that waits is over. -/
theorem touches_memScrub {m : List Host.Cell} {x : Option (ℕ × W40)} {s : State} (h : memWf s.gran.mem = true → memWf m = true) :
    Touches [.mem, .gran] s { s with gran := { s.gran with mem := m, scrub := x } } := by
  have hmem : Touches [.mem] s (setMem m s) := touches_setMem h
  have hscrub : Touches [.gran] (setMem m s) { s with gran := { s.gran with mem := m, scrub := x } } := .set _ rfl
  exact hscrub.after hmem

theorem touches_scrubDoneRow {s : State} : Touches [.mem, .gran, .regs] s (scrubDoneRow s) := by
  unfold scrubDoneRow
  split
  · exact .mono (touches_setR.after (touches_putB.after (touches_memScrub (filter_wf _))))
  · exact .mono (.refl _)


/-- The host's memory takes contents in canonical form. -/
theorem touches_hostMem {m : List Host.Cell} {s : State} (h : memWf s.gran.hostMem = true → memWf m = true) :
    Touches [.hostMem] s { s with gran := { s.gran with hostMem := m } } := by
  refine ⟨rfl, ⟨rfl, le_rfl, fun hs => ?_⟩, fun _ => List.prefix_rfl⟩
  simp only [memOk, Bool.and_eq_true] at hs ⊢
  exact ⟨⟨hs.1.1, h hs.1.2⟩, hs.2⟩

theorem touches_drainCopyRow {h : ℕ} {e : Ecc} {s : State} :
    Touches [.hostMem, .rings, .host, .regs, .log] s (drainCopyRow h e s) := by
  unfold drainCopyRow
  exact .mono (.ite (touches_eccCount.after (touches_watermark.after (touches_setRing.after (touches_watermark.after
    (touches_setRing.after (touches_hostMem fun hm => wrBytes_wf _ _ (wrBytes_wf _ _ hm))))))) (.refl _))

theorem touches_msixRelease {m : ℕ} {v : ℕ} {s : State} : Touches [.host] s (msixRelease m v s) := by
  unfold msixRelease
  exact .mono (.ite Touches.host (.refl _))

theorem touches_msixUnmaskRow {m : ℕ} {v : ℕ} {s : State} : Touches [.host] s (msixUnmaskRow m v s) := by
  unfold msixUnmaskRow
  exact .mono (.ite (touches_msixRelease.after Touches.host) (.refl _))

theorem touches_msixReleaseAll {m : ℕ} {s : State} : Touches [.host] s (msixReleaseAll m s) := by
  unfold msixReleaseAll
  exact .mono (Touches.foldS fun _ _ => .ite touches_msixRelease (.refl _))

theorem touches_evlogFlushRow {d : ℕ} {s : State} : Touches [.log, .regs, .mem, .rings, .host] s (evlogFlushRow d s) := by
  unfold evlogFlushRow
  split
  · exact .mono (.ite touches_logFlush (.refl _))
  · exact .mono (.refl _)

end Sys2Proof.Machine
end

section
/-! PROOF. What may change with the operations of NVM, fuses and boot. -/

set_option Elab.async false

namespace Sys2Proof.Machine

theorem touches_loftApply {x : ImageAt} {s : State} : Touches [.ce, .sec, .regs] s (loftApply x s) := by
  unfold loftApply
  exact .mono ((touches_setR.after (Touches.foldS fun _ _ => touches_setR)).after (Touches.set [.ce, .sec] rfl))

/-- The NVM takes contents in canonical form. -/
theorem touches_setNvm {m : List Host.Cell} {s : State} (h : memWf s.sec.nvm = true → memWf m = true) :
    Touches [.nvm] s (setNvm m s) := by
  refine ⟨rfl, ⟨rfl, le_rfl, fun hs => ?_⟩, fun _ => List.prefix_rfl⟩
  simp only [memOk, Bool.and_eq_true, setNvm] at hs ⊢
  exact ⟨hs.1, h hs.2⟩

theorem wrJournal_wf : ∀ {j : List (ℕ × Byte)} {m : List Host.Cell}, memWf m = true →
    memWf (j.foldl (fun m e => wrByte m e.1 e.2) m) = true
  | [], _, h => h
  | e :: j, _, h => wrJournal_wf (j := j) (wrByte_wf e.1 e.2 h)

/-- The NVM takes contents in canonical form, and the journal is empty. -/
theorem touches_nvmJournal {m : List Host.Cell} {j : List (ℕ × Byte)} {s : State} (h : memWf s.sec.nvm = true → memWf m = true) :
    Touches [.nvm, .sec] s { s with sec := { s.sec with nvm := m, journal := j } } := by
  have hnvm : Touches [.nvm] s (setNvm m s) := touches_setNvm h
  have hsec : Touches [.sec] (setNvm m s) { s with sec := { s.sec with nvm := m, journal := j } } := .set _ rfl
  exact hsec.after hnvm

theorem touches_journalRestore {s : State} : Touches [.nvm, .sec, .log] s (journalRestore s) := by
  unfold journalRestore
  split
  · exact .mono (.refl _)
  · exact .mono (touches_record.after (touches_nvmJournal wrJournal_wf))


theorem touches_ledgerSave {s : State} : Touches [.sec] s (ledgerSave s) := by
  unfold ledgerSave
  exact .mono Touches.sec

/-- An entry to STAGING or OFF keeps the fuses, the host's memory, the NVM, the linearisation sets and the queue. -/
theorem touches_keepAcross {l : Life} {s : State} : Touches [.life, .haltAt, .regs, .force, .time, .clock, .log, .pool, .lbReq, .lbWaited,
    .lbResume, .armAfter, .safePend, .holdHist, .lbHist, .ballHist, .seqs, .down, .crcDown, .cutTiles, .barriers, .wave, .drv, .prb,
    .flux, .outs, .bias, .adcs, .slots, .halves, .bus, .vb, .binder, .cores, .wits, .mem, .rings, .gran, .made, .ce, .fabric, .ports,
    .fed, .pair, .mon, .senses, .therm, .glean, .sec, .safeAt, .host, .pins, .agenda, .modeWas, .fresh] s (keepAcross l s) := by
  refine ⟨rfl, ⟨rfl, le_rfl, fun hs => ?_⟩, fun hp => absurd (by decide) hp⟩
  simp only [memOk, Bool.and_eq_true, keepAcross] at hs ⊢
  exact ⟨⟨rfl, hs.1.2⟩, hs.2⟩

theorem touches_railTick {s : State} : Touches [.regs] s (railTick s) := by
  unfold railTick
  exact .mono (.ite touches_putF (.refl _))

theorem touches_enterStaging {old : ℕ} {s : State} : Touches [.life, .haltAt, .regs, .force, .time, .clock, .log, .pool, .lbReq,
    .lbWaited, .lbResume, .armAfter, .safePend, .holdHist, .lbHist, .ballHist, .seqs, .down, .crcDown, .cutTiles, .barriers,
    .wave, .drv, .prb, .flux, .outs, .bias, .adcs, .slots, .halves, .bus, .vb, .binder, .cores, .wits, .mem, .rings, .gran,
    .made, .ce, .fabric, .ports, .fed, .pair, .mon, .senses, .therm, .glean, .sec, .safeAt, .host, .pins, .agenda, .modeWas,
    .fresh] s (enterStaging old s) := by
  unfold enterStaging
  exact .mono (((touches_record.after touches_putF).after (Touches.set [.therm, .pins] rfl)).after touches_keepAcross)

/-- The count that a cut burst leaves lies between the old one and the new one. -/
theorem touches_burstCut {s : State} : Touches [.rollback, .free] s (burstCut s) := by
  unfold burstCut
  split
  · next c hc =>
    refine ⟨rfl, ⟨rfl, ?_, id⟩, fun _ => List.prefix_rfl⟩
    simp only [burnt, hc, takeFree, Option.getD_some, Option.getD_none, min_self]
    omega
  · exact .mono (.refl _)

theorem touches_enterOff {s : State} : Touches [.rollback, .free, .life, .haltAt, .regs, .force, .time, .clock, .log, .pool, .lbReq,
    .lbWaited, .lbResume, .armAfter, .safePend, .holdHist, .lbHist, .ballHist, .seqs, .down, .crcDown, .cutTiles, .barriers,
    .wave, .drv, .prb, .flux, .outs, .bias, .adcs, .slots, .halves, .bus, .vb, .binder, .cores, .wits, .mem, .rings, .gran,
    .made, .ce, .fabric, .ports, .fed, .pair, .mon, .senses, .therm, .glean, .sec, .safeAt, .host, .pins, .agenda, .modeWas,
    .fresh] s (enterOff s) := by
  unfold enterOff
  exact .mono ((Touches.set [.therm, .pins] rfl).after (touches_keepAcross.after touches_burstCut))

end Sys2Proof.Machine
end

section
/-! PROOF. What may change with the commands of the witness engines. -/

set_option Elab.async false

namespace Sys2Proof.Machine

theorem touches_witOn {e : ℕ} {res : ℕ} {s : State} : Touches [.regs, .wits] s (witOn e res s) := by
  unfold witOn
  exact .mono (((Touches.ite touches_witArm (.refl _)).after touches_setWit).after touches_putB)

theorem touches_witOff {e : ℕ} {s : State} : Touches [.wits, .regs, .log, .rings, .host, .fabric] s (witOff e s) := by
  unfold witOff
  exact .mono ((touches_putB.after (touches_putB.after touches_setWit)).after touches_witCloseEarly)

theorem touches_witCtlSet {e : ℕ} {v : W40} {s : State} : Touches [.regs, .wits, .log, .rings, .host, .fabric] s (witCtlSet e v
    s) := by
  unfold witCtlSet
  exact .mono ((Touches.ite (.ite touches_putB touches_witOff) (.ite (.ite touches_record (touches_witOn.after touches_putB))
      (.refl _))).after touches_setR)

theorem touches_witForce {e : ℕ} {s : State} : Touches [.wits, .regs] s (witForce e s) := by
  unfold witForce
  exact .mono touches_witCauseAt

theorem touches_trigValue {e : ℕ} {i : ℕ} {q : ℤ × ℤ} {s : State} : Touches [.wits, .regs] s (trigValue e i q s) := by
  unfold trigValue
  exact .mono (.ite (.refl _) ((Touches.ite touches_witMet (.refl _)).after touches_setWit))

theorem touches_trigRun {e : ℕ} {f : Feed} {t0 : Tick} {n : ℕ} {s : State} : Touches [.wits, .regs] s (trigRun e f t0 n s) := by
  unfold trigRun
  exact .mono (Touches.foldS fun _ _ => .ite (Touches.foldS fun _ _ => Touches.foldS fun _ _ => touches_trigValue) (.refl _))

theorem touches_baleNotMade {e : ℕ} {lost : Option ℤ} {s : State} : Touches [.wits, .regs, .log] s (baleNotMade e lost s) := by
  unfold baleNotMade
  exact .mono (touches_baleDropped.after touches_setWit)

theorem touches_baleOpen {e : ℕ} {causes : ℕ} {primary : ℕ} {p : ℤ} {depth : ℕ} {c : Tick} {s : State} : Touches [.fabric,
    .wits, .regs, .log] s (baleOpen e causes primary p depth c s) := by
  unfold baleOpen
  exact .mono ((Touches.ite touches_baleNotMade touches_setWit).after touches_fireProd)

theorem touches_witCommit {e : ℕ} {s : State} : Touches [.fabric, .wits, .regs, .log] s (witCommit e s) := by
  unfold witCommit
  exact .mono (.ite (.refl _) (.ite (.ite touches_baleOpen (.refl _)) (show Touches [.wits, .fabric, .regs, .log] _ _ by
      split
      · exact .mono (.refl _)
      · exact .mono (.ite ((touches_witDrain.after touches_baleOpen).after touches_setWit) (.refl _)))))

theorem touches_witCommitRow {e : ℕ} {base : Tick} {t0 : Tick} {n : ℕ} {xs : List AdcTick} {s : State} : Touches [.wits, .regs,
    .fabric, .log] s (witCommitRow e base t0 n xs s) := by
  unfold witCommitRow
  exact .mono (.ite (touches_witCommit.after (.ite (.refl _) touches_trigRun)) (.refl _))

theorem touches_afterClose {e : ℕ} {b : Bale} {s : State} : Touches [.wits, .regs] s (afterClose e b s) := by
  unfold afterClose
  exact .mono (.ite touches_setWit (.ite (touches_witDrain.after touches_setWit) (touches_witDrain.after touches_setWit)))

theorem touches_baleWrite {e : ℕ} {b : Bale} {xs : List AdcTick} {s : State} : Touches [.mem] s (baleWrite e b xs s) := by
  unfold baleWrite
  split
  · exact touches_setMem (wrSlots_wf _ _ _)
  · exact .mono (.refl _)

theorem touches_baleCloseRow {e : ℕ} {xs : List AdcTick} {s : State} : Touches [.mem, .wits, .regs, .log, .rings, .host,
    .fabric] s (baleCloseRow e xs s) := by
  unfold baleCloseRow
  exact .mono (.ite (.refl _) (show Touches [.mem, .wits, .regs, .log, .rings, .host, .fabric] _ _ by
      split
      · exact .mono (touches_setWit.after touches_baleWrite)
      · exact .mono (.ite ((touches_afterClose.after touches_baleWrite).after touches_baleShut) (.refl _))
      · exact .mono (.refl _)))

theorem touches_witRearmRow {e : ℕ} {s : State} : Touches [.wits, .regs] s (witRearmRow e s) := by
  unfold witRearmRow
  exact .mono (.ite (show Touches [.wits, .regs] _ _ by
      split
      · exact .mono (.ite touches_witArmPos (.refl _))
      · exact .mono (.refl _)) (.refl _))

end Sys2Proof.Machine
end

section
/-! PROOF. What may change with the operations of the Ceari engine. -/

set_option Elab.async false

namespace Sys2Proof.Machine

variable {K : List Fld}

theorem touches_rejoin {n : ℕ} {k : ℕ} {s : State} : Touches [.ce] s (rejoin n k s) := by
  unfold rejoin
  exact .mono (.ite Touches.ce (.refl _))

theorem touches_consumeSlots {n : ℕ} {k : ℕ} {s : State} : Touches [.rings, .host, .regs, .ce] s (consumeSlots n k s) := by
  unfold consumeSlots
  exact .mono (touches_rejoin.after (touches_watermark.after touches_setRing))

theorem touches_noReply {n : ℕ} {tag : ℕ} {s : State} : Touches [.log] s (noReply n tag s) := by
  unfold noReply
  exact .mono touches_recordFor

theorem touches_beginHold {r : Routine} {s : State} : Touches [.slots, .binder] s (beginHold r s) := by
  unfold beginHold
  exact .mono (.ite touches_setSlot (.ite touches_setDecoder (.refl _)))

theorem touches_takePacket {n : ℕ} {e : Ecc} {s : State} :
    Touches [.ce, .regs, .log, .rings, .host, .slots, .binder] s (takePacket n e s) := by
  unfold takePacket
  extract_lets r k ce listed w0 w1 big
  have hlisted : Touches [.ce] s listed := Touches.ce
  split
  · exact .mono (touches_consumeSlots.after (touches_noReply.after (touches_eccCount.after hlisted)))
  · rename_i pc x st counted _ _
    have hcounted : Touches [.ce, .regs, .log] s counted := .mono (touches_eccCount.after hlisted)
    clear_value st
    split
    · exact .mono (Touches.ce.after hcounted)
    · exact .mono (touches_beginHold.after (Touches.ce.after hcounted))


theorem touches_packetStartRow {e : Ecc} {s : State} : Touches [.ce, .regs, .log, .rings, .host, .slots, .binder] s
    (packetStartRow e s) := by
  unfold packetStartRow
  exact .mono (.ite (.refl _) (show Touches [.ce, .regs, .log, .rings, .host, .slots, .binder] _ _ by
      split
      · exact .mono touches_takePacket
      · exact .mono (.refl _)))

variable {K L : List Fld}
theorem touches_opDo {op : ℕ} {f : Routine → State → State} {s : State} (h : ∀ r s, Touches K s (f r s)) :
    Touches K s (opDo op f s) := by
  unfold opDo
  split
  · split
    · exact h _ _
    · exact (Touches.refl s).mono fun _ => nofun
  · exact (Touches.refl s).mono fun _ => nofun

theorem touches_opRun {op : ℕ} {f : Routine → State → State} {s : State} (h : ∀ r s, Touches K s (f r s)) :
    Touches K s (opRun op f s) := by
  unfold opRun
  split
  · exact touches_opDo h
  · exact (Touches.refl s).mono fun _ => nofun

theorem touches_finish {st : ℕ} {res : List W40} {s : State} : Touches [.ce, .slots, .seqs, .fresh, .force, .prb, .drv, .regs,
    .log, .flux, .binder, .agenda, .gran, .halves, .mem, .rings, .host] s (finish st res s) := by
  unfold finish
  split
  · exact .mono (touches_releaseHold.after Touches.ce)
  · exact .mono (.refl _)

theorem touches_refuse {st : ℕ} {s : State} : Touches [.ce, .slots, .seqs, .fresh, .force, .prb, .drv, .regs, .log, .flux,
    .binder, .agenda, .gran, .halves, .mem, .rings, .host] s (refuse st s) := by
  unfold refuse
  split
  · exact .mono (touches_releaseHold.after Touches.ce)
  · exact .mono (.refl _)

theorem touches_park {s : State} : Touches [.ce] s (park s) := by
  unfold park
  split
  · exact .mono (touches_rejoin.after Touches.ce)
  · exact .mono (.refl _)

theorem touches_retire {r : Routine} {s : State} : Touches [.ce, .rings, .host, .regs] s (retire r s) := by
  unfold retire
  exact .mono ((Touches.ite touches_consumeSlots touches_rejoin).after Touches.ce)

theorem touches_overrun {r : Routine} {a1 : Tick} {s : State} : Touches [.log] s (overrun r a1 s) := by
  unfold overrun
  exact .mono touches_recordIf

theorem touches_replyWriteRow {e : Ecc} {s : State} : Touches [.log, .ce, .rings, .host, .regs, .mem] s (replyWriteRow e
    s) := by
  unfold replyWriteRow
  split
  · split
    · exact .mono (.ite (.refl _) (.ite (touches_retire.after touches_overrun) (.ite (touches_retire.after
          (touches_noReply.after touches_overrun)) (.ite (.refl _) ((Touches.ite touches_setRing (touches_retire.after
          (touches_ringAppend.after touches_overrun))).after touches_eccCount)))))
    · exact .mono (.refl _)
  · exact .mono (.refl _)

theorem touches_putBuf {a : ℕ} {ws : List W40} {s : State} : Touches [.mem] s (putBuf a ws s) := touches_setMem (wrWords_wf _ _)

theorem touches_withBuf {e : Ecc} {a n : ℕ} {f : List W40 → State → State} {s : State} (h : ∀ ws s, Touches K s (f ws s)) :
    Touches ([.ce, .slots, .seqs, .fresh, .force, .prb, .drv, .regs, .log, .flux, .binder, .agenda, .gran, .halves, .mem, .rings,
    .host] ++ K) s (withBuf e a n f s) := by
  have hcount := touches_eccCount (e := e) (a := a) (n := none) (s := s)
  unfold withBuf
  split
  · exact .right (h _ _)
  · dsimp only
    split
    · exact .left (.mono (touches_finish.after hcount))
    · refine (Touches.after (h _ _) hcount).mono fun f hf => List.mem_append.2 ((List.mem_append.1 hf).imp_left ?_)
      clear hf
      revert f
      decide


end Sys2Proof.Machine
end

section
/-! PROOF. What may change with the commands of the slots. -/

set_option Elab.async false

namespace Sys2Proof.Machine

theorem touches_countWindow {v : Win} {g : ℕ} {zs : List Sample} {s : State} : Touches [.regs, .slots] s (countWindow v g zs
    s) := by
  unfold countWindow
  exact .mono touches_noteSat

theorem touches_slotPost {x : Tick} {v : Win} {g : ℕ} {word : W40} {ref : Tick} {i : ℤ} {q : ℤ} {rec : Bool} {s : State} :
    Touches [.slots, .regs, .bus, .made] s (slotPost x v g word ref i q rec s) := by
  unfold slotPost
  exact .mono (((Touches.ite touches_resMake (.refl _)).after touches_postVerdict).after (touches_setR.after touches_setSlot))

theorem touches_replaceWin {g : ℕ} {v : Win} {u : Win} {s : State} : Touches [.slots] s (replaceWin g v u s) := by
  unfold replaceWin
  exact .mono touches_setSlot

theorem touches_winnowEval {x : Tick} {v : Win} {m : ℕ} {g : ℕ} {xs : List AdcTick} {s : State} : Touches [.regs, .slots,
    .fabric, .bus, .made] s (winnowEval x v m g xs s) := by
  unfold winnowEval
  exact .mono ((Touches.ite (((touches_slotPost.after touches_fireProd).after touches_bump).after touches_replaceWin)
      touches_replaceWin).after touches_countWindow)

theorem touches_winnowRow {g : ℕ} {m : ℕ} {xs : List AdcTick} {s : State} : Touches [.regs, .slots, .fabric, .bus, .made] s
    (winnowRow g m xs s) := by
  unfold winnowRow
  split
  · exact .mono (.ite touches_winnowEval (.refl _))
  · exact .mono (.refl _)

theorem touches_finalPost {v : Win} {g : ℕ} {xs : List AdcTick} {s : State} : Touches [.regs, .slots, .fabric, .log, .bus,
    .made] s (finalPost v g xs s) := by
  unfold finalPost
  exact .mono (((((touches_slotPost.after (.ite (touches_recordIf.after (touches_fireProd.after touches_bump)) (.refl _))).after
      (.ite touches_bump (.refl _))).after (touches_putF.after touches_putB)).after touches_setSlot).after touches_countWindow)

theorem touches_finalRow {g : ℕ} {xs : List AdcTick} {s : State} : Touches [.regs, .slots, .fabric, .log, .bus, .made] s
    (finalRow g xs s) := by
  unfold finalRow
  split
  · exact .mono (.ite touches_finalPost (.refl _))
  · exact .mono (.refl _)

theorem touches_absentRow {g : ℕ} {s : State} : Touches [.slots, .regs, .bus, .made] s (absentRow g s) := by
  unfold absentRow
  split
  · exact .mono (.ite (touches_slotPost.after touches_setSlot) (.refl _))
  · exact .mono (.refl _)

theorem touches_resultFlushRow {p : ℕ} {s : State} : Touches [.halves, .gran, .mem, .rings, .host, .regs, .log] s
    (resultFlushRow p s) := by
  unfold resultFlushRow
  split
  · exact .mono (.ite touches_resFlush (.refl _))
  · exact .mono (.refl _)

theorem touches_detectorRow {g : ℕ} {xs : List AdcTick} {s : State} : Touches [.regs, .slots, .fabric] s (detectorRow g xs
    s) := by
  unfold detectorRow
  exact .mono (.ite (.refl _) (.ite (.ite (.refl _) touches_setR) ((Touches.ite touches_setR ((Touches.ite touches_fireProd
      (.refl _)).after touches_setR)).after (touches_noteSat.after touches_setSlot))))

end Sys2Proof.Machine
end

section
/-! PROOF. What may change with the operations of the time. -/

set_option Elab.async false

namespace Sys2Proof.Machine

theorem touches_setFull {f : BitVec 64} {s : State} : Touches [.clock] s (setFull f s) := by
  unfold setFull
  exact .mono (Touches.set [.clock] rfl)

theorem touches_epochWrap {s : State} : Touches [.clock, .log] s (epochWrap s) := by
  unfold epochWrap
  exact .mono (touches_record.after (Touches.set [.clock] rfl))

theorem touches_slewBegin {a : Tick} {n : ℤ} {s : State} : Touches [.time] s (slewBegin a n s) := by
  unfold slewBegin
  exact .mono Touches.time

theorem touches_slewTick {s : State} : Touches [.time] s (slewTick s) := by
  unfold slewTick
  split
  · exact .mono (.ite Touches.time (.refl _))
  · exact .mono (.refl _)

theorem touches_shiftAll {d : ℤ} {s : State} : Touches [.time, .log, .lbReq, .lbResume, .armAfter, .safePend, .holdHist,
    .lbHist, .ballHist, .seqs, .barriers, .drv, .prb, .flux, .outs, .bias, .adcs, .slots, .halves, .bus, .binder, .cores, .wits,
    .made, .ce, .fabric, .ports, .fed, .pair, .mon, .senses, .therm, .glean, .safeAt, .agenda] s (shiftAll d s) := by
  unfold shiftAll
  exact .mono (Touches.setLog [.time, .log, .lbReq, .lbResume, .armAfter, .safePend, .holdHist, .lbHist, .ballHist, .seqs,
      .barriers, .drv, .prb, .flux, .outs, .bias, .adcs, .slots, .halves, .bus, .binder, .cores, .wits, .made, .ce, .fabric,
      .ports, .fed, .pair, .mon, .senses, .therm, .glean, .safeAt, .agenda] rfl fun _ => List.prefix_rfl)

theorem touches_requestStep {k : StepKind} {phase : ℤ} {sync : Bool} {s : State} : Touches [.time, .regs, .seqs] s (requestStep
    k phase sync s) := by
  unfold requestStep
  exact .mono ((touches_reasonsUpdate.after (touches_stepQuiet.after touches_putB)).after Touches.time)

theorem touches_fireAfterStep {old : Tick} {s : State} : Touches [.regs, .time] s (fireAfterStep old s) := by
  unfold fireAfterStep
  split
  · exact .mono ((Touches.time).after (.ite touches_putB (.refl _)))
  · exact .mono (.refl _)

theorem touches_binderStep {s : State} : Touches [.regs, .agenda, .binder] s (binderStep s) := by
  unfold binderStep
  exact .mono (Touches.foldS fun _ _ => .ite (.refl _) ((touches_decsBreak.after touches_setPset).after (touches_cancelSet.after
      touches_abandonRound)))

theorem touches_applyStep {r : StepReq} {x : Tick} {s : State} : Touches [.wits, .regs, .log, .rings, .host, .fabric, .time,
    .lbReq, .lbResume, .armAfter, .safePend, .holdHist, .lbHist, .ballHist, .seqs, .barriers, .drv, .prb, .flux, .outs, .bias,
    .adcs, .slots, .halves, .bus, .binder, .cores, .made, .ce, .ports, .fed, .pair, .mon, .senses, .therm, .glean, .safeAt,
    .agenda, .down, .clock] s (applyStep r x s) := by
  unfold applyStep
  exact .mono ((((((((touches_reasonsUpdate.after touches_putB).after touches_slewBegin).after Touches.time).after (.ite
      touches_putB (.refl _))).after (touches_binderStep.after touches_fireAfterStep)).after touches_recordAt).after
      (touches_setFull.after Touches.down)).after (touches_shiftAll.after touches_witStopAll))

theorem touches_timeStepRow {s : State} : Touches [.wits, .regs, .log, .rings, .host, .fabric, .time, .lbReq, .lbResume,
    .armAfter, .safePend, .holdHist, .lbHist, .ballHist, .seqs, .barriers, .drv, .prb, .flux, .outs, .bias, .adcs, .slots,
    .halves, .bus, .binder, .cores, .made, .ce, .ports, .fed, .pair, .mon, .senses, .therm, .glean, .safeAt, .agenda, .down,
    .clock] s (timeStepRow s) := by
  unfold timeStepRow
  split
  · split
    · exact .mono (.ite touches_applyStep (.refl _))
    · exact .mono (.refl _)
  · exact .mono (.refl _)

theorem touches_timeStepWaitRow {s : State} : Touches [.time, .log] s (timeStepWaitRow s) := by
  unfold timeStepWaitRow
  split
  · exact .mono (.ite (touches_record.after Touches.time) (.refl _))
  · exact .mono (.refl _)

theorem touches_barHeld {b : ℕ} {s : State} : Touches [.barriers, .regs, .log, .ports] s (barHeld b s) := by
  unfold barHeld
  exact .mono (.ite (touches_barCheck.after (touches_barSend.after touches_setBarrier)) (.refl _))

theorem touches_acquired {s : State} : Touches [.time, .regs, .barriers, .log, .ports] s (acquired s) := by
  unfold acquired
  exact .mono (((Touches.foldS fun _ _ => touches_barHeld).after (touches_putB.after touches_putB)).after Touches.time)

theorem touches_timeStepResumeRow {s : State} : Touches [.time, .wits, .regs, .barriers, .log, .ports, .seqs] s
    (timeStepResumeRow s) := by
  unfold timeStepResumeRow
  split
  · exact .mono (.ite ((touches_reasonsUpdate.after (.ite touches_acquired (.refl _))).after (touches_witArmAll.after
        Touches.time)) (.refl _))
  · exact .mono (.refl _)

theorem touches_acquire {off : ℤ} {s : State} : Touches [.time, .regs, .barriers, .log, .ports, .seqs] s (acquire off s) := by
  unfold acquire
  exact .mono (.ite touches_acquired (touches_requestStep.after touches_putB))

theorem touches_syncEdge {o : ℕ} {s : State} : Touches [.regs, .time, .log, .fabric, .seqs] s (syncEdge o s) := by
  unfold syncEdge
  exact .mono (.ite (.refl _) (.ite touches_bump (.ite (touches_recordIf.after (touches_bump.after ((Touches.time).after
      Touches.time))) (((Touches.ite touches_requestStep (.refl _)).after (.ite touches_fireProd (.refl _))).after
      ((Touches.time).after Touches.time)))))

theorem touches_stampPop {s : State} : Touches [.regs, .time] s ((stampPop s).2) := by
  unfold stampPop
  split
  · exact .mono touches_setR
  · exact .mono (touches_setR.after Touches.time)

theorem touches_pulseStart {x : Tick} {s : State} : Touches [.time, .agenda] s (pulseStart x s) := by
  unfold pulseStart
  exact .mono (touches_defer.after (touches_defer.after Touches.time))

theorem touches_pulseDown {s : State} : Touches [.time, .pins] s (pulseDown s) := by
  unfold pulseDown
  exact .mono (Touches.set [.time, .pins] rfl)

theorem touches_syncOutOff {s : State} : Touches [.time, .pins, .agenda] s (syncOutOff s) := by
  unfold syncOutOff
  exact .mono (Touches.set [.time, .pins, .agenda] rfl)

theorem touches_syncOutFireRow {s : State} : Touches [.time, .agenda] s (syncOutFireRow s) := by
  unfold syncOutFireRow
  split
  · exact .mono (.ite ((Touches.time).after touches_pulseStart) (.refl _))
  · exact .mono (.refl _)

theorem touches_syncOutCtl {v : W40} {s : State} : Touches [.regs, .time, .pins, .agenda] s (syncOutCtl v s) := by
  unfold syncOutCtl
  exact .mono ((Touches.ite (.ite Touches.time (touches_putB.after Touches.time)) (.ite Touches.time touches_syncOutOff)).after
      touches_setR)

theorem touches_syncOutTime {v : W40} {s : State} : Touches [.regs, .time] s (syncOutTime v s) := by
  unfold syncOutTime
  exact .mono ((Touches.ite Touches.time (.refl _)).after touches_setR)

theorem touches_syncOutEvent {x : Tick} {s : State} : Touches [.regs, .agenda] s (syncOutEvent x s) := by
  unfold syncOutEvent
  exact .mono (.ite touches_bump touches_defer)

theorem touches_ptmBegin {s : State} : Touches [.time] s (ptmBegin s) := by
  unfold ptmBegin
  exact .mono (.ite Touches.time (.refl _))

theorem touches_ptmLost {s : State} : Touches [.time, .log] s (ptmLost s) := by
  unfold ptmLost
  split
  · exact .mono (.ite (touches_record.after Touches.time) (.refl _))
  · exact .mono (.refl _)

theorem touches_ptmPairIn {turn : BitVec 32} {host : BitVec 64} {s : State} : Touches [.time, .log] s (ptmPairIn turn host
    s) := by
  unfold ptmPairIn
  split
  · exact .mono (.ite touches_ptmLost Touches.time)
  · exact .mono (.refl _)

theorem touches_ptmLatch {s : State} : Touches [.regs] s ((ptmLatch s).2) := by
  unfold ptmLatch
  exact .mono (touches_setR.after (touches_setR.after touches_setR))

theorem touches_tickNowRead {s : State} : Touches [.regs] s ((tickNowRead s).2) := by
  unfold tickNowRead
  exact .mono touches_setR

end Sys2Proof.Machine
end

section
/-! PROOF. What may change with the commands of the time. -/

set_option Elab.async false

namespace Sys2Proof.Machine

theorem touches_syncInEdgeRow {off : ℕ} {s : State} : Touches [.regs, .time, .log, .fabric, .seqs] s (syncInEdgeRow off s) := by
  unfold syncInEdgeRow
  exact .mono (.ite touches_syncEdge (.refl _))

theorem touches_ptmDialogRow {s : State} : Touches [.time] s (ptmDialogRow s) := by
  unfold ptmDialogRow
  exact .mono (.ite touches_ptmBegin (.refl _))

theorem touches_enterSafeTimeoutRow {s : State} : Touches [.safePend, .barriers, .seqs, .log, .slots, .regs, .force, .prb, .drv,
    .flux, .outs, .pair, .ce, .time, .therm, .bias, .wits, .rings, .host, .fabric, .life, .lbReq, .lbWaited, .lbResume,
    .armAfter] s (enterSafeTimeoutRow s) := by
  unfold enterSafeTimeoutRow
  split
  · exact .mono (.ite touches_enterSafeForced (.refl _))
  · exact .mono (.refl _)

end Sys2Proof.Machine
end

section
/-! PROOF. What may change with the routines of the Ceari engine. -/

set_option Elab.async false

namespace Sys2Proof.Machine

theorem touches_doEcho {s : State} : Touches [.ce, .slots, .seqs, .fresh, .force, .prb, .drv, .regs, .log, .flux, .binder,
    .agenda, .gran, .halves, .mem, .rings, .host] s (doEcho s) := by
  unfold doEcho
  exact .mono (touches_opRun (fun _ _ => touches_finish))

theorem touches_doDevInfo {s : State} : Touches [.ce, .slots, .seqs, .fresh, .force, .prb, .drv, .regs, .log, .flux, .binder,
    .agenda, .gran, .halves, .mem, .rings, .host] s (doDevInfo s) := by
  unfold doDevInfo
  exact .mono (touches_opRun (fun _ _ => touches_finish))

theorem touches_doEnterReady {s : State} : Touches [.ce, .slots, .seqs, .fresh, .force, .prb, .drv, .regs, .log, .flux, .binder,
    .agenda, .gran, .halves, .mem, .rings, .host, .life, .time, .fed, .pair, .outs, .lbReq, .lbWaited, .bias, .lbResume,
    .armAfter, .wits] s (doEnterReady s) := by
  unfold doEnterReady
  exact .mono (touches_opRun (fun _ _ => .ite touches_refuse (touches_finish.after touches_enterReady)))

theorem touches_doEnterSafe {s : State} : Touches [.safePend, .ce, .seqs, .time, .therm, .bias, .wits, .regs, .log, .rings,
    .host, .fabric, .life, .lbReq, .lbWaited, .lbResume, .armAfter, .slots] s (doEnterSafe s) := by
  unfold doEnterSafe
  exact .mono (touches_opRun (fun _ _ => touches_quietCheck.after (touches_reasonsUpdate.after (touches_park.after
      Touches.safePend))))

theorem touches_doTimeSet {s : State} : Touches [.ce, .slots, .seqs, .fresh, .force, .prb, .drv, .regs, .log, .flux, .binder,
    .agenda, .gran, .halves, .mem, .rings, .host, .time] s (doTimeSet s) := by
  unfold doTimeSet
  exact .mono (touches_opRun (fun _ _ => .ite touches_refuse (.ite touches_refuse (.ite touches_refuse (touches_finish.after
      touches_requestStep)))))

theorem touches_rejoinFed {s : State} : Touches [.regs] s (rejoinFed s) := by
  unfold rejoinFed
  exact .mono (.ite (touches_putF.after touches_putB) (.refl _))

theorem touches_beginAcquire {s : State} : Touches [.time, .fed, .regs] s (beginAcquire s) := by
  unfold beginAcquire
  exact .mono (touches_putF.after (Touches.set [.time, .fed] rfl))

theorem touches_doReacquire {s : State} : Touches [.ce, .slots, .seqs, .fresh, .force, .prb, .drv, .regs, .log, .flux, .binder,
    .agenda, .gran, .halves, .mem, .rings, .host, .time, .fed] s (doReacquire s) := by
  unfold doReacquire
  exact .mono (touches_opRun (fun _ _ => .ite touches_refuse ((touches_finish.after (.ite (.refl _) touches_beginAcquire)).after
      (touches_putF.after touches_rejoinFed))))

theorem touches_doRingAssign {s : State} : Touches [.ce, .slots, .seqs, .fresh, .force, .prb, .drv, .regs, .log, .flux, .binder,
    .agenda, .gran, .halves, .mem, .rings, .host] s (doRingAssign s) := by
  unfold doRingAssign
  exact .mono (touches_opRun (fun _ _ => .ite touches_refuse (.ite touches_refuse (touches_finish.after touches_setRing))))

theorem touches_undrain {n : ℕ} {x : Ring} {s : State} : Touches [.rings] s (undrain n x s) := by
  unfold undrain
  exact .mono (.ite touches_setRing (.refl _))

theorem touches_doRingConfig {s : State} : Touches [.ce, .slots, .seqs, .fresh, .force, .prb, .drv, .regs, .log, .flux, .binder,
    .agenda, .gran, .halves, .mem, .rings, .host] s (doRingConfig s) := by
  unfold doRingConfig
  exact .mono (touches_opRun (fun _ _ => (show Touches [.ce, .slots, .seqs, .fresh, .force, .prb, .drv, .regs, .log, .flux,
      .binder, .agenda, .gran, .halves, .mem, .rings, .host] _ _ by
      extract_lets
      split
      · exact .mono touches_refuse
      · exact .mono (((touches_finish.after touches_setRing).after (.ite touches_setRing (.refl _))).after (.ite touches_undrain
            (.refl _))))))

theorem touches_baleAbandon {n : ℕ} {e : ℕ} {s : State} : Touches [.wits, .regs, .log] s (baleAbandon n e s) := by
  unfold baleAbandon
  split
  · exact .mono (.ite (touches_witArm.after (touches_baleNotMade.after touches_setWit)) (.refl _))
  · exact .mono (.refl _)

theorem touches_balesGone {n : ℕ} {s : State} : Touches [.wits] s (balesGone n s) := by
  unfold balesGone
  exact .mono (Touches.foldS fun _ _ => touches_setWit)

theorem touches_ringDiscard {n : ℕ} {s : State} : Touches [.wits, .rings, .gran, .regs, .log, .halves, .ce, .mem] s (ringDiscard n s) := by
  unfold ringDiscard
  extract_lets x abandoned dropped keep ce kept
  have hkept : Touches [.wits, .rings, .gran, .regs, .log, .halves, .ce] s kept :=
    .mono (Touches.ce.after ((Touches.foldS fun _ _ => touches_producerDrop.after touches_delHalf).after
      (Touches.foldS fun _ _ => touches_baleAbandon)))
  exact .mono (.ite ((touches_setMem (zeroRange_wf _ _)).after hkept) hkept)

theorem touches_doRingResize {e : Ecc} {s : State} : Touches [.ce, .slots, .seqs, .fresh, .force, .prb, .drv, .regs, .log,
    .flux, .binder, .agenda, .gran, .halves, .mem, .rings, .host, .wits] s (doRingResize e s) := by
  unfold doRingResize
  exact .mono (touches_opRun (fun _ _ => (show Touches [.ce, .slots, .seqs, .fresh, .force, .prb, .drv, .regs, .log, .flux,
      .binder, .agenda, .gran, .halves, .mem, .rings, .host, .wits] _ _ by
      extract_lets
      split
      · exact .mono touches_refuse
      · exact .mono ((Touches.ite (touches_finish.after touches_setRing) ((((((touches_finish.after touches_watermark).after
            Touches.ce).after touches_setRing).after (.ite touches_undrain (.refl _))).after Touches.ce).after
            (touches_balesGone.after (.ite touches_ringDiscard (.refl _))))).after touches_eccCount))))

theorem touches_doRingClear {s : State} : Touches [.rings, .ce, .slots, .seqs, .fresh, .force, .prb, .drv, .regs, .log, .flux,
    .binder, .agenda, .gran, .halves, .mem, .host] s (doRingClear s) := by
  unfold doRingClear
  exact .mono (touches_opRun (fun _ _ => touches_finish.after touches_setRing))

theorem touches_doRingQuery {s : State} : Touches [.regs, .log, .ce, .slots, .seqs, .fresh, .force, .prb, .drv, .flux, .binder,
    .agenda, .gran, .halves, .mem, .rings, .host] s (doRingQuery s) := by
  unfold doRingQuery
  exact .mono (touches_opRun (fun _ _ => .ite (touches_finish.after touches_eccCount) touches_finish))

theorem touches_doSeqLoad {e : Ecc} {s : State} : Touches [.ce, .slots, .seqs, .fresh, .force, .prb, .drv, .regs, .log, .flux,
    .binder, .agenda, .gran, .halves, .mem, .rings, .host] s (doSeqLoad e s) := by
  unfold doSeqLoad
  exact .mono (touches_opRun (fun _ _ => (show Touches [.ce, .slots, .seqs, .fresh, .force, .prb, .drv, .regs, .log, .flux,
      .binder, .agenda, .gran, .halves, .mem, .rings, .host] _ _ by
      extract_lets
      split
      · exact .mono touches_refuse
      · exact .mono (.ite touches_finish (touches_withBuf (fun _ _ => .ite touches_refuse (touches_finish.after
            touches_modSeq)))))))

theorem touches_doSeqRead {s : State} : Touches [.ce, .slots, .seqs, .fresh, .force, .prb, .drv, .regs, .log, .flux, .binder,
    .agenda, .gran, .halves, .mem, .rings, .host] s (doSeqRead s) := by
  unfold doSeqRead
  exact .mono (touches_opRun (fun _ _ => (show Touches [.ce, .slots, .seqs, .fresh, .force, .prb, .drv, .regs, .log, .flux,
      .binder, .agenda, .gran, .halves, .mem, .rings, .host] _ _ by
      extract_lets
      split
      · exact .mono touches_refuse
      · exact .mono (touches_finish.after touches_putBuf))))

theorem touches_doWaveLoad {x : LoadTurn} {s : State} : Touches [.ce, .slots, .seqs, .fresh, .force, .prb, .drv, .regs, .log,
    .flux, .binder, .agenda, .gran, .halves, .mem, .rings, .host, .wave] s (doWaveLoad x s) := by
  unfold doWaveLoad
  exact .mono (touches_opRun (fun _ _ => (show Touches [.ce, .slots, .seqs, .fresh, .force, .prb, .drv, .regs, .log, .flux,
      .binder, .agenda, .gran, .halves, .mem, .rings, .host, .wave] _ _ by
      extract_lets
      split
      · exact .mono touches_refuse
      · exact .mono (touches_withBuf (fun _ _ => (Touches.ite touches_finish (.refl _)).after (touches_progressRoutine.after
            Touches.wave))))))

theorem touches_doWaveRead {s : State} : Touches [.ce, .slots, .seqs, .fresh, .force, .prb, .drv, .regs, .log, .flux, .binder,
    .agenda, .gran, .halves, .mem, .rings, .host] s (doWaveRead s) := by
  unfold doWaveRead
  exact .mono (touches_opRun (fun _ _ => (show Touches [.ce, .slots, .seqs, .fresh, .force, .prb, .drv, .regs, .log, .flux,
      .binder, .agenda, .gran, .halves, .mem, .rings, .host] _ _ by
      extract_lets
      split
      · exact .mono touches_refuse
      · exact .mono (touches_finish.after touches_putBuf))))

theorem touches_doCoreLoad {e : Ecc} {s : State} : Touches [.ce, .slots, .seqs, .fresh, .force, .prb, .drv, .regs, .log, .flux,
    .binder, .agenda, .gran, .halves, .mem, .rings, .host, .cores] s (doCoreLoad e s) := by
  unfold doCoreLoad
  exact .mono (touches_opRun (fun _ _ => (show Touches [.ce, .slots, .seqs, .fresh, .force, .prb, .drv, .regs, .log, .flux,
      .binder, .agenda, .gran, .halves, .mem, .rings, .host, .cores] _ _ by
      extract_lets
      split
      · exact .mono touches_refuse
      · exact .mono (touches_withBuf (fun _ _ => touches_finish.after touches_setCore)))))

theorem touches_doCoreRead {s : State} : Touches [.ce, .slots, .seqs, .fresh, .force, .prb, .drv, .regs, .log, .flux, .binder,
    .agenda, .gran, .halves, .mem, .rings, .host] s (doCoreRead s) := by
  unfold doCoreRead
  exact .mono (touches_opRun (fun _ _ => (show Touches [.ce, .slots, .seqs, .fresh, .force, .prb, .drv, .regs, .log, .flux,
      .binder, .agenda, .gran, .halves, .mem, .rings, .host] _ _ by
      extract_lets
      split
      · exact .mono touches_refuse
      · exact .mono (touches_finish.after touches_putBuf))))

theorem touches_doKernelLoad {e : Ecc} {s : State} : Touches [.ce, .slots, .seqs, .fresh, .force, .prb, .drv, .regs, .log,
    .flux, .binder, .agenda, .gran, .halves, .mem, .rings, .host] s (doKernelLoad e s) := by
  unfold doKernelLoad
  exact .mono (touches_opRun (fun _ _ => (show Touches [.ce, .slots, .seqs, .fresh, .force, .prb, .drv, .regs, .log, .flux,
      .binder, .agenda, .gran, .halves, .mem, .rings, .host] _ _ by
      extract_lets
      split
      · exact .mono touches_refuse
      · exact .mono (touches_withBuf (fun _ _ => touches_finish.after touches_setSlot)))))

theorem touches_doTableLoad {e : Ecc} {s : State} : Touches [.ce, .slots, .seqs, .fresh, .force, .prb, .drv, .regs, .log, .flux,
    .binder, .agenda, .gran, .halves, .mem, .rings, .host] s (doTableLoad e s) := by
  unfold doTableLoad
  exact .mono (touches_opRun (fun _ _ => (show Touches [.ce, .slots, .seqs, .fresh, .force, .prb, .drv, .regs, .log, .flux,
      .binder, .agenda, .gran, .halves, .mem, .rings, .host] _ _ by
      extract_lets
      split
      · exact .mono touches_refuse
      · exact .mono (touches_withBuf (fun _ _ => touches_finish.after touches_setDecoder)))))

theorem touches_doSelfCal {s : State} : Touches [.adcs, .regs, .ce] s (doSelfCal s) := by
  unfold doSelfCal
  exact .mono (touches_opRun (fun _ _ => touches_park.after touches_calBegin))

theorem touches_doWitStop {s : State} : Touches [.wits, .regs, .log, .rings, .host, .fabric, .ce] s (doWitStop s) := by
  unfold doWitStop
  exact .mono (touches_opRun (fun _ _ => (touches_park.after Touches.ce).after (Touches.foldS fun _ _ => touches_witOff)))

theorem touches_doNvmRead {s : State} : Touches [.ce, .slots, .seqs, .fresh, .force, .prb, .drv, .regs, .log, .flux, .binder,
    .agenda, .gran, .halves, .mem, .rings, .host] s (doNvmRead s) := by
  unfold doNvmRead
  exact .mono (touches_opRun (fun _ _ => (show Touches [.ce, .slots, .seqs, .fresh, .force, .prb, .drv, .regs, .log, .flux,
      .binder, .agenda, .gran, .halves, .mem, .rings, .host] _ _ by
      extract_lets
      split
      · exact .mono touches_refuse
      · exact .mono (touches_finish.after (touches_setMem (wrBytes_wf _ _))))))

theorem touches_nvmBegin {op : ℕ} {a : ℕ} {bs : List Byte} {s : State} : Touches [.nvm, .free, .sec, .ce] s (nvmBegin op a bs
    s) := by
  unfold nvmBegin
  exact .mono ((touches_park.after (touches_progressRoutine.after Touches.sec)).after (touches_takeFree.after (touches_setNvm
      (wrBytes_wf _ _))))

theorem touches_nvmCommit {a : ℕ} {bs : List Byte} {s : State} : Touches [.sec, .nvm] s (nvmCommit a bs s) := by
  unfold nvmCommit
  exact .mono ((touches_setNvm (wrBytes_wf _ _)).after Touches.sec)

theorem touches_keepBytes {bs : List Byte} {s : State} : Touches [.ce] s (keepBytes bs s) := by
  unfold keepBytes
  exact .mono Touches.ce

theorem touches_doNvmWrite {e : Ecc} {s : State} : Touches [.ce, .slots, .seqs, .fresh, .force, .prb, .drv, .regs, .log, .flux,
    .binder, .agenda, .gran, .halves, .mem, .rings, .host, .nvm, .free, .sec] s (doNvmWrite e s) := by
  unfold doNvmWrite
  exact .mono (touches_opRun (fun _ _ => (show Touches [.ce, .slots, .seqs, .fresh, .force, .prb, .drv, .regs, .log, .flux,
      .binder, .agenda, .gran, .halves, .mem, .rings, .host, .nvm, .free, .sec] _ _ by
      extract_lets
      split
      · exact .mono touches_refuse
      · exact .mono (.ite touches_finish ((Touches.ite touches_finish (touches_nvmBegin.after touches_keepBytes)).after
            touches_eccCount)))))

theorem touches_doFwInstall {e : Ecc} {s : State} : Touches [.ce, .slots, .seqs, .fresh, .force, .prb, .drv, .regs, .log, .flux,
    .binder, .agenda, .gran, .halves, .mem, .rings, .host, .nvm, .free, .sec] s (doFwInstall e s) := by
  unfold doFwInstall
  exact .mono (touches_opRun (fun _ _ => (show Touches [.ce, .slots, .seqs, .fresh, .force, .prb, .drv, .regs, .log, .flux,
      .binder, .agenda, .gran, .halves, .mem, .rings, .host, .nvm, .free, .sec] _ _ by
      extract_lets
      split
      · exact .mono touches_refuse
      · exact .mono (.ite touches_refuse (.ite touches_finish ((Touches.ite touches_finish (show Touches [.ce, .slots, .seqs,
            .fresh, .force, .prb, .drv, .regs, .log, .flux, .binder, .agenda, .gran, .halves, .mem, .rings, .host, .nvm, .free,
            .sec] _ _ by
            split
            · exact .mono touches_finish
            · exact .mono (touches_nvmBegin.after touches_keepBytes))).after touches_eccCount))))))

theorem touches_doRestSet {s : State} : Touches [.sec, .ce] s (doRestSet s) := by
  unfold doRestSet
  exact .mono (touches_opRun (fun _ _ => touches_park.after Touches.sec))

theorem touches_doLinSet {_e : Ecc} {s : State} : Touches [.ce, .slots, .seqs, .fresh, .force, .prb, .drv, .regs, .log, .flux,
    .binder, .agenda, .gran, .halves, .mem, .rings, .host, .sec] s (doLinSet _e s) := by
  unfold doLinSet
  exact .mono (touches_opRun (fun _ _ => .ite touches_refuse (touches_park.after Touches.sec)))

theorem touches_nvmEffect {r : Routine} {s : State} : Touches [.sec, .nvm, .lins] s ((nvmEffect r s).1) := by
  unfold nvmEffect
  split
  · exact .mono touches_nvmCommit
  · exact .mono ((Touches.sec).after touches_nvmCommit)
  · exact .mono ((Touches.ite Touches.sec Touches.sec).after Touches.sec)
  · exact .mono (Touches.lins.after Touches.sec)

theorem touches_selftestEnd {r : Routine} {s : State} : Touches [.log] s (selftestEnd r s) := by
  unfold selftestEnd
  exact .mono ((Touches.foldS fun _ _ => touches_record).after (Touches.foldS fun _ _ => touches_record))

theorem touches_parkedDone {r r' : Routine} {s s' : State} (h : parkedDone r s = some (r', s')) :
    Touches [.sec, .nvm, .lins, .log] s s' := by
  unfold parkedDone at h
  split at h
  · cases h
    exact .mono (.refl _)
  · split at h
    · cases h
      exact .mono touches_nvmEffect
    · split at h
      · cases h
        exact .mono touches_selftestEnd
      · split at h
        · cases h
          exact .mono (.refl _)
        · cases h

theorem touches_routineResumeRow {i : ℕ} {s : State} : Touches [.ce, .sec, .nvm, .lins, .log] s (routineResumeRow i s) := by
  unfold routineResumeRow
  split
  · exact .mono (.refl _)
  · split
    · split
      · next h => exact .mono (Touches.ce.after (touches_parkedDone h))
      · exact .mono (.refl _)
    · exact .mono (.refl _)


theorem touches_doRollback {s : State} : Touches [.rollback, .regs, .ce, .slots, .seqs, .fresh, .force, .prb, .drv, .log, .flux,
    .binder, .agenda, .gran, .halves, .mem, .rings, .host] s (doRollback s) := by
  refine touches_opRun fun r s => ?_
  dsimp only
  split
  · exact .mono touches_refuse
  · split
    · exact .mono touches_finish
    · split
      · exact .mono touches_refuse
      · next hlow _ =>
        have hburn : Touches [.rollback] s { s with sec := { s.sec with
            rollback := (prm r 0).toNat, burst := some (s.sec.burst.getD s.sec.rollback) } } := by
          refine ⟨rfl, ⟨rfl, ?_, id⟩, fun _ => List.prefix_rfl⟩
          simp only [burnt, Option.getD_some]
          omega
        exact .mono (touches_finish.after (touches_putF.after hburn))

theorem touches_doLoftLoad {e : Ecc} {s : State} : Touches [.ce, .slots, .seqs, .fresh, .force, .prb, .drv, .regs, .log, .flux,
    .binder, .agenda, .gran, .halves, .mem, .rings, .host, .sec] s (doLoftLoad e s) := by
  unfold doLoftLoad
  exact .mono (touches_opRun (fun _ _ => (show Touches [.ce, .slots, .seqs, .fresh, .force, .prb, .drv, .regs, .log, .flux,
      .binder, .agenda, .gran, .halves, .mem, .rings, .host, .sec] _ _ by
      extract_lets
      split
      · exact .mono touches_refuse
      · exact .mono (.ite touches_finish (.ite touches_refuse (.ite touches_refuse ((Touches.ite touches_finish (show Touches
            [.regs, .ce, .slots, .seqs, .fresh, .force, .prb, .drv, .log, .flux, .binder, .agenda, .gran, .halves, .mem, .rings,
            .host, .sec] _ _ by
            split
            · exact .mono (touches_finish.after touches_putB)
            · exact .mono (.ite touches_refuse (touches_finish.after touches_loftApply)))).after touches_eccCount)))))))

theorem touches_doIdentity {s : State} : Touches [.ce, .slots, .seqs, .fresh, .force, .prb, .drv, .regs, .log, .flux, .binder,
    .agenda, .gran, .halves, .mem, .rings, .host] s (doIdentity s) := by
  unfold doIdentity
  exact .mono (touches_opRun (fun _ _ => (show Touches [.ce, .slots, .seqs, .fresh, .force, .prb, .drv, .regs, .log, .flux,
      .binder, .agenda, .gran, .halves, .mem, .rings, .host] _ _ by
      extract_lets
      split
      · exact .mono touches_refuse
      · exact .mono (touches_finish.after (touches_setMem (wrBytes_wf _ _))))))

theorem touches_doAttest {s : State} : Touches [.ce, .slots, .seqs, .fresh, .force, .prb, .drv, .regs, .log, .flux, .binder,
    .agenda, .gran, .halves, .mem, .rings, .host, .free] s (doAttest s) := by
  unfold doAttest
  exact .mono (touches_opRun (fun _ _ => (show Touches [.ce, .slots, .seqs, .fresh, .force, .prb, .drv, .regs, .log, .flux,
      .binder, .agenda, .gran, .halves, .mem, .rings, .host, .free] _ _ by
      split
      · exact .mono touches_refuse
      · exact .mono (.ite touches_refuse (touches_finish.after (touches_takeFree.after (touches_setMem (wrBytes_wf _ _))))))))

end Sys2Proof.Machine
end

section
/-! PROOF. What may change with the signal cores. -/

set_option Elab.async false

namespace Sys2Proof.Machine

variable {K : List Fld}

theorem touches_coreFault {kind : ℕ} {k : ℕ} {s : State} : Touches [.cores, .log] s (coreFault kind k s) := by
  unfold coreFault
  exact .mono (touches_record.after touches_setCore)

theorem touches_stick {k : ℕ} {bits : List ℕ} {s : State} : Touches [.regs] s (stick k bits s) := by
  unfold stick
  exact .mono (Touches.foldS fun _ _ => touches_putB)

theorem touches_coreExec {e : Tick} {ticks : ℕ} {k : ℕ} {f : CoreOp} {s : State} : Touches [.cores, .regs] s (coreExec e ticks k
    f s) := by
  unfold coreExec
  exact .mono (touches_stick.after touches_setCore)

theorem touches_coreRow {op k : ℕ} {okField : BitVec 80 → Bool} {act : Tick → BitVec 80 → State → State} {s : State}
    (h : ∀ x v s, Touches K s (act x v s)) : Touches ([.cores, .log] ++ K) s (coreRow op k okField act s) := by
  have hfault {kind : ℕ} : Touches [.cores, .log] s (coreFault kind k s) := touches_coreFault
  unfold coreRow
  dsimp only
  split
  · split
    · exact .left hfault
    · split
      · split
        · exact .right (h _ _ _)
        · exact .left hfault
      · exact .left (.mono (.refl _))
  · exact .left (.mono (.refl _))

theorem touches_simpleRow {op : ℕ} {k : ℕ} {okField : BitVec 80 → Bool} {f : BitVec 80 → CoreOp} {s : State} : Touches [.cores,
    .log, .regs] s (simpleRow op k okField f s) := by
  unfold simpleRow
  exact .mono (touches_coreRow (fun _ _ _ => touches_coreExec))

theorem touches_coreNopRow {k : ℕ} {s : State} : Touches [.cores, .log, .regs] s (coreNopRow k s) := by
  unfold coreNopRow
  exact .mono touches_simpleRow

theorem touches_coreMacRow {k : ℕ} {s : State} : Touches [.cores, .log, .regs] s (coreMacRow k s) := by
  unfold coreMacRow
  exact .mono touches_simpleRow

theorem touches_coreAluRow {k : ℕ} {s : State} : Touches [.cores, .log, .regs] s (coreAluRow k s) := by
  unfold coreAluRow
  exact .mono touches_simpleRow

theorem touches_coreAccRow {k : ℕ} {s : State} : Touches [.cores, .log, .regs] s (coreAccRow k s) := by
  unfold coreAccRow
  exact .mono touches_simpleRow

theorem touches_coreNormRow {k : ℕ} {s : State} : Touches [.cores, .log, .regs] s (coreNormRow k s) := by
  unfold coreNormRow
  exact .mono touches_simpleRow

theorem touches_coreExpRow {k : ℕ} {s : State} : Touches [.cores, .log, .regs] s (coreExpRow k s) := by
  unfold coreExpRow
  exact .mono touches_simpleRow

theorem touches_coreLdiRow {k : ℕ} {s : State} : Touches [.cores, .log, .regs] s (coreLdiRow k s) := by
  unfold coreLdiRow
  exact .mono touches_simpleRow

theorem touches_setagRow {k : ℕ} {s : State} : Touches [.cores, .log, .regs] s (setagRow k s) := by
  unfold setagRow
  exact .mono (touches_coreRow (fun _ _ _ => .ite touches_coreFault touches_coreExec))

theorem touches_coreBrRow {k : ℕ} {s : State} : Touches [.cores, .log, .regs] s (coreBrRow k s) := by
  unfold coreBrRow
  exact .mono (touches_coreRow (fun _ _ _ => .ite touches_coreExec touches_coreExec))

theorem touches_coreLoopRow {k : ℕ} {s : State} : Touches [.cores, .log, .regs] s (coreLoopRow k s) := by
  unfold coreLoopRow
  exact .mono (touches_coreRow (fun _ _ _ => .ite touches_coreExec (.ite touches_coreFault touches_coreExec)))

theorem touches_rdtapRow {k : ℕ} {s : State} : Touches [.cores, .log, .regs] s (rdtapRow k s) := by
  unfold rdtapRow
  exact .mono (touches_coreRow (fun _ _ _ => touches_coreExec))

theorem touches_postRow {k : ℕ} {s : State} : Touches [.cores, .log, .regs, .bus, .made] s (postRow k s) := by
  unfold postRow
  exact .mono (touches_coreRow (fun _ _ _ => ((Touches.ite touches_resMake (.refl _)).after touches_postVerdict).after
      touches_coreExec))

theorem touches_coreEventRow {k : ℕ} {s : State} : Touches [.cores, .log, .regs, .fabric] s (coreEventRow k s) := by
  unfold coreEventRow
  exact .mono (touches_coreRow (fun _ _ _ => touches_fireProd.after touches_coreExec))

theorem touches_coreHaltRow {k : ℕ} {s : State} : Touches [.cores, .log] s (coreHaltRow k s) := by
  unfold coreHaltRow
  exact .mono (.ite (.ite touches_coreFault (.ite touches_setCore (.refl _))) (.refl _))

theorem touches_coreUndefinedRow {k : ℕ} {s : State} : Touches [.cores, .log] s (coreUndefinedRow k s) := by
  unfold coreUndefinedRow
  exact .mono (.ite (.ite touches_coreFault (.ite touches_coreFault (.refl _))) (.refl _))

theorem touches_waitDone {x : Tick} {tO : Bool} {v : BitVec 80} {k : ℕ} {s : State} : Touches [.cores, .regs] s (waitDone x tO v
    k s) := by
  unfold waitDone
  exact .mono (touches_coreExec.after touches_setCore)

theorem touches_waittRow {k : ℕ} {s : State} : Touches [.cores, .regs, .log] s (waittRow k s) := by
  unfold waittRow
  exact .mono (.ite (show Touches [.cores, .regs] _ _ by
      split
      · exact .mono (.ite touches_waitDone (.refl _))
      · exact .mono (.refl _)) (touches_coreRow (fun _ _ _ => .ite touches_waitDone (.ite touches_waitDone touches_setCore))))

theorem touches_waittTimeoutRow {k : ℕ} {s : State} : Touches [.cores, .regs] s (waittTimeoutRow k s) := by
  unfold waittTimeoutRow
  extract_lets
  split
  · exact .mono (.ite touches_waitDone (.refl _))
  · exact .mono (.refl _)

theorem touches_tapPut {k : ℕ} {i : ℕ} {x : Sample} {stamp : Tick} {s : State} : Touches [.cores, .regs] s (tapPut k i x stamp
    s) := by
  unfold tapPut
  exact .mono (touches_stick.after touches_setCore)

theorem touches_tapWriteRow {k : ℕ} {i : ℕ} {xs : List AdcTick} {stamp : Tick} {s : State} : Touches [.regs, .slots, .cores] s
    (tapWriteRow k i xs stamp s) := by
  unfold tapWriteRow
  exact .mono (.ite (touches_tapPut.after touches_noteSat) (.refl _))

theorem touches_coresTidy {s : State} : Touches [.cores] s (coresTidy s) := by
  unfold coresTidy
  exact .mono (Touches.foldS fun _ _ => touches_setCore)

theorem touches_coreStart {k : ℕ} {s : State} : Touches [.agenda, .cores] s ((coreStart k s).1) := by
  unfold coreStart
  extract_lets
  split
  · exact .mono (.refl _)
  · split
    · exact .mono (.refl _)
    · dsimp only
      exact .mono (touches_setCore.after Touches.agenda)

theorem touches_coreStop {k : ℕ} {s : State} : Touches [.agenda] s ((coreStop k s).1) := by
  unfold coreStop
  extract_lets
  split
  · dsimp only
    exact .mono touches_defer
  · exact .mono (.refl _)

theorem touches_coreIdle {k : ℕ} {s : State} : Touches [.cores] s (coreIdle k s) := by
  unfold coreIdle
  exact .mono (.ite touches_setCore (.refl _))

theorem touches_coreCmd {cmd k : ℕ} {s : State} : Touches [.agenda, .cores, .log] s (coreCmd cmd k s) := by
  have hstart := touches_coreStart (k := k) (s := s)
  have hstop := touches_coreStop (k := k) (s := s)
  unfold coreCmd
  extract_lets r
  have hr : Touches [.agenda, .cores] s r.1 := by
    unfold r
    split
    · exact .mono hstart
    · exact .mono hstop
    · exact .mono (.refl _)
  clear_value r
  obtain ⟨s', _ | c⟩ := r
  · exact .mono hr
  · exact .mono (touches_record.after hr)

end Sys2Proof.Machine
end

section
/-! PROOF. What may change with the operations of the ports. -/

set_option Elab.async false

namespace Sys2Proof.Machine

theorem touches_progressRoutineAt {op : ℕ} {tg : ℕ} {p : W40} {s : State} : Touches [.ce] s (progressRoutineAt op tg p s) := by
  unfold progressRoutineAt
  exact .mono Touches.ce

theorem touches_holdover {s : State} : Touches [.time, .regs, .log, .seqs] s (holdover s) := by
  unfold holdover
  exact .mono (.ite (.refl _) ((touches_reasonsUpdate.after (touches_record.after (touches_putB.after touches_putB))).after
      (touches_acquireStop.after Touches.time)))

theorem touches_handoverFail {s : State} : Touches [.pair, .outs, .regs, .ce] s (handoverFail s) := by
  unfold handoverFail
  exact .mono (.ite (((touches_endRoutine.after touches_putB).after (Touches.foldS fun _ _ => touches_setOut)).after
      Touches.pair) (.refl _))

theorem touches_pairLinkLost {p : ℕ} {s : State} : Touches [.log, .pair, .outs, .regs, .ce, .time, .seqs] s (pairLinkLost p
    s) := by
  unfold pairLinkLost
  exact .mono ((((Touches.ite touches_holdover (.refl _)).after touches_handoverFail).after (touches_cmpHalt.after
      Touches.pair)).after touches_record)

theorem touches_setPhase {p : ℕ} {n : ℕ} {s : State} : Touches [.ports, .regs, .ce] s (setPhase p n s) := by
  unfold setPhase
  exact .mono (touches_progressRoutineAt.after (touches_putF.after touches_setPort))

theorem touches_portEmpty {p : ℕ} {s : State} : Touches [.ports, .regs] s (portEmpty p s) := by
  unfold portEmpty
  exact .mono (touches_putB.after touches_setPort)

theorem touches_portDown {p : ℕ} {cause : ℕ} {s : State} : Touches [.ce, .regs, .ports, .log, .pair, .outs, .time, .seqs] s
    (portDown p cause s) := by
  unfold portDown
  exact .mono (((((Touches.ite touches_pairLinkLost (.refl _)).after (touches_record.after touches_setPhase)).after
      touches_setPort).after (touches_portEmpty.after (touches_putB.after touches_putF))).after (.ite touches_endRoutineAt
      (.refl _)))

theorem touches_lanesShow {p : ℕ} {s : State} : Touches [.regs] s (lanesShow p s) := by
  unfold lanesShow
  exact .mono (touches_putF.after touches_putB)

theorem touches_seedLanes {p : ℕ} {lanes : List ℕ} {s : State} : Touches [.ports] s (seedLanes p lanes s) := by
  unfold seedLanes
  exact .mono touches_setPort

theorem touches_trainStart {p : ℕ} {s : State} : Touches [.ports, .regs, .ce] s (trainStart p s) := by
  unfold trainStart
  exact .mono ((touches_setPhase.after touches_lanesShow).after (touches_setPort.after touches_portEmpty))

theorem touches_trainFail {p : ℕ} {s : State} : Touches [.log, .ce, .regs, .ports, .pair, .outs, .time, .seqs] s (trainFail p
    s) := by
  unfold trainFail
  exact .mono (touches_portDown.after touches_record)

theorem touches_lanesGone {p : ℕ} {ls : List ℕ} {s : State} : Touches [.ports, .regs] s (lanesGone p ls s) := by
  unfold lanesGone
  exact .mono (touches_bumpBy.after (touches_lanesShow.after touches_setPort))

theorem touches_laneLost {p : ℕ} {l : ℕ} {s : State} : Touches [.ports, .regs, .log] s (laneLost p l s) := by
  unfold laneLost
  exact .mono (touches_record.after (touches_seedLanes.after touches_lanesGone))

theorem touches_eyesPut {p : ℕ} {eyes : List ℕ} {s : State} : Touches [.regs, .ports, .log] s (eyesPut p eyes s) := by
  unfold eyesPut
  exact .mono (.ite (.refl _) ((Touches.ite (touches_record.after touches_setPort) (.ite touches_setPort (.refl _))).after
      touches_setR))

theorem touches_portComesUp {p : ℕ} {s : State} : Touches [.ports, .regs, .ce, .log] s (portComesUp p s) := by
  unfold portComesUp
  exact .mono ((((touches_record.after touches_endRoutineAt).after (touches_setPhase.after (touches_putF.after
      touches_putB))).after touches_setPort).after touches_portEmpty)

theorem touches_phaseDone {p : ℕ} {unaligned : List ℕ} {eyes : List ℕ} {s : State} : Touches [.regs, .ports, .ce, .log, .pair,
    .outs, .time, .seqs] s (phaseDone p unaligned eyes s) := by
  unfold phaseDone
  split
  · exact .mono (touches_setPhase.after touches_putB)
  · exact .mono (touches_setPhase.after touches_seedLanes)
  · exact .mono (touches_setPhase.after touches_eyesPut)
  · split
    · exact .mono (touches_setPhase.after touches_lanesShow)
    · exact .mono (touches_setPhase.after touches_laneLost)
    · exact .mono touches_trainFail
  · exact .mono (.ite (touches_portComesUp.after touches_eyesPut) (.refl _))
  · exact .mono (.refl _)

theorem touches_mirrorLoad {p : ℕ} {s : State} : Touches [.ports] s (mirrorLoad p s) := by
  unfold mirrorLoad
  exact .mono (.ite touches_setPort (.ite (.refl _) (show Touches [.ports] _ _ by
      split
      · exact .mono touches_setPort
      · exact .mono (.refl _))))

theorem touches_usMessages {p : ℕ} {s : State} : Touches [.fed, .ports] s (usMessages p s) := by
  unfold usMessages
  exact .mono ((Touches.ite touches_setPort (.refl _)).after (.ite (touches_setPort.after Touches.fed) (.refl _)))

theorem touches_pairLoad {p : ℕ} {s : State} : Touches [.pair, .ports] s (pairLoad p s) := by
  unfold pairLoad
  exact .mono (.ite (touches_setPort.after Touches.pair) (.refl _))

theorem touches_timeMessage {p : ℕ} {x : Tick} {s : State} : Touches [.free, .ports] s (timeMessage p x s) := by
  unfold timeMessage
  extract_lets q ts flags tx seg0
  split
  next heard =>
    split at heard
    · cases heard
      exact .mono touches_setPort
    · cases heard
      exact .mono (touches_setPort.after (touches_takeFree.after (touches_takeFree.after touches_takeFree)))


theorem touches_mirrorAdvance {n : ℕ} {s : State} : Touches [.rings, .host, .regs] s (mirrorAdvance n s) := by
  unfold mirrorAdvance
  exact .mono (.ite (.refl _) (touches_watermark.after touches_setRing))

theorem touches_sendUp {p : ℕ} {s : State} : Touches [.pair, .ports, .free, .fed, .regs, .log, .rings, .host] s (sendUp p
    s) := by
  unfold sendUp
  exact .mono ((((((Touches.foldS fun _ _ => (show Touches [.rings, .host, .regs] _ _ by
      split
      · exact .mono touches_mirrorAdvance
      · exact .mono (.refl _))).after touches_setPort).after (Touches.foldS fun _ _ => touches_exportDrop)).after
      touches_mirrorLoad).after (.ite (touches_usMessages.after touches_timeMessage) (.refl _))).after touches_pairLoad)

theorem touches_frameTransmitRow {p : ℕ} {s : State} : Touches [.pair, .ports, .free, .fed, .regs, .log, .rings, .host] s
    (frameTransmitRow p s) := by
  unfold frameTransmitRow
  exact .mono (.ite (.refl _) (show Touches [.pair, .ports, .free, .fed, .regs, .log, .rings, .host] _ _ by
      split
      · exact .mono touches_sendUp
      · exact .mono touches_setPort
      · exact .mono touches_setPort
      · exact .mono touches_setPort
      · exact .mono touches_setPort))

end Sys2Proof.Machine
end

section
/-! PROOF. What may change with the commands of the ports. -/

set_option Elab.async false

namespace Sys2Proof.Machine

theorem touches_rxAccept {p : ℕ} {it : Item} {s : State} : Touches [.ports, .regs, .log] s (rxAccept p it s) := by
  unfold rxAccept
  exact .mono (.ite touches_setPort (touches_recordIf.after touches_bump))

theorem touches_frameDiscard {p : ℕ} {ws : List W40} {s : State} : Touches [.regs, .log, .ports] s (frameDiscard p ws s) := by
  unfold frameDiscard
  exact .mono ((touches_bumpBy.after touches_setPort).after (touches_recordIf.after touches_bump))

theorem touches_frameGood {p : ℕ} {arrival : Tick} {ws : List W40} {s : State} : Touches [.ports, .regs, .ce, .log, .pair,
    .outs, .time, .seqs] s (frameGood p arrival ws s) := by
  unfold frameGood
  exact .mono ((Touches.ite touches_setPort (.ite (.refl _) ((Touches.ite touches_portDown (Touches.foldS fun _ _ => .ite
      touches_rxAccept (.refl _))).after touches_setPort))).after (touches_putB.after touches_setPort))

theorem touches_laneChange {p : ℕ} {x : RxFrame} {s : State} : Touches [.ports, .regs, .log, .ce, .pair, .outs, .time, .seqs] s
    (laneChange p x s) := by
  unfold laneChange
  exact .mono ((show Touches [.ports, .regs, .log, .ce, .pair, .outs, .time, .seqs] _ _ by
      extract_lets
      split
      · exact .mono (.ite (touches_record.after (touches_lanesShow.after touches_setPort)) (.refl _))
      · exact .mono (.refl _)
      · exact .mono touches_laneLost
      · exact .mono (touches_portDown.after touches_lanesGone)).after touches_setPort)

theorem touches_frameReceiveRow {p : ℕ} {x : RxFrame} {s : State} : Touches [.ports, .regs, .log, .ce, .pair, .outs, .time,
    .seqs] s (frameReceiveRow p x s) := by
  unfold frameReceiveRow
  exact .mono (.ite (.refl _) (((Touches.ite touches_frameDiscard touches_frameGood).after touches_bumpBy).after (.ite
      touches_laneChange (.refl _))))

theorem touches_forwardItem {p : ℕ} {x : Tick} {it : Item} {s : State} : Touches [.regs, .log, .ports] s (forwardItem p x it
    s) := by
  unfold forwardItem
  exact .mono (.ite (.refl _) (Touches.foldS fun _ _ => .ite touches_toPort (.refl _)))

theorem touches_releaseItem {p : ℕ} {it : Item} {s : State} : Touches [.ports, .regs, .log, .barriers, .bus] s (releaseItem p it
    s) := by
  unfold releaseItem
  exact .mono ((Touches.ite (.refl _) (.ite touches_bump (.ite touches_bump ((Touches.ite touches_barNotice Touches.bus).after
      touches_forwardItem)))).after touches_setPort)

theorem touches_itemReleaseRow {p : ℕ} {s : State} : Touches [.ports, .regs, .log, .barriers, .bus] s (itemReleaseRow p s) := by
  unfold itemReleaseRow
  split
  · exact .mono touches_releaseItem
  · exact .mono (.refl _)

theorem touches_flightPut {p : ℕ} {delay : ℤ} {s : State} : Touches [.regs, .log] s (flightPut p delay s) := by
  unfold flightPut
  exact .mono ((Touches.ite (touches_putF.after touches_putB) (.ite (touches_record.after touches_putF) (.refl _))).after
      touches_putF)

theorem touches_acquireAt {off : ℤ} {hops : ℕ} {s : State} : Touches [.fed, .log, .time, .regs, .barriers, .ports, .seqs] s
    (acquireAt off hops s) := by
  unfold acquireAt
  exact .mono (.ite (.refl _) (.ite (.ite (.refl _) (touches_record.after Touches.fed)) touches_acquire))

theorem touches_track {off : ℤ} {s : State} : Touches [.regs, .log, .time] s (track off s) := by
  unfold track
  exact .mono (.ite (touches_record.after (touches_putB.after touches_putB)) touches_slewBegin)

theorem touches_offsetPut {off : ℤ} {hops : ℕ} {s : State} : Touches [.regs, .fed, .log, .time, .barriers, .ports, .seqs] s
    (offsetPut off hops s) := by
  unfold offsetPut
  exact .mono ((Touches.ite touches_acquireAt (.ite touches_track (.refl _))).after touches_putF)

theorem touches_peerCheck {p : ℕ} {dev : ℕ} {s : State} : Touches [.ports, .log] s (peerCheck p dev s) := by
  unfold peerCheck
  exact .mono (touches_recordIf.after touches_setPort)

theorem touches_timeMessageRow {p : ℕ} {x : TimeMsg} {s : State} : Touches [.ports, .regs, .log, .fed, .time, .barriers, .seqs] s
    (timeMessageRow p x s) := by
  unfold timeMessageRow
  split
  · exact .mono (.refl _)
  · extract_lets q heard checked up hops
    have hhops : Touches [.ports, .regs, .log, .fed, .time, .barriers, .seqs] s hops :=
      .mono ((Touches.ite touches_putF (.refl _)).after (touches_peerCheck.after (touches_putF.after (touches_putF.after touches_setPort))))
    split
    · exact .mono ((Touches.ite touches_offsetPut (.refl _)).after (touches_flightPut.after hhops))
    · exact hhops


theorem touches_heartbeatRow {p : ℕ} {s : State} : Touches [.ports, .regs, .ce, .log, .pair, .outs, .time, .seqs] s
    (heartbeatRow p s) := by
  unfold heartbeatRow
  exact .mono (.ite (.refl _) ((Touches.ite ((Touches.ite touches_holdover (.refl _)).after (.ite touches_portDown (.refl _)))
      (.refl _)).after (touches_bump.after touches_setPort)))

theorem touches_clockLossRow {p : ℕ} {s : State} : Touches [.regs, .ce, .ports, .log, .pair, .outs, .time, .seqs] s
    (clockLossRow p s) := by
  unfold clockLossRow
  exact .mono (((Touches.ite touches_holdover (.refl _)).after (.ite touches_portDown (.refl _))).after touches_putB)

theorem touches_doRetrain {s : State} : Touches [.ce, .slots, .seqs, .fresh, .force, .prb, .drv, .regs, .log, .flux, .binder,
    .agenda, .gran, .halves, .mem, .rings, .host, .ports, .pair, .outs, .time] s (doRetrain s) := by
  unfold doRetrain
  exact .mono (touches_opRun (fun _ _ => .ite touches_refuse ((touches_trainStart.after touches_park).after (.ite
      touches_portDown (.refl _)))))

theorem touches_portEnable {p : ℕ} {en : Bool} {s : State} : Touches [.regs, .ports, .ce, .log, .pair, .outs, .time, .seqs] s
    (portEnable p en s) := by
  unfold portEnable
  exact .mono ((Touches.ite touches_trainStart (.ite ((touches_putB.after touches_setPort).after (.ite (.refl _)
      touches_portDown)) (.refl _))).after touches_putB)

theorem touches_autostartRow {p : ℕ} {s : State} : Touches [.ports, .regs, .ce] s (autostartRow p s) := by
  unfold autostartRow
  exact .mono (.ite touches_trainStart (.refl _))

theorem touches_phaseCompleteRow {p : ℕ} {unaligned : List ℕ} {eyes : List ℕ} {s : State} : Touches [.regs, .ports, .ce, .log,
    .pair, .outs, .time, .seqs] s (phaseCompleteRow p unaligned eyes s) := by
  unfold phaseCompleteRow
  exact .mono (.ite touches_phaseDone (.refl _))

theorem touches_trainTimeoutRow {p : ℕ} {s : State} : Touches [.log, .ce, .regs, .ports, .pair, .outs, .time, .seqs] s
    (trainTimeoutRow p s) := by
  unfold trainTimeoutRow
  exact .mono (.ite touches_trainFail (.refl _))

theorem touches_eyeRow {p : ℕ} {eyes : List ℕ} {s : State} : Touches [.regs, .ports, .log] s (eyeRow p eyes s) := by
  unfold eyeRow
  exact .mono (.ite touches_eyesPut (.refl _))

end Sys2Proof.Machine
end

section
/-! PROOF. What may change with the commands of federations and pairs. -/

set_option Elab.async false

namespace Sys2Proof.Machine

theorem touches_fedRoles {link : ℕ → Bool} {s : State} : Touches [.regs] s (fedRoles link s) := by
  unfold fedRoles
  exact .mono (Touches.foldS fun _ _ => .ite (.refl _) touches_putF)

theorem touches_fedReachOwn {s : State} : Touches [.fed, .regs] s (fedReachOwn s) := by
  unfold fedReachOwn
  exact .mono (touches_putF.after Touches.fed)

theorem touches_fedApply {ws : List W40} {s : State} : Touches [.fed, .regs] s (fedApply ws s) := by
  unfold fedApply
  exact .mono (((touches_fedReachOwn.after touches_fedRoles).after (touches_putB.after (touches_putF.after (touches_putF.after
      touches_putF)))).after Touches.fed)

theorem touches_doFedLoad {e : Ecc} {s : State} : Touches [.ce, .slots, .seqs, .fresh, .force, .prb, .drv, .regs, .log, .flux,
    .binder, .agenda, .gran, .halves, .mem, .rings, .host, .fed] s (doFedLoad e s) := by
  unfold doFedLoad
  exact .mono (touches_opRun (fun _ _ => .ite touches_refuse (show Touches [.ce, .slots, .seqs, .fresh, .force, .prb, .drv,
      .regs, .log, .flux, .binder, .agenda, .gran, .halves, .mem, .rings, .host, .fed] _ _ by
      split
      · exact .mono touches_refuse
      · exact .mono (.ite touches_refuse (touches_withBuf (fun _ _ => .ite touches_refuse (show Touches [.ce, .slots, .seqs,
            .fresh, .force, .prb, .drv, .regs, .log, .flux, .binder, .agenda, .gran, .halves, .mem, .rings, .host, .fed] _ _ by
            split
            · exact .mono touches_refuse
            · exact .mono (touches_finish.after touches_fedApply))))))))

theorem touches_doFedClear {s : State} : Touches [.ce, .slots, .seqs, .fresh, .force, .prb, .drv, .regs, .log, .flux, .binder,
    .agenda, .gran, .halves, .mem, .rings, .host, .fed] s (doFedClear s) := by
  unfold doFedClear
  exact .mono (touches_opRun (fun _ _ => .ite touches_refuse (.ite touches_refuse (((touches_finish.after
      (touches_fedReachOwn.after touches_fedRoles)).after (touches_putF.after touches_putB)).after Touches.fed))))

theorem touches_reachSet {d : ℕ} {b : Bool} {s : State} : Touches [.regs, .log, .barriers] s (reachSet d b s) := by
  unfold reachSet
  exact .mono ((Touches.ite ((touches_barFailAll.after touches_record).after (touches_putB.after touches_putF)) (.refl _)).after
      touches_putB)

theorem touches_reachOwn {p : ℕ} {serial : ℕ} {s : State} : Touches [.fed, .log] s (reachOwn p serial s) := by
  unfold reachOwn
  exact .mono (.ite (.refl _) (touches_record.after Touches.fed))

theorem touches_reachRow {p : ℕ} {x : WireMsg} {s : State} : Touches [.fed, .log, .regs, .barriers, .ports] s (reachRow p x
    s) := by
  unfold reachRow
  exact .mono (.ite (.refl _) (.ite touches_reachOwn (((Touches.ite (.refl _) (Touches.foldS fun _ _ => .ite touches_setPort
      (.refl _))).after touches_recordIf).after (touches_reachSet.after Touches.fed))))

theorem touches_reachTimeoutRow {d : ℕ} {s : State} : Touches [.fed, .regs, .log, .barriers] s (reachTimeoutRow d s) := by
  unfold reachTimeoutRow
  split
  · exact .mono (.ite ((Touches.ite touches_barFailAll (.refl _)).after (touches_reachSet.after Touches.fed)) (.refl _))
  · exact .mono (.refl _)

theorem touches_pairApply {p : ℕ} {role : Bool} {tm : Bool} {b : PairHalf} {s : State} : Touches [.regs, .pair, .time, .fed] s
    (pairApply p role tm b s) := by
  unfold pairApply
  exact .mono ((((((Touches.ite (.refl _) (.ite (touches_putF.after (touches_putF.after touches_putF))
      (touches_beginAcquire.after (touches_putF.after touches_putF)))).after Touches.pair).after (touches_putB.after
      touches_putB)).after (touches_putB.after (touches_putB.after touches_putF))).after touches_putF).after (.ite touches_putF
      (.refl _)))

theorem touches_pairTry {s : State} : Touches [.regs, .pair, .time, .fed, .ce, .slots, .seqs, .fresh, .force, .prb, .drv, .log,
    .flux, .binder, .agenda, .gran, .halves, .mem, .rings, .host] s (pairTry s) := by
  refine touches_opRun fun r s => ?_
  dsimp only
  split
  · exact .mono (.ite (touches_finish.after touches_pairApply) (.refl _))
  · exact .mono (.refl _)


theorem touches_doPairStart {s : State} : Touches [.ce, .slots, .seqs, .fresh, .force, .prb, .drv, .regs, .log, .flux, .binder,
    .agenda, .gran, .halves, .mem, .rings, .host, .pair, .time, .fed] s (doPairStart s) := by
  unfold doPairStart
  exact .mono (touches_opRun (fun _ _ => .ite (.refl _) (.ite touches_refuse (.ite touches_refuse (touches_pairTry.after
      Touches.pair)))))

theorem touches_pairHalfRow {h : PairHalf} {s : State} : Touches [.pair, .regs, .time, .fed, .ce, .slots, .seqs, .fresh, .force,
    .prb, .drv, .log, .flux, .binder, .agenda, .gran, .halves, .mem, .rings, .host] s (pairHalfRow h s) := by
  unfold pairHalfRow
  exact .mono (touches_pairTry.after Touches.pair)

theorem touches_pairStartTimeoutRow {s : State} : Touches [.pair, .ce, .slots, .seqs, .fresh, .force, .prb, .drv, .regs, .log,
    .flux, .binder, .agenda, .gran, .halves, .mem, .rings, .host] s (pairStartTimeoutRow s) := by
  refine touches_opRun fun r s => ?_
  dsimp only
  split
  · exact .mono (.ite (touches_finish.after Touches.pair) (.refl _))
  · exact .mono (.refl _)


theorem touches_outputCrcRow {v : W40} {f : BitVec 16} {s : State} : Touches [.pair, .regs, .log] s (outputCrcRow v f s) := by
  unfold outputCrcRow
  exact .mono (.ite touches_cmpAdd (.refl _))

theorem touches_pairVerdictRow {v : W40} {f : BitVec 16} {s : State} : Touches [.pair, .regs, .log] s (pairVerdictRow v f
    s) := by
  unfold pairVerdictRow
  exact .mono (.ite touches_cmpAdd (.refl _))

theorem touches_compareTimeoutRow {i : ℕ} {s : State} : Touches [.pair, .regs, .log] s (compareTimeoutRow i s) := by
  unfold compareTimeoutRow
  split
  · exact .mono (.ite ((Touches.ite touches_bump (.ite touches_diverge (.refl _))).after Touches.pair) (.refl _))
  · exact .mono (.refl _)

theorem touches_handoverAgree {s : State} : Touches [.pair, .outs, .regs, .ce] s (handoverAgree s) := by
  unfold handoverAgree
  split
  · exact .mono (.ite touches_handoverFail (touches_setR.after Touches.pair))
  · exact .mono (.refl _)

theorem touches_twinStale {x : Tick} {s : State} : Touches [.pair] s (twinStale x s) := by
  unfold twinStale
  split
  · exact .mono (.ite (.refl _) Touches.pair)
  · exact .mono (.refl _)

theorem touches_doHandover {s : State} : Touches [.ce, .slots, .seqs, .fresh, .force, .prb, .drv, .regs, .log, .flux, .binder,
    .agenda, .gran, .halves, .mem, .rings, .host, .pair, .outs] s (doHandover s) := by
  unfold doHandover
  exact .mono (touches_opRun (fun _ _ => .ite touches_refuse (.ite touches_refuse ((touches_handoverAgree.after
      Touches.pair).after (touches_pairSend.after (touches_pairSend.after (touches_twinStale.after touches_park)))))))

theorem touches_handoverRow {n : W40} {recv : Tick} {s : State} : Touches [.pair, .outs, .regs, .ce] s (handoverRow n recv
    s) := by
  unfold handoverRow
  exact .mono (.ite (.ite touches_handoverFail (touches_handoverAgree.after Touches.pair)) (.refl _))

theorem touches_handoverTimeoutRow {s : State} : Touches [.pair, .outs, .regs, .ce] s (handoverTimeoutRow s) := by
  unfold handoverTimeoutRow
  split
  · exact .mono (.ite touches_handoverFail (.refl _))
  · exact .mono (.refl _)

theorem touches_agreedTickRow {s : State} : Touches [.pair, .regs, .outs, .log, .ce] s (agreedTickRow s) := by
  unfold agreedTickRow
  split
  · exact .mono (.ite ((Touches.foldS fun _ _ => .ite (.refl _) touches_switchOut).after (touches_putB.after Touches.pair))
        (.refl _))
  · exact .mono (.refl _)

theorem touches_mirrorRow {p : ℕ} {v : W40} {sl : List W40} {s : State} : Touches [.rings, .log, .mem, .host, .regs] s
    (mirrorRow p v sl s) := by
  unfold mirrorRow
  exact .mono (.ite (.refl _) (.ite touches_ringPut touches_ringDrop))

end Sys2Proof.Machine
end

section
/-! PROOF. What may change with the monitors. -/

set_option Elab.async false

namespace Sys2Proof.Machine

theorem touches_senseShow {n : ℕ} {s : State} : Touches [.regs] s (senseShow n s) := by
  unfold senseShow
  exact .mono (touches_putF.after touches_putB)

theorem touches_senseAdopt {n : ℕ} {s : State} : Touches [.senses, .regs] s (senseAdopt n s) := by
  unfold senseAdopt
  exact .mono (.ite (.refl _) (touches_senseShow.after touches_setSense))

theorem touches_convStart {x : Tick} {u : ℕ} {tcode : ℕ} {urgent : Bool} {host : Bool} {s : State} : Touches [.senses, .regs,
    .mon] s (convStart x u tcode urgent host s) := by
  unfold convStart
  exact .mono (Touches.mon.after (.ite touches_senseAdopt (.refl _)))

theorem touches_convNext {x : Tick} {s : State} : Touches [.mon, .senses, .regs] s (convNext x s) := by
  unfold convNext
  exact .mono ((show Touches [.mon, .senses, .regs] _ _ by
      extract_lets
      split
      · exact .mono (touches_convStart.after Touches.mon)
      · split
        · exact .mono (touches_convStart.after Touches.mon)
        · exact .mono ((Touches.ite (.refl _) (show Touches [.mon, .senses, .regs] _ _ by
              split
              · exact .mono (touches_convStart.after Touches.mon)
              · exact .mono (.refl _))).after Touches.mon)).after Touches.mon)

theorem touches_convKick {s : State} : Touches [.mon, .senses, .regs] s (convKick s) := by
  unfold convKick
  exact .mono (.ite touches_convNext (.refl _))

theorem touches_scanRestart {s : State} : Touches [.mon] s (scanRestart s) := by
  unfold scanRestart
  exact .mono Touches.mon

theorem touches_urgentPut {r : UrgReq} {s : State} : Touches [.mon, .regs] s (urgentPut r s) := by
  unfold urgentPut
  exact .mono ((show Touches [.mon, .regs] _ _ by
      extract_lets
      split
      · exact .mono (.refl _)
      · exact .mono (.ite (.refl _) (touches_bump.after Touches.mon))).after Touches.mon)

theorem touches_doMonUrgent {s : State} : Touches [.ce, .slots, .seqs, .fresh, .force, .prb, .drv, .regs, .log, .flux, .binder,
    .agenda, .gran, .halves, .mem, .rings, .host, .mon] s (doMonUrgent s) := by
  unfold doMonUrgent
  exact .mono (touches_opRun (fun _ _ => .ite (.refl _) (.ite touches_refuse (.ite touches_refuse touches_urgentPut))))

theorem touches_urgentRow {u : ℕ} {s : State} : Touches [.therm, .ce, .regs, .free, .mon] s (urgentRow u s) := by
  unfold urgentRow
  exact .mono (.ite ((((Touches.ite (.refl _) touches_urgentPut).after (.ite touches_raiseTrap (.refl _))).after
      touches_takeTrap).after Touches.therm) (.refl _))

theorem touches_senseSample {c : MonConv} {x : Conv} {n : ℕ} {s : State} : Touches [.log, .regs, .senses] s ((senseSample c x n
    s).2) := by
  unfold senseSample
  exact .mono ((((((((touches_senseShow.after touches_setSense).after (.ite touches_putB (.refl _))).after (.ite touches_putB
      (.refl _))).after (.ite touches_putB (.refl _))).after touches_recordIf).after touches_recordIf).after
      touches_recordIf).after touches_recordIf)

theorem touches_deliverSample {c : MonConv} {y : MonSample} {s : State} : Touches [.regs, .gran, .log, .halves, .mem, .rings,
    .host, .ce, .slots, .seqs, .fresh, .force, .prb, .drv, .flux, .binder, .agenda] s (deliverSample c y s) := by
  unfold deliverSample
  exact .mono (((Touches.ite (touches_opDo (fun _ _ => touches_finish)) (.refl _)).after (.ite touches_resPut (.refl _))).after
      (touches_setR.after (touches_setR.after touches_setR)))

theorem touches_conversionRow {x : Conv} {s : State} : Touches [.log, .regs, .senses, .gran, .halves, .mem, .rings, .host, .ce, .slots, .seqs, .fresh, .force, .prb, .drv, .flux, .binder, .agenda, .mon] s
    (conversionRow x s) := by
  unfold conversionRow
  split
  · next c _ =>
    have hsample : Touches [.regs, .log, .senses, .mon] s (if c.src < 16 then senseSample c x c.src s else (plainSample c x s, s)).2 := by
      split
      · exact .mono touches_senseSample
      · exact .mono (.refl _)
    exact .mono (.ite (touches_convNext.after (touches_deliverSample.after hsample)) (.refl _))
  · exact .mono (.refl _)


theorem touches_onConv {n : ℕ} {f : MonConv → MonConv} {s : State} : Touches [.mon] s (onConv n f s) := by
  unfold onConv
  exact .mono Touches.mon

theorem touches_senseWrite {n : ℕ} {v : W40} {s : State} : Touches [.regs, .senses, .mon] s (senseWrite n v s) := by
  unfold senseWrite
  extract_lets was stored q
  split
  · exact .mono (touches_senseShow.after (touches_setSense.after touches_setR))
  · split
    · have hshown {x : Sense} : Touches [.regs, .senses] s (senseShow n (setSense n x stored)) :=
        .mono (touches_senseShow.after (touches_setSense.after touches_setR))
      rename_i shown _ kept _ _
      have hkept : Touches [.regs, .senses, .mon] s kept := .mono ((Touches.ite Touches.mon (.refl _)).after hshown)
      split
      · exact .mono (.ite (touches_convNext.after hkept) hkept)
      · exact hkept
    · exact .mono touches_setR


theorem touches_complianceRow {n : ℕ} {ok : Bool} {s : State} : Touches [.senses, .mon, .regs] s (complianceRow n ok s) := by
  unfold complianceRow
  exact .mono (.ite (.refl _) (.ite touches_setSense (.ite touches_setSense ((touches_putB.after touches_onConv).after
      touches_setSense))))

theorem touches_overvoltRow {n : ℕ} {s : State} : Touches [.regs, .mon, .log] s (overvoltRow n s) := by
  unfold overvoltRow
  exact .mono (.ite (touches_recordIf.after (touches_onConv.after touches_putB)) (.refl _))

theorem touches_tripSend {a0 : ℕ} {s : State} : Touches [.agenda] s (tripSend a0 s) := by
  unfold tripSend
  exact .mono touches_defer

theorem touches_doSelftest {wmon : List ℕ} {ovl : List ℕ} {s : State} : Touches [.ce, .free, .agenda] s (doSelftest wmon ovl
    s) := by
  unfold doSelftest
  exact .mono (touches_opRun (fun _ _ => (touches_tripSend.after (touches_park.after (touches_progressRoutine.after
      touches_takeFree))).after Touches.ce))

theorem touches_tripPin {a0 : ℕ} {b : Bool} {s : State} : Touches [.pins, .regs] s (tripPin a0 b s) := by
  unfold tripPin
  exact .mono (.ite (.ite (touches_putB.after Touches.pins) (.refl _)) (.ite Touches.pins Touches.pins))

theorem touches_wmonSample {uv : ℤ} {g : ℕ} {s : State} : Touches [.regs, .fabric] s (wmonSample uv g s) := by
  unfold wmonSample
  exact .mono ((Touches.ite (((touches_fireProd.after (.ite touches_putB (.refl _))).after (.ite touches_putB (.refl _))).after
      touches_bump) (.refl _)).after touches_putB)

theorem touches_wmonRow {a0 : ℕ} {uv : List ℤ} {s : State} : Touches [.regs, .fabric, .agenda] s (wmonRow a0 uv s) := by
  unfold wmonRow
  exact .mono (.ite (.refl _) (touches_tripSend.after (Touches.foldS fun _ _ => touches_wmonSample)))

theorem touches_overloadRow {a0 : ℕ} {f : ℕ} {uv : ℕ} {s : State} : Touches [.regs, .log, .fabric, .mon, .agenda] s (overloadRow
    a0 f uv s) := by
  unfold overloadRow
  exact .mono (.ite (.refl _) (((touches_tripSend.after Touches.mon).after (.ite touches_fireProd (.refl _))).after
      (touches_recordIf.after (touches_bump.after touches_putB))))

theorem touches_overloadEnds {s : State} : Touches [.mon, .agenda] s (overloadEnds s) := by
  unfold overloadEnds
  exact .mono (Touches.foldS fun _ _ => .ite (touches_defer.after Touches.mon) (.refl _))

end Sys2Proof.Machine
end

section
/-! PROOF. What may change with the event fabric. -/

set_option Elab.async false

namespace Sys2Proof.Machine

theorem touches_eventArrive {x : Tick} {i : ℕ} {depth : ℕ} {dom : ℕ} {s : State} : Touches [.seqs, .regs, .fabric, .wits] s
    (eventArrive x i depth dom s) := by
  unfold eventArrive
  exact .mono (.ite touches_evReach (.ite Touches.fabric touches_witCauseAt))

theorem touches_evStrobesAct {s : State} : Touches [.fabric, .regs, .force, .bias] s (evStrobesAct s) := by
  unfold evStrobesAct
  exact .mono ((Touches.foldS fun _ _ => touches_strobeGroup.after (.ite touches_bump (.refl _))).after Touches.fabric)

theorem touches_eventSend {x : Tick} {v : ℕ} {depth : ℕ} {i : ℕ} {s : State} : Touches [.agenda, .regs] s (eventSend x v depth i
    s) := by
  unfold eventSend
  exact .mono (.ite (touches_bump.after Touches.agenda) touches_defer)

theorem touches_chanFire {x : Tick} {v : ℕ} {s : State} : Touches [.fabric, .regs, .log, .agenda] s (chanFire x v s) := by
  unfold chanFire
  exact .mono ((((((Touches.ite touches_syncOutEvent (.refl _)).after (Touches.foldS fun _ _ => touches_eventSend)).after (.ite
      (touches_recordIf.after touches_putB) (.refl _))).after (touches_putF.after (touches_putB.after touches_bump))).after
      (.ite touches_bump (.refl _))).after Touches.fabric)

theorem touches_channelFireRow {v : ℕ} {s : State} : Touches [.fabric, .regs, .log, .agenda] s (channelFireRow v s) := by
  unfold channelFireRow
  split
  · exact .mono (.ite touches_chanFire (.refl _))
  · exact .mono (.refl _)

end Sys2Proof.Machine
end

section
/-! PROOF. What may change with the commands of the lifecycle. -/

set_option Elab.async false

namespace Sys2Proof.Machine

theorem touches_powerOnRow {s : State} : Touches [.life, .haltAt, .regs, .force, .time, .clock, .log, .pool, .lbReq, .lbWaited,
    .lbResume, .armAfter, .safePend, .holdHist, .lbHist, .ballHist, .seqs, .down, .crcDown, .cutTiles, .barriers, .wave, .drv,
    .prb, .flux, .outs, .bias, .adcs, .slots, .halves, .bus, .vb, .binder, .cores, .wits, .mem, .rings, .gran, .made, .ce,
    .fabric, .ports, .fed, .pair, .mon, .senses, .therm, .glean, .sec, .safeAt, .host, .pins, .agenda, .modeWas, .fresh] s
    (powerOnRow s) := by
  unfold powerOnRow
  exact .mono (.ite touches_enterStaging (.refl _))

theorem touches_powerLossRow {s : State} : Touches [.rollback, .free, .life, .haltAt, .regs, .force, .time, .clock, .log, .pool,
    .lbReq, .lbWaited, .lbResume, .armAfter, .safePend, .holdHist, .lbHist, .ballHist, .seqs, .down, .crcDown, .cutTiles,
    .barriers, .wave, .drv, .prb, .flux, .outs, .bias, .adcs, .slots, .halves, .bus, .vb, .binder, .cores, .wits, .mem, .rings,
    .gran, .made, .ce, .fabric, .ports, .fed, .pair, .mon, .senses, .therm, .glean, .sec, .safeAt, .host, .pins, .agenda,
    .modeWas, .fresh] s (powerLossRow s) := by
  unfold powerLossRow
  exact .mono (.ite touches_enterOff (.refl _))

theorem touches_resetNRow {s : State} : Touches [.life, .haltAt, .regs, .force, .time, .clock, .log, .pool, .lbReq, .lbWaited,
    .lbResume, .armAfter, .safePend, .holdHist, .lbHist, .ballHist, .seqs, .down, .crcDown, .cutTiles, .barriers, .wave, .drv,
    .prb, .flux, .outs, .bias, .adcs, .slots, .halves, .bus, .vb, .binder, .cores, .wits, .mem, .rings, .gran, .made, .ce,
    .fabric, .ports, .fed, .pair, .mon, .senses, .therm, .glean, .sec, .safeAt, .host, .pins, .agenda, .modeWas, .fresh] s
    (resetNRow s) := by
  unfold resetNRow
  exact .mono (.ite touches_enterStaging (.refl _))

theorem touches_fnDiscard {m : ℕ} {s : State} : Touches [.host] s (fnDiscard m s) := by
  unfold fnDiscard
  exact .mono Touches.host

theorem touches_flrKick {s : State} : Touches [.ce, .regs, .free, .mon, .safePend, .slots, .seqs, .fresh, .force, .prb, .drv,
    .log, .flux, .binder, .agenda, .gran, .halves, .mem, .rings, .host] s (flrKick s) := by
  unfold flrKick
  split
  · exact .mono (.ite (((touches_abortRoutines.after (.ite (.refl _) touches_raiseTrap)).after Touches.ce).after
        touches_takeTrap) (.refl _))
  · exact .mono (.refl _)

theorem touches_handlerReturns {s : State} : Touches [.ce, .mon, .safePend, .slots, .seqs, .fresh, .force, .prb, .drv, .regs,
    .log, .flux, .binder, .agenda, .gran, .halves, .mem, .rings, .host] s (handlerReturns s) := by
  unfold handlerReturns
  split
  · exact .mono (.ite ((Touches.ite (touches_abortRoutines.after Touches.ce) (.refl _)).after Touches.ce) (.refl _))
  · exact .mono (.refl _)

theorem touches_flrTrap {m : ℕ} {s : State} : Touches [.ce, .regs, .free, .mon, .safePend, .slots, .seqs, .fresh, .force, .prb,
    .drv, .log, .flux, .binder, .agenda, .gran, .halves, .mem, .rings, .host] s (flrTrap m s) := by
  unfold flrTrap
  exact .mono (touches_flrKick.after (touches_raiseTrap.after Touches.ce))

theorem touches_flrOne {m : ℕ} {s : State} : Touches [.host, .ce, .regs, .free, .mon, .safePend, .slots, .seqs, .fresh, .force,
    .prb, .drv, .log, .flux, .binder, .agenda, .gran, .halves, .mem, .rings] s (flrOne m s) := by
  unfold flrOne
  exact .mono (touches_flrTrap.after touches_fnDiscard)

theorem touches_vfOff {s : State} : Touches [.host, .ce, .regs, .free, .mon, .safePend, .slots, .seqs, .fresh, .force, .prb,
    .drv, .log, .flux, .binder, .agenda, .gran, .halves, .mem, .rings] s (vfOff s) := by
  unfold vfOff
  exact .mono (.ite ((Touches.foldS fun _ _ => touches_flrOne).after Touches.host) (.refl _))

theorem touches_flrRow {m : ℕ} {s : State} : Touches [.host, .ce, .regs, .free, .mon, .safePend, .slots, .seqs, .fresh, .force,
    .prb, .drv, .log, .flux, .binder, .agenda, .gran, .halves, .mem, .rings] s (flrRow m s) := by
  unfold flrRow
  exact .mono (.ite (.refl _) (.ite (touches_vfOff.after (touches_flrOne.after Touches.host)) touches_flrOne))

theorem touches_perstRow {s : State} : Touches [.host, .time] s (perstRow s) := by
  unfold perstRow
  exact .mono (.ite ((Touches.set [.time, .host] rfl).after (Touches.foldS fun _ _ => touches_fnDiscard)) (.refl _))

theorem touches_pllLockRow {s : State} : Touches [.time, .clock, .regs, .therm, .log] s (pllLockRow s) := by
  unfold pllLockRow
  exact .mono (.ite (((Touches.ite (touches_record.after (touches_putB.after Touches.therm)) Touches.therm).after
      (touches_railTick.after touches_putF)).after (Touches.set [.time, .clock] rfl)) (.refl _))

theorem touches_pllNoLockRow {refValid : Bool} {s : State} : Touches [.log, .ce, .haltAt, .regs, .wits, .rings, .host, .fabric,
    .safePend, .life, .time, .barriers, .seqs, .slots, .force, .prb, .drv, .flux, .outs, .pair, .therm, .bias, .lbReq,
    .lbWaited, .lbResume, .armAfter, .cores, .glean, .bus, .made] s (pllNoLockRow refValid s) := by
  unfold pllNoLockRow
  exact .mono (.ite touches_fatal (.refl _))

theorem touches_pllUnlockRow {s : State} : Touches [.time, .regs, .log, .ce, .haltAt, .wits, .rings, .host, .fabric, .safePend,
    .life, .barriers, .seqs, .slots, .force, .prb, .drv, .flux, .outs, .pair, .therm, .bias, .lbReq, .lbWaited, .lbResume,
    .armAfter, .cores, .glean, .bus, .made] s (pllUnlockRow s) := by
  unfold pllUnlockRow
  exact .mono (.ite (touches_fatal.after (touches_putB.after Touches.time)) (.refl _))

theorem touches_refLostRow {s : State} : Touches [.time, .regs, .log] s (refLostRow s) := by
  unfold refLostRow
  exact .mono (.ite (touches_record.after (touches_bump.after (touches_putF.after Touches.time))) (.refl _))

theorem touches_refRestoredRow {s : State} : Touches [.time, .regs, .log] s (refRestoredRow s) := by
  unfold refRestoredRow
  exact .mono (.ite (touches_record.after (touches_putF.after Touches.time)) (.refl _))

theorem touches_tileConnect {x : Tick} {a1 : ℕ} {s : State} : Touches [.regs, .force, .bias] s (tileConnect x a1 s) := by
  unfold tileConnect
  exact .mono (Touches.foldS fun _ _ => touches_biasConnect)

theorem touches_stepAct {x : Tick} {p : PwrStep} {s : State} : Touches [.regs, .force, .bias, .adcs] s (stepAct x p s) := by
  unfold stepAct
  split
  · exact .mono ((Touches.ite touches_tileConnect (.refl _)).after touches_putB)
  · exact .mono (.refl _)
  · exact .mono (.refl _)
  · exact .mono (touches_calBegin.after (Touches.foldS fun _ _ => touches_putB))
  · exact .mono (touches_putF.after touches_putB)

theorem touches_powerupStepRow {p : PwrStep} {s : State} : Touches [.therm, .regs, .force, .bias, .adcs] s (powerupStepRow p
    s) := by
  unfold powerupStepRow
  split
  · exact .mono (.ite (touches_stepAct.after Touches.therm) (.refl _))
  · exact .mono (.refl _)

theorem touches_trimBad {v : TrimSet} {s : State} : Touches [.regs, .log] s (trimBad v s) := by
  unfold trimBad
  exact .mono (touches_record.after (show Touches [.regs] _ _ by
      split
      · exact .mono touches_putB
      · exact .mono (.refl _)))

theorem touches_slicesLoad {bad : List TrimSet} {a : ℕ} {s : State} : Touches [.regs] s (slicesLoad bad a s) := by
  unfold slicesLoad
  exact .mono (Touches.foldS fun _ _ => touches_setR)

theorem touches_imageShow {a0 : ℕ} {o : ℕ} {s : State} : Touches [.regs] s (imageShow a0 o s) := by
  unfold imageShow
  exact .mono touches_putF

theorem touches_nvmRegisters {s : State} : Touches [.regs] s (nvmRegisters s) := by
  unfold nvmRegisters
  exact .mono ((((((((Touches.foldS fun _ _ => touches_putF).after (Touches.foldS fun _ _ => touches_putF)).after (Touches.foldS
      fun _ _ => touches_slicesLoad)).after (Touches.foldS fun _ _ => Touches.foldS fun _ _ => touches_imageShow)).after
      touches_setR).after (Touches.foldS fun _ _ => touches_setR)).after (Touches.foldS fun _ _ => touches_setR)).after
      (Touches.foldS fun _ _ => touches_setR))

theorem touches_nvmLoadRow {bad : List TrimSet} {s : State} : Touches [.sec, .regs, .log, .force, .bias] s (nvmLoadRow bad
    s) := by
  unfold nvmLoadRow
  exact .mono (.ite (((Touches.foldS fun _ _ => .ite touches_tileConnect (.refl _)).after (Touches.foldS fun _ _ =>
      touches_trimBad)).after (touches_nvmRegisters.after Touches.sec)) (.refl _))

theorem touches_zeroDoneRow {s : State} : Touches [.mem, .rings, .regs] s (zeroDoneRow s) := by
  unfold zeroDoneRow
  have hzero : Touches [.mem, .rings] s { s with gran := { s.gran with mem := [], rings := [] } } := by
    refine ⟨rfl, ⟨rfl, le_rfl, fun hs => ?_⟩, fun _ => List.prefix_rfl⟩
    simp only [memOk, Bool.and_eq_true] at hs ⊢
    exact ⟨⟨rfl, hs.1.2⟩, hs.2⟩
  exact .mono (.ite (touches_putB.after hzero) (.refl _))

theorem touches_bootCopy {n : ℕ} {fallback : Bool} {s : State} : Touches [.sec, .regs, .log, .ce] s (bootCopy n fallback
    s) := by
  unfold bootCopy
  exact .mono (((Touches.ite (.refl _) (.ite (touches_record.after touches_putB) touches_loftApply)).after (touches_putB.after
      (touches_putB.after (touches_putF.after (touches_putF.after touches_putF))))).after Touches.sec)

theorem touches_secureBootRow {s : State} : Touches [.nvm, .sec, .log, .regs, .ce, .haltAt, .wits, .rings, .host, .fabric,
    .safePend, .life, .time, .barriers, .seqs, .slots, .force, .prb, .drv, .flux, .outs, .pair, .therm, .bias, .lbReq,
    .lbWaited, .lbResume, .armAfter, .cores, .glean, .bus, .made] s (secureBootRow s) := by
  unfold secureBootRow
  exact .mono (.ite ((show Touches [.sec, .regs, .log, .ce, .haltAt, .wits, .rings, .host, .fabric, .safePend, .life, .time,
      .barriers, .seqs, .slots, .force, .prb, .drv, .flux, .outs, .pair, .therm, .bias, .lbReq, .lbWaited, .lbResume, .armAfter,
      .cores, .glean, .bus, .made] _ _ by
      extract_lets
      split
      · exact .mono touches_bootCopy
      · split
        · exact .mono (touches_record.after touches_bootCopy)
        · exact .mono touches_fatal).after touches_journalRestore) (.refl _))

theorem touches_stagingCompleteRow {s : State} : Touches [.safeAt, .log, .life, .bias, .slots, .regs] s (stagingCompleteRow
    s) := by
  unfold stagingCompleteRow
  exact .mono (.ite (touches_fsetAll.after (touches_allRest.after (touches_lifeTo.after (Touches.set [.safeAt] rfl)))) (.refl
      _))

theorem touches_altImageRow {s : State} : Touches [.regs] s (altImageRow s) := by
  unfold altImageRow
  exact .mono (.ite (touches_putB.after touches_putB) (.refl _))

theorem touches_burstDoneRow {s : State} : Touches [.rollback, .regs] s (burstDoneRow s) := by
  unfold burstDoneRow
  split
  · have hdone : Touches [.rollback] s { s with sec := { s.sec with burst := none } } :=
      ⟨rfl, ⟨rfl, by simp [burnt], id⟩, fun _ => List.prefix_rfl⟩
    exact .mono (touches_putB.after hdone)
  · exact .mono (.refl _)


theorem touches_trngFailRow {s : State} : Touches [.sec, .regs, .log] s (trngFailRow s) := by
  unfold trngFailRow
  exact .mono (.ite (touches_record.after (touches_putB.after Touches.sec)) (.refl _))

theorem touches_scanExtestRow {s : State} : Touches [.regs, .log, .ce, .haltAt, .wits, .rings, .host, .fabric, .safePend, .life,
    .time, .barriers, .seqs, .slots, .force, .prb, .drv, .flux, .outs, .pair, .therm, .bias, .lbReq, .lbWaited, .lbResume,
    .armAfter, .cores, .glean, .bus, .made] s (scanExtestRow s) := by
  unfold scanExtestRow
  exact .mono (.ite (touches_fatal.after touches_putB) (.refl _))

theorem touches_fetchParity {s : State} : Touches [.log, .ce, .haltAt, .regs, .wits, .rings, .host, .fabric, .safePend, .life,
    .time, .barriers, .seqs, .slots, .force, .prb, .drv, .flux, .outs, .pair, .therm, .bias, .lbReq, .lbWaited, .lbResume,
    .armAfter, .cores, .glean, .bus, .made] s (fetchParity s) := by
  unfold fetchParity
  exact .mono (.ite touches_fatal (.refl _))

theorem touches_microTrapFatalRow {s : State} : Touches [.log, .ce, .haltAt, .regs, .wits, .rings, .host, .fabric, .safePend,
    .life, .time, .barriers, .seqs, .slots, .force, .prb, .drv, .flux, .outs, .pair, .therm, .bias, .lbReq, .lbWaited,
    .lbResume, .armAfter, .cores, .glean, .bus, .made, .free, .mon, .fresh, .binder, .agenda, .gran, .halves, .mem] s
    (microTrapFatalRow s) := by
  unfold microTrapFatalRow
  exact .mono ((Touches.ite (touches_ceAbortAll.after touches_takeTrap) (.refl _)).after (.ite (.refl _) touches_fetchParity))

theorem touches_dieLinkCrcRow {a0 : ℕ} {down : Bool} {s : State} : Touches [.log, .down, .crcDown, .fabric, .agenda] s
    (dieLinkCrcRow a0 down s) := by
  unfold dieLinkCrcRow
  exact .mono (.ite ((Touches.ite (Touches.set [.down, .crcDown, .fabric, .agenda] rfl) (.refl _)).after touches_record) (.refl
      _))

theorem touches_tileLinkTimeoutRow {a0 : ℕ} {s : State} : Touches [.cutTiles, .bias] s (tileLinkTimeoutRow a0 s) := by
  unfold tileLinkTimeoutRow
  exact .mono (.ite (touches_tileRest.after Touches.cutTiles) (.refl _))

theorem touches_dieLinkLostRow {a0 : ℕ} {s : State} : Touches [.log, .ce, .haltAt, .regs, .wits, .rings, .host, .fabric,
    .safePend, .life, .time, .barriers, .seqs, .slots, .force, .prb, .drv, .flux, .outs, .pair, .therm, .bias, .lbReq,
    .lbWaited, .lbResume, .armAfter, .cores, .glean, .bus, .made] s (dieLinkLostRow a0 s) := by
  unfold dieLinkLostRow
  exact .mono (.ite touches_fatal (.refl _))

theorem touches_railChangeRow {r : ℕ} {ok : Bool} {s : State} : Touches [.regs, .therm] s (railChangeRow r ok s) := by
  unfold railChangeRow
  exact .mono (.ite (Touches.therm.after touches_putB) (.refl _))

theorem touches_railFaultRow {r : ℕ} {s : State} : Touches [.log, .ce, .haltAt, .regs, .wits, .rings, .host, .fabric, .safePend,
    .life, .time, .barriers, .seqs, .slots, .force, .prb, .drv, .flux, .outs, .pair, .therm, .bias, .lbReq, .lbWaited,
    .lbResume, .armAfter, .cores, .glean, .bus, .made] s (railFaultRow r s) := by
  unfold railFaultRow
  split
  · exact .mono (.ite touches_fatal (.refl _))
  · exact .mono (.refl _)

theorem touches_vauxPowerUpRow {straps : ℕ} {s : State} : Touches [.pins, .regs] s (vauxPowerUpRow straps s) := by
  unfold vauxPowerUpRow
  exact .mono (.ite (touches_putB.after Touches.pins) (.refl _))

end Sys2Proof.Machine
end

section
/-! PROOF. What may change with the Gleaner. -/

set_option Elab.async false

namespace Sys2Proof.Machine

theorem touches_modGlean {f : Gleaner → Gleaner} {s : State} : Touches [.glean] s (modGlean f s) := by
  unfold modGlean
  exact .mono Touches.glean

theorem touches_gleanBegin {x : Tick} {a1 : ℕ} {task : ℕ} {unit : ℕ} {s : State} : Touches [.glean, .outs] s (gleanBegin x a1
    task unit s) := by
  unfold gleanBegin
  exact .mono ((Touches.ite touches_setOut (.refl _)).after touches_modGlean)

theorem touches_gleanStartRow {a0 : ℕ} {task : ℕ} {unit : ℕ} {s : State} : Touches [.glean, .outs] s (gleanStartRow a0 task unit
    s) := by
  unfold gleanStartRow
  exact .mono (.ite touches_gleanBegin (.refl _))

theorem touches_gleanFigure {a0 : ℕ} {m : Glean} {after : ℕ} {s : State} : Touches [.regs, .prb, .drv] s (gleanFigure a0 m after
    s) := by
  unfold gleanFigure
  split
  · exact .mono touches_putF
  · exact .mono (touches_putF.after touches_setTone)
  · exact .mono (.refl _)

theorem touches_leakPend {a0 : ℕ} {unit : ℕ} {w1 : W40} {w2 : W40} {s : State} : Touches [.prb, .drv, .fresh, .log] s (leakPend
    a0 unit w1 w2 s) := by
  unfold leakPend
  exact .mono ((Touches.ite touches_arrive touches_gleanTone).after touches_setTone)

theorem touches_gleanTake {a0 : ℕ} {m : Glean} {w1 : W40} {w2 : W40} {s : State} : Touches [.outs, .fresh, .prb, .drv, .log,
    .glean] s (gleanTake a0 m w1 w2 s) := by
  unfold gleanTake
  split
  · exact .mono (touches_arrive.after touches_setOut)
  · exact .mono touches_leakPend
  · exact .mono (.ite (.refl _) touches_modGlean)

theorem touches_gleanEnd {a0 : ℕ} {m : Glean} {r : GleanResult} {s : State} : Touches [.glean, .regs, .outs, .prb, .drv, .gran,
    .log, .halves, .mem, .rings, .host, .fresh] s (gleanEnd a0 m r s) := by
  unfold gleanEnd
  exact .mono ((((((Touches.ite touches_gleanTake (.refl _)).after touches_resPut).after touches_gleanFigure).after (.ite
      touches_setOut (.refl _))).after touches_putF).after touches_modGlean)

theorem touches_gleanCompleteRow {a0 : ℕ} {r : GleanResult} {s : State} : Touches [.glean, .regs, .outs, .prb, .drv, .gran,
    .log, .halves, .mem, .rings, .host, .fresh] s (gleanCompleteRow a0 r s) := by
  unfold gleanCompleteRow
  split
  · exact .mono (.ite touches_gleanEnd (.refl _))
  · exact .mono (.refl _)

theorem touches_sectorRewriteRow {s : State} : Touches [.glean, .sec] s (sectorRewriteRow s) := by
  unfold sectorRewriteRow
  split
  · exact .mono (.ite ((Touches.sec).after touches_modGlean) (.refl _))
  · exact .mono (.refl _)

theorem touches_rewriteDoneRow {weak : Bool} {s : State} : Touches [.glean, .sec, .log] s (rewriteDoneRow weak s) := by
  unfold rewriteDoneRow
  split
  · exact .mono (.ite ((touches_recordIf.after (touches_record.after Touches.sec)).after touches_modGlean) (.refl _))
  · exact .mono (.refl _)

end Sys2Proof.Machine
end

section
/-! PROOF. What may change with the thermal commands. -/

set_option Elab.async false

namespace Sys2Proof.Machine

theorem touches_modTherm {f : Therm → Therm} {s : State} : Touches [.therm] s (modTherm f s) := by
  unfold modTherm
  exact .mono Touches.therm

theorem touches_sensorShow {u : ℕ} {s : State} : Touches [.regs] s (sensorShow u s) := by
  unfold sensorShow
  exact .mono (touches_putB.after (touches_putF.after (touches_putF.after touches_setR)))

theorem touches_sensorTake {u : ℕ} {r : ℤ} {s : State} : Touches [.therm, .ce, .regs] s (sensorTake u r s) := by
  unfold sensorTake
  exact .mono ((touches_sensorShow.after (.ite touches_raiseTrap (.refl _))).after touches_modTherm)

theorem touches_warnCheck {u : ℕ} {r : ℤ} {s : State} : Touches [.regs, .log] s (warnCheck u r s) := by
  unfold warnCheck
  exact .mono (.ite (touches_recordIf.after touches_putB) (.ite (touches_recordIf.after touches_putB) (.refl _)))

theorem touches_throttleCheck {r : ℤ} {s : State} : Touches [.therm, .ce] s (throttleCheck r s) := by
  unfold throttleCheck
  exact .mono (.ite (touches_raiseTrap.after touches_modTherm) (.ite (touches_raiseTrap.after touches_modTherm) (.refl _)))

theorem touches_shutCheck {r : ℤ} {s : State} : Touches [.therm, .ce, .bias] s (shutCheck r s) := by
  unfold shutCheck
  exact .mono ((Touches.ite ((Touches.ite touches_allFreeze (.refl _)).after touches_modTherm) (.refl _)).after (.ite
      (touches_raiseTrap.after touches_modTherm) (.ite ((Touches.ite (.refl _) Touches.ce).after touches_modTherm) (.refl _))))

theorem touches_bandPending {g : ℕ} {s : State} : Touches [.seqs, .fresh, .prb, .drv] s (bandPending g s) := by
  unfold bandPending
  exact .mono (.ite (.ite (.refl _) (touches_arrive.after touches_modSeq)) touches_applyBand)

theorem touches_bandLoad {a0 : ℕ} {s : State} : Touches [.regs, .outs, .seqs, .fresh, .prb, .drv] s (bandLoad a0 s) := by
  unfold bandLoad
  exact .mono ((Touches.foldS fun _ _ => touches_bandPending).after (Touches.foldS fun _ _ => touches_setOut.after
      touches_imageShow))

theorem touches_bandKick {s : State} : Touches [.ce, .regs, .free, .outs, .seqs, .fresh, .prb, .drv] s (bandKick s) := by
  unfold bandKick
  split
  · exact .mono (.ite (((touches_bandLoad.after (.ite (.refl _) touches_raiseTrap)).after Touches.ce).after touches_takeTrap)
        (.refl _))
  · exact .mono (.refl _)

theorem touches_bandTrap {a0 : ℕ} {s : State} : Touches [.ce, .regs, .free, .outs, .seqs, .fresh, .prb, .drv] s (bandTrap a0
    s) := by
  unfold bandTrap
  exact .mono (touches_bandKick.after (touches_raiseTrap.after Touches.ce))

theorem touches_bandCheck {a0 : ℕ} {s : State} : Touches [.regs, .log, .ce, .free, .outs, .seqs, .fresh, .prb, .drv] s
    (bandCheck a0 s) := by
  unfold bandCheck
  exact .mono ((Touches.ite (.refl _) ((touches_bandTrap.after touches_record).after (touches_bump.after touches_putF))).after
      touches_putF)

theorem touches_refreshCheck {n : ℕ} {r : ℤ} {s : State} : Touches [.therm, .regs, .log] s (refreshCheck n r s) := by
  unfold refreshCheck
  exact .mono (.ite (touches_record.after (touches_putB.after touches_modTherm)) (.ite (touches_record.after (touches_putB.after
      touches_modTherm)) (.refl _)))

theorem touches_pwrupCheck {s : State} : Touches [.therm, .regs] s (pwrupCheck s) := by
  unfold pwrupCheck
  exact .mono (.ite (touches_putB.after touches_modTherm) (.refl _))

theorem touches_sensorUpdateRow {u : ℕ} {reading : ℤ} {s : State} : Touches [.therm, .ce, .regs, .log, .bias, .free, .outs,
    .seqs, .fresh, .prb, .drv] s (sensorUpdateRow u reading s) := by
  unfold sensorUpdateRow
  exact .mono (.ite (((Touches.ite (((touches_pwrupCheck.after (.ite touches_refreshCheck (.refl _))).after (.ite
      touches_bandCheck (.refl _))).after (touches_shutCheck.after touches_throttleCheck)) (.refl _)).after
      (touches_warnCheck.after touches_sensorTake)).after touches_modTherm) (.refl _))

theorem touches_throttleOn {s : State} : Touches [.regs, .log, .wits, .rings, .host, .fabric, .glean, .outs, .seqs] s
    (throttleOn s) := by
  unfold throttleOn
  exact .mono ((touches_reasonsUpdate.after (touches_gleanAbandonIf.after touches_witStopAll)).after (touches_record.after
      touches_putB))

theorem touches_throttleOff {s : State} : Touches [.regs, .log, .seqs, .wits] s (throttleOff s) := by
  unfold throttleOff
  exact .mono ((touches_witArmAll.after touches_reasonsUpdate).after (touches_record.after touches_putB))

theorem touches_throttleRow {s : State} : Touches [.ce, .regs, .free, .log, .wits, .rings, .host, .fabric, .glean, .outs, .seqs]
    s (throttleRow s) := by
  unfold throttleRow
  exact .mono (.ite ((Touches.ite (.refl _) touches_throttleOn).after touches_takeTrap) (.refl _))

theorem touches_throttleClearRow {s : State} : Touches [.ce, .regs, .free, .log, .seqs, .wits] s (throttleClearRow s) := by
  unfold throttleClearRow
  exact .mono (.ite ((Touches.ite touches_throttleOff (.refl _)).after touches_takeTrap) (.refl _))

theorem touches_shutdownRow {s : State} : Touches [.ce, .regs, .free, .log, .mon, .safePend, .slots, .seqs, .fresh, .force,
    .prb, .drv, .flux, .binder, .agenda, .gran, .halves, .mem, .rings, .host, .wits, .fabric, .glean, .outs, .therm, .sec,
    .bias] s (shutdownRow s) := by
  unfold shutdownRow
  exact .mono (.ite (((((touches_graceCheck.after (touches_ledgerSave.after touches_modTherm)).after Touches.glean).after (.ite
      (.refl _) touches_throttleOn)).after touches_ceAbortAll).after (touches_record.after (touches_putB.after
      touches_takeTrap))) (.refl _))

theorem touches_graceExpiredRow {s : State} : Touches [.barriers, .seqs, .log, .slots, .regs, .force, .prb, .drv, .flux, .outs,
    .pair, .ce, .time, .therm, .bias, .wits, .rings, .host, .fabric, .safePend, .life, .lbReq, .lbWaited, .lbResume, .armAfter]
    s (graceExpiredRow s) := by
  unfold graceExpiredRow
  exact .mono (.ite (show Touches [.barriers, .seqs, .log, .slots, .regs, .force, .prb, .drv, .flux, .outs, .pair, .ce, .time,
      .therm, .bias, .wits, .rings, .host, .fabric, .safePend, .life, .lbReq, .lbWaited, .lbResume, .armAfter] _ _ by
      split
      · exact .mono (.ite (touches_graceOutputs.after (touches_record.after touches_forcedStop)) (.refl _))
      · exact .mono (.ite (touches_record.after touches_modTherm) (.refl _))
      · exact .mono (.refl _)) (.refl _))

theorem touches_tileOff {a0 : ℕ} {s : State} : Touches [.regs, .bias] s (tileOff a0 s) := by
  unfold tileOff
  exact .mono ((Touches.foldS fun _ _ => touches_biasOff).after touches_putB)

theorem touches_stopTile {a0 : ℕ} {s : State} : Touches [.regs, .bias] s (stopTile a0 s) := by
  unfold stopTile
  exact .mono ((Touches.ite touches_putB (.refl _)).after touches_tileOff)

theorem touches_powerOffRow {s : State} : Touches [.wits, .regs, .log, .rings, .host, .fabric, .safePend, .life, .time, .barriers,
    .seqs, .slots, .force, .prb, .drv, .flux, .outs, .pair, .ce, .therm, .bias, .lbReq, .lbWaited, .lbResume, .armAfter, .cores,
    .glean] s (powerOffRow s) := by
  have hoff {t : State} : Touches [.regs, .bias] t (match lastTile t with | some u => stopTile u t | none => putB oLifecycle 8 true t) := by
    split
    · exact touches_stopTile
    · exact .mono touches_putB
  unfold powerOffRow
  split
  · exact .mono (hoff.after (touches_modTherm.after ((Touches.ite touches_allFreeze (.refl _)).after touches_enterStopping)))
  · split
    · split
      · exact .mono (.ite touches_stopTile (.refl _))
      · exact .mono (.refl _)
    · exact .mono (.refl _)


theorem touches_tripRow {die : ℕ} {s : State} : Touches [.log, .ce, .haltAt, .regs, .wits, .rings, .host, .fabric, .safePend,
    .life, .time, .barriers, .seqs, .slots, .force, .prb, .drv, .flux, .outs, .pair, .therm, .bias, .lbReq, .lbWaited,
    .lbResume, .armAfter, .cores, .glean, .bus, .made, .free] s (tripRow die s) := by
  unfold tripRow
  exact .mono (.ite ((Touches.ite (touches_takeFree.after (touches_putF.after (Touches.foldS fun _ _ => touches_tileOff)))
      touches_tileOff).after touches_fatal) (.refl _))

theorem touches_addReg {o : ℕ} {x : ℤ} {s : State} : Touches [.regs] s (addReg o x s) := by
  unfold addReg
  exact .mono touches_setR

theorem touches_lifeTick {s : State} : Touches [.therm, .regs] s (lifeTick s) := by
  unfold lifeTick
  exact .mono (.ite (((Touches.ite (.refl _) touches_addReg).after (.ite touches_addReg (.refl _))).after touches_modTherm)
      (.refl _))

theorem touches_ledgerRow {cut : Bool} {s : State} : Touches [.therm, .sec] s (ledgerRow cut s) := by
  unfold ledgerRow
  exact .mono (.ite (touches_ledgerSave.after touches_modTherm) (.refl _))

end Sys2Proof.Machine
end

section
/-! PROOF. What may change with the registers that show a unit. -/

set_option Elab.async false

namespace Sys2Proof.Machine

theorem touches_regRead {m : ℕ} {off : ℕ} {s : State} : Touches [.regs, .time, .gran] s ((regRead m off s).2) := by
  unfold regRead
  split
  · split
    · exact .mono touches_tickNowRead
    · exact .mono touches_stampPop
    · exact .mono touches_ptmLatch
    · exact .mono Touches.gran
    · exact .mono (.refl _)
  · exact .mono (.refl _)

end Sys2Proof.Machine
end

section
/-! PROOF. What may change with the register writes. -/

set_option Elab.async false

namespace Sys2Proof.Machine

theorem touches_storeReg {row : RegRow} {off : ℕ} {v : W40} {s : State} : Touches [.regs] s (storeReg row off v s) := by
  unfold storeReg
  exact .mono touches_setR

theorem touches_seqOwnerSet {g : ℕ} {v : W40} {s : State} : Touches [.seqs, .regs] s (seqOwnerSet g v s) := by
  unfold seqOwnerSet
  exact .mono (touches_setR.after (.ite touches_modSeq (.refl _)))

theorem touches_tileZero {a0 : ℕ} {s : State} : Touches [.wave, .regs, .force, .cores] s (tileZero a0 s) := by
  unfold tileZero
  exact .mono (((Touches.foldS fun _ _ => touches_setCore).after (Touches.set [.regs, .force] rfl)).after Touches.wave)

theorem touches_tileOwnerSet {a0 : ℕ} {v : W40} {s : State} : Touches [.wave, .regs, .force, .cores] s (tileOwnerSet a0 v
    s) := by
  unfold tileOwnerSet
  exact .mono (touches_setR.after (.ite touches_tileZero (.refl _)))

theorem touches_ptmCtlSet {v : W40} {s : State} : Touches [.regs, .time] s (ptmCtlSet v s) := by
  unfold ptmCtlSet
  exact .mono (((Touches.ite touches_ptmBegin (.refl _)).after (.ite Touches.time (.refl _))).after touches_setR)

theorem touches_rotCtlSet {a0 : ℕ} {row : RegRow} {off : ℕ} {v : W40} {s : State} : Touches [.regs, .adcs] s (rotCtlSet a0 row
    off v s) := by
  unfold rotCtlSet
  exact .mono ((Touches.foldS fun _ _ => touches_setAdc).after touches_storeReg)

theorem touches_waveCommit {a0 : ℕ} {s : State} : Touches [.fresh, .force] s (waveCommit a0 s) := by
  unfold waveCommit
  exact .mono (touches_commitRegs.after touches_arrive)

theorem touches_strobeWrite {m : ℕ} {a1 : ℕ} {v : W40} {s : State} : Touches [.regs, .fabric, .force, .bias] s (strobeWrite m a1
    v s) := by
  unfold strobeWrite
  exact .mono (Touches.foldS fun _ _ => .ite touches_strobeGroup (.refl _))

theorem touches_senseStatSet {n : ℕ} {row : RegRow} {off : ℕ} {v : W40} {s : State} : Touches [.regs, .senses] s (senseStatSet n
    row off v s) := by
  unfold senseStatSet
  exact .mono ((Touches.ite touches_setSense (.refl _)).after touches_storeReg)

theorem touches_wmonIdle {a0 : ℕ} {s : State} : Touches [.regs, .agenda] s (wmonIdle a0 s) := by
  unfold wmonIdle
  exact .mono (touches_tripSend.after (Touches.foldS fun _ _ => .ite touches_putB (.refl _)))

theorem touches_wmonTileSet {a0 : ℕ} {row : RegRow} {off : ℕ} {v : W40} {s : State} : Touches [.regs, .agenda, .pins] s
    (wmonTileSet a0 row off v s) := by
  unfold wmonTileSet
  exact .mono (((Touches.ite touches_tripSend (.ite Touches.pins (.refl _))).after touches_storeReg).after (.ite
      touches_wmonIdle (.refl _)))

theorem touches_hostStatusSet {d : ℕ} {row : RegRow} {off : ℕ} {v : W40} {s : State} : Touches [.regs, .host] s (hostStatusSet d
    row off v s) := by
  unfold hostStatusSet
  exact .mono ((Touches.ite Touches.host (.refl _)).after touches_storeReg)

theorem touches_evlogSet {d : ℕ} {row : RegRow} {off : ℕ} {v : W40} {s : State} : Touches [.regs, .log, .mem, .rings, .host] s
    (evlogSet d row off v s) := by
  unfold evlogSet
  exact .mono ((Touches.ite touches_earlyEnd (.refl _)).after touches_storeReg)

theorem touches_portCtlSet {p : ℕ} {v : W40} {s : State} : Touches [.agenda] s (portCtlSet p v s) := by
  unfold portCtlSet
  exact .mono touches_defer

theorem touches_effectA {m : ℕ} {row : RegRow} {is : List ℕ} {off : ℕ} {v : W40} {s t : State}
    (h : effectA m row is off v s = some t) : Touches [.modeWas, .regs, .time, .fed, .log, .barriers, .seqs, .pair, .outs, .wits, .rings, .host, .fabric, .lbReq, .lbWaited, .bias, .slots, .pins, .agenda, .binder, .force, .gran, .halves, .mem, .ce, .adcs, .mon, .senses] s t := by
  unfold effectA at h
  extract_lets i at h
  split at h
  all_goals cases h
  · exact .mono touches_modeWrite
  · exact .mono touches_syncOutCtl
  · exact .mono touches_syncOutTime
  · exact .mono touches_ptmCtlSet
  · exact .mono (.ite touches_bndGo (.refl _))
  · exact .mono touches_bndArm
  · exact .mono (touches_setStatSet.after touches_storeReg)
  · exact .mono touches_evlogSet
  · exact .mono touches_ringHeadAdv
  · exact .mono touches_doorbell
  · exact .mono touches_regionSet
  · exact .mono touches_fireChan
  · exact .mono touches_portCtlSet
  · exact .mono touches_rotCtlSet
  · exact .mono (.ite touches_storeReg (touches_scanRestart.after touches_storeReg))
  · exact .mono (touches_scanRestart.after touches_storeReg)
  · exact .mono touches_senseWrite
  · exact .mono touches_senseStatSet
  · exact .mono touches_wmonTileSet
  · exact .mono touches_hostStatusSet

theorem touches_effectB {m : ℕ} {row : RegRow} {is : List ℕ} {v : W40} {s t : State}
    (h : effectB m row is v s = some t) : Touches [.fresh, .force, .barriers, .seqs, .log, .slots, .regs, .prb, .drv, .flux, .outs, .pair, .ce, .time, .therm, .bias, .wits, .rings, .host, .fabric, .safePend, .life, .lbReq, .lbWaited, .lbResume, .armAfter, .agenda, .glean, .wave, .cores, .adcs] s t := by
  unfold effectB at h
  extract_lets g at h
  split at h
  all_goals cases h
  · exact .mono (.ite touches_waveCommit (.refl _))
  · exact .mono touches_seqCmdWrite
  · exact .mono (.ite touches_commitReq (.refl _))
  · exact .mono (.ite touches_commitReq (.refl _))
  · exact .mono (.ite touches_commitReq (.refl _))
  · exact .mono (.ite touches_commitReq (.refl _))
  · exact .mono (.ite touches_commitReq (.refl _))
  · exact .mono touches_modSeq
  · exact .mono touches_seqOwnerSet
  · exact .mono touches_tileOwnerSet
  · exact .mono touches_strobeWrite
  · exact .mono touches_adcCtlSet
  · exact .mono touches_coreCmd
  · exact .mono touches_witCtlSet
  · exact .mono (.ite touches_witForce (.refl _))

theorem touches_regEffect {m : ℕ} {row : RegRow} {is : List ℕ} {off : ℕ} {v : W40} {s : State} : Touches [.modeWas, .regs, .time, .fed, .log, .barriers, .seqs, .pair, .outs, .wits, .rings, .host, .fabric, .lbReq, .lbWaited, .bias, .slots, .pins, .agenda, .binder, .force, .gran, .halves, .mem, .ce, .adcs, .mon, .senses, .fresh, .prb, .drv, .flux, .therm, .safePend, .life, .lbResume, .armAfter, .glean, .wave, .cores] s
    (regEffect m row is off v s) := by
  unfold regEffect
  split
  · next h => exact .mono (touches_effectA h)
  · split
    · next h => exact .mono (touches_effectB h)
    · exact .mono (touches_joinCommit.after touches_storeReg)


theorem touches_unpoweredDrop {m : ℕ} {off : ℕ} {v : W40} {s : State} : Touches [.regs, .log, .host] s (unpoweredDrop m off v
    s) := by
  unfold unpoweredDrop
  exact .mono (.ite (touches_record.after touches_bump) (.ite touches_bump (touches_record.after (Touches.host.after
      touches_bump))))

theorem touches_refuseWrite {m : ℕ} {code : ℕ} {row : RegRow} {is : List ℕ} {v : W40} {s : State} : Touches [.log, .regs] s
    (refuseWrite m code row is v s) := by
  unfold refuseWrite
  exact .mono (.ite touches_record (touches_recordOwned.after (.ite touches_putB (.refl _))))

theorem touches_regWrite {m : ℕ} {off : ℕ} {v : W40} {s : State} : Touches [.log, .regs, .host, .modeWas, .time, .fed,
    .barriers, .seqs, .pair, .outs, .wits, .rings, .fabric, .lbReq, .lbWaited, .bias, .slots, .pins, .agenda, .binder, .force,
    .gran, .halves, .mem, .ce, .adcs, .mon, .senses, .fresh, .prb, .drv, .flux, .therm, .safePend, .life, .lbResume, .armAfter,
    .glean, .wave, .cores] s (regWrite m off v s) := by
  unfold regWrite
  split
  · exact .mono touches_record
  · exact .mono (.ite touches_unpoweredDrop (show Touches [.regs, .log, .modeWas, .time, .fed, .barriers, .seqs, .pair, .outs,
        .wits, .rings, .host, .fabric, .lbReq, .lbWaited, .bias, .slots, .pins, .agenda, .binder, .force, .gran, .halves, .mem,
        .ce, .adcs, .mon, .senses, .fresh, .prb, .drv, .flux, .therm, .safePend, .life, .lbResume, .armAfter, .glean, .wave,
        .cores] _ _ by
        split
        · exact .mono touches_bump
        · split
          · exact .mono touches_refuseWrite
          · exact .mono (.ite (.refl _) touches_regEffect)))

end Sys2Proof.Machine
end

section
/-! PROOF. What may change with the accesses of the host. -/

set_option Elab.async false

namespace Sys2Proof.Machine

theorem touches_partialLost {m : ℕ} {n : ℕ} {s : State} : Touches [.log, .regs] s (partialLost m n s) := by
  unfold partialLost
  exact .mono (.ite (.refl _) (touches_bumpBy.after touches_recordIf))

theorem touches_unstage {m : ℕ} {s : State} : Touches [.host] s (unstage m s) := by
  unfold unstage
  exact .mono Touches.host

theorem touches_dropStaged {m : ℕ} {s : State} : Touches [.host, .log, .regs] s (dropStaged m s) := by
  unfold dropStaged
  split
  · exact .mono (touches_partialLost.after touches_unstage)
  · exact .mono (.refl _)

theorem touches_hostWrite {m : ℕ} {off : ℕ} {v : W40} {s : State} : Touches [.host, .log, .regs, .modeWas, .time, .fed,
    .barriers, .seqs, .pair, .outs, .wits, .rings, .fabric, .lbReq, .lbWaited, .bias, .slots, .pins, .agenda, .binder, .force,
    .gran, .halves, .mem, .ce, .adcs, .mon, .senses, .fresh, .prb, .drv, .flux, .therm, .safePend, .life, .lbResume, .armAfter,
    .glean, .wave, .cores] s (hostWrite m off v s) := by
  unfold hostWrite
  exact .mono (.ite (touches_regWrite.after touches_dropStaged) (.refl _))

theorem touches_lowWrite {m : ℕ} {off : ℕ} {v : BitVec 32} {s : State} : Touches [.host, .log, .regs] s (lowWrite m off v
    s) := by
  unfold lowWrite
  exact .mono (.ite (Touches.host.after touches_dropStaged) (.refl _))

theorem touches_highWrite {m : ℕ} {off : ℕ} {v : BitVec 32} {s : State} : Touches [.host, .log, .regs, .modeWas, .time, .fed,
    .barriers, .seqs, .pair, .outs, .wits, .rings, .fabric, .lbReq, .lbWaited, .bias, .slots, .pins, .agenda, .binder, .force,
    .gran, .halves, .mem, .ce, .adcs, .mon, .senses, .fresh, .prb, .drv, .flux, .therm, .safePend, .life, .lbResume, .armAfter,
    .glean, .wave, .cores] s (highWrite m off v s) := by
  unfold highWrite
  exact .mono (.ite (show Touches [.host, .log, .regs, .modeWas, .time, .fed, .barriers, .seqs, .pair, .outs, .wits, .rings,
      .fabric, .lbReq, .lbWaited, .bias, .slots, .pins, .agenda, .binder, .force, .gran, .halves, .mem, .ce, .adcs, .mon,
      .senses, .fresh, .prb, .drv, .flux, .therm, .safePend, .life, .lbResume, .armAfter, .glean, .wave, .cores] _ _ by
      split
      · exact .mono (.ite (touches_regWrite.after touches_unstage) (touches_partialLost.after touches_unstage))
      · exact .mono touches_partialLost) (.refl _))

theorem touches_answer {m : ℕ} {v : W40} {latch : Option (ℕ × W40)} {s : State} : Touches [.host] s (answer m v latch s) := by
  unfold answer
  exact .mono Touches.host

theorem touches_hostRead {m : ℕ} {off : ℕ} {s : State} : Touches [.regs, .time, .gran, .host] s (hostRead m off s) := by
  unfold hostRead
  exact .mono (.ite (touches_answer.after touches_regRead) (.refl _))

theorem touches_lowRead {m : ℕ} {off : ℕ} {s : State} : Touches [.regs, .time, .gran, .host] s (lowRead m off s) := by
  unfold lowRead
  exact .mono (.ite (touches_answer.after touches_regRead) (.refl _))

theorem touches_highRead {m : ℕ} {off : ℕ} {s : State} : Touches [.host] s (highRead m off s) := by
  unfold highRead
  exact .mono (.ite touches_answer (.refl _))

theorem touches_partialRow {m : ℕ} {wr : Bool} {off : ℕ} {size : ℕ} {s : State} : Touches [.host, .log, .regs] s (partialRow m
    wr off size s) := by
  unfold partialRow
  exact .mono (.ite (.ite (touches_partialLost.after touches_dropStaged) (Touches.host.after touches_answer)) (.refl _))

theorem touches_pcieConfig {m : ℕ} {b : PcieBit} {on : Bool} {s : State} : Touches [.host, .ce, .regs, .free, .mon, .safePend,
    .slots, .seqs, .fresh, .force, .prb, .drv, .log, .flux, .binder, .agenda, .gran, .halves, .mem, .rings] s (pcieConfig m b on
    s) := by
  unfold pcieConfig
  exact .mono (.ite (.refl _) (show Touches [.host, .ce, .regs, .free, .mon, .safePend, .slots, .seqs, .fresh, .force, .prb,
      .drv, .log, .flux, .binder, .agenda, .gran, .halves, .mem, .rings] _ _ by
      split
      · exact .mono Touches.host
      · exact .mono (touches_msixReleaseAll.after Touches.host)
      · exact .mono (touches_msixReleaseAll.after Touches.host)
      · exact .mono (.ite (.refl _) (.ite Touches.host touches_vfOff))
      · exact .mono (.ite (.refl _) Touches.host)
      · exact .mono (.ite (.refl _) Touches.host)
      · exact .mono (.ite (.refl _) Touches.host)))

theorem touches_mgmtAnswer {bs : Option (List Byte)} {s : State} : Touches [.host] s (mgmtAnswer bs s) := by
  unfold mgmtAnswer
  exact .mono Touches.host

theorem touches_modeBit {m : ℕ} {i : ℕ} {b : Bool} {s : State} : Touches [.host, .log, .regs, .modeWas, .time, .fed, .barriers,
    .seqs, .pair, .outs, .wits, .rings, .fabric, .lbReq, .lbWaited, .bias, .slots, .pins, .agenda, .binder, .force, .gran,
    .halves, .mem, .ce, .adcs, .mon, .senses, .fresh, .prb, .drv, .flux, .therm, .safePend, .life, .lbResume, .armAfter, .glean,
    .wave, .cores] s (modeBit m i b s) := by
  unfold modeBit
  exact .mono touches_hostWrite

end Sys2Proof.Machine
end

section
/-! PROOF. What may change with the instructions of a sequencer. -/

set_option Elab.async false

namespace Sys2Proof.Machine

variable {K : List Fld}

theorem touches_issueRow {op g : ℕ} {act : W40 → Tick → State → State} {s : State} (h : ∀ v e s, Touches K s (act v e s)) :
    Touches ([.seqs, .log, .slots, .regs, .force, .prb, .drv, .flux, .outs, .pair, .ce, .time, .therm, .bias, .wits, .rings, .host, .fabric,
    .safePend, .life, .lbReq, .lbWaited, .lbResume, .armAfter] ++ K) s (issueRow op g act s) := by
  unfold issueRow
  dsimp only
  split
  · split
    · exact .left touches_seqFault
    · split
      · exact .right (h _ _ _)
      · exact .left (.mono (.refl _))
  · exact .left (.mono (.refl _))

theorem touches_goOn {g : ℕ} {n : ℕ} {k : ℕ} {s : State} : Touches [.seqs] s (goOn g n k s) := by
  unfold goOn
  exact .mono touches_modSeq

theorem touches_goTo {g : ℕ} {a : ℕ} {k : ℕ} {s : State} : Touches [.seqs] s (goTo g a k s) := by
  unfold goTo
  exact .mono touches_modSeq

theorem touches_setGReg {g : ℕ} {i : ℕ} {v : W40} {s : State} : Touches [.seqs] s (setGReg g i v s) := by
  unfold setGReg
  exact .mono touches_modSeq

theorem touches_setCursor {g : ℕ} {c : Tick} {s : State} : Touches [.seqs] s (setCursor g c s) := by
  unfold setCursor
  exact .mono touches_modSeq

theorem touches_second {g : ℕ} {act : State → State} {s : State} (h : ∀ s, Touches K s (act s)) :
    Touches K s (second g act s) := by
  unfold second
  split
  · exact h _
  · exact (Touches.refl s).mono fun _ => nofun

theorem touches_withWord1 {g : ℕ} {act : W40 → State → State} {s : State} (h : ∀ v s, Touches K s (act v s)) :
    Touches ([.seqs, .log, .slots, .regs, .force, .prb, .drv, .flux, .outs, .pair, .ce, .time, .therm, .bias, .wits, .rings, .host, .fabric,
    .safePend, .life, .lbReq, .lbWaited, .lbResume, .armAfter] ++ K) s (withWord1 g act s) := by
  unfold withWord1
  dsimp only
  split
  · exact .left touches_seqFault
  · exact .right (h _ _)

theorem touches_faultHere {kind : ℕ} {g : ℕ} {s : State} : Touches [.seqs, .log, .slots, .regs, .force, .prb, .drv, .flux,
    .outs, .pair, .ce, .time, .therm, .bias, .wits, .rings, .host, .fabric, .safePend, .life, .lbReq, .lbWaited, .lbResume,
    .armAfter] s (faultHere kind g s) := by
  unfold faultHere
  exact .mono touches_seqFault

theorem touches_doNop {g : ℕ} {s : State} : Touches [.seqs, .log, .slots, .regs, .force, .prb, .drv, .flux, .outs, .pair, .ce,
    .time, .therm, .bias, .wits, .rings, .host, .fabric, .safePend, .life, .lbReq, .lbWaited, .lbResume, .armAfter] s (doNop g
    s) := by
  unfold doNop
  exact .mono (touches_issueRow (fun _ _ _ => touches_goOn))

theorem touches_declare {g : ℕ} {gap : ℕ} {halt : Bool} {e : Tick} {s : State} : Touches [.seqs] s (declare g gap halt e
    s) := by
  unfold declare
  exact .mono touches_modSeq

theorem touches_doHalt {g : ℕ} {s : State} : Touches [.seqs, .log, .slots, .regs, .force, .prb, .drv, .flux, .outs, .pair, .ce,
    .time, .therm, .bias, .wits, .rings, .host, .fabric, .safePend, .life, .lbReq, .lbWaited, .lbResume, .armAfter] s (doHalt g
    s) := by
  unfold doHalt
  exact .mono (touches_issueRow (fun _ _ _ => touches_declare))

theorem touches_doShot {g : ℕ} {s : State} : Touches [.seqs, .log, .slots, .regs, .force, .prb, .drv, .flux, .outs, .pair, .ce,
    .time, .therm, .bias, .wits, .rings, .host, .fabric, .safePend, .life, .lbReq, .lbWaited, .lbResume, .armAfter] s (doShot g
    s) := by
  unfold doShot
  exact .mono (touches_issueRow (fun _ _ _ => touches_declare))

theorem touches_doWait {g : ℕ} {s : State} : Touches [.seqs, .log, .slots, .regs, .force, .prb, .drv, .flux, .outs, .pair, .ce,
    .time, .therm, .bias, .wits, .rings, .host, .fabric, .safePend, .life, .lbReq, .lbWaited, .lbResume, .armAfter] s (doWait g
    s) := by
  unfold doWait
  exact .mono (touches_issueRow (fun _ _ _ => touches_goOn.after touches_setCursor))

theorem touches_doAt {g : ℕ} {s : State} : Touches [.seqs, .log, .slots, .regs, .force, .prb, .drv, .flux, .outs, .pair, .ce,
    .time, .therm, .bias, .wits, .rings, .host, .fabric, .safePend, .life, .lbReq, .lbWaited, .lbResume, .armAfter] s (doAt g
    s) := by
  unfold doAt
  exact .mono (touches_issueRow (fun _ _ _ => (show Touches [.seqs, .log, .slots, .regs, .force, .prb, .drv, .flux, .outs,
      .pair, .ce, .time, .therm, .bias, .wits, .rings, .host, .fabric, .safePend, .life, .lbReq, .lbWaited, .lbResume,
      .armAfter] _ _ by
      split
      · exact .mono (touches_goOn.after touches_setCursor)
      · exact .mono (touches_goOn.after touches_setCursor)
      · exact .mono (touches_withWord1 (fun _ _ => touches_second (fun _ => touches_goOn.after touches_setCursor)))
      · exact .mono touches_faultHere)))

theorem touches_doFence {g : ℕ} {s : State} : Touches [.seqs, .log, .slots, .regs, .force, .prb, .drv, .flux, .outs, .pair, .ce,
    .time, .therm, .bias, .wits, .rings, .host, .fabric, .safePend, .life, .lbReq, .lbWaited, .lbResume, .armAfter] s (doFence g
    s) := by
  unfold doFence
  exact .mono (touches_issueRow (fun _ _ _ => touches_modSeq))

theorem touches_doFenceComplete {g : ℕ} {s : State} : Touches [.seqs] s (doFenceComplete g s) := by
  unfold doFenceComplete
  split
  · exact .mono (.ite touches_completeAt (.refl _))
  · exact .mono (.refl _)

theorem touches_syncIssue {b : ℕ} {x : Tick} {g : ℕ} {s : State} : Touches [.seqs, .barriers, .regs, .log, .ports] s (syncIssue
    b x g s) := by
  unfold syncIssue
  exact .mono (touches_barArrive.after touches_modSeq)

theorem touches_doSync {g : ℕ} {s : State} : Touches [.seqs, .barriers, .regs, .log, .ports, .slots, .force, .prb, .drv, .flux,
    .outs, .pair, .ce, .time, .therm, .bias, .wits, .rings, .host, .fabric, .safePend, .life, .lbReq, .lbWaited, .lbResume,
    .armAfter] s (doSync g s) := by
  unfold doSync
  split
  · exact .mono (.ite touches_syncIssue (.refl _))
  · exact .mono (touches_issueRow (fun _ _ _ => .ite touches_syncIssue touches_modSeq))

theorem touches_doEvwait {g : ℕ} {s : State} : Touches [.seqs, .log, .slots, .regs, .force, .prb, .drv, .flux, .outs, .pair,
    .ce, .time, .therm, .bias, .wits, .rings, .host, .fabric, .safePend, .life, .lbReq, .lbWaited, .lbResume, .armAfter] s
    (doEvwait g s) := by
  unfold doEvwait
  exact .mono (touches_issueRow (fun _ _ _ => (Touches.ite touches_evComplete (.refl _)).after touches_modSeq))

theorem touches_doEvwaitDeadline {g : ℕ} {s : State} : Touches [.seqs] s (doEvwaitDeadline g s) := by
  unfold doEvwaitDeadline
  split
  · exact .mono (.ite (touches_completeAt.after touches_modSeq) (.refl _))
  · exact .mono (.refl _)

theorem touches_actionRow {op g : ℕ} {act : W40 → Tick → State → State} {s : State} (h : ∀ v e s, Touches K s (act v e s)) :
    Touches ([.seqs, .log, .slots, .regs, .force, .prb, .drv, .flux, .outs, .pair, .ce, .time, .therm, .bias, .wits, .rings, .host,
    .fabric, .safePend, .life, .lbReq, .lbWaited, .lbResume, .armAfter] ++ K) s (actionRow op g act s) := by
  refine (touches_issueRow (K := [.seqs] ++ K) fun v e s => ?_).mono fun f hf => ?_
  · dsimp only
    split
    · exact .left (.mono (.refl _))
    · exact (h _ _ _).after touches_modSeq
  · simp only [List.mem_append] at hf ⊢
    rcases hf with hf | hf | hf
    · exact .inl hf
    · exact .inl (by revert f; decide)
    · exact .inr hf


theorem touches_launch {g : ℕ} {e : Tick} {ext : ℕ} {a : Act} {s : State} : Touches [.seqs, .regs, .fabric, .log] s (launch g e
    ext a s) := by
  unfold launch
  exact .mono (touches_enqueue.after touches_goOn)

theorem touches_doPlay {g : ℕ} {s : State} : Touches [.seqs, .log, .slots, .regs, .force, .prb, .drv, .flux, .outs, .pair, .ce,
    .time, .therm, .bias, .wits, .rings, .host, .fabric, .safePend, .life, .lbReq, .lbWaited, .lbResume, .armAfter] s (doPlay g
    s) := by
  unfold doPlay
  exact .mono (touches_actionRow (fun _ _ _ => .ite touches_faultHere touches_launch))

theorem touches_doPlayf {g : ℕ} {s : State} : Touches [.seqs, .log, .slots, .regs, .force, .prb, .drv, .flux, .outs, .pair, .ce,
    .time, .therm, .bias, .wits, .rings, .host, .fabric, .safePend, .life, .lbReq, .lbWaited, .lbResume, .armAfter] s (doPlayf g
    s) := by
  unfold doPlayf
  exact .mono (touches_actionRow (fun _ _ _ => touches_launch))

theorem touches_doAcq {g : ℕ} {s : State} : Touches [.seqs, .log, .slots, .regs, .force, .prb, .drv, .flux, .outs, .pair, .ce,
    .time, .therm, .bias, .wits, .rings, .host, .fabric, .safePend, .life, .lbReq, .lbWaited, .lbResume, .armAfter] s (doAcq g
    s) := by
  unfold doAcq
  exact .mono (touches_actionRow (fun _ _ _ => .ite touches_faultHere touches_launch))

theorem touches_withTgt {g : ℕ} {v : W40} {act : Bool → State → State} {s : State} (h : ∀ p s, Touches K s (act p s)) :
    Touches ([.seqs, .log, .slots, .regs, .force, .prb, .drv, .flux, .outs, .pair, .ce, .time, .therm, .bias, .wits, .rings, .host, .fabric,
    .safePend, .life, .lbReq, .lbWaited, .lbResume, .armAfter] ++ K) s (withTgt g v act s) := by
  unfold withTgt
  split
  · split
    · exact .left touches_faultHere
    · exact .right (h _ _)
  · exact .right (h _ _)
  · exact .left touches_faultHere

theorem touches_doSetf {g : ℕ} {s : State} : Touches [.seqs, .log, .slots, .regs, .force, .prb, .drv, .flux, .outs, .pair, .ce,
    .time, .therm, .bias, .wits, .rings, .host, .fabric, .safePend, .life, .lbReq, .lbWaited, .lbResume, .armAfter] s (doSetf g
    s) := by
  unfold doSetf
  exact .mono (touches_actionRow (fun _ _ _ => touches_withTgt (fun _ _ => touches_launch)))

theorem touches_doSetp {g : ℕ} {s : State} : Touches [.seqs, .log, .slots, .regs, .force, .prb, .drv, .flux, .outs, .pair, .ce,
    .time, .therm, .bias, .wits, .rings, .host, .fabric, .safePend, .life, .lbReq, .lbWaited, .lbResume, .armAfter] s (doSetp g
    s) := by
  unfold doSetp
  exact .mono (touches_actionRow (fun _ _ _ => touches_withTgt (fun _ _ => touches_launch)))

theorem touches_doVz {g : ℕ} {s : State} : Touches [.seqs, .log, .slots, .regs, .force, .prb, .drv, .flux, .outs, .pair, .ce,
    .time, .therm, .bias, .wits, .rings, .host, .fabric, .safePend, .life, .lbReq, .lbWaited, .lbResume, .armAfter] s (doVz g
    s) := by
  unfold doVz
  exact .mono (touches_actionRow (fun _ _ _ => touches_withTgt (fun _ _ => touches_launch)))

theorem touches_doSeta {g : ℕ} {s : State} : Touches [.seqs, .log, .slots, .regs, .force, .prb, .drv, .flux, .outs, .pair, .ce,
    .time, .therm, .bias, .wits, .rings, .host, .fabric, .safePend, .life, .lbReq, .lbWaited, .lbResume, .armAfter] s (doSeta g
    s) := by
  unfold doSeta
  exact .mono (touches_actionRow (fun _ _ _ => touches_withTgt (fun _ _ => touches_launch)))

theorem touches_doBias {g : ℕ} {s : State} : Touches [.seqs, .log, .slots, .regs, .force, .prb, .drv, .flux, .outs, .pair, .ce,
    .time, .therm, .bias, .wits, .rings, .host, .fabric, .safePend, .life, .lbReq, .lbWaited, .lbResume, .armAfter] s (doBias g
    s) := by
  unfold doBias
  exact .mono (touches_actionRow (fun _ _ _ => touches_launch))

theorem touches_doStrobe {g : ℕ} {s : State} : Touches [.seqs, .log, .slots, .regs, .force, .prb, .drv, .flux, .outs, .pair,
    .ce, .time, .therm, .bias, .wits, .rings, .host, .fabric, .safePend, .life, .lbReq, .lbWaited, .lbResume, .armAfter] s
    (doStrobe g s) := by
  unfold doStrobe
  exact .mono (touches_actionRow (fun _ _ _ => touches_launch))

theorem touches_doBrFlags {g : ℕ} {s : State} : Touches [.seqs, .log, .slots, .regs, .force, .prb, .drv, .flux, .outs, .pair,
    .ce, .time, .therm, .bias, .wits, .rings, .host, .fabric, .safePend, .life, .lbReq, .lbWaited, .lbResume, .armAfter] s
    (doBrFlags g s) := by
  unfold doBrFlags
  exact .mono (touches_issueRow (fun _ _ _ => .ite (.refl _) (.ite touches_faultHere (.ite (touches_second (fun _ =>
      touches_goTo)) touches_goOn))))

theorem touches_doBrVerdict {g : ℕ} {s : State} : Touches [.seqs, .log, .slots, .regs, .force, .prb, .drv, .flux, .outs, .pair,
    .ce, .time, .therm, .bias, .wits, .rings, .host, .fabric, .safePend, .life, .lbReq, .lbWaited, .lbResume, .armAfter] s
    (doBrVerdict g s) := by
  unfold doBrVerdict
  exact .mono (touches_issueRow (fun _ _ _ => .ite (.refl _) (touches_withWord1 (fun _ _ => .ite touches_faultHere (.ite
      (touches_brTry.after touches_modSeq) (.refl _))))))

theorem touches_doBrDeadline {g : ℕ} {s : State} : Touches [.seqs] s (doBrDeadline g s) := by
  unfold doBrDeadline
  split
  · split
    · exact .mono (.ite touches_brResolve (.refl _))
    · exact .mono (.refl _)
  · exact .mono (.refl _)

theorem touches_doJmp {g : ℕ} {s : State} : Touches [.seqs, .log, .slots, .regs, .force, .prb, .drv, .flux, .outs, .pair, .ce,
    .time, .therm, .bias, .wits, .rings, .host, .fabric, .safePend, .life, .lbReq, .lbWaited, .lbResume, .armAfter] s (doJmp g
    s) := by
  unfold doJmp
  exact .mono (touches_issueRow (fun _ _ _ => touches_second (fun _ => touches_goTo)))

theorem touches_doCall {g : ℕ} {s : State} : Touches [.seqs, .log, .slots, .regs, .force, .prb, .drv, .flux, .outs, .pair, .ce,
    .time, .therm, .bias, .wits, .rings, .host, .fabric, .safePend, .life, .lbReq, .lbWaited, .lbResume, .armAfter] s (doCall g
    s) := by
  unfold doCall
  exact .mono (touches_issueRow (fun _ _ _ => touches_second (fun _ => .ite touches_faultHere (touches_goTo.after
      touches_modSeq))))

theorem touches_doRet {g : ℕ} {s : State} : Touches [.seqs, .log, .slots, .regs, .force, .prb, .drv, .flux, .outs, .pair, .ce,
    .time, .therm, .bias, .wits, .rings, .host, .fabric, .safePend, .life, .lbReq, .lbWaited, .lbResume, .armAfter] s (doRet g
    s) := by
  unfold doRet
  exact .mono (touches_issueRow (fun _ _ _ => touches_second (fun _ => (show Touches [.seqs, .log, .slots, .regs, .force, .prb,
      .drv, .flux, .outs, .pair, .ce, .time, .therm, .bias, .wits, .rings, .host, .fabric, .safePend, .life, .lbReq, .lbWaited,
      .lbResume, .armAfter] _ _ by
      split
      · exact .mono touches_faultHere
      · exact .mono (touches_goTo.after touches_modSeq)))))

theorem touches_doLoopBegin {g : ℕ} {s : State} : Touches [.seqs, .log, .slots, .regs, .force, .prb, .drv, .flux, .outs, .pair,
    .ce, .time, .therm, .bias, .wits, .rings, .host, .fabric, .safePend, .life, .lbReq, .lbWaited, .lbResume, .armAfter] s
    (doLoopBegin g s) := by
  unfold doLoopBegin
  exact .mono (touches_issueRow (fun _ _ _ => .ite (.refl _) (.ite (touches_second (fun _ => touches_goTo)) (.ite
      touches_faultHere (touches_goOn.after touches_modSeq)))))

theorem touches_doLoopEnd {g : ℕ} {s : State} : Touches [.seqs, .log, .slots, .regs, .force, .prb, .drv, .flux, .outs, .pair,
    .ce, .time, .therm, .bias, .wits, .rings, .host, .fabric, .safePend, .life, .lbReq, .lbWaited, .lbResume, .armAfter] s
    (doLoopEnd g s) := by
  unfold doLoopEnd
  exact .mono (touches_issueRow (fun _ _ _ => .ite (.refl _) (show Touches [.seqs, .log, .slots, .regs, .force, .prb, .drv,
      .flux, .outs, .pair, .ce, .time, .therm, .bias, .wits, .rings, .host, .fabric, .safePend, .life, .lbReq, .lbWaited,
      .lbResume, .armAfter] _ _ by
      split
      · exact .mono touches_faultHere
      · exact .mono (.ite (touches_second (fun _ => touches_goTo.after touches_modSeq)) (touches_goOn.after touches_modSeq)))))

theorem touches_doLdi {g : ℕ} {s : State} : Touches [.seqs, .log, .slots, .regs, .force, .prb, .drv, .flux, .outs, .pair, .ce,
    .time, .therm, .bias, .wits, .rings, .host, .fabric, .safePend, .life, .lbReq, .lbWaited, .lbResume, .armAfter] s (doLdi g
    s) := by
  unfold doLdi
  exact .mono (touches_issueRow (fun _ _ _ => .ite (touches_withWord1 (fun _ _ => touches_second (fun _ => touches_goOn.after
      touches_setGReg))) (touches_goOn.after touches_setGReg)))

theorem touches_doArith {op : ℕ} {f : W40 → W40 → W40} {g : ℕ} {s : State} : Touches [.seqs, .log, .slots, .regs, .force, .prb,
    .drv, .flux, .outs, .pair, .ce, .time, .therm, .bias, .wits, .rings, .host, .fabric, .safePend, .life, .lbReq, .lbWaited,
    .lbResume, .armAfter] s (doArith op f g s) := by
  unfold doArith
  exact .mono (touches_issueRow (fun _ _ _ => touches_goOn.after touches_setGReg))

theorem touches_doCmp {g : ℕ} {s : State} : Touches [.seqs, .log, .slots, .regs, .force, .prb, .drv, .flux, .outs, .pair, .ce,
    .time, .therm, .bias, .wits, .rings, .host, .fabric, .safePend, .life, .lbReq, .lbWaited, .lbResume, .armAfter] s (doCmp g
    s) := by
  unfold doCmp
  exact .mono (touches_issueRow (fun _ _ _ => touches_goOn.after touches_modSeq))

theorem touches_doMark {g : ℕ} {s : State} : Touches [.seqs, .log, .slots, .regs, .force, .prb, .drv, .flux, .outs, .pair, .ce,
    .time, .therm, .bias, .wits, .rings, .host, .fabric, .safePend, .life, .lbReq, .lbWaited, .lbResume, .armAfter] s (doMark g
    s) := by
  unfold doMark
  exact .mono (touches_issueRow (fun _ _ _ => ((touches_goOn.after (.ite touches_fireProd (.refl _))).after (.ite touches_modSeq
      (.refl _))).after (.ite (.refl _) touches_setGReg)))

theorem touches_doUndefined {g : ℕ} {s : State} : Touches [.seqs, .log, .slots, .regs, .force, .prb, .drv, .flux, .outs, .pair,
    .ce, .time, .therm, .bias, .wits, .rings, .host, .fabric, .safePend, .life, .lbReq, .lbWaited, .lbResume, .armAfter] s
    (doUndefined g s) := by
  unfold doUndefined
  exact .mono (.ite (.ite touches_seqFault (.ite (.refl _) touches_faultHere)) (.refl _))

end Sys2Proof.Machine
end

section
/-! PROOF. What may change with the outputs of a tick. -/

set_option Elab.async false

namespace Sys2Proof.Machine

theorem touches_outPush {o : ℕ} {codes : List ℤ} {s : State} : Touches [.outs] s (outPush o codes s) := by
  unfold outPush
  exact .mono touches_setOut

theorem touches_stageTick {g : ℕ} {s : State} : Touches [.regs] s (stageTick g s) := by
  unfold stageTick
  exact .mono (.ite touches_putB (.refl _))

theorem touches_outTick {o : ℕ} {s : State} : Touches [.outs, .regs, .log, .flux] s (outTick o s) := by
  unfold outTick
  exact .mono (.ite (touches_outPush.after touches_rfTick) (touches_stageTick.after (touches_outPush.after touches_fluxTick)))

theorem touches_outputTick {s : State} : Touches [.outs, .regs, .log, .flux] s (outputTick s) := by
  unfold outputTick
  exact .mono (Touches.foldS fun _ _ => touches_outTick)

theorem touches_envelopeTick {s : State} : Touches [.prb, .drv, .flux] s (envelopeTick s) := by
  unfold envelopeTick
  exact .mono ((Touches.foldS fun _ _ => touches_fluxEnvDone).after ((Touches.foldS fun _ _ => touches_envDone).after
      (Touches.foldS fun _ _ => touches_envDone)))

end Sys2Proof.Machine
end

section
/-! PROOF. What may change with one tick of CK1. -/

set_option Elab.async false

namespace Sys2Proof.Machine

theorem touches_countTick {s : State} : Touches [.clock, .log] s (countTick s) := by
  unfold countTick
  exact .mono (.ite ((Touches.ite touches_epochWrap (.refl _)).after (Touches.set [.clock] rfl)) (.refl _))

theorem touches_clearTick {s : State} : Touches [.host] s (clearTick s) := by
  unfold clearTick
  exact .mono Touches.host

theorem touches_binderEnd {s : State} : Touches [.binder, .agenda, .regs, .log, .gran, .halves, .mem, .rings, .host] s
    (binderEnd s) := by
  unfold binderEnd
  exact .mono ((Touches.foldS fun _ _ => (show Touches [.agenda, .binder, .regs, .log, .gran, .halves, .mem, .rings,
      .host] _ _ by
      split
      · exact .mono (.ite (touches_setPresent.after Touches.agenda) (.refl _))
      · exact .mono (.refl _))).after ((Touches.foldS fun _ _ => touches_bndIn).after Touches.binder))

theorem touches_endTick {s : State} : Touches [.binder, .agenda, .regs, .log, .pool, .gran, .halves, .mem, .rings, .host, .bus, .ports,
    .pair, .made, .fabric, .force, .bias, .outs, .flux, .mon, .senses, .crcDown, .modeWas, .fresh] s (endTick s) := by
  have hforget {x : Option W40} {y : List (ℕ × ℕ)} {z : List ℕ} {s : State} :
      Touches [.crcDown, .modeWas, .fresh] s { s with modeWas := x, fresh := y, crcDown := z } := .set _ rfl
  unfold endTick
  exact .mono (hforget.after (touches_logTick.after (touches_convKick.after (touches_routeFires.after (touches_outputTick.after
    (touches_strobesEnd.after (touches_evStrobesAct.after (touches_biasActs.after (touches_resMade.after (touches_postedOut.after
    touches_binderEnd))))))))))

theorem touches_verdictSeen {x : Tick} {i : ℕ} {word : W40} {ref : Tick} {s : State} : Touches [.vb, .seqs] s (verdictSeen x i
    word ref s) := by
  unfold verdictSeen
  exact .mono (touches_brTryAll.after touches_setVent)

theorem touches_act {x : Tick} {d : Deferred} {s : State} : Touches [.vb, .seqs, .binder, .regs, .fabric, .wits, .time, .agenda,
    .pins, .force, .gran, .log, .halves, .mem, .rings, .host, .ports, .ce, .pair, .outs, .cores] s (act x d s) := by
  unfold act
  split
  · exact .mono touches_verdictSeen
  · exact .mono (.refl _)
  · exact .mono (.ite (.refl _) (touches_brTryAll.after touches_setPset))
  · exact .mono (.ite (touches_brTryAll.after touches_setDecoder) (.refl _))
  · exact .mono touches_eventArrive
  · exact .mono touches_pulseStart
  · exact .mono Touches.pins
  · exact .mono touches_pulseDown
  · exact .mono touches_tripPin
  · exact .mono (touches_brTryAll.after touches_shotStarts)
  · exact .mono touches_portEnable
  · exact .mono touches_coreIdle

theorem touches_runAgenda {s : State} : Touches [.agenda, .vb, .seqs, .binder, .regs, .fabric, .wits, .time, .pins, .force,
    .gran, .log, .halves, .mem, .rings, .host, .ports, .ce, .pair, .outs, .cores] s (runAgenda s) := by
  unfold runAgenda
  exact .mono (Touches.foldS fun _ _ => .ite (touches_act.after Touches.agenda) (.refl _))

theorem touches_filterTick {s : State} : Touches [.slots, .regs] s (filterTick s) := by
  unfold filterTick
  exact .mono (Touches.foldS fun _ _ => .ite touches_fsetUpdate (.refl _))

theorem touches_pastTidy {s : State} : Touches [.outs, .time, .lbResume, .armAfter, .seqs, .adcs, .pair, .senses, .glean,
    .safeAt] s (pastTidy s) := by
  unfold pastTidy
  exact .mono ((Touches.set [.time, .lbResume, .armAfter, .seqs, .adcs, .pair, .senses, .glean, .safeAt] rfl).after
      (Touches.foldS fun _ _ => touches_outTidy))

theorem touches_pastEnd {s : State} : Touches [.holdHist, .lbHist, .ballHist, .bias, .outs, .time, .lbResume, .armAfter, .seqs,
    .adcs, .pair, .senses, .glean, .safeAt, .slots, .cores] s (pastEnd s) := by
  unfold pastEnd
  exact .mono (touches_coresTidy.after (touches_slotsTidy.after (touches_marksEnd.after (touches_pastTidy.after
      (touches_biasHeld.after (Touches.set [.holdHist, .lbHist, .ballHist] rfl))))))

theorem touches_trapTick {s : State} : Touches [.ce, .mon, .safePend, .slots, .seqs, .fresh, .force, .prb, .drv, .regs, .log,
    .flux, .binder, .agenda, .gran, .halves, .mem, .rings, .host, .free, .outs] s (trapTick s) := by
  unfold trapTick
  exact .mono (touches_flrKick.after (touches_bandKick.after touches_handlerReturns))

theorem touches_tickOnce {s : State} : Touches [.host, .binder, .agenda, .regs, .log, .pool, .gran, .halves, .mem, .rings, .bus,
    .ports, .pair, .made, .fabric, .force, .bias, .outs, .flux, .mon, .senses, .crcDown, .modeWas, .fresh, .holdHist, .lbHist,
    .ballHist, .time, .lbResume, .armAfter, .seqs, .adcs, .glean, .safeAt, .slots, .cores, .clock, .therm, .vb, .wits, .pins,
    .ce, .safePend, .prb, .drv, .free] s (tickOnce s) := by
  unfold tickOnce
  exact .mono (.ite touches_clearTick (((touches_reasonsUpdate.after (touches_envelopeTick.after touches_resTick)).after
      (touches_filterTick.after (touches_overloadEnds.after (touches_railTick.after touches_slewTick)))).after
      (touches_trapTick.after (touches_runAgenda.after (touches_lifeTick.after (touches_clearTick.after (touches_countTick.after
      (touches_pastEnd.after touches_endTick))))))))

theorem touches_epochAdvanceRow {s : State} : Touches [.host, .binder, .agenda, .regs, .log, .pool, .gran, .halves, .mem, .rings, .bus,
    .ports, .pair, .made, .fabric, .force, .bias, .outs, .flux, .mon, .senses, .crcDown, .modeWas, .fresh, .holdHist, .lbHist,
    .ballHist, .time, .lbResume, .armAfter, .seqs, .adcs, .glean, .safeAt, .slots, .cores, .clock, .therm, .vb, .wits, .pins,
    .ce, .safePend, .prb, .drv, .free] s (epochAdvanceRow s) := by
  unfold epochAdvanceRow
  exact .mono (.ite touches_tickOnce (.refl _))

end Sys2Proof.Machine
end

section
/-! PROOF. No step undoes what a step may not undo (O59). -/

set_option Elab.async false

namespace Sys2Proof.Machine

/-- No command undoes what a step may not undo: each by the parts that its meaning touches. -/
theorem exec_keeps : ∀ {c : Instr} {s t : State}, exec c s = .next t → Keeps s t := by
  intro c s t h
  exact match c, h with
    | .powerOnResetRelease, rfl => touches_powerOnRow.keeps
    | .powerLoss, rfl => touches_powerLossRow.keeps
    | .resetNCycle, rfl => touches_resetNRow.keeps
    | .perstN, rfl => touches_perstRow.keeps
    | .functionLevelReset _, rfl => touches_flrRow.keeps
    | .pllLock, rfl => touches_pllLockRow.keeps
    | .pllNoLock _, rfl => touches_pllNoLockRow.keeps
    | .pllUnlock, rfl => touches_pllUnlockRow.keeps
    | .refLost, rfl => touches_refLostRow.keeps
    | .refRestored, rfl => touches_refRestoredRow.keeps
    | .epochAdvance, rfl => touches_epochAdvanceRow.keeps
    | .powerupStep _, rfl => touches_powerupStepRow.keeps
    | .nvmLoadDone _, rfl => touches_nvmLoadRow.keeps
    | .adcSelfCalDone _ _, rfl => touches_selfCalDoneRow.keeps
    | .granaryZeroDone, rfl => touches_zeroDoneRow.keeps
    | .secureBoot, rfl => touches_secureBootRow.keeps
    | .stagingComplete, rfl => touches_stagingCompleteRow.keeps
    | .altImageCheck, rfl => touches_altImageRow.keeps
    | .devEnterReady, rfl => touches_doEnterReady.keeps
    | .devEnterSafe, rfl => touches_doEnterSafe.keeps
    | .devEnterSafeTimeout, rfl => touches_enterSafeTimeoutRow.keeps
    | .microTrapFatal, rfl => touches_microTrapFatalRow.keeps
    | .dieLinkCrc _ _, rfl => touches_dieLinkCrcRow.keeps
    | .tileLinkTimeout _, rfl => touches_tileLinkTimeoutRow.keeps
    | .dieLinkLost _, rfl => touches_dieLinkLostRow.keeps
    | .modeSequence _ _, rfl => touches_modeBit.keeps
    | .modeHold _ _, rfl => touches_modeBit.keeps
    | .modeLoopback _ _, rfl => touches_modeBit.keeps
    | .modeWitness _ _, rfl => touches_modeBit.keeps
    | .modeFederated _ _, rfl => touches_modeBit.keeps
    | .modePaired _ _, rfl => touches_modeBit.keeps
    | .loopbackSwitch, rfl => touches_loopbackSwitchRow.keeps
    | .loopbackWait, rfl => touches_loopbackWaitRow.keeps
    | .loopbackResume, rfl => touches_loopbackResumeRow.keeps
    | .pairModeMessage _, rfl => touches_pairModeRow.keeps
    | .shotBoundary _, rfl => touches_shotBoundaryRow.keeps
    | .armedStart _, rfl => touches_armedStartRow.keeps
    | .sequencerResume _, rfl => touches_sequencerResumeRow.keeps
    | .tickNowRead _, rfl => touches_hostRead.keeps
    | .timeSet, rfl => touches_doTimeSet.keeps
    | .timeStep, rfl => touches_timeStepRow.keeps
    | .timeStepResume, rfl => touches_timeStepResumeRow.keeps
    | .timeStepWait, rfl => touches_timeStepWaitRow.keeps
    | .timeReacquire, rfl => touches_doReacquire.keeps
    | .syncInEdge _, rfl => touches_syncInEdgeRow.keeps
    | .loadArm _, rfl => touches_hostWrite.keeps
    | .syncInStampRead _, rfl => touches_hostRead.keeps
    | .syncOutFire, rfl => touches_syncOutFireRow.keeps
    | .syncOutCtlWrite _ _, rfl => touches_hostWrite.keeps
    | .syncOutPeriodWrite _ _, rfl => touches_hostWrite.keeps
    | .ptmDialog, rfl => touches_ptmDialogRow.keeps
    | .ptmNow _, rfl => touches_hostWrite.keeps
    | .ptmResponse _ _ _, rfl => touches_ptmPairIn.keeps
    | .ptmFail, rfl => touches_ptmLost.keeps
    | .ptmTickRead _, rfl => touches_hostRead.keeps
    | .nop _, rfl => touches_doNop.keeps
    | .halt _, rfl => touches_doHalt.keeps
    | .shot _, rfl => touches_doShot.keeps
    | .wait _, rfl => touches_doWait.keeps
    | .atCursor _, rfl => touches_doAt.keeps
    | .fence _, rfl => touches_doFence.keeps
    | .fenceComplete _, rfl => touches_doFenceComplete.keeps
    | .sync _, rfl => touches_doSync.keeps
    | .evwait _, rfl => touches_doEvwait.keeps
    | .evwaitDeadline _, rfl => touches_doEvwaitDeadline.keeps
    | .play _, rfl => touches_doPlay.keeps
    | .playf _, rfl => touches_doPlayf.keeps
    | .acq _, rfl => touches_doAcq.keeps
    | .setf _, rfl => touches_doSetf.keeps
    | .setp _, rfl => touches_doSetp.keeps
    | .vz _, rfl => touches_doVz.keeps
    | .seta _, rfl => touches_doSeta.keeps
    | .bias _, rfl => touches_doBias.keeps
    | .strobe _, rfl => touches_doStrobe.keeps
    | .brFlags _, rfl => touches_doBrFlags.keeps
    | .brVerdict _, rfl => touches_doBrVerdict.keeps
    | .brDeadline _, rfl => touches_doBrDeadline.keeps
    | .jmp _, rfl => touches_doJmp.keeps
    | .call _, rfl => touches_doCall.keeps
    | .ret _, rfl => touches_doRet.keeps
    | .loopBegin _, rfl => touches_doLoopBegin.keeps
    | .loopEnd _, rfl => touches_doLoopEnd.keeps
    | .ldi _, rfl => touches_doLdi.keeps
    | .add _, rfl => touches_doArith.keeps
    | .sub _, rfl => touches_doArith.keeps
    | .and _, rfl => touches_doArith.keeps
    | .xor _, rfl => touches_doArith.keeps
    | .cmp _, rfl => touches_doCmp.keeps
    | .mark _, rfl => touches_doMark.keeps
    | .timelineDispatch _, rfl => touches_timelineDispatchRow.keeps
    | .tileAction _, rfl => touches_tileActionRow.keeps
    | .start _ _, rfl => touches_hostWrite.keeps
    | .stop _ _, rfl => touches_hostWrite.keeps
    | .abort _ _, rfl => touches_hostWrite.keeps
    | .resumeSkip _ _, rfl => touches_hostWrite.keeps
    | .resumeRetime _ _, rfl => touches_hostWrite.keeps
    | .seqCommit _ _, rfl => touches_hostWrite.keeps
    | .seqGregWrite _ _ _ _, rfl => touches_hostWrite.keeps
    | .barrierCfgWrite _ _ _, rfl => touches_hostWrite.keeps
    | .barrierNotice _ _ _, rfl => touches_barrierNoticeRow.keeps
    | .barrierRelease _, rfl => touches_barrierReleaseRow.keeps
    | .waveCommit _ _, rfl => touches_hostWrite.keeps
    | .drvCommit _ _, rfl => touches_hostWrite.keeps
    | .prbCommit _ _, rfl => touches_hostWrite.keeps
    | .fluxCommit _ _, rfl => touches_hostWrite.keeps
    | .xyCfgWrite _ _ _ _, rfl => touches_hostWrite.keeps
    | .biasCodeWrite _ _ _, rfl => touches_hostWrite.keeps
    | .biasStrobe _ _ _, rfl => touches_hostWrite.keeps
    | .biasSlewStep _, rfl => touches_biasSlewStepRow.keeps
    | .spanDwellEnd _, rfl => touches_spanDwellEndRow.keeps
    | .biasIlimit _, rfl => touches_biasIlimitRow.keeps
    | .biasLoadMeasure _ _ _ _, rfl => touches_biasLoadMeasureRow.keeps
    | .adcSelfCal, rfl => touches_doSelfCal.keeps
    | .adcRotationStep _ _, rfl => touches_rotationRow.keeps
    | .adcCtlWrite _ _ _ _, rfl => touches_hostWrite.keeps
    | .adcSettled _ _, rfl => touches_adcSettledRow.keeps
    | .adcRotCtlWrite _ _ _, rfl => touches_hostWrite.keeps
    | .adcOverrange _ _ _, rfl => touches_overrangeRow.keeps
    | .slotCommit _ _, rfl => touches_hostWrite.keeps
    | .detectorUpdate _ _, rfl => touches_detectorRow.keeps
    | .winnowStep _ _ _, rfl => touches_winnowRow.keeps
    | .finalVerdictPost _ _, rfl => touches_finalRow.keeps
    | .absentVerdictPost _, rfl => touches_absentRow.keeps
    | .resultFlush _, rfl => touches_resultFlushRow.keeps
    | .thrKernelLoad _, rfl => touches_doKernelLoad.keeps
    | .verdictBusArrival _, rfl => (touches_clocked fun _ => touches_busArrivalRow).keeps
    | .bndArmSet _ _, rfl => touches_hostWrite.keeps
    | .bndArmAll _, rfl => touches_hostWrite.keeps
    | .binderDeadline _, rfl => (touches_clocked fun _ => touches_binderDeadlineRow).keeps
    | .bndCommit _, rfl => touches_hostWrite.keeps
    | .binderCommitWait, rfl => (touches_clocked fun _ => touches_commitWaitRow).keeps
    | .bndTableLoad _, rfl => touches_doTableLoad.keeps
    | .coreStart _ _, rfl => touches_hostWrite.keeps
    | .coreStop _ _, rfl => touches_hostWrite.keeps
    | .coreNop _, rfl => touches_coreNopRow.keeps
    | .coreMac _, rfl => touches_coreMacRow.keeps
    | .coreAlu _, rfl => touches_coreAluRow.keeps
    | .coreAcc _, rfl => touches_coreAccRow.keeps
    | .coreNorm _, rfl => touches_coreNormRow.keeps
    | .coreExp _, rfl => touches_coreExpRow.keeps
    | .coreLdi _, rfl => touches_coreLdiRow.keeps
    | .setag _, rfl => touches_setagRow.keeps
    | .coreBr _, rfl => touches_coreBrRow.keeps
    | .coreLoop _, rfl => touches_coreLoopRow.keeps
    | .waitt _, rfl => touches_waittRow.keeps
    | .waittTimeout _, rfl => touches_waittTimeoutRow.keeps
    | .rdtap _, rfl => touches_rdtapRow.keeps
    | .post _, rfl => touches_postRow.keeps
    | .coreEvent _, rfl => touches_coreEventRow.keeps
    | .coreHalt _, rfl => touches_coreHaltRow.keeps
    | .tapWrite _ _ _ _, rfl => touches_tapWriteRow.keeps
    | .tapCfgWrite _ _ _ _, rfl => touches_hostWrite.keeps
    | .witnessEnable _ _ _, rfl => touches_hostWrite.keeps
    | .witForce _ _, rfl => touches_hostWrite.keeps
    | .witnessTriggerCommit _ _, rfl => touches_witCommitRow.keeps
    | .baleClose _ _, rfl => touches_baleCloseRow.keeps
    | .witnessRearm _, rfl => touches_witRearmRow.keeps
    | .witStop, rfl => touches_doWitStop.keeps
    | .bar2Read _ _ _ _, rfl => touches_bar2Read.keeps
    | .bar2Write _ _ _, rfl => touches_bar2Write.keeps
    | .grRegionWrite _ _ _, rfl => touches_hostWrite.keeps
    | .scrubDone, rfl => touches_scrubDoneRow.keeps
    | .ringHeadAdv _ _, rfl => touches_hostWrite.keeps
    | .msixUnmask _ _, rfl => touches_msixUnmaskRow.keeps
    | .drainCopy _ _, rfl => touches_drainCopyRow.keeps
    | .ringAssign, rfl => touches_doRingAssign.keeps
    | .ringConfig, rfl => touches_doRingConfig.keeps
    | .ringResize _, rfl => touches_doRingResize.keeps
    | .ringClear, rfl => touches_doRingClear.keeps
    | .ringQuery, rfl => touches_doRingQuery.keeps
    | .grEvlogWrite _ _ _, rfl => touches_hostWrite.keeps
    | .evlogFlush _, rfl => touches_evlogFlushRow.keeps
    | .cmdDoorbell _ _, rfl => touches_hostWrite.keeps
    | .packetStart _, rfl => touches_packetStartRow.keeps
    | .replyWrite _, rfl => touches_replyWriteRow.keeps
    | .routineResume _, rfl => touches_routineResumeRow.keeps
    | .echo, rfl => touches_doEcho.keeps
    | .devInfo, rfl => touches_doDevInfo.keeps
    | .seqLoad _, rfl => touches_doSeqLoad.keeps
    | .seqRead, rfl => touches_doSeqRead.keeps
    | .waveLoad _, rfl => touches_doWaveLoad.keeps
    | .waveRead, rfl => touches_doWaveRead.keeps
    | .coreLoad _, rfl => touches_doCoreLoad.keeps
    | .coreRead, rfl => touches_doCoreRead.keeps
    | .fedLoad _, rfl => touches_doFedLoad.keeps
    | .fedClear, rfl => touches_doFedClear.keeps
    | .pairStart, rfl => touches_doPairStart.keeps
    | .pairHandover, rfl => touches_doHandover.keeps
    | .handoverAgreedTick, rfl => (touches_clocked fun _ => touches_agreedTickRow).keeps
    | .pairHandoverTimeout, rfl => (touches_clocked fun _ => touches_handoverTimeoutRow).keeps
    | .portRetrain, rfl => touches_doRetrain.keeps
    | .attest, rfl => touches_doAttest.keeps
    | .loftLoad _, rfl => touches_doLoftLoad.keeps
    | .rollbackAdvance, rfl => touches_doRollback.keeps
    | .identityRead, rfl => touches_doIdentity.keeps
    | .nvmRead, rfl => touches_doNvmRead.keeps
    | .nvmWrite _, rfl => touches_doNvmWrite.keeps
    | .fwInstall _, rfl => touches_doFwInstall.keeps
    | .restSet, rfl => touches_doRestSet.keeps
    | .linSet _, rfl => touches_doLinSet.keeps
    | .monUrgent, rfl => touches_doMonUrgent.keeps
    | .monSelftest _ _, rfl => touches_doSelftest.keeps
    | .evFire _ _, rfl => touches_hostWrite.keeps
    | .eventChannelFire _, rfl => touches_channelFireRow.keeps
    | .evRouteWrite _ _ _, rfl => touches_hostWrite.keeps
    | .evChanCfgWrite _ _ _, rfl => touches_hostWrite.keeps
    | .frameTransmit _, rfl => (touches_clocked fun _ => touches_frameTransmitRow).keeps
    | .frameReceive _ _, rfl => (touches_clocked fun _ => touches_frameReceiveRow).keeps
    | .itemRelease _, rfl => (touches_clocked fun _ => touches_itemReleaseRow).keeps
    | .timeMessageReceive _ _, rfl => (touches_clocked fun _ => touches_timeMessageRow).keeps
    | .heartbeatMiss _, rfl => (touches_clocked fun _ => touches_heartbeatRow).keeps
    | .clockLaneLoss _, rfl => (touches_clocked fun _ => touches_clockLossRow).keeps
    | .portCtlWrite _ _ _, rfl => touches_hostWrite.keeps
    | .trainAutostart _, rfl => (touches_clocked fun _ => touches_autostartRow).keeps
    | .trainPhaseComplete _ _ _, rfl => (touches_clocked fun _ => touches_phaseCompleteRow).keeps
    | .trainTimeout _, rfl => (touches_clocked fun _ => touches_trainTimeoutRow).keeps
    | .linkEyeLow _ _, rfl => (touches_clocked fun _ => touches_eyeRow).keeps
    | .reachMessage _ _, rfl => (touches_clocked fun _ => touches_reachRow).keeps
    | .reachTimeout _, rfl => (touches_clocked fun _ => touches_reachTimeoutRow).keeps
    | .outputCrcMessage _ _, rfl => (touches_clocked fun _ => touches_outputCrcRow).keeps
    | .pairVerdictMessage _ _, rfl => (touches_clocked fun _ => touches_pairVerdictRow).keeps
    | .compareTimeout _, rfl => (touches_clocked fun _ => touches_compareTimeoutRow).keeps
    | .handoverMessage _ _, rfl => (touches_clocked fun _ => touches_handoverRow).keeps
    | .mirrorHeader _ _ _, rfl => (touches_clocked fun _ => touches_mirrorRow).keeps
    | .monConversionDone _, rfl => touches_conversionRow.keeps
    | .urgentRequest _, rfl => touches_urgentRow.keeps
    | .senseCfgWrite _ _ _, rfl => touches_hostWrite.keeps
    | .monScanWrite _ _ _, rfl => touches_hostWrite.keeps
    | .senseComplianceCheck _ _, rfl => touches_complianceRow.keeps
    | .senseOvervolt _, rfl => touches_overvoltRow.keeps
    | .wmonTick _ _, rfl => touches_wmonRow.keeps
    | .rfOverload _ _ _, rfl => touches_overloadRow.keeps
    | .railFault _, rfl => touches_railFaultRow.keeps
    | .thermalSensorUpdate _ _, rfl => touches_sensorUpdateRow.keeps
    | .thermalThrottle, rfl => touches_throttleRow.keeps
    | .thermalThrottleClear, rfl => touches_throttleClearRow.keeps
    | .thermalShutdown, rfl => touches_shutdownRow.keeps
    | .thermalGraceExpired, rfl => touches_graceExpiredRow.keeps
    | .shutdownPowerOff, rfl => touches_powerOffRow.keeps
    | .thermalTrip _, rfl => touches_tripRow.keeps
    | .lifeLedgerWrite _, rfl => touches_ledgerRow.keeps
    | .thermThrWrite _ _, rfl => touches_hostWrite.keeps
    | .gleanStart _ _ _, rfl => touches_gleanStartRow.keeps
    | .gleanComplete _ _, rfl => touches_gleanCompleteRow.keeps
    | .nvmSectorRewrite, rfl => touches_sectorRewriteRow.keeps
    | .trngFail, rfl => touches_trngFailRow.keeps
    | .ownerFieldWrite _ _ _, rfl => (Touches.ite touches_hostWrite (.refl _)).keeps
    | .secDomainsWrite _ _, rfl => touches_hostWrite.keeps
    | .scanExtest, rfl => touches_scanExtestRow.keeps
    | .bar0LowWrite _ _ _, rfl => touches_lowWrite.keeps
    | .bar0HighWrite _ _ _, rfl => touches_highWrite.keeps
    | .bar0LowRead _ _, rfl => touches_lowRead.keeps
    | .bar0HighRead _ _, rfl => touches_highRead.keeps
    | .regPartial _ _ _ _, rfl => touches_partialRow.keeps
    | .vecAllocWrite _ _ _, rfl => touches_hostWrite.keeps
    | .registerWrite _ _ _, rfl => touches_hostWrite.keeps
    | .mgmtIdentity, rfl => touches_mgmtAnswer.keeps
    | .mgmtState, rfl => touches_mgmtAnswer.keeps
    | .mgmtHaltCode, rfl => touches_mgmtAnswer.keeps
    | .mgmtTmax, rfl => touches_mgmtAnswer.keeps
    | .mgmtRailOk, rfl => touches_mgmtAnswer.keeps
    | .mgmtPwrTiles, rfl => touches_mgmtAnswer.keeps
    | .mgmtInputPower _, rfl => touches_mgmtAnswer.keeps
    | .mgmtSensor _, rfl => touches_mgmtAnswer.keeps
    | .mgmtWriteNak _, rfl => touches_mgmtAnswer.keeps
    | .vauxPowerUp _, rfl => touches_vauxPowerUpRow.keeps
    | .railToleranceChange _ _, rfl => touches_railChangeRow.keeps
    | .pcieConfigWrite _ _ _, rfl => touches_pcieConfig.keeps
    | .pairStartChecksMessage _, rfl => (touches_clocked fun _ => touches_pairHalfRow).keeps
    | .pairStartTimeout, rfl => (touches_clocked fun _ => touches_pairStartTimeoutRow).keeps
    | .nvmRewriteDone _, rfl => touches_rewriteDoneRow.keeps
    | .rollbackBurstDone, rfl => touches_burstDoneRow.keeps
    | .undefinedOpcode _, rfl => touches_doUndefined.keeps
    | .coreUndefinedOpcode _, rfl => touches_coreUndefinedRow.keeps

/-- R28, R266, R400: a step is one command with the rest of the queue behind it, or one tick, and each leaves the fuses and the memories'
canonical form.
Settles O59: it holds. -/
theorem stepKeepsInvariant : Obligations.StepKeepsInvariant := by
  unfold Obligations.StepKeepsInvariant
  intro s t h
  unfold step at h
  split at h
  · cases h
    exact touches_tickOnce.keeps
  · obtain ⟨hfuses, hburnt, hmem⟩ := exec_keeps h
    exact ⟨hfuses, hburnt, hmem⟩

end Sys2Proof.Machine
end

section
/-! PROOF. The step, the state after reset, and the arithmetic of a sequencer (O26, O60, O1). -/

set_option Elab.async false

namespace Sys2Proof.Machine

variable {g op : Nat} {v : W40} {s : State}

/-- A step takes the front command off the queue and runs it.
Settles O26: it holds. -/
theorem stepRunsFrontCommand : Obligations.StepRunsFrontCommand := by
  unfold Obligations.StepRunsFrontCommand
  intro c rest s h
  rw [step, h]

/-- R28, Table 0.4: each field of the reset state reads its reset value.
Settles O60: it holds. -/
theorem resetState : Obligations.ResetState := by
  unfold Obligations.ResetState
  exact ⟨rfl, rfl, rfl, rfl, rfl, rfl, ⟨_, rfl, rfl, rfl⟩, fun _ => rfl, fun _ => rfl, fun _ => rfl, fun _ => rfl, fun _ => rfl,
    fun _ => rfl, fun _ => rfl⟩

/-- A command completes with what its row comes to. -/
theorem Completes.of_eq {c : Instr} {P : State → Prop} {r t : State} (hr : r = t) (hP : P t) (hc : exec c s = .next r := by rfl) :
    Completes c s P :=
  ⟨t, hc.trans (congrArg _ hr), hP⟩

/-- A row of the opcode that stands at the PC completes with what it does. -/
theorem completes_issueRow {c : Instr} {act : W40 → Tick → State → State} {P : State → Prop} (h : Issues g v s)
    (hop : fld v 39 34 = op) (hc : exec c s = .next (issueRow op g act s)) (hP : P (act v (seq g s).issueAt s)) :
    Completes c s P :=
  .of_eq (issueRow_issues h hop act) hP hc

/-- What the write of a general register on the way to the next instruction comes to. -/
theorem goOn_setGReg_writes (x : W40) (i n : Nat) (s : State) :
    OnlySeq g s (goOn g n n (setGReg g i x s)) ∧
      seq g (goOn g n n (setGReg g i x s)) =
        { advanced (seq g s) n n with g := (seq g (goOn g n n (setGReg g i x s))).g } ∧
      ∀ j, reg (seq g (goOn g n n (setGReg g i x s))) j = if j = i then x else reg (seq g s) j := by
  refine ⟨(onlySeq_setGReg g i x s).trans (onlySeq_goOn g n n _), by simp [advanced], fun j => ?_⟩
  simp only [seq_goOn, seq_setGReg, advanced, reg]
  split
  · simp [*]
  · rw [tget_tset_ne _ ‹_›]

/-- The second word of an instruction is fetched where it lies within the memory. -/
theorem withWord1_of_lt {act : W40 → State → State} (h : (seq g s).pc + 1 < 8192) :
    withWord1 g act s = act (tget 0 ((seq g s).pc + 1) (seq g s).imem) s :=
  if_neg (Nat.not_le.2 h)

/-- At its second issue tick an instruction acts. -/
theorem second_due {act : State → State} (h : due (plus (seq g s).issueAt 1) s = true) : second g act s = act s := if_pos h

/-- R124, R105: the arithmetic instructions, LDI and CMP.
Settles O1: it holds. -/
theorem seqArithmeticAndCompare : Obligations.SeqArithmeticAndCompare := by
  unfold Obligations.SeqArithmeticAndCompare
  intro g v s h
  dsimp only
  refine ⟨fun hop => ?_, fun hop => ?_, fun hop => ?_, fun hop => ?_, fun hop himm => ?_, fun hop himm hpc hdue => ?_, fun hop => ?_⟩
  · exact completes_issueRow h hop rfl (goOn_setGReg_writes _ _ 1 s)
  · exact completes_issueRow h hop rfl (goOn_setGReg_writes _ _ 1 s)
  · exact completes_issueRow h hop rfl (goOn_setGReg_writes _ _ 1 s)
  · exact completes_issueRow h hop rfl (goOn_setGReg_writes _ _ 1 s)
  · refine completes_issueRow h hop rfl ?_
    rw [if_neg (by simp [himm])]
    exact goOn_setGReg_writes _ _ 1 s
  · refine completes_issueRow h hop rfl ?_
    rw [if_pos himm, withWord1_of_lt hpc, second_due hdue]
    exact goOn_setGReg_writes _ _ 2 s
  · refine completes_issueRow h hop rfl ⟨(onlySeq_modSeq g _ s).trans (onlySeq_goOn g 1 1 _), ?_⟩
    have hz (a b : W40) : (a == b) = decide (a - b = 0) := by
      rw [Bool.eq_iff_iff, beq_iff_eq, decide_eq_true_eq]
      exact sub_eq_zero.symm
    have hlater (n : Nat) : (decide (1 ≤ n) && decide (n < 2 ^ 39)) = decide (1 ≤ n ∧ n ≤ 2 ^ 39 - 1) := by
      rw [← Bool.decide_and, decide_eq_decide]
      omega
    simp only [seq_goOn, seq_modSeq, hlater, hz]
    rfl

end Sys2Proof.Machine
end

section
/-! PROOF. MARK (O2). -/

set_option Elab.async false

namespace Sys2Proof.Machine

variable {g op : Nat} {v : W40} {s : State}

/-- The value that MARK captures, written into its register but for SRC 7. -/
def marked (g rd src : Nat) (x : W40) (s : State) : State := if src = 7 then s else setGReg g rd x s

/-- H with the cursor taken where MARK asks for it. -/
def horizoned (g : Nat) (h : Bool) (s : State) : State := if h then modSeq g (fun q => { q with hzn := q.cursor }) s else s

theorem onlySeq_marked (g rd src : Nat) (x : W40) (s : State) : OnlySeq g s (marked g rd src x s) := by
  unfold marked
  split
  · exact .refl g s
  · exact onlySeq_setGReg g _ _ s

theorem onlySeq_horizoned (g : Nat) (h : Bool) (s : State) : OnlySeq g s (horizoned g h s) := by
  unfold horizoned
  split
  · exact onlySeq_modSeq g _ s
  · exact .refl g s

theorem seq_marked (g rd src : Nat) (x : W40) (s : State) :
    seq g (marked g rd src x s) = { seq g s with g := (seq g (marked g rd src x s)).g } := by
  unfold marked
  split
  · rfl
  · simp

theorem reg_marked (g rd src : Nat) (x : W40) (s : State) (i : Nat) :
    reg (seq g (marked g rd src x s)) i = if i = rd ∧ src ≠ 7 then x else reg (seq g s) i := by
  unfold marked
  by_cases hsrc : src = 7
  · simp [hsrc]
  · simp [hsrc, reg, tget_tset]

theorem seq_horizoned (g : Nat) (h : Bool) (s : State) :
    seq g (horizoned g h s) = { seq g s with hzn := if h then (seq g s).cursor else (seq g s).hzn } := by
  cases h
  · rfl
  · simp [horizoned]

/-- What the MARK `v`, issued at `e`, does to its sequencer before it goes on. -/
def captured (g : Nat) (v : W40) (e : Tick) (s : State) : State :=
  horizoned g (bit v 26) (marked g (fld v 33 30) (fld v 29 27) (markValue (fld v 29 27) e g s) s)

theorem onlySeq_captured (g : Nat) (v : W40) (e : Tick) (s : State) : OnlySeq g s (captured g v e s) :=
  (onlySeq_marked g _ _ _ s).trans (onlySeq_horizoned g _ _)

theorem seq_captured (g : Nat) (v : W40) (e : Tick) (s : State) : seq g (captured g v e s) =
    { seq g s with g := (seq g (captured g v e s)).g, hzn := if bit v 26 then (seq g s).cursor else (seq g s).hzn } := by
  rw [captured, seq_horizoned, seq_marked]

theorem reg_captured (g : Nat) (v : W40) (e : Tick) (s : State) (i : Nat) : reg (seq g (captured g v e s)) i =
    if i = fld v 33 30 ∧ fld v 29 27 ≠ 7 then markValue (fld v 29 27) e g s else reg (seq g s) i := by
  rw [captured, seq_horizoned]
  exact reg_marked g _ _ _ s i

theorem doMark_eq (h : Issues g v s) (hop : fld v 39 34 = 0x1E) :
    doMark g s = goOn g 1 1 (if bit v 25 then fireProd (640 * (g / 96) + 96 + g % 96)
      (later (seq g s).issueAt (seq g (captured g v (seq g s).issueAt s)).cursor) (seq g (captured g v (seq g s).issueAt s)).depth
      (captured g v (seq g s).issueAt s) else captured g v (seq g s).issueAt s) :=
  issueRow_issues h hop _

/-- The producer of MARK stands on the control die. -/
theorem onTileDie_mark (g : Nat) : onTileDie (640 * (g / 96) + 96 + g % 96) = false := by
  have hlt : g % 96 < 96 := Nat.mod_lt _ (by decide)
  have hmod : (640 * (g / 96) + 96 + g % 96) % 640 = 96 + g % 96 := by omega
  simp only [onTileDie, hmod]
  simp
  omega

theorem fireProd_mark (t : Tick) (d : Nat) (hoff : s.life ≠ .off) (hstg : s.life ≠ .staging) :
    fireProd (640 * (g / 96) + 96 + g % 96) t d s =
      { s with fabric := { s.fabric with fires := s.fabric.fires ++ [⟨t, 0, d, some (640 * (g / 96) + 96 + g % 96), false⟩] } } := by
  have hruns : fabricRuns s = true := by simp [fabricRuns, hoff, hstg]
  rw [fireProd, onTileDie_mark, addFire, if_pos hruns]
  rfl

/-- R125: what MARK captures, and what it fires.
Settles O2: it holds. -/
theorem seqMarkCaptures : Obligations.SeqMarkCaptures := by
  unfold Obligations.SeqMarkCaptures
  refine ⟨fun g v s h hop hev => ?_, fun g v s h hop hev hoff hstg => ?_⟩
  · refine .of_eq (doMark_eq h hop) ?_
    rw [if_neg (by simp [hev])]
    refine ⟨(onlySeq_captured g v _ s).trans (onlySeq_goOn g 1 1 _), ?_, fun i => ?_⟩
    · rw [seq_goOn, seq_captured]
      rfl
    · rw [seq_goOn]
      exact reg_captured g v _ s i
  · obtain ⟨hframe, -⟩ := onlySeq_captured g v (seq g s).issueAt s
    refine .of_eq (doMark_eq h hop) ?_
    have hlife : (captured g v (seq g s).issueAt s).life = s.life := by rw [hframe]
    rw [if_pos hev, seq_captured, fireProd_mark _ _ (hlife ▸ hoff) (hlife ▸ hstg), hframe]
    exact ⟨rfl, rfl⟩

end Sys2Proof.Machine
end

section
/-! PROOF. Flow of control and the time instructions of a sequencer (O3, O4). -/

set_option Elab.async false

namespace Sys2Proof.Machine

variable {g op : Nat} {v : W40} {s : State}

theorem goOn_modSeq_goes (f : Seq → Seq) (n k : Nat) (s : State) :
    OnlySeq g s (goOn g n k (modSeq g f s)) ∧ seq g (goOn g n k (modSeq g f s)) = advanced (f (seq g s)) n k :=
  ⟨(onlySeq_modSeq g f s).trans (onlySeq_goOn g n k _), by rw [seq_goOn, seq_modSeq]⟩

theorem goTo_modSeq_goes (f : Seq → Seq) (a k : Nat) (s : State) : OnlySeq g s (goTo g a k (modSeq g f s)) ∧
    seq g (goTo g a k (modSeq g f s)) = { f (seq g s) with pc := a, issueAt := plus (f (seq g s)).issueAt k } :=
  ⟨(onlySeq_modSeq g f s).trans (onlySeq_goTo g a k _), by rw [seq_goTo, seq_modSeq]⟩

theorem goOn_goes (n k : Nat) (s : State) : OnlySeq g s (goOn g n k s) ∧ seq g (goOn g n k s) = advanced (seq g s) n k :=
  ⟨onlySeq_goOn g n k s, seq_goOn g n k s⟩

theorem goTo_goes (a k : Nat) (s : State) :
    OnlySeq g s (goTo g a k s) ∧ seq g (goTo g a k s) = { seq g s with pc := a, issueAt := plus (seq g s).issueAt k } :=
  ⟨onlySeq_goTo g a k s, seq_goTo g a k s⟩

theorem modSeq_goes (f : Seq → Seq) (s : State) : OnlySeq g s (modSeq g f s) ∧ seq g (modSeq g f s) = f (seq g s) :=
  ⟨onlySeq_modSeq g f s, seq_modSeq s g f⟩

/-- BR on a condition: taken at its second issue tick, or the sequencer falls through. -/
theorem branch_goes {c d neg : Bool} (a : Nat) (hd : d = c) (hdue : c ≠ neg → due (plus (seq g s).issueAt 1) s = true) :
    let t := if d != neg then second g (goTo g a 2) s else goOn g 1 1 s
    OnlySeq g s t ∧ seq g t =
      if c = neg then advanced (seq g s) 1 1 else { seq g s with pc := a, issueAt := plus (seq g s).issueAt 2 } := by
  subst hd
  by_cases hc : d = neg
  · rw [if_neg (by simp [hc]), if_pos hc]
    exact goOn_goes 1 1 s
  · rw [if_pos (by simp [hc]), if_neg hc, second_due (hdue hc)]
    exact goTo_goes a 2 s

/-- The count of a LOOP begin (R123). -/
abbrev loopCount (g : Nat) (v : W40) (s : State) : W40 := if bit v 32 then gReg g (fld v 19 16) s else w (fld v 31 16)

/-- R109, R122, R123, R116: where each instruction goes on.
Settles O3: it holds. -/
theorem seqControlFlow : Obligations.SeqControlFlow := by
  unfold Obligations.SeqControlFlow
  intro g v s h
  dsimp only
  refine ⟨fun hop => ?_, fun hop hdue => ?_, fun hop hdue hroom => ?_, fun hop hdue a r hcalls => ?_, fun hop hbegin hn hroom => ?_,
    fun hop hbegin hn hdue => ?_, fun hop hend l r hloops hdue => ?_, fun hop hsrc hcond hdue => ?_⟩
  · exact completes_issueRow h hop rfl (goOn_goes 1 1 s)
  · refine completes_issueRow h hop rfl ?_
    rw [second_due hdue]
    exact goTo_goes _ 2 s
  · refine completes_issueRow h hop rfl ?_
    rw [second_due hdue, if_neg (Nat.not_le.2 hroom)]
    exact goTo_modSeq_goes _ _ 2 s
  · refine completes_issueRow h hop rfl ?_
    simp only [second_due hdue, hcalls]
    exact goTo_modSeq_goes _ _ 2 s
  · refine completes_issueRow h hop rfl ?_
    dsimp only
    rw [if_neg (by simp [hbegin]), if_neg (c := loopCount g v s = 0) hn, if_neg (Nat.not_le.2 hroom)]
    exact goOn_modSeq_goes _ 1 1 s
  · refine completes_issueRow h hop rfl ?_
    dsimp only
    rw [if_neg (by simp [hbegin]), if_pos (c := loopCount g v s = 0) hn, second_due hdue]
    exact goTo_goes _ 2 s
  · refine completes_issueRow h hop rfl ?_
    simp only [hend, hloops, Bool.not_true, Bool.false_eq_true, if_false]
    by_cases hleft : l.left - 1 ≠ 0
    · rw [if_pos hleft, if_pos hleft, second_due (hdue hleft)]
      exact goTo_modSeq_goes _ _ 2 s
    · rw [if_neg hleft, if_neg hleft]
      exact goOn_modSeq_goes _ 1 1 s
  · refine completes_issueRow h hop rfl ?_
    rw [if_neg (not_not.2 hsrc), if_neg (Nat.not_le.2 hcond)]
    exact branch_goes (fld v 12 0) rfl hdue

/-- SHOT and HALT declare a boundary and go no further (R87, R88). -/
theorem declare_goes (gap : Nat) (halt : Bool) (e : Tick) (s : State) : OnlySeq g s (declare g gap halt e s) ∧
    seq g (declare g gap halt e s) = { seq g s with
      pc := (seq g s).pc + 1
      bound := some ⟨match (seq g s).ends with
        | some x => later x (later (seq g s).cursor (plus e 1))
        | none => later (seq g s).cursor (plus e 1), gap, halt⟩ } := by
  unfold declare
  exact modSeq_goes _ s

/-- R107, R108, R87, R88, R110: what each instruction does to cursor, boundary and wait.
Settles O4: it holds. -/
theorem seqTimeInstructions : Obligations.SeqTimeInstructions := by
  unfold Obligations.SeqTimeInstructions
  intro g v s h
  dsimp only
  refine ⟨fun hop => ?_, fun hop hmode => ?_, fun hop hmode => ?_, fun hop hmode hpc hdue => ?_, fun hop => ?_, fun hop => ?_,
    fun hop => ?_⟩
  · exact completes_issueRow h hop rfl (goOn_modSeq_goes _ 1 1 s)
  · refine completes_issueRow h hop rfl ?_
    simp only [hmode]
    exact goOn_modSeq_goes _ 1 1 s
  · refine completes_issueRow h hop rfl ?_
    simp only [hmode]
    exact goOn_modSeq_goes _ 1 1 s
  · refine completes_issueRow h hop rfl ?_
    simp only [hmode, withWord1_of_lt hpc, second_due hdue]
    exact goOn_modSeq_goes _ 2 2 s
  · exact completes_issueRow h hop rfl (declare_goes _ _ _ s)
  · exact completes_issueRow h hop rfl (declare_goes _ _ _ s)
  · exact completes_issueRow h hop rfl (modSeq_goes _ s)

end Sys2Proof.Machine
end

section
/-! PROOF. The action instructions (O5). -/

set_option Elab.async false

namespace Sys2Proof.Machine

variable {g op : Nat} {v : W40} {s : State}

/-- An action instruction has its room: the sequencer issues it at the tick `e`. -/
def roomed (g : Nat) (e : Tick) (s : State) : State := modSeq g (fun q => { q with issueAt := e, roomAt := none }) s

theorem seq_roomed (g : Nat) (e : Tick) (s : State) : seq g (roomed g e s) = { seq g s with issueAt := e, roomAt := none } :=
  seq_modSeq s g _

theorem gReg_roomed (g : Nat) (e : Tick) (i : Nat) (s : State) : gReg g i (roomed g e s) = reg (seq g s) i := by
  rw [gReg, seq_roomed]
  rfl

theorem shot_roomed (g : Nat) (e : Tick) (s : State) : (seq g (roomed g e s)).shot = (seq g s).shot := by rw [seq_roomed]

theorem valOf_roomed (g : Nat) (e : Tick) (v : W40) (s : State) : valOf g v (roomed g e s) =
    BitVec.ofNat 20 (if bit v 31 then fld (reg (seq g s) (fld v 30 27)) 19 0 else fld v 19 0) := by
  rw [valOf, gReg_roomed]

/-- What an action instruction that has its room and is on time makes of its sequencer: the entry of `act`, which ends `ext` ticks after
its launch, has its place in the queue, and the sequencer goes on behind it (R77, R80). -/
def Puts (g : Nat) (e : Tick) (act : Act) (ext : Nat) (s t : State) : Prop :=
  OnlySeq g s t ∧
    (∃ pre post, (seq g s).queue = pre ++ post ∧
      (seq g t).queue = pre ++ ⟨(seq g s).cursor, act, plus (seq g s).cursor ext⟩ :: post ∧
      (∀ x ∈ pre, notBefore (seq g s).cursor x.launch = true) ∧ (∀ x ∈ post.head?, notBefore (seq g s).cursor x.launch = false)) ∧
    seq g t = { seq g s with
      pc := (seq g s).pc + 1, issueAt := plus e 1, roomAt := none, queue := (seq g t).queue,
      ends := endsWith (plus (seq g s).cursor ext) (seq g s).ends }

theorem launch_puts {e : Tick} (h : lateness e (seq g s).cursor g s = none) (ext : Nat) (act : Act) :
    Puts g e act ext s (launch g e ext act (roomed g e s)) := by
  have hroom := seq_roomed g e s
  have hseq : seq g (goOn g 1 1 (roomed g e s)) = { seq g s with pc := (seq g s).pc + 1, issueAt := plus e 1, roomAt := none } := by
    rw [seq_goOn, hroom]
    rfl
  have hlate : lateness e (seq g s).cursor g (goOn g 1 1 (roomed g e s)) = none := by
    rw [← h, lateness, lateness, hseq]
    rfl
  have hlaunch : launch g e ext act (roomed g e s) =
      queueEntry ⟨(seq g s).cursor, act, plus (seq g s).cursor ext⟩ g (goOn g 1 1 (roomed g e s)) := by
    rw [launch, hroom]
    exact enqueue_onTime hlate
  obtain ⟨pre, post, hpre, hpost, hbefore, hafter⟩ :=
    insertEntry_place ⟨(seq g s).cursor, act, plus (seq g s).cursor ext⟩ (seq g s).queue
  rw [hlaunch]
  refine ⟨((onlySeq_modSeq g _ s).trans (onlySeq_goOn g 1 1 _)).trans (onlySeq_queueEntry _ g _),
    ⟨pre, post, hpre, ?_, hbefore, hafter⟩, ?_⟩
  · rw [seq_queueEntry, hseq]
    exact hpost
  · rw [seq_queueEntry, hseq]

/-- An action instruction that finds room and is on time completes. -/
theorem completes_actionRow {c : Instr} {act : W40 → Tick → State → State} {a : Act} {ext : Nat} (h : Issues g v s)
    (hop : fld v 39 34 = op) (hq : (seq g s).queue.length < 64) (hr : due (roomTick (seq g s)) s = true)
    (hlate : lateness (roomTick (seq g s)) (seq g s).cursor g s = none) (hc : exec c s = .next (actionRow op g act s))
    (hact : act v (roomTick (seq g s)) (roomed g (roomTick (seq g s)) s) =
      launch g (roomTick (seq g s)) ext a (roomed g (roomTick (seq g s)) s)) :
    Completes c s (Puts g (roomTick (seq g s)) a ext s) :=
  .of_eq ((actionRow_issues h hop hq hr act).trans hact) (launch_puts hlate ext a) hc

/-- TGT names a tone that the sequencer has. -/
theorem withTgt_tone {act : Bool → State → State} (h : fld v 33 32 = 1 ∨ (fld v 33 32 = 0 ∧ g % 96 < 64)) :
    withTgt g v act s = act (decide (fld v 33 32 = 1)) s := by
  unfold withTgt
  rcases h with h | ⟨h, hg⟩
  · simp [h]
  · simp [h, noDrive, hg]

/-- R77, R78, R80: every action instruction on time puts its entry into the queue.
Settles O5: it holds. -/
theorem seqActionsQueue : Obligations.SeqActionsQueue := by
  unfold Obligations.SeqActionsQueue
  intro g v s h
  dsimp only
  intro hq hr h4 hs h8
  have hlate := lateness_none h4 hs h8
  have row {c : Instr} {op ext : Nat} {a : Act} {act : W40 → Tick → State → State} (hop : fld v 39 34 = op)
      (hact : act v (roomTick (seq g s)) (roomed g (roomTick (seq g s)) s) =
        launch g (roomTick (seq g s)) ext a (roomed g (roomTick (seq g s)) s))
      (hc : exec c s = .next (actionRow op g act s) := by rfl) : Completes c s (Puts g (roomTick (seq g s)) a ext s) :=
    completes_actionRow h hop hq hr hlate hc hact
  refine ⟨fun hop hdrive => row hop ?_, fun hop => row hop rfl, fun hop hlen => row hop ?_, fun htgt =>
    ⟨fun hop => row hop ?_, fun hop => row hop ?_, fun hop => row hop ?_, fun hop => row hop ?_⟩, fun hop => row hop ?_,
    fun hop => row hop rfl⟩
  · exact if_neg (by simpa [noDrive, or_iff_not_imp_left] using hdrive)
  · rw [if_neg (Nat.not_lt.2 hlen), shot_roomed]
  · rw [withTgt_tone htgt, gReg_roomed]
  · rw [withTgt_tone htgt, valOf_roomed]
  · rw [withTgt_tone htgt, valOf_roomed]
  · rw [withTgt_tone htgt, valOf_roomed]
  · rw [gReg_roomed]

end Sys2Proof.Machine
end

section
/-! PROOF. Where and how a sequencer instruction faults (O6). -/

set_option Elab.async false

namespace Sys2Proof.Machine

variable {g op : Nat} {v : W40} {s : State}

/-- From `s` to `t` sequencer `g` has faulted with a kind at an address, as `q` otherwise (R75). -/
def Faults (g kind a : Nat) (q : Seq) (s t : State) : Prop :=
  Logged (0x1000 + g) 0x300 (kind * 2 ^ 17) (BitVec.ofNat 40 (g * 2 ^ 20 + a)) s t ∧
    t = { s with seqs := t.seqs, log := t.log } ∧ (∀ k, k ≠ g → seq k t = seq k s) ∧
    seq g t = { q with st := .faulted, wait := .none, bound := none }

theorem seqFault_faults {r : State} (hg : g < nSeqs s) (hr : OnlySeq g s r) (hq : (seq g r).queue ≠ []) (kind a : Nat)
    (hkind : kind < 8) : Faults g kind a (seq g r) s (seqFault kind a g r) := by
  have hg := seq_lt_768 hg
  have honly := hr.trans (onlySeq_modSeq g (fun q => { q with st := .faulted, wait := .none, bound := none }) r)
  have hseq : seq g (modSeq g (fun q => { q with st := .faulted, wait := .none, bound := none }) r) =
    { seq g r with st := .faulted, wait := .none, bound := none } := seq_modSeq r g _
  rw [seqFault_queued kind a hq]
  generalize modSeq g (fun q => { q with st := .faulted, wait := .none, bound := none }) r = t at honly hseq
  obtain ⟨hframe, hothers⟩ := honly
  have hlogged := logged_record (0x1000 + g) 0x300 (kind * 2 ^ 17) (w (g * 2 ^ 20 + a)) t (by omega) (by decide) (by omega)
  refine ⟨?_, ?_, hothers, hseq⟩
  · rw [hframe] at hlogged ⊢
    exact hlogged
  · rw [hframe]
    rfl

theorem faultHere_faults (h : Issues g v s) (hq : (seq g s).queue ≠ []) (kind : Nat) (hkind : kind < 8) :
    Faults g kind (seq g s).pc (seq g s) s (faultHere kind g s) :=
  seqFault_faults h.1 (.refl g s) hq kind _ hkind

theorem faultHere_roomed_faults (h : Issues g v s) (hq : (seq g s).queue ≠ []) (e : Tick) (kind : Nat) (hkind : kind < 8) :
    Faults g kind (seq g s).pc { seq g s with issueAt := e, roomAt := none } s (faultHere kind g (roomed g e s)) := by
  have hroom := seq_roomed g e s
  have hpc : (seq g (roomed g e s)).pc = (seq g s).pc := by rw [hroom]
  have hfaults := seqFault_faults (r := roomed g e s) h.1 (onlySeq_modSeq g _ s) (by rwa [hroom]) kind (seq g s).pc hkind
  rw [faultHere, hpc]
  rwa [hroom] at hfaults

theorem withTgt_faults {act : Bool → State → State} (h : 2 ≤ fld v 33 32) : withTgt g v act s = faultHere 1 g s := by
  unfold withTgt
  split
  · omega
  · omega
  · rfl

theorem not_definedOp (h : op = 0 ∨ op = 0x17 ∨ 0x1F ≤ op) : definedOp op = false := by
  simp only [definedOp, Bool.or_eq_false_iff, Bool.and_eq_false_iff, decide_eq_false_iff_not]
  omega

theorem doUndefined_faults (h : Issues g v s) (hop : fld v 39 34 = 0 ∨ fld v 39 34 = 0x17 ∨ 0x1F ≤ fld v 39 34) :
    doUndefined g s = faultHere 0 g s := by
  obtain ⟨hg, hst, hbound, hdue, hpc, hword⟩ := h
  have hmay : mayIssue g s = true := by simp [mayIssue, hg, hst, hbound, hdue]
  simp only [doUndefined, hmay, if_true, if_neg (Nat.not_le.2 hpc), hword, not_definedOp hop, Bool.false_eq_true, if_false]

/-- R75, R126, Table 5.14: the kind and the address of each fault.
Settles O6: it holds. -/
theorem seqFaults : Obligations.SeqFaults := by
  unfold Obligations.SeqFaults
  intro g v s h
  dsimp only
  intro hq hroom
  have here (kind : Nat) (hkind : kind < 8) := faultHere_faults h hq kind hkind
  have row {c : Instr} {op kind : Nat} {act : W40 → Tick → State → State} (hr : due (roomTick (seq g s)) s = true)
      (hop : fld v 39 34 = op) (hkind : kind < 8) (hact : act v (roomTick (seq g s)) (roomed g (roomTick (seq g s)) s) =
        faultHere kind g (roomed g (roomTick (seq g s)) s)) (hc : exec c s = .next (actionRow op g act s) := by rfl) :
      Completes c s (Faults g kind (seq g s).pc { seq g s with issueAt := roomTick (seq g s), roomAt := none } s) :=
    .of_eq ((actionRow_issues h hop hroom hr act).trans hact) (faultHere_roomed_faults h hq _ kind hkind) hc
  refine ⟨fun hop => ?_, fun hop hmode => ?_, fun hop hsrc hcond => ?_, fun hr => ⟨fun hop hlen => ?_, fun hop htgt => ?_,
    fun hop htgt => ?_, fun hop htgt => ?_, fun hop htgt => ?_, fun hop hprobe hdrive => ?_⟩, fun hop hbegin hn hfull => ?_,
    fun hop hend hempty => ?_, fun hdue => ⟨fun hop hfull => ?_, fun hop hempty => ?_⟩, fun hop himm hpc => ?_⟩
  · exact .of_eq (doUndefined_faults h hop) (here 0 (by decide))
  · refine completes_issueRow h hop rfl ?_
    simp only [hmode]
    exact here 1 (by decide)
  · refine completes_issueRow h hop rfl ?_
    rw [if_neg (not_not.2 hsrc), if_pos hcond]
    exact here 1 (by decide)
  · exact row hr hop (by decide) (if_pos hlen)
  · exact row hr hop (by decide) (withTgt_faults htgt)
  · exact row hr hop (by decide) (withTgt_faults htgt)
  · exact row hr hop (by decide) (withTgt_faults htgt)
  · exact row hr hop (by decide) (withTgt_faults htgt)
  · refine row hr hop (by decide) ?_
    exact if_pos (by simp [noDrive, hprobe, hdrive])
  · refine completes_issueRow h hop rfl ?_
    dsimp only
    rw [if_neg (by simp [hbegin]), if_neg (c := loopCount g v s = 0) hn, if_pos hfull]
    exact here 2 (by decide)
  · refine .of_eq ((issueRow_issues h hop _).trans ?_) (here 3 (by decide))
    simp only [hend, hempty, Bool.not_true, Bool.false_eq_true, if_false]
  · refine completes_issueRow h hop rfl ?_
    rw [second_due hdue, if_pos hfull]
    exact here 4 (by decide)
  · refine .of_eq ((issueRow_issues h hop _).trans ?_) (here 5 (by decide))
    simp only [second_due hdue, hempty]
  · have hhere := seqFault_faults h.1 (.refl g s) hq 6 ((seq g s).pc + 1) (by decide)
    rw [hpc] at hhere
    refine .of_eq ((issueRow_issues h hop _).trans ?_) hhere
    rw [if_pos himm, withWord1, if_pos (by rw [hpc]), hpc]

end Sys2Proof.Machine
end

section
/-! PROOF. Fields and bits of registers: what a write of one shows, and what it leaves. -/

set_option Elab.async false

namespace Sys2Proof.Machine

variable {s t u : State} {off o hi lo : Nat}

theorem fld_lt (v : W40) (hi lo : Nat) : fld v hi lo < 2 ^ (hi + 1 - lo) := Nat.mod_lt _ (Nat.two_pow_pos _)

theorem fld_setFld (v : W40) (x : Nat) (hl : lo ≤ hi) (hh : hi < 40) : fld (setFld v hi lo x) hi lo = x % 2 ^ (hi + 1 - lo) := by
  refine Nat.eq_of_testBit_eq fun j => ?_
  rw [Nat.testBit_mod_two_pow]
  by_cases hj : j < hi + 1 - lo
  · rw [testBit_fld _ _ _ _ (by omega), bit_setFld v x _ hl hh, if_pos (by omega)]
    simp [hj]
  · rw [Nat.testBit_lt_two_pow (lt_of_lt_of_le (fld_lt _ hi lo) (Nat.pow_le_pow_right (by decide) (by omega)))]
    simp [hj]

theorem fld_setFld_of_lt (v : W40) {x : Nat} (hx : x < 2 ^ (hi + 1 - lo)) (hl : lo ≤ hi) (hh : hi < 40) :
    fld (setFld v hi lo x) hi lo = x := by
  rw [fld_setFld v x hl hh, Nat.mod_eq_of_lt hx]

theorem fld_setFld_apart (v : W40) (x : Nat) {hi' lo' : Nat} (hl : lo ≤ hi) (hh : hi < 40) (h : hi' < lo ∨ hi < lo') :
    fld (setFld v hi lo x) hi' lo' = fld v hi' lo' := by
  refine fld_congr fun j h1 h2 => ?_
  rw [bit_setFld v x j hl hh, if_neg (by omega)]

theorem fld_setBit_apart (v : W40) (b : Bool) {i hi' lo' : Nat} (hi : i < 40) (h : hi' < i ∨ i < lo') :
    fld (setBit v i b) hi' lo' = fld v hi' lo' := by
  refine fld_congr fun j h1 h2 => ?_
  rw [bit_setBit v b j hi, if_neg (by omega)]

/-! ### Registers -/

@[simp] theorem getR_putF_self (hi lo x : Nat) : getR off (putF off hi lo x s) = setFld (getR off s) hi lo x := getR_setR s off _

theorem getR_putF_ne (h : o ≠ off) (hi lo x : Nat) : getR o (putF off hi lo x s) = getR o s := getR_setR_ne s h _

@[simp] theorem getR_putB_self (i : Nat) (b : Bool) : getR off (putB off i b s) = setBit (getR off s) i b := getR_setR s off _

theorem getR_putB_ne (h : o ≠ off) (i : Nat) (b : Bool) : getR o (putB off i b s) = getR o s := getR_setR_ne s h _

theorem bR_putB_self {i : Nat} (b : Bool) (hi : i < 40) : bR off i (putB off i b s) = b := by
  rw [bR, getR_putB_self, bit_setBit _ b i hi, if_pos rfl]

theorem bR_putB_apart {i j : Nat} (b : Bool) (hi : i < 40) (h : j ≠ i) : bR off j (putB off i b s) = bR off j s := by
  rw [bR, getR_putB_self, bit_setBit _ b j hi, if_neg h, bR]

theorem bR_putB_ne (h : o ≠ off) (i : Nat) (b : Bool) (j : Nat) : bR o j (putB off i b s) = bR o j s := by
  rw [bR, getR_putB_ne h, bR]

theorem bR_putF_ne (h : o ≠ off) (hi lo x j : Nat) : bR o j (putF off hi lo x s) = bR o j s := by
  rw [bR, getR_putF_ne h, bR]

theorem bR_putF_apart {j : Nat} (x : Nat) (hl : lo ≤ hi) (hh : hi < 40) (h : j < lo ∨ hi < j) :
    bR off j (putF off hi lo x s) = bR off j s := by
  rw [bR, getR_putF_self, bit_setFld _ x j hl hh, if_neg (by omega), bR]

theorem fR_putF_self {x : Nat} (hx : x < 2 ^ (hi + 1 - lo)) (hl : lo ≤ hi) (hh : hi < 40) : fR off hi lo (putF off hi lo x s) = x := by
  rw [fR, getR_putF_self, fld_setFld_of_lt _ hx hl hh]

theorem fR_putF_apart {hi' lo' : Nat} (x : Nat) (hl : lo ≤ hi) (hh : hi < 40) (h : hi' < lo ∨ hi < lo') :
    fR off hi' lo' (putF off hi lo x s) = fR off hi' lo' s := by
  rw [fR, getR_putF_self, fld_setFld_apart _ x hl hh h, fR]

theorem fR_putF_ne (h : o ≠ off) (hi lo x hi' lo' : Nat) : fR o hi' lo' (putF off hi lo x s) = fR o hi' lo' s := by
  rw [fR, getR_putF_ne h, fR]

theorem fR_putB_ne (h : o ≠ off) (i : Nat) (b : Bool) (hi' lo' : Nat) : fR o hi' lo' (putB off i b s) = fR o hi' lo' s := by
  rw [fR, getR_putB_ne h, fR]

theorem fR_putB_apart {i hi' lo' : Nat} (b : Bool) (hi : i < 40) (h : hi' < i ∨ i < lo') :
    fR off hi' lo' (putB off i b s) = fR off hi' lo' s := by
  rw [fR, getR_putB_self, fld_setBit_apart _ b hi h, fR]

/-- A counter that is not at its end counts on. -/
theorem fR_bump_self (h : fR off hi lo s < 2 ^ (hi + 1 - lo) - 1) (hl : lo ≤ hi) (hh : hi < 40) :
    fR off hi lo (bump off hi lo s) = fR off hi lo s + 1 := by
  have hinc : satInc (hi + 1 - lo) (fR off hi lo s) = fR off hi lo s + 1 := by
    rw [satInc]
    split <;> omega
  rw [bump, hinc, fR_putF_self (by omega) hl hh]

theorem fR_bump_apart {hi' lo' : Nat} (hl : lo ≤ hi) (hh : hi < 40) (h : hi' < lo ∨ hi < lo') :
    fR off hi' lo' (bump off hi lo s) = fR off hi' lo' s := fR_putF_apart _ hl hh h

/-! ### Registers alone -/

theorem OnlyRegs.refl (offs : List Nat) (s : State) : OnlyRegs offs s s := ⟨rfl, fun _ _ => rfl⟩

theorem OnlyRegs.trans {offs : List Nat} (h : OnlyRegs offs s t) (k : OnlyRegs offs t u) : OnlyRegs offs s u := by
  obtain ⟨hframe, hkept⟩ := h
  obtain ⟨kframe, kkept⟩ := k
  refine ⟨?_, fun o ho => (kkept o ho).trans (hkept o ho)⟩
  rw [hframe] at kframe
  exact kframe

theorem setR_only (off : Nat) (v : W40) (s : State) : OnlyRegs [off] s (setR off v s) :=
  ⟨rfl, fun _ ho => getR_setR_ne s (by simpa using ho) v⟩

theorem putF_only (off hi lo x : Nat) (s : State) : OnlyRegs [off] s (putF off hi lo x s) := setR_only off _ s

theorem putB_only (off i : Nat) (b : Bool) (s : State) : OnlyRegs [off] s (putB off i b s) := setR_only off _ s

theorem bump_only (off hi lo : Nat) (s : State) : OnlyRegs [off] s (bump off hi lo s) := setR_only off _ s

theorem OnlyRegs.mono {offs offs' : List Nat} (h : OnlyRegs offs s t) (hsub : ∀ o ∈ offs, o ∈ offs') : OnlyRegs offs' s t :=
  ⟨h.1, fun o ho => h.2 o fun hm => ho (hsub o hm)⟩

/-- A register all of whose bits can be written takes the value written. -/
theorem getR_storeReg_full {row : RegRow} (hrw : row.rw = 2 ^ 40 - 1) (off : Nat) (v : W40) (s : State) :
    getR off (storeReg row off v s) = v := by
  have hfull : v.toNat &&& 2 ^ 40 - 1 = v.toNat := by rw [Nat.and_two_pow_sub_one_eq_mod, Nat.mod_eq_of_lt v.isLt]
  rw [storeReg, getR_setR]
  simp only [hrw, hfull, Nat.sub_self, Nat.and_zero, Nat.zero_and, Nat.zero_or]
  exact BitVec.ofNat_toNat 40 v |>.trans (BitVec.setWidth_eq v)

/-- An accepted write of a register that only stores is stored, where no commit of the tick could take it in. -/
theorem hostWrite_stores {k : RegK} {is : List Nat} {m off : Nat} {v : W40} (h : Reaches k is m off v s) (hfresh : s.fresh = [])
    (hk : ∀ row : RegRow, row.k = k → effectA m row is off v s = none ∧ effectB m row is v s = none) :
    ∃ row ∈ regRows, row.k = k ∧ hostWrite m off v s = storeReg row off v s := by
  obtain ⟨row, hrow, hrk, hw⟩ := hostWrite_reaches h
  refine ⟨row, mem_regRows_of_findReg hrow, hrk, ?_⟩
  obtain ⟨hA, hB⟩ := hk row hrk
  rw [hw, ← joinCommit_of_noFresh (s := storeReg row off v s) (off := off) hfresh]
  simp only [regEffect, hA, hB]

end Sys2Proof.Machine
end

section
/-! PROOF. A BR on a verdict whose deadline stands half a turn of TICK away (O7). -/

set_option Elab.async false

namespace Sys2Proof.Machine

/-- Sequencer 0 issues a BR on the verdict of index 0, which is present, with a deadline 2^39 ticks after its second issue tick. -/
def farBranch : State := { State.reset with
  time := { State.reset.time with tick := 1 }
  vb := [(0, { seqWord := 0x800000 })]
  seqs := [(0, { st := .running, imem := [(0, 0x4900000000)], cursor := 0x8000000001 })] }

theorem farBranch_issues : Issues 0 0x4900000000 farBranch := by
  unfold Issues
  decide

theorem farBranch_waits {t : State} : exec (.brVerdict 0) farBranch = .next t → (seq 0 t).st = .waiting := by
  rintro ⟨⟩
  decide

/-- R84, R116: the deadline of `farBranch` and its second issue tick are 2^39 ticks apart, so that neither is the later one, and the model
lets the BR wait though its verdict is present. The statement asks that it resolves.
Refutes O7: `farBranch` issues such a BR, and waits. -/
theorem not_seqWaitsComplete : ¬ Obligations.SeqWaitsComplete := by
  intro h
  obtain ⟨-, -, -, -, -, -, hbr⟩ := h 0 farBranch
  obtain ⟨hpresent, -⟩ := hbr 0x4900000000 farBranch_issues (by decide) (by decide) (by decide) (by decide)
  obtain ⟨t, hexec, -, hseq⟩ := hpresent (by decide)
  have hwaits := farBranch_waits hexec
  rw [hseq] at hwaits
  exact absurd hwaits (by decide)

end Sys2Proof.Machine
end

section
/-! PROOF. SYNC, the notices and the release of a barrier (O8). -/

set_option Elab.async false

namespace Sys2Proof.Machine

variable {s t u : State} {g b : Nat} {v : W40} {K : List Fld}

/-- What an operation does not touch stands as before. -/
theorem Touches.kept {α : Type} (h : Touches K s t) (π : State → α) (f : Fld) (hf : f ∉ K := by decide)
    (hπ : ∀ K s t, π (merged K s t) = pick K f (π s) (π t) := by intros; rfl) : π t = π s := by
  rw [h.frame, hπ, pick, if_neg hf]

theorem seq_of_seqs (h : t.seqs = s.seqs) (k : Nat) : seq k t = seq k s := by rw [seq, seq, h]

/-! ### Arrivals -/

/-- A DEVICE_MASK of 0 names no other device. -/
theorem barRemote_of_noMask (h : fR (oBarrierCfg b) 39 24 s = 0) : barRemote b s = false := by
  rw [barRemote, barMask, h]
  simp [maskDevs]

/-- An arrival at a barrier of this device that is open joins its present use, and the last one fixes the release (R92). -/
theorem barArrive_local (x : Tick) (g : Nat) (hmask : fR (oBarrierCfg b) 39 24 s = 0) (hrel : (barrier b s).release = none)
    (hloc : (barrier b s).localAt = none) (hcount : barCount b s ≠ 0) : barArrive x b g s =
      let t := setBarrier b { barrier b s with now := (barrier b s).now ++ [g] } s
      if barCount b s ≤ (barrier b s).now.length + 1 then setBarrier b { barrier b t with
        localAt := some (afterRelease x b t), release := some (barReleaseAt b (afterRelease x b t) t) } t else t := by
  have hremote : barRemote b s = false := barRemote_of_noMask hmask
  have hremote' (q : Barrier) : barRemote b (setBarrier b q s) = false := hremote
  have hnext : barNext b s = false := by
    rw [barNext, if_neg hcount, hrel, hloc]
    rfl
  have hcount' (q : Barrier) : barCount b (setBarrier b q s) = barCount b s := rfl
  simp only [barArrive, hremote, hremote', hnext, hcount, hcount', hrel, barLocal]
  simp [hcount]

/-- An arrival fixes its release no earlier than the tick after the release before it. -/
theorem afterRelease_congr (x : Tick) (hlast : (barrier b t).lastRel = (barrier b s).lastRel) (hepoch : t.time.epoch = s.time.epoch) :
    afterRelease x b t = afterRelease x b s := by
  rw [afterRelease, afterRelease, hlast, hepoch]

/-- What an arrival at an open barrier of this device changes. -/
theorem barArrive_meets (x : Tick) (g : Nat) (hmask : fR (oBarrierCfg b) 39 24 s = 0) (hrel : (barrier b s).release = none)
    (hloc : (barrier b s).localAt = none) (hcount : barCount b s ≠ 0) :
    barArrive x b g s = { s with barriers := (barArrive x b g s).barriers } ∧
      (barrier b (barArrive x b g s)).now = (barrier b s).now ++ [g] ∧
      (∀ c, c ≠ b → barrier c (barArrive x b g s) = barrier c s) ∧
      (barrier b (barArrive x b g s)).release = if barCount b s ≤ (barrier b s).now.length + 1 then
        some (plus (afterRelease x b s) (4 + barDelay b s)) else none := by
  rw [barArrive_local x g hmask hrel hloc hcount]
  dsimp only
  split
  · refine ⟨rfl, by simp, fun c hc => ?_, ?_⟩
    · rw [barrier_setBarrier_ne _ hc, barrier_setBarrier_ne _ hc]
    · have hafter := afterRelease_congr (b := b) (s := s) (t := setBarrier b { barrier b s with now := (barrier b s).now ++ [g] } s) x
        (by rw [barrier_setBarrier]) rfl
      rw [barrier_setBarrier]
      dsimp only
      rw [hafter]
      rfl
  · exact ⟨rfl, by simp, fun c hc => barrier_setBarrier_ne s hc _, by simp [hrel]⟩

/-- A sequencer that arrives at barrier `c` waits for its release. -/
def arriving (c : Nat) (q : Seq) : Seq := { q with pc := q.pc + 1, st := .waiting, wait := .sync c }

theorem syncIssue_eq (c : Nat) (x : Tick) (g : Nat) (s : State) :
    syncIssue c x g s = barArrive x c g (modSeq g (arriving c) s) := rfl

/-- A SYNC that is not held issues at its tick, or is held until then. -/
theorem doSync_issues (h : Issues g v s) (hop : fld v 39 34 = 0x07) (hhold : ∀ c y, (seq g s).wait ≠ .hold c y) :
    doSync g s = if due (later (seq g s).issueAt (seq g s).cursor) s
      then syncIssue (fld v 7 0) (later (seq g s).issueAt (seq g s).cursor) g s
      else modSeq g (fun q => { q with st := .waiting, wait := .hold (fld v 7 0) (later (seq g s).issueAt (seq g s).cursor) }) s := by
  unfold doSync
  split
  · exact absurd ‹_› (hhold _ _)
  · exact issueRow_issues h hop _

/-! ### The release -/

/-- Sequencer `q` after it has left a barrier at `r` (R82, R94). -/
def releasedSeq (r : Tick) (failed : Bool) (q : Seq) : Seq :=
  { q with st := .running, wait := .none, cursor := later q.cursor (plus r 7), issueAt := plus r 1, orphan := q.orphan || failed }

theorem seq_barMember (r : Tick) (failed : Bool) (h : (seq g s).wait = .sync b) :
    seq g (barMember r b failed g s) = releasedSeq r failed (seq g s) := by
  rw [barMember, if_pos h, seq_completeAt]
  cases failed
  · simp [releasedSeq]
  · simp [releasedSeq]

theorem seq_barMember_ne {k : Nat} (r : Tick) (failed : Bool) (h : g ≠ k) : seq g (barMember r b failed k s) = seq g s := by
  unfold barMember completeAt
  split
  · rw [seq_modSeq_ne _ h]
    split
    · exact seq_modSeq_ne s h _
    · rfl
  · rfl

theorem seq_barMember_away {k : Nat} (r : Tick) (failed : Bool) (h : (seq g s).wait ≠ .sync b) :
    seq g (barMember r b failed k s) = seq g s := by
  by_cases hk : g = k
  · subst hk
    rw [barMember, if_neg h]
  · exact seq_barMember_ne r failed hk

theorem seq_barMembers_away (r : Tick) (failed : Bool) : ∀ (l : List Nat) {s : State}, (seq g s).wait ≠ .sync b →
    seq g (foldS (barMember r b failed) l s) = seq g s
  | [], _, _ => rfl
  | k :: l, s, h => by
    have hk := seq_barMember_away (k := k) r failed h
    rw [foldS, seq_barMembers_away r failed l (by rwa [hk]), hk]

theorem seq_barMembers (r : Tick) (failed : Bool) {l : List Nat} (hmem : g ∈ l) (h : (seq g s).wait = .sync b) :
    seq g (foldS (barMember r b failed) l s) = releasedSeq r failed (seq g s) := by
  induction l generalizing s with
  | nil => exact absurd hmem List.not_mem_nil
  | cons k l ih =>
    rw [foldS]
    by_cases hk : g = k
    · subst hk
      have hseq := seq_barMember r failed h
      have haway : (releasedSeq r failed (seq g s)).wait ≠ .sync b := show Wait.none ≠ .sync b from nofun
      rw [seq_barMembers_away r failed l (by rwa [hseq]), hseq]
    · have hseq := seq_barMember_ne (b := b) (s := s) r failed hk
      rw [ih ((List.mem_cons.1 hmem).resolve_left hk) (by rwa [hseq]), hseq]

/-- Nothing but the members of the present use is changed among the sequencers as a barrier is released. -/
theorem seqs_useRelease {r : Tick} (hrel : (barrier b s).release = some r) (hdue : due r s = true) :
    (useRelease b s).seqs = (foldS (barMember r b (barrier b s).failed) (barrier b s).now s).seqs := by
  have htail : Touches [.barriers, .regs, .log, .ports] (foldS (barMember r b (barrier b s).failed) (barrier b s).now s)
      (useRelease b s) := by
    unfold useRelease
    extract_lets q
    split
    next x hx =>
      obtain rfl : r = x := Option.some.inj (hrel.symm.trans hx)
      rw [if_pos hdue]
      extract_lets members k now' reset
      have hreset : Touches [.barriers] members reset := touches_setBarrier
      split
      · exact .mono (touches_barFail.after hreset)
      · split
        · split
          · exact .mono (touches_barLocal.after hreset)
          · exact .mono hreset
        · exact .mono ((Touches.ite touches_barLocal touches_barCheck).after hreset)
    next hx => exact absurd (hrel.symm.trans hx) nofun
  exact htail.kept (·.seqs) .seqs

theorem soloRelease_of_none (h : (barrier b s).solo = []) : soloRelease b s = setBarrier b (barrier b s) s := by
  simp only [soloRelease, h, List.filter_nil, foldS]
  rw [← h]

/-! ### Notices -/

/-- A barrier that lacks the notice of a device waits for it. -/
theorem barCheck_waits {x : Tick} (hrel : (barrier b s).release = none)
    (hmissing : ((maskDevs (barMask b s)).all fun k => (tget? k (barrier b s).notices).isSome) = false) : barCheck x b s = s := by
  rw [barCheck, if_neg (by simp [hrel]), if_neg (by rw [hmissing]; exact Bool.false_ne_true)]

/-- A notice is held by a barrier that still lacks one of its devices (R92, R93). -/
theorem barNotice_held {dev d : Nat} {ad x : Tick} (hrel : (barrier b s).release = none) (hnotices : (barrier b s).notices = [])
    (hcount : barCount b s ≠ 0) (hmask : (barMask b s).testBit d = true) (hd : d < 16) (hne : dev ≠ d) :
    barNotice x b dev ad s = setBarrier b { barrier b s with notices := [(dev, ad)] } s := by
  have hmissing : ((maskDevs (barMask b s)).all fun k => (tget? k [(dev, ad)]).isSome) = false := by
    rw [List.all_eq_false]
    refine ⟨d, List.mem_filter.2 ⟨List.mem_range.2 hd, hmask⟩, ?_⟩
    simp [tget?, hne]
  have hwaits : barCheck x b (setBarrier b { barrier b s with notices := [(dev, ad)] } s) =
      setBarrier b { barrier b s with notices := [(dev, ad)] } s :=
    barCheck_waits (by rw [barrier_setBarrier]; exact hrel) (by rw [barrier_setBarrier]; exact hmissing)
  have hcount' (q : Barrier) : barCount b (setBarrier b q s) ≠ 0 := hcount
  rw [barNotice, hrel, hnotices]
  dsimp only
  rw [if_neg (by simp [tget?]), if_neg (by simp [hcount'])]
  simpa only [hrel, tput] using hwaits

theorem regRows_barrierCfg_rw : ∀ row ∈ regRows, row.k = .barrierCfg → row.rw = 2 ^ 40 - 1 := by decide +kernel

/-- R92, R94, R121, R82, R337: arrivals, the release, notices, and BARRIER_CFG.
Settles O8: it holds. -/
theorem barriersMeetAndRelease : Obligations.BarriersMeetAndRelease := by
  unfold Obligations.BarriersMeetAndRelease
  refine ⟨fun g v s h hop => ?_, fun g v s h hop hhold => ?_, fun b r s hb hrel hdue hsolo => ?_,
    fun b dev ad s hb hfed hrel hnotices hloc hcount hmask hdev hwhole => ?_,
    fun b dev ad s hb hfed hdev hother hisolated hfrozen hcounts => ?_, fun m b v s h hfresh => ?_⟩
  · dsimp only
    intro hhold hdue hmask hrel hloc hcount
    refine .of_eq ((doSync_issues h hop hhold).trans (if_pos hdue)) ?_
    obtain ⟨hframe, hnow, hothers, hrelease⟩ := barArrive_meets (later (seq g s).issueAt (seq g s).cursor) g
      (s := modSeq g (arriving (fld v 7 0)) s) hmask hrel hloc hcount
    rw [syncIssue_eq]
    have hseq := seq_of_seqs (touches_barArrive (e := later (seq g s).issueAt (seq g s).cursor) (b := fld v 7 0) (g := g)
      (s := modSeq g (arriving (fld v 7 0)) s) |>.kept (·.seqs) .seqs)
    exact ⟨by rw [hframe]; rfl, (hseq g).trans (seq_modSeq s g _), fun k hk => (hseq k).trans (seq_modSeq_ne s hk _), hnow, hothers,
      hrelease⟩
  · dsimp only
    intro hdue
    refine .of_eq ((doSync_issues h hop hhold).trans (if_neg (by simp [hdue]))) (modSeq_goes _ s)
  · refine ⟨_, rfl, fun g hg hwait => ?_⟩
    have hrow : barrierReleaseRow b s = useRelease b (setBarrier b (barrier b s) s) := by
      rw [barrierReleaseRow, if_pos hb, soloRelease_of_none hsolo]
    have hbar : barrier b (setBarrier b (barrier b s) s) = barrier b s := barrier_setBarrier s b _
    have hseqs := seqs_useRelease (b := b) (s := setBarrier b (barrier b s) s) (by rwa [hbar]) hdue
    rw [hbar] at hseqs
    change seq g (barrierReleaseRow b s) = _
    rw [hrow, seq, hseqs]
    exact seq_barMembers r _ hg hwait
  · refine .of_eq (r := barrierNoticeRow b dev ad s) (t := setBarrier b { barrier b s with notices := [(dev, ad)] } s) ?_ ?_
    · rw [barrierNoticeRow, if_pos (by simp [hb, hfed]), if_neg (by simp [hwhole])]
      exact barNotice_held hrel hnotices hcount hmask hdev (by omega)
    · exact ⟨rfl, by simp, by simp [hrel]⟩
  · refine .of_eq (r := barrierNoticeRow b dev ad s) (t := bump oFedCounts 39 20 s) ?_ ?_
    · rw [barrierNoticeRow, if_pos (by simp [hb, hfed]), if_pos (by simp [hother, hisolated, hfrozen])]
    · exact ⟨bump_only _ _ _ s, fR_bump_self hcounts (by decide) (by decide), fR_bump_apart (by decide) (by decide) (.inl (by decide))⟩
  · obtain ⟨row, hrow, hk, hwrite⟩ := hostWrite_stores h hfresh (fun row hk => by simp [effectA, effectB, hk])
    refine ⟨_, rfl, ?_⟩
    rw [hwrite]
    exact ⟨storeReg_only row _ v s, getR_storeReg_full (regRows_barrierCfg_rw row hrow hk) _ v s⟩

end Sys2Proof.Machine
end

section
/-! PROOF. The commands of SEQ_CMD (O10). -/

set_option Elab.async false

namespace Sys2Proof.Machine

variable {s t u : State} {g m : Nat} {v : W40}

theorem unit96_pair (g : Nat) : unit96 [g / 96, g % 96] = g := Nat.div_add_mod g 96

/-- An accepted write of SEQ_CMD is its command (R89). -/
theorem hostWrite_oSeqCmd (h : Reaches .seqCmd [g / 96, g % 96] m (oSeqCmd g) v s) :
    hostWrite m (oSeqCmd g) v s = seqCmdWrite (fld v 2 0) g s := by
  obtain ⟨row, -, hk, hw⟩ := hostWrite_reaches h
  rw [hw, ← unit96_pair g]
  simp only [regEffect, effectA, effectB, hk, unit96_pair]

/-- A command that is not START and is not refused does what it says. -/
theorem seqCmdWrite_of_done {cmd : Nat} (hcmd : cmd ≠ 1) (h : seqCommand cmd g s = (t, none)) : seqCmdWrite cmd g s = t := by
  simp [seqCmdWrite, h, hcmd]

/-! ### START -/

theorem routineRuns_of_none {op : Nat} (h : ∀ r ∈ s.ce.cur.toList ++ s.ce.parked.map (fun e => e.2), r.opcode ≠ op) :
    routineRuns op g s = false := by
  have hparked : (s.ce.parked.any fun e => isOpen op e.2 && e.2.target == g) = false := by
    rw [List.any_eq_false]
    intro e he
    have hop := h e.2 (List.mem_append_right _ (List.mem_map_of_mem he))
    simp [isOpen, hop]
  unfold routineRuns
  dsimp only
  rw [hparked, Bool.or_false]
  split
  next r hr =>
    have hop := h r (by simp [hr])
    simp [isOpen, hop]
  next => rfl

/-- The sequencer that START arms (Table 4.4). -/
def armedSeq (q : Seq) : Seq :=
  { q with st := .armed, stopReason := 0, loops := [], calls := [], shot := 0, z := false, lt := false, ltu := false, later := false,
           tO := false, stopReq := false }

theorem seqStart_arms (hst : (seq g s).st = .idle ∨ (seq g s).st = .done) (hheld : (seq g s).unbHeld = false)
    (hroutines : ∀ r ∈ s.ce.cur.toList ++ s.ce.parked.map (fun e => e.2), r.opcode ≠ 0x301) :
    seqStart g s = (modSeq g armedSeq s, none) := by
  have hruns : routineRuns 0x301 g s = false := routineRuns_of_none hroutines
  have hfresh : ((seq g s).st == .idle || (seq g s).st == .done || ((seq g s).st == .faulted && (seq g s).queue.isEmpty)) = true := by
    rcases hst with hst | hst <;> simp [hst]
  simp only [seqStart, hfresh, hruns, hheld]
  rfl

theorem seqCmdWrite_start (hst : (seq g s).st = .idle ∨ (seq g s).st = .done) (hheld : (seq g s).unbHeld = false)
    (hroutines : ∀ r ∈ s.ce.cur.toList ++ s.ce.parked.map (fun e => e.2), r.opcode ≠ 0x301) :
    seqCmdWrite 1 g s = modSeq g armedSeq s := by
  have hstart : seqCommand 1 g s = (modSeq g armedSeq s, none) := seqStart_arms hst hheld hroutines
  have harmed : inShot g (modSeq g armedSeq s) = false := by
    rw [inShot, seq_modSeq]
    rfl
  simp [seqCmdWrite, hstart, harmed]

/-! ### ABORT -/

/-- The withdrawal of a sequencer from one entry of the table of barriers. -/
def withdrawStep (g : Nat) (e : Nat × Barrier) (s : State) : State :=
  if e.2.now.contains g || e.2.next.contains g || e.2.solo.any (fun m => m.1 == g) then
    setBarrier e.1 { e.2 with
      now := e.2.now.filter (fun h => h != g), next := e.2.next.filter (fun h => h != g), solo := e.2.solo.filter (fun m => m.1 != g) } s
  else s

theorem barWithdraw_eq (g : Nat) (s : State) : barWithdraw g s = foldS (withdrawStep g) s.barriers s := rfl

/-- An arrival of `g` that has not been withdrawn stands in an entry that is still to come. -/
theorem withdrawStep_away {e : Nat × Barrier} {l : List (Nat × Barrier)}
    (h : ∀ b, g ∈ (barrier b s).now → (b, barrier b s) ∈ e :: l) (b : Nat) (hb : g ∈ (barrier b (withdrawStep g e s)).now) :
    (b, barrier b (withdrawStep g e s)) ∈ l := by
  unfold withdrawStep at hb ⊢
  split at hb
  next hin =>
    rw [if_pos hin]
    by_cases hbe : b = e.1
    · simp [hbe] at hb
    · rw [barrier_setBarrier_ne _ hbe] at hb ⊢
      exact (List.mem_cons.1 (h b hb)).resolve_left fun heq => hbe (congrArg Prod.fst heq)
  next hout =>
    rw [if_neg hout]
    refine (List.mem_cons.1 (h b hb)).resolve_left fun heq => hout ?_
    simp [← heq, hb]

theorem foldS_withdrawStep_away (b : Nat) : ∀ {l : List (Nat × Barrier)} {s : State},
    (∀ b, g ∈ (barrier b s).now → (b, barrier b s) ∈ l) → g ∉ (barrier b (foldS (withdrawStep g) l s)).now
  | [], _, h => fun hb => absurd (h b hb) List.not_mem_nil
  | e :: _, s, h => foldS_withdrawStep_away b (s := withdrawStep g e s) (withdrawStep_away h)

theorem mem_of_tget? {α : Type} {k : Nat} {x : α} : ∀ {l : Tab α}, tget? k l = some x → (k, x) ∈ l
  | (j, y) :: l, h => by
    rw [tget?] at h
    split at h
    next hj =>
      subst hj
      exact List.mem_cons.2 (.inl (by rw [Option.some.inj h]))
    next => exact List.mem_cons_of_mem _ (mem_of_tget? h)

/-- A sequencer whose arrivals are withdrawn is at no barrier (Table 4.4). -/
theorem barWithdraw_away (g b : Nat) (s : State) : g ∉ (barrier b (barWithdraw g s)).now := by
  rw [barWithdraw_eq]
  refine foldS_withdrawStep_away b fun b hb => ?_
  cases hget : tget? b s.barriers with
  | none =>
    have hempty : barrier b s = {} := by rw [barrier, tget, hget]
    rw [hempty] at hb
    exact absurd hb List.not_mem_nil
  | some x =>
    have hbar : barrier b s = x := by rw [barrier, tget, hget]
    rw [hbar]
    exact mem_of_tget? hget

/-- The sequencer that ABORT leaves. -/
def abortedSeq (q : Seq) : Seq :=
  { q with st := .idle, stopReason := 0, queue := [], loops := [], calls := [], wait := .none, bound := none, ends := none,
           stalled := none, stopReq := false, roomAt := none }

theorem seqEnd_outside (h : insideShot (seq g s) = false) : seqEnd g s = modSeq g abortedSeq (barWithdraw g s) := by
  have hin : inShot g s = false := h
  rw [seqEnd, hin]
  rfl

/-! ### RESUME_SKIP and RESUME_RETIME -/

/-- The sequencer that RESUME_RETIME sets going at `x`, its cursor `d` ticks on. -/
def retimedSeq (x d : Tick) (q : Seq) : Seq :=
  { q with st := .running, stalled := none, cursor := q.cursor + d, issueAt := later (plus x 1) q.issueAt }

theorem seqRetime_onTime {x : QEntry} (hst : (seq g s).st = .stalled) (hx : (seq g s).stalled = some x)
    (hstart : notBefore (plus s.time.tick 4) (seq g s).start = true)
    (h8 : ((seq g s).queue.filter (fun y => y.launch == plus s.time.tick 4)).length
      + (s.down.filter (fun y => y.1 == g && y.2.launch == plus s.time.tick 4)).length < 8) :
    seqRetime g s = (queueEntry { x with launch := plus s.time.tick 4, fin := x.fin + (plus s.time.tick 4 - x.launch) } g
      (modSeq g (retimedSeq s.time.tick (plus s.time.tick 4 - x.launch)) s), none) := by
  have hlate : lateness s.time.tick (plus s.time.tick 4) g
      (modSeq g (retimedSeq s.time.tick (plus s.time.tick 4 - x.launch)) s) = none := by
    refine lateness_none (by simp [notBefore]) ?_ ?_
    · rw [seq_modSeq]
      exact hstart
    · rw [seq_modSeq]
      exact h8
  have hqueued := enqueue_onTime
    (x := { x with launch := plus s.time.tick 4, fin := x.fin + (plus s.time.tick 4 - x.launch) }) hlate
  simp only [seqRetime, hst, hx]
  exact congrArg (·, none) hqueued

theorem mem_insertEntry (x : QEntry) (l : List QEntry) : x ∈ insertEntry x l := by
  obtain ⟨pre, post, -, hins, -, -⟩ := insertEntry_place x l
  rw [hins]
  exact List.mem_append_right _ List.mem_cons_self

/-- R89, R90, R81, Table 4.4: the commands of SEQ_CMD.
Settles O10: it holds. -/
theorem seqCommands : Obligations.SeqCommands := by
  unfold Obligations.SeqCommands
  intro m g s hg
  dsimp only
  refine ⟨fun h hst hheld hglean hroutines => ?_, fun h hst => ?_, fun h hst => ?_, fun h hout => ?_, fun h hst => ?_,
    fun x h hst hx hstart h8 => ?_⟩
  · exact .of_eq ((hostWrite_oSeqCmd h).trans (seqCmdWrite_start hst hheld hroutines)) (modSeq_goes _ s)
  · refine .of_eq ((hostWrite_oSeqCmd h).trans (seqCmdWrite_of_done (by decide) ?_)) (modSeq_goes (fun q => { q with st := .idle }) s)
    simp only [show fld (2 : W40) 2 0 = 2 from rfl, seqCommand, seqStop, hst]
  · refine .of_eq ((hostWrite_oSeqCmd h).trans (seqCmdWrite_of_done (by decide) ?_)) (modSeq_goes (fun q => { q with stopReq := true }) s)
    rcases hst with hst | hst <;> simp only [show fld (2 : W40) 2 0 = 2 from rfl, seqCommand, seqStop, hst]
  · have hframe : barWithdraw g s = { s with barriers := (barWithdraw g s).barriers } :=
      (touches_barWithdraw (g := g) (s := s)).frame
    refine .of_eq (t := modSeq g abortedSeq (barWithdraw g s)) ((hostWrite_oSeqCmd h).trans (seqCmdWrite_of_done (by decide) ?_))
      ⟨?_, ?_, ?_, ?_, ?_, fun b => barWithdraw_away g b s, fun k hk => ?_, ?_⟩
    · exact congrArg (·, none) (seqEnd_outside hout)
    · rw [seq_modSeq]
      rfl
    · rw [seq_modSeq]
      rfl
    · rw [seq_modSeq]
      rfl
    · rw [seq_modSeq]
      rfl
    · rw [seq_modSeq]
      rfl
    · rw [seq_modSeq_ne _ hk, hframe]
      rfl
    · rw [hframe]
      rfl
  · refine .of_eq ((hostWrite_oSeqCmd h).trans (seqCmdWrite_of_done (by decide) ?_)) (modSeq_goes (fun q => { q with
      st := .running, stalled := none, issueAt := later (plus s.time.tick 1) q.issueAt }) s)
    simp only [show fld (4 : W40) 2 0 = 4 from rfl, seqCommand, seqSkip, hst]
    rfl
  · refine .of_eq ((hostWrite_oSeqCmd h).trans (seqCmdWrite_of_done (by decide) (seqRetime_onTime hst hx hstart h8)))
      ⟨(onlySeq_modSeq g _ s).trans (onlySeq_queueEntry _ g _), ?_, ?_, ?_, ?_⟩
    · rw [seq_queueEntry, seq_modSeq]
      rfl
    · rw [seq_queueEntry, seq_modSeq]
      rfl
    · rw [seq_queueEntry, seq_modSeq]
      rfl
    · rw [seq_queueEntry]
      exact mem_insertEntry _ _

end Sys2Proof.Machine
end

section
/-! PROOF. Starts, resumptions and boundaries of a sequencer (O11). -/

set_option Elab.async false

namespace Sys2Proof.Machine

variable {s t u : State} {g m o : Nat} {v : W40} {K : List Fld}

/-! ### One register across an operation -/

/-- Register `o` reads as before. -/
def Leaves (o : Nat) (s t : State) : Prop := getR o t = getR o s

theorem Leaves.refl (o : Nat) (s : State) : Leaves o s s := rfl

theorem Leaves.trans (h : Leaves o s t) (k : Leaves o t u) : Leaves o s u := Eq.trans k h

theorem Leaves.ite {c : Prop} [Decidable c] (h : Leaves o s t) (k : Leaves o s u) : Leaves o s (if c then t else u) := by
  split
  · exact h
  · exact k

theorem Leaves.foldS {α : Type} {f : α → State → State} (hf : ∀ a s, Leaves o s (f a s)) (l : List α) (s : State) :
    Leaves o s (foldS f l s) := foldS_rel (Leaves.refl o) Leaves.trans hf l s

theorem Touches.leaves (h : Touches K s t) (hf : .regs ∉ K := by decide) : Leaves o s t := by
  rw [Leaves, getR, getR, h.kept (·.regs) .regs hf]

theorem leaves_putB {off : Nat} (h : o ≠ off) (i : Nat) (b : Bool) (s : State) : Leaves o s (putB off i b s) := getR_putB_ne h i b

theorem leaves_bump {off : Nat} (h : o ≠ off) (hi lo : Nat) (s : State) : Leaves o s (bump off hi lo s) := getR_putF_ne h _ _ _

/-! ### A boundary's comparison -/

theorem leaves_diverge (h : o ≠ oPairCounts) (k idx : Nat) (v : W40) (s : State) : Leaves o s (diverge k idx v s) := by
  unfold diverge
  exact .ite ((leaves_bump h 39 20 s).trans (Touches.leaves (Touches.trans Touches.pair touches_record))) (leaves_bump h 39 20 s)

theorem leaves_cmpAdd (h : o ≠ oPairCounts) (it : CmpItem) (s : State) : Leaves o s (cmpAdd it s) := by
  unfold cmpAdd
  split
  · exact .ite Touches.pair.leaves (Touches.pair.leaves.trans (leaves_diverge h _ _ _ _))
  · exact Touches.pair.leaves

theorem leaves_compareOut (h : o ≠ oPairCounts) (x : Tick) (n : W40) (g out : Nat) (s : State) :
    Leaves o s (compareOut x n g out s) := by
  have hclose : Leaves o s (crcClose out x s).2 := touches_crcClose.leaves
  unfold compareOut
  exact .ite (hclose.trans touches_setOut.leaves) (.ite (.ite ((hclose.trans touches_setOut.leaves).trans (leaves_cmpAdd h _ _))
    (hclose.trans touches_setOut.leaves)) ((hclose.trans touches_setOut.leaves).trans touches_pairSend.leaves))

theorem leaves_compareShot (h : o ≠ oPairCounts) (hm : o ≠ oModeStatus) (x : Tick) (g : Nat) (s : State) :
    Leaves o s (compareShot x g s) := by
  unfold compareShot
  exact (Leaves.ite (leaves_putB hm 9 false s) (.refl o s)).trans (.foldS (fun out s => leaves_compareOut h x _ g out s) _ _)

theorem bR_modeStatus_compareShot (x : Tick) (g : Nat) (s : State) :
    bR oModeStatus 8 (compareShot x g s) = bR oModeStatus 8 s := by
  unfold compareShot
  extract_lets r
  have hfold : Leaves oModeStatus r (foldS (compareOut x (seq g r).shot g) (ledBy g) r) :=
    .foldS (fun out s => leaves_compareOut (by decide) x _ g out s) _ _
  have hr : bR oModeStatus 8 r = bR oModeStatus 8 s := by
    simp only [r]
    split
    · exact bR_putB_apart _ (by decide) (by decide)
    · rfl
  rw [bR, hfold, ← bR, hr]

/-! ### What holds a sequencer -/

theorem holdReason_of_nothing (h : NothingHolds s) : holdReason s = 0 := by
  obtain ⟨hthr, hlife, hseq, hhold, hlb, hreq, hlbr, hres, hsafe⟩ := h
  have hseq' : bit (getR oMode s) 0 = true := hseq
  have hhold' : bit (getR oMode s) 5 = false := hhold
  simp [holdReason, holdReasonOf, hthr, hlb, hreq, hlbr, hres, ahead, hlife, hseq', hhold', hsafe]

theorem nothingHolds_compareShot (h : NothingHolds s) (x : Tick) (g : Nat) : NothingHolds (compareShot x g s) := by
  obtain ⟨hthr, hlife, hseq, hhold, hlb, hreq, hlbr, hres, hsafe⟩ := h
  have htouch := touches_compareShot (x := x) (g := g) (s := s)
  have hmode : Leaves oMode s (compareShot x g s) := leaves_compareShot (by decide) (by decide) x g s
  have htherm : Leaves oThermStatus s (compareShot x g s) := leaves_compareShot (by decide) (by decide) x g s
  refine ⟨?_, ?_, ?_, ?_, ?_, ?_, ?_, ?_, ?_⟩
  · rwa [throttled, bR, htherm]
  · rwa [htouch.kept (·.life) .life]
  · rwa [mode, bR, hmode]
  · rwa [mode, bR, hmode]
  · rwa [bR_modeStatus_compareShot]
  · rwa [htouch.kept (·.time.req) .time]
  · rwa [htouch.kept (·.lbResume) .lbResume]
  · rwa [htouch.kept (·.time.resume) .time]
  · rwa [htouch.kept (·.safePend) .safePend]

/-! ### Starts and resumptions -/

theorem gleanLeave_idle (h : s.glean.run = []) (g : Nat) : gleanLeave g s = s := by
  rw [gleanLeave, gleanAbandonIf, h]
  rfl

theorem openShot_glean (x : Tick) (g : Nat) (s : State) : (openShot x g s).glean = s.glean := touches_openShot.kept (·.glean) .glean

/-- A sequencer before the shot that starts at `x`. -/
def nextSeq (x : Tick) (q : Seq) : Seq := { q with cursor := x, hzn := x, start := x, ends := none, lateSeen := false }

theorem nextShot_eq (x : Tick) (g : Nat) (s : State) : nextShot x g s = modSeq g (nextSeq x) s := rfl

theorem seq_openShot (x : Tick) (g : Nat) (s : State) : seq g (openShot x g s) = nextSeq x (seq g s) := seq_modSeq s g (nextSeq x)

theorem seq_openShot_ne {k : Nat} (h : k ≠ g) (x : Tick) (s : State) : seq k (openShot x g s) = seq k s :=
  seq_modSeq_ne s h (nextSeq x)

/-- The SEQ_CTL of a sequencer is none of the registers of its tones. -/
theorem oSeqCtl_notIn_toneRegs (g : Nat) (probe : Bool) : oSeqCtl g ∉ toneRegs probe g := by
  intro h
  simp only [toneRegs, List.mem_append, List.mem_map, List.mem_singleton, upTo, List.mem_range, oFreq, oPhase, oCtl] at h
  rcases h with (⟨i, hi, h⟩ | ⟨i, hi, h⟩) | h <;> revert h <;> cases probe <;>
    simp only [if_true, Bool.false_eq_true, if_false, oSeqCtl, oDrvFreq, oPrbFreq, oDrvPhase, oPrbPhase, oDrvCtl, oPrbCtl] <;> omega

theorem getF_commitTone {probe : Bool} (h : o ∉ toneRegs probe g) : getF o (commitTone probe g s) = getF o s := by
  have hcommit : getF o (commitRegs (toneRegs probe g) s) = getF o s := by
    rw [getF_commitRegs, if_neg h]
  have htail : Touches [.prb, .drv, .regs, .slots] (commitRegs (toneRegs probe g) s) (commitTone probe g s) := by
    unfold commitTone
    exact .mono (.ite (touches_demodNote.after (touches_retrim.after touches_setTone)) (touches_retrim.after touches_setTone))
  rw [← hcommit, getF, getF, htail.kept (·.force) .force]

/-- The sequencer that starts at `a` (R91). -/
def startedSeq (pc : Nat) (a : Tick) (q : Seq) : Seq := { q with st := .running, pc := pc, issueAt := a, quietTo := none }

/-- What a start does before the sequencer itself starts: the tones of its sequencer commit, and their virtual Z is cleared (R91, R131). -/
def tonesStarted (a : Tick) (g : Nat) (s : State) : State :=
  let s := commitTone true g (if g % 96 < 64 then commitTone false g s else s)
  let s := demodNote g a s (setPrb g { prb g s with vz := 0 } s)
  if g % 96 < 64 then setDrv g { drv g s with vz := 0 } s else s

theorem startArmed_eq (a : Tick) (g : Nat) (s : State) : startArmed a g s = gleanLeave g (openShot (plus a 8) g
    (modSeq g (startedSeq (fF (oSeqCtl g) 12 0 (tonesStarted a g s)) a) (tonesStarted a g s))) := rfl

theorem touches_tonesStarted (a : Tick) (g : Nat) (s : State) :
    Touches [.force, .prb, .drv, .regs, .slots] s (tonesStarted a g s) := by
  unfold tonesStarted
  exact .mono ((Touches.ite touches_setDrv (.refl _)).after ((touches_demodNote.after touches_setPrb).after
    (touches_commitTone.after (.ite touches_commitTone (.refl _)))))

theorem fF_oSeqCtl_tonesStarted (a : Tick) (g : Nat) (s : State) :
    fF (oSeqCtl g) 12 0 (tonesStarted a g s) = fF (oSeqCtl g) 12 0 s := by
  have htail : Touches [.prb, .drv, .regs, .slots] (commitTone true g (if g % 96 < 64 then commitTone false g s else s))
      (tonesStarted a g s) := by
    unfold tonesStarted
    exact .mono ((Touches.ite touches_setDrv (.refl _)).after (touches_demodNote.after touches_setPrb))
  have hprobe := getF_commitTone (s := if g % 96 < 64 then commitTone false g s else s) (oSeqCtl_notIn_toneRegs g true)
  have hdrive : getF (oSeqCtl g) (if g % 96 < 64 then commitTone false g s else s) = getF (oSeqCtl g) s := by
    split
    · exact getF_commitTone (oSeqCtl_notIn_toneRegs g false)
    · rfl
  rw [fF, fF, getF, htail.kept (·.force) .force, ← getF, hprobe, hdrive]

/-- An armed sequencer starts (R91). -/
theorem armedStartRow_starts (hg : g < nSeqs s) (hst : (seq g s).st = .armed) (h : NothingHolds s) (harm : s.armAfter = none)
    (hglean : s.glean.run = []) : armedStartRow g s = openShot (plus s.time.tick 8) g
      (modSeq g (startedSeq (fF (oSeqCtl g) 12 0 s) s.time.tick) (tonesStarted s.time.tick g s)) := by
  obtain ⟨hthr, hlife, hseq, hhold, -, -, -, -, hsafe⟩ := h
  have hrow : armedStartRow g s = startArmed s.time.tick g s := by
    rw [armedStartRow, if_pos (by simp [hg, hst, hlife, hseq, hhold, hthr, harm, ahead, hsafe])]
    rfl
  have hrun : (openShot (plus s.time.tick 8) g (modSeq g (startedSeq (fF (oSeqCtl g) 12 0 s) s.time.tick)
      (tonesStarted s.time.tick g s))).glean.run = [] := by
    rw [openShot_glean, ← hglean]
    exact congrArg Gleaner.run ((touches_tonesStarted _ g s).kept (·.glean) .glean)
  rw [hrow, startArmed_eq, fF_oSeqCtl_tonesStarted, gleanLeave_idle hrun]

/-- The sequencer that resumes at `u` (R89). -/
def resumedSeq (u : Tick) (q : Seq) : Seq := { q with st := .running, stopReason := 0, issueAt := u, quietTo := none }

theorem resumeSeq_eq (u : Tick) (g : Nat) (s : State) : resumeSeq u g s =
    gleanLeave g (openShot (later (seq g s).resumeB (plus u 8)) g (modSeq g (resumedSeq u) s)) := rfl

/-- A stopped sequencer that nothing holds resumes (R89). -/
theorem sequencerResumeRow_resumes (hg : g < nSeqs s) (hst : (seq g s).st = .stopped) (hreason : (seq g s).stopReason ≠ 3)
    (h : NothingHolds s) (hglean : s.glean.run = []) : sequencerResumeRow g s =
      openShot (later (seq g s).resumeB (plus s.time.tick 8)) g (modSeq g (resumedSeq s.time.tick) s) := by
  have hrow : sequencerResumeRow g s = resumeSeq s.time.tick g s := by
    rw [sequencerResumeRow, if_pos (by simp [hg, hst, hreason, holdReason_of_nothing h])]
    rfl
  rw [hrow, resumeSeq_eq, gleanLeave_idle]
  rw [openShot_glean]
  exact hglean

/-! ### Boundaries -/

/-- Sequencer `r` stands where `q` stood in its course. -/
def SameCourse (q r : Seq) : Prop := r.st = q.st ∧ r.stopReason = q.stopReason ∧ r.shot = q.shot ∧ r.bound = q.bound

/-- No sequencer has moved on in its course. -/
def CourseKept (s t : State) : Prop := ∀ k, SameCourse (seq k s) (seq k t)

theorem CourseKept.refl (s : State) : CourseKept s s := fun _ => ⟨rfl, rfl, rfl, rfl⟩

theorem CourseKept.trans (h : CourseKept s t) (k : CourseKept t u) : CourseKept s u := fun j => by
  obtain ⟨hst, hreason, hshot, hbound⟩ := h j
  obtain ⟨kst, kreason, kshot, kbound⟩ := k j
  exact ⟨kst.trans hst, kreason.trans hreason, kshot.trans hshot, kbound.trans hbound⟩

theorem CourseKept.after (k : CourseKept t u) (h : CourseKept s t) : CourseKept s u := h.trans k

theorem CourseKept.ite {c : Prop} [Decidable c] (h : CourseKept s t) (k : CourseKept s u) : CourseKept s (if c then t else u) := by
  split
  · exact h
  · exact k

theorem Touches.courseKept (h : Touches K s t) (hK : .seqs ∉ K := by decide) : CourseKept s t := fun k => by
  rw [seq_of_seqs (h.kept (·.seqs) .seqs hK) k]
  exact CourseKept.refl s k

theorem courseKept_modSeq {f : Seq → Seq} (g : Nat) (s : State)
    (hf : ∀ q, SameCourse q (f q) := by exact fun _ => ⟨rfl, rfl, rfl, rfl⟩) : CourseKept s (modSeq g f s) :=
  fun k => by
    by_cases hk : k = g
    · subst hk
      rw [seq_modSeq]
      exact hf _
    · rw [seq_modSeq_ne s hk]
      exact CourseKept.refl s k

theorem courseKept_modeItem (late : Bool) (g : Nat) (s : State) : CourseKept s (modeItem late g s) := by
  unfold modeItem
  exact .ite ((touches_fsetAll.courseKept.after (.ite (.refl _) touches_applyRec.courseKept)).after
    (courseKept_modSeq g s)) (.refl s)

theorem courseKept_applyBand (g : Nat) (s : State) : CourseKept s (applyBand g s) := by
  unfold applyBand
  exact ((CourseKept.ite touches_bandTone.courseKept (.refl _)).after touches_bandTone.courseKept).after
    (courseKept_modSeq g s)

theorem courseKept_bandItem (late : Bool) (g : Nat) (s : State) : CourseKept s (bandItem late g s) := by
  unfold bandItem
  exact .ite ((CourseKept.ite (.refl _) touches_applyRec.courseKept).after (courseKept_applyBand g s)) (.refl s)

theorem courseKept_boundaryItems (x : Tick) (n : W40) (leave : Bool) (g : Nat) (s : State) :
    CourseKept s (boundaryItems x n leave g s) := by
  unfold boundaryItems
  exact ((((touches_handoverItem.courseKept.after touches_gleanCells.courseKept).after
    (Touches.foldS fun _ _ => touches_gleanTone).courseKept).after (courseKept_bandItem _ g _)).after
    (Touches.foldS fun _ _ => touches_commitItem).courseKept).after
    ((courseKept_modSeq g _).after (courseKept_modeItem _ g s))

/-- Nothing waits for a quiet device: only a pending time step sees it. -/
theorem quietCheck_idle (hsafe : s.safePend = none) (hshut : s.therm.shutAt = none) : quietCheck s = stepQuiet s := by
  have hstep := touches_stepQuiet (s := s)
  have hgrace : graceCheck (stepQuiet s) = stepQuiet s := by
    rw [graceCheck, if_neg (by simp [hstep.kept (·.therm) .therm, hshut])]
  rw [quietCheck, hgrace, safeCheck, if_neg (by simp [hstep.kept (·.safePend) .safePend, hsafe])]

/-- Why a sequencer stops at boundary `b`: 0 where it does not (R88, R89). -/
def stopsFor (b : Bound) (g : Nat) (s : State) : Nat :=
  if b.halt then 0 else if (seq g s).stopReq then 3 else holdReasonOf (s.modeWas.getD (getR oMode s)) s

/-- The sequencer behind its boundary `b`. -/
def endedSeq (b : Bound) (why : Nat) (q : Seq) : Seq :=
  { q with
    shot := q.shot + 1, bound := none, issueAt := b.b, roomAt := none, stopReq := false,
    st := if b.halt then .done else if why = 0 then .running else .stopped,
    stopReason := why, resumeB := plus b.b (max b.gap 8),
    quietTo := if !b.halt && why == 0 && 2000 ≤ b.gap then some (plus b.b (max b.gap 8)) else none,
    quietAt := if b.halt || why != 0 || 2000 ≤ b.gap then b.b else q.quietAt }

/-- The boundary `b` of `g` up to the start of the next shot. -/
def shotEnded (b : Bound) (g : Nat) (s : State) : State :=
  boundaryItems b.b (seq g (compareShot b.b g s)).shot false g
    (modSeq g (endedSeq b (stopsFor b g (compareShot b.b g s))) (compareShot b.b g s))

theorem boundary_eq (b : Bound) (g : Nat) (s : State) : boundary b g s =
    if !b.halt && stopsFor b g (compareShot b.b g s) == 0 then openShot (plus b.b (max b.gap 8)) g (shotEnded b g s)
    else quietCheck (nextShot (plus b.b (max b.gap 8)) g (shotEnded b g s)) := rfl

theorem touches_shotEnded (b : Bound) (g : Nat) (s : State) :
    Touches [.regs, .outs, .pair, .log, .seqs, .slots, .force, .prb, .drv, .flux, .ce] s (shotEnded b g s) :=
  .mono (touches_boundaryItems.after (touches_modSeq.after touches_compareShot))

theorem sameCourse_shotEnded (b : Bound) (g : Nat) (s : State) :
    SameCourse (endedSeq b (stopsFor b g (compareShot b.b g s)) (seq g s)) (seq g (shotEnded b g s)) := by
  have hitems := courseKept_boundaryItems b.b (seq g (compareShot b.b g s)).shot false g
    (modSeq g (endedSeq b (stopsFor b g (compareShot b.b g s))) (compareShot b.b g s)) g
  have hcompare := seq_of_seqs (touches_compareShot (x := b.b) (g := g) (s := s) |>.kept (·.seqs) .seqs) g
  rw [← hcompare]
  rwa [seq_modSeq] at hitems

/-- Where nothing waits for a quiet device, the next shot of a sequencer is set up behind its boundary. -/
theorem seq_boundary (b : Bound) (g : Nat) (hsafe : s.safePend = none) (hshut : s.therm.shutAt = none) :
    seq g (boundary b g s) = nextSeq (plus b.b (max b.gap 8)) (seq g (shotEnded b g s)) := by
  rw [boundary_eq]
  split
  · exact seq_openShot _ g _
  · have htouch := touches_shotEnded b g s
    have hsafe' : (nextShot (plus b.b (max b.gap 8)) g (shotEnded b g s)).safePend = none :=
      (htouch.kept (·.safePend) .safePend).trans hsafe
    have hshut' : (nextShot (plus b.b (max b.gap 8)) g (shotEnded b g s)).therm.shutAt = none :=
      (congrArg Therm.shutAt (htouch.kept (·.therm) .therm)).trans hshut
    rw [quietCheck_idle hsafe' hshut', seq_of_seqs (touches_stepQuiet.kept (·.seqs) .seqs), nextShot_eq, seq_modSeq]

theorem stopsFor_stop {b : Bound} (hhalt : b.halt = false) (hstop : (seq g s).stopReq = true) (x : Tick) :
    stopsFor b g (compareShot x g s) = 3 := by
  rw [stopsFor, seq_of_seqs (touches_compareShot.kept (·.seqs) .seqs), hhalt, hstop]
  rfl

theorem stopsFor_nothing {b : Bound} (hhalt : b.halt = false) (hstop : (seq g s).stopReq = false) (h : NothingHolds s)
    (hmode : s.modeWas = none) (x : Tick) : stopsFor b g (compareShot x g s) = 0 := by
  have hreason := holdReason_of_nothing (nothingHolds_compareShot h x g)
  rw [stopsFor, seq_of_seqs (touches_compareShot.kept (·.seqs) .seqs), hhalt, hstop, touches_compareShot.kept (·.modeWas) .modeWas, hmode]
  exact hreason

theorem shotBoundaryRow_ends {b : Bound} (hg : g < nSeqs s) (hst : (seq g s).st = .running) (hb : (seq g s).bound = some b)
    (hdue : due b.b s = true) : shotBoundaryRow g s = boundary b g s := by
  simp only [shotBoundaryRow, hb]
  exact if_pos (by simp [hg, hst, hdue])

/-- R91, R87, R88, R89: a start, a resumption, and a boundary with what follows it.
Settles O11: it holds. -/
theorem seqStartsAndEnds : Obligations.SeqStartsAndEnds := by
  unfold Obligations.SeqStartsAndEnds
  intro g s hg
  dsimp only
  refine ⟨fun hst h harm hglean => ?_, fun hst hreason h hglean => ?_, fun b hst hb hdue hsafe hshut => ?_⟩
  · have hseqs := (touches_tonesStarted s.time.tick g s).kept (·.seqs) .seqs
    refine .of_eq (armedStartRow_starts hg hst h harm hglean) ⟨?_, ⟨?_, ?_, ?_⟩, ?_, ?_, fun k hk => ?_⟩
    any_goals rw [seq_openShot, seq_modSeq]; rfl
    rw [seq_openShot_ne hk, seq_modSeq_ne _ hk, seq_of_seqs hseqs]
  · refine .of_eq (sequencerResumeRow_resumes hg hst hreason h hglean) ⟨?_, ?_, ⟨?_, ?_, ?_⟩, fun k hk => ?_⟩
    any_goals rw [seq_openShot, seq_modSeq]; rfl
    rw [seq_openShot_ne hk, seq_modSeq_ne _ hk]
  · obtain ⟨hst', hreason', hshot', hbound'⟩ := sameCourse_shotEnded b g s
    have hseq := seq_boundary b g hsafe hshut
    refine .of_eq (shotBoundaryRow_ends hg hst hb hdue) ?_
    rw [hseq]
    refine ⟨hshot', hbound', fun hhalt => ?_, fun hhalt hstop => ?_, fun hhalt hstop h hmode => ?_, ⟨rfl, rfl, rfl⟩⟩
    · refine hst'.trans ?_
      simp [endedSeq, hhalt]
    · rw [stopsFor_stop hhalt hstop] at hst' hreason'
      exact ⟨hst'.trans (by simp [endedSeq, hhalt]), hreason'⟩
    · rw [stopsFor_nothing hhalt hstop h hmode] at hst'
      exact hst'.trans (by simp [endedSeq, hhalt])

end Sys2Proof.Machine
end

section
/-! PROOF. The commits of a unit outside a shot and inside one (O13). -/

set_option Elab.async false

namespace Sys2Proof.Machine

variable {s t u : State} {g m o : Nat} {v : W40} {K : List Fld}

/-! ### What a commit leaves -/

theorem touches_noteTrn_slots {k : Nat} {x : Tick} : Touches [.slots] s (noteTrn g k x s) := touches_setSlot

theorem touches_demodNote_slots {x : Tick} {was : State} : Touches [.slots] s (demodNote g x was s) := by
  unfold demodNote
  exact .mono (.ite (.refl _) (touches_noteTrn_slots.after touches_setSlot))

/-- What a commit of a tone does behind the move of its registers. -/
theorem touches_commitTone_tail (probe : Bool) (g : Nat) (s : State) :
    Touches [.prb, .drv, .slots] (commitRegs (toneRegs probe g) s) (commitTone probe g s) := by
  unfold commitTone
  exact .mono (.ite (touches_demodNote_slots.after (touches_retrim.after touches_setTone)) (touches_retrim.after touches_setTone))

theorem commits_commitRegs (offs : List Nat) (s : State) : Commits offs s (commitRegs offs s) := by
  refine ⟨fun o ho => ?_, fun o ho _ => ?_⟩
  · rw [getF_commitRegs, if_pos ho]
  · rw [getF_commitRegs, if_neg ho]

theorem Commits.of_force {offs : List Nat} (h : Commits offs s t) (hu : u.force = t.force) : Commits offs s u := by
  have hget (o : Nat) : getF o u = getF o t := by rw [getF, getF, hu]
  obtain ⟨hin, hout⟩ := h
  exact ⟨fun o ho => (hget o).trans (hin o ho), fun o ho h8 => (hget o).trans (hout o ho h8)⟩

theorem Commits.of_arrive {offs : List Nat} {k : Nat} (h : Commits offs (arrive k g s) t) : Commits offs s t := h

theorem commits_commitTone (probe : Bool) (g : Nat) (s : State) : Commits (toneRegs probe g) s (commitTone probe g s) :=
  (commits_commitRegs _ s).of_force ((touches_commitTone_tail probe g s).kept (·.force) .force)

theorem regs_commitRegs (offs : List Nat) (s : State) : (commitRegs offs s).regs = s.regs := by rw [commitRegs_force]

theorem regs_commitTone (probe : Bool) (g : Nat) (s : State) : (commitTone probe g s).regs = s.regs :=
  ((touches_commitTone_tail probe g s).kept (·.regs) .regs).trans (regs_commitRegs _ s)

/-- A commit of a unit outside a shot takes effect at once (R100). -/
theorem commitReq_outside (h : insideShot (seq g s) = false) (u : Nat) : commitReq u g s = commitUnit u g (arrive (10 + u) g s) :=
  if_neg (by simp [inShot, h])

/-- A sequencer that a commit of unit `u` awaits at its boundary. -/
def awaits (u : Nat) (q : Seq) : Seq := { q with commits := insNat u q.commits }

theorem arrive_modSeq_waits (u g : Nat) (s : State) :
    arrive u g (modSeq g (awaits u) s) = { s with
      seqs := (arrive u g (modSeq g (awaits u) s)).seqs, fresh := (arrive u g (modSeq g (awaits u) s)).fresh } ∧
    (seq g (arrive u g (modSeq g (awaits u) s))).commits = insNat u (seq g s).commits ∧
    ∀ k, k ≠ g → seq k (arrive u g (modSeq g (awaits u) s)) = seq k s :=
  ⟨rfl, congrArg Seq.commits (seq_modSeq s g (awaits u)), fun _ hk => seq_modSeq_ne s hk (awaits u)⟩

/-- A commit of a unit inside a shot waits for the boundary (R100). -/
theorem commitReq_inside (h : insideShot (seq g s) = true) (hnone : (seq g s).commits = []) (u : Nat) :
    commitReq u g s = arrive u g (modSeq g (awaits u) s) := by
  have hin : inShot g s = true := h
  rw [commitReq, if_pos hin, if_neg (by simp [hnone])]
  rfl

/-! ### The writes -/

theorem hostWrite_commits {k : RegK} {is : List Nat} {off u : Nat} (h : Reaches k is m off 1 s)
    (hk : ∀ row : RegRow, row.k = k → effectA m row is off 1 s = none ∧ effectB m row is 1 s = some (commitReq u g s)) :
    hostWrite m off 1 s = commitReq u g s := by
  obtain ⟨row, -, hrk, hw⟩ := hostWrite_reaches h
  obtain ⟨hA, hB⟩ := hk row hrk
  rw [hw]
  simp only [regEffect, hA, hB]

theorem hostWrite_oSeqCommit (h : Reaches .seqCommit [g / 96, g % 96] m (oSeqCommit g) 1 s) :
    hostWrite m (oSeqCommit g) 1 s = commitReq 0 g s :=
  hostWrite_commits h fun row hk => by simp [effectA, effectB, hk, unit96_pair, bit]

theorem hostWrite_oDrvCommit (h : Reaches .drvCommit [g / 96, g % 96] m (oDrvCommit g) 1 s) :
    hostWrite m (oDrvCommit g) 1 s = commitReq 1 g s :=
  hostWrite_commits h fun row hk => by simp [effectA, effectB, hk, unit96_pair, bit]

theorem hostWrite_oPrbCommit (h : Reaches .prbCommit [g / 96, g % 96] m (oPrbCommit g) 1 s) :
    hostWrite m (oPrbCommit g) 1 s = commitReq 2 g s :=
  hostWrite_commits h fun row hk => by simp [effectA, effectB, hk, unit96_pair, bit]

theorem hostWrite_oSlotCommit (h : Reaches .slotCommit [g / 96, g % 96] m (oSlotCommit g) 1 s) :
    hostWrite m (oSlotCommit g) 1 s = commitReq 3 g s :=
  hostWrite_commits h fun row hk => by simp [effectA, effectB, hk, unit96_pair, bit]

theorem hostWrite_oFluxCommit (h : Reaches .fluxCommit [g / 96, g % 96] m (oFluxCommit g) 1 s) :
    hostWrite m (oFluxCommit g) 1 s = commitReq 4 g s :=
  hostWrite_commits h fun row hk => by simp [effectA, effectB, hk, unit96_pair, bit]

/-! ### The units -/

/-- What a commit of a unit other than a flux channel may touch, with the note of its arrival. -/
theorem touches_commitUnit_arrived {k : Nat} (h : Touches K (arrive k g s) t)
    (hK : ∀ f ∈ K, f ∈ [Fld.regs, .force, .log, .seqs, .drv, .prb, .slots, .fresh] := by decide) :
    t = { s with
      regs := t.regs, force := t.force, log := t.log, seqs := t.seqs, drv := t.drv, prb := t.prb, slots := t.slots,
      fresh := t.fresh } :=
  ((touches_arrive (s := s)).trans h |>.mono (L := [.regs, .force, .log, .seqs, .drv, .prb, .slots, .fresh]) fun f hf =>
    (List.mem_append.1 hf).elim (fun ha => by rw [List.mem_singleton.1 ha]; decide) (hK f)).frame

theorem commits_commitFlux (g : Nat) (s : State) : Commits (fluxRegs g) s (commitFlux g s) := by
  unfold commitFlux
  extract_lets f keep r
  have hr : Touches [.flux] s r := by
    simp only [r]
    split
    · exact .mono (.ite (.refl _) touches_setFlux)
    · exact .mono (.refl _)
  have hregs (o : Nat) : getR o r = getR o s := by rw [getR, getR, hr.kept (·.regs) .regs]
  have hforce (o : Nat) : getF o r = getF o s := by rw [getF, getF, hr.kept (·.force) .force]
  obtain ⟨hin, hout⟩ := commits_commitRegs (fluxRegs g) r
  exact ⟨fun o ho => (hin o ho).trans (hregs o), fun o ho h8 => (hout o ho h8).trans (hforce o)⟩

theorem touches_commitFlux_tight (g : Nat) (s : State) : Touches [.flux, .force] s (commitFlux g s) := by
  unfold commitFlux
  extract_lets f keep r
  have hr : Touches [.flux] s r := by
    simp only [r]
    split
    · exact .mono (.ite (.refl _) touches_setFlux)
    · exact .mono (.refl _)
  exact .mono (touches_commitRegs.after hr)

/-- The registers of slot `g` in force, and its kernel page turned. -/
def slotTurned (g : Nat) (s : State) : State := putB (oThrFlags g) 7 (!kpage g s) (commitRegs (slotRegs g) s)

theorem commitSlot_eq (h : (slot g s).loading = false) : commitSlot g s =
    fsetUpdate g (fsetDenied g (chainNote g (chainNow g s) (slotTurned g s))) := by
  have hpage : kpage g (commitRegs (slotRegs g) s) = kpage g s := by rw [kpage, bR, getR, regs_commitRegs, ← getR, ← bR, ← kpage]
  rw [commitSlot, if_neg (by simp [h]), slotTurned, ← hpage]

theorem touches_chainNote_slots {was : ChainSet} : Touches [.slots] s (chainNote g was s) :=
  .mono (touches_noteTrn_slots.after touches_setSlot)

theorem leaves_fsetDenied (h : o ≠ oSlotStatus g) (s : State) : Leaves o s (fsetDenied g s) := by
  unfold fsetDenied
  exact .ite ((leaves_putB h 10 true s).trans touches_record.leaves) (.refl o s)

theorem leaves_fsetUpdate (h : o ≠ oSlotStatus g) (s : State) : Leaves o s (fsetUpdate g s) := by
  have hset (x : Slot) (b : Bool) (u : State) : Leaves o u (putB (oSlotStatus g) 11 b (setSlot g x u)) :=
    touches_setSlot.leaves.trans (leaves_putB h 11 b _)
  unfold fsetUpdate
  dsimp only
  split
  · exact touches_setSlot.leaves
  · split
    · exact touches_setSlot.leaves
    · exact (hset _ _ _).trans (Touches.leaves (K := [.slots]) touches_setSlot)

/-- A commit of a slot that is not held turns the page of its kernel. -/
theorem commitSlot_pages (h : (slot g s).loading = false) :
    Commits (slotRegs g) s (commitSlot g s) ∧ bR (oThrFlags g) 7 (commitSlot g s) = !bR (oThrFlags g) 7 s := by
  have hne : oThrFlags g ≠ oSlotStatus g := by simp only [oThrFlags, oSlotStatus]; omega
  rw [commitSlot_eq h]
  refine ⟨(commits_commitRegs (slotRegs g) s).of_force ?_, ?_⟩
  · exact (touches_fsetUpdate.after (touches_fsetDenied.after (touches_chainNote_slots.after touches_putB))).kept (·.force) .force
  · have hleft : Leaves (oThrFlags g) (slotTurned g s) (fsetUpdate g (fsetDenied g (chainNote g (chainNow g s) (slotTurned g s)))) :=
      (touches_chainNote_slots.leaves.trans (leaves_fsetDenied hne _)).trans (leaves_fsetUpdate hne _)
    rw [bR, hleft, ← bR, slotTurned, bR_putB_self _ (by decide), kpage]

/-- R98, R100, R131, R422: commits outside a shot and inside one.
Settles O13: it holds. -/
theorem commitsTakeEffect : Obligations.CommitsTakeEffect := by
  unfold Obligations.CommitsTakeEffect
  intro m g s hg
  dsimp only
  refine ⟨fun hout => ⟨fun h => ?_, fun h => ?_, fun h => ?_, fun h => ?_, fun h hload => ?_⟩,
    fun hin hnone => ⟨fun h => ?_, fun h => ?_, fun h => ?_, fun h => ?_, fun h => ?_⟩⟩
  · exact .of_eq (t := commitRegs (seqRegs g) (arrive 10 g s)) ((hostWrite_oSeqCommit h).trans (commitReq_outside hout 0))
      ⟨touches_commitUnit_arrived touches_commitRegs, (commits_commitRegs _ (arrive 10 g s)).of_arrive, regs_commitRegs _ (arrive 10 g s)⟩
  · exact .of_eq (t := commitTone false g (arrive 11 g s)) ((hostWrite_oDrvCommit h).trans (commitReq_outside hout 1))
      ⟨touches_commitUnit_arrived touches_commitTone, (commits_commitTone false g (arrive 11 g s)).of_arrive,
        regs_commitTone false g (arrive 11 g s)⟩
  · exact .of_eq (t := commitTone true g (arrive 12 g s)) ((hostWrite_oPrbCommit h).trans (commitReq_outside hout 2))
      ⟨touches_commitUnit_arrived touches_commitTone, (commits_commitTone true g (arrive 12 g s)).of_arrive,
        regs_commitTone true g (arrive 12 g s)⟩
  · have htouch := touches_commitFlux_tight g (arrive 14 g s)
    exact .of_eq (t := commitFlux g (arrive 14 g s)) ((hostWrite_oFluxCommit h).trans (commitReq_outside hout 4))
      ⟨(htouch.after touches_arrive).frame, (commits_commitFlux g (arrive 14 g s)).of_arrive, htouch.kept (·.regs) .regs⟩
  · obtain ⟨hcommits, hpage⟩ := commitSlot_pages (s := arrive 13 g s) hload
    exact .of_eq (t := commitSlot g (arrive 13 g s)) ((hostWrite_oSlotCommit h).trans (commitReq_outside hout 3))
      ⟨touches_commitUnit_arrived touches_commitSlot, hcommits.of_arrive, hpage⟩
  · exact .of_eq ((hostWrite_oSeqCommit h).trans (commitReq_inside hin hnone 0)) (arrive_modSeq_waits 0 g s)
  · exact .of_eq ((hostWrite_oDrvCommit h).trans (commitReq_inside hin hnone 1)) (arrive_modSeq_waits 1 g s)
  · exact .of_eq ((hostWrite_oPrbCommit h).trans (commitReq_inside hin hnone 2)) (arrive_modSeq_waits 2 g s)
  · exact .of_eq ((hostWrite_oSlotCommit h).trans (commitReq_inside hin hnone 3)) (arrive_modSeq_waits 3 g s)
  · exact .of_eq ((hostWrite_oFluxCommit h).trans (commitReq_inside hin hnone 4)) (arrive_modSeq_waits 4 g s)

end Sys2Proof.Machine
end

section
/-! PROOF. Bias codes and strobes (O15). -/

set_option Elab.async false

namespace Sys2Proof.Machine

variable {s t u : State} {g m o c : Nat} {v : W40} {K : List Fld}

theorem foldS_untouched {α : Type} {f : α → State → State} {l : List α} (h : ∀ b ∈ l, ∀ s, f b s = s) (s : State) : foldS f l s = s := by
  induction l generalizing s with
  | nil => rfl
  | cons b l ih =>
    rw [foldS, h b List.mem_cons_self]
    exact ih (fun c hc => h c (List.mem_cons_of_mem _ hc)) s

/-- A fold that acts on one element of its list only. -/
theorem foldS_single {α : Type} {f : α → State → State} {a : α} {l : List α} {s : State} (hmem : a ∈ l) (hnodup : l.Nodup)
    (hother : ∀ b ∈ l, b ≠ a → ∀ s, f b s = s) : foldS f l s = f a s := by
  induction l generalizing s with
  | nil => exact absurd hmem List.not_mem_nil
  | cons b l ih =>
    obtain ⟨hb, hl⟩ := List.nodup_cons.1 hnodup
    have hrest := fun c hc => hother c (List.mem_cons_of_mem b hc)
    rw [foldS]
    by_cases hba : b = a
    · subst hba
      exact foldS_untouched (fun c hc => hrest c hc (fun h => hb (h ▸ hc))) _
    · rw [hother b List.mem_cons_self hba]
      exact ih ((List.mem_cons.1 hmem).resolve_left (Ne.symm hba)) hl hrest

theorem bit_w_two_pow {i j : Nat} (hi : i < 40) : bit (BitVec.ofNat 40 (2 ^ i)) j = decide (i = j) := by
  rw [bit, BitVec.toNat_ofNat, Nat.mod_eq_of_lt (Nat.pow_lt_pow_right (by decide) hi), Nat.testBit_two_pow]

/-- BIAS_STROBE with one bit strobes one group (R150). -/
theorem strobeWrite_single {u grp : Nat} (hgrp : grp < 16) :
    strobeWrite m u (BitVec.ofNat 40 (2 ^ grp)) s = strobeGroup u grp m (m == 0) (now s) s := by
  rw [strobeWrite]
  refine (foldS_single (a := grp) (List.mem_range.2 hgrp) List.nodup_range fun k _ hk r => ?_).trans ?_
  · rw [if_neg (by rw [bit_w_two_pow (by omega)]; simpa using Ne.symm hk)]
  · rw [if_pos (by rw [bit_w_two_pow (by omega)]; simp)]

theorem hostWrite_oBiasStrobe {u : Nat} (h : Reaches .biasStrobe [u] m (oBiasStrobe u) v s) :
    hostWrite m (oBiasStrobe u) v s = strobeWrite m u v s := by
  obtain ⟨row, -, hk, hw⟩ := hostWrite_reaches h
  rw [hw]
  simp [regEffect, effectA, effectB, hk, nth]

/-! ### The load of a channel -/

theorem beginMove_aims (keep : Bool) (x : Tick) (b : Bias) :
    (beginMove keep x b).target = b.target ∧ (beginMove keep x b).aim = b.aim ∧ (beginMove keep x b).rest = b.rest := by
  unfold beginMove
  dsimp only
  split
  · split <;> exact ⟨rfl, rfl, rfl⟩
  · split <;> exact ⟨rfl, rfl, rfl⟩

/-- Channel `g`, not at rest, has its pending code as target and aim. -/
def Aimed (g : Nat) (p : Int) (s : State) : Prop := (biasC g s).target = p ∧ (biasC g s).aim = p

theorem strobeLoad_aims (x : Tick) (h : (biasC g s).rest = false) :
    Aimed g (pendingCode g s) (strobeLoad x g s) ∧ (biasC g (strobeLoad x g s)).rest = false := by
  unfold strobeLoad Aimed
  dsimp only
  rw [if_neg (by simp [h])]
  split
  · rw [biasC_setBias]
    exact ⟨⟨rfl, rfl⟩, h⟩
  · rw [biasC_setBias]
    obtain ⟨htarget, haim, hrest⟩ := beginMove_aims true x { biasC g s with
      target := pendingCode g s, aim := pendingCode g s, aimSpan := fF (oBiasCfg g) 35 34 (commitRegs [oBiasCfg g] s), loaded := true }
    exact ⟨⟨htarget, haim⟩, hrest.trans h⟩

theorem strobeLoad_other {k : Nat} (x : Tick) (hk : g ≠ k) (s : State) : biasC g (strobeLoad x k s) = biasC g s := by
  unfold strobeLoad
  dsimp only
  split
  · split
    · rw [biasC_setBias_ne _ hk]
      rfl
    · exact biasC_setBias_ne s hk _
  · split
    · exact biasC_setBias_ne s hk _
    · rw [biasC_setBias_ne _ hk]
      rfl

theorem pendingCode_strobeLoad (x : Tick) (k : Nat) (s : State) : pendingCode g (strobeLoad x k s) = pendingCode g s := by
  rw [pendingCode, fR, getR, touches_strobeLoad.kept (·.regs) .regs]
  rfl

/-- Every channel of the list that is not at rest is loaded, whatever its place. -/
theorem foldS_strobeLoad_aims (x : Tick) {p : Int} : ∀ {l : List Nat} {s : State}, (biasC g s).rest = false → pendingCode g s = p →
    (g ∈ l ∨ Aimed g p s) → Aimed g p (foldS (strobeLoad x) l s)
  | [], _, _, _, h => h.resolve_left List.not_mem_nil
  | k :: l, s, hrest, hp, h => by
    rw [foldS]
    have hp' : pendingCode g (strobeLoad x k s) = p := (pendingCode_strobeLoad x k s).trans hp
    by_cases hk : g = k
    · subst hk
      obtain ⟨haimed, hrest'⟩ := strobeLoad_aims x hrest
      exact foldS_strobeLoad_aims x hrest' hp' (.inr (hp ▸ haimed))
    · have hother := strobeLoad_other x hk s
      refine foldS_strobeLoad_aims x (by rwa [hother]) hp' ?_
      rcases h with h | h
      · exact .inl ((List.mem_cons.1 h).resolve_left hk)
      · exact .inr (by rwa [Aimed, hother])

theorem groupNow_unstrobed {u grp : Nat} (h : s.fabric.strobes = []) : groupNow u grp s = groupOf u grp s := by
  rw [groupNow, h]
  simp

theorem mem_groupOf {u grp : Nat} (hc : c < 96) (h : fF (oBiasCfg (96 * u + c)) 39 36 s = grp) : 96 * u + c ∈ groupOf u grp s := by
  rw [groupOf, List.mem_filter]
  exact ⟨List.mem_map.2 ⟨c, List.mem_range.2 hc, rfl⟩, by simp [h]⟩

theorem strobeGroup_safe {u grp : Nat} {all : Bool} {x : Tick} (hlife : s.life = .safe) (hnone : s.fabric.strobes = []) :
    strobeGroup u grp m all x s = noteStrobe u grp (groupOf u grp s) (groupOf u grp s) (bump (oBiasDiscard u) 39 20 s) := by
  rw [strobeGroup, if_pos (.inl hlife), groupNow_unstrobed hnone, if_neg (by simp [isStrobed, hnone])]

theorem frame_of_strobe (h : Touches [.regs, .fabric] s t) :
    t = { s with regs := t.regs, force := t.force, bias := t.bias, fabric := t.fabric } :=
  (h.mono (L := [.regs, .force, .bias, .fabric])).frame

/-- A strobe in SAFE loads nothing and counts (R154). -/
theorem biasStrobe_safe {u grp : Nat} (hgrp : grp < 16) (h : Reaches .biasStrobe [u] m (oBiasStrobe u) (BitVec.ofNat 40 (2 ^ grp)) s)
    (hlife : s.life = .safe) (hnone : s.fabric.strobes = []) (hcount : fR (oBiasDiscard u) 39 20 s < 2 ^ 20 - 1) :
    Completes (.biasStrobe m u (BitVec.ofNat 40 (2 ^ grp))) s (fun t =>
      t = { s with regs := t.regs, force := t.force, bias := t.bias, fabric := t.fabric } ∧
      t.bias = s.bias ∧ fR (oBiasDiscard u) 39 20 t = fR (oBiasDiscard u) 39 20 s + 1) := by
  have hcounts : fR (oBiasDiscard u) 39 20 (noteStrobe u grp (groupOf u grp s) (groupOf u grp s) (bump (oBiasDiscard u) 39 20 s)) =
      fR (oBiasDiscard u) 39 20 (bump (oBiasDiscard u) 39 20 s) := by
    rw [fR, fR, getR, getR, touches_noteStrobe.kept (·.regs) .regs]
  have htouches : Touches [.regs, .fabric] s (noteStrobe u grp (groupOf u grp s) (groupOf u grp s) (bump (oBiasDiscard u) 39 20 s)) :=
    touches_noteStrobe.after touches_bump
  exact .of_eq ((hostWrite_oBiasStrobe h).trans ((strobeWrite_single hgrp).trans (strobeGroup_safe hlife hnone)))
    ⟨frame_of_strobe htouches, htouches.kept (·.bias) .bias, hcounts.trans (fR_bump_self hcount (by decide) (by decide))⟩

theorem biasCode_writable {j : Nat} (hj : j ≤ 19) : (0xfffff).testBit j = true := by
  interval_cases j <;> rfl

theorem regRows_biasCode_rw : ∀ row ∈ regRows, row.k = .biasCode → row.rw = 0xfffff := by decide +kernel

/-- R149, R150, R152, R154: the pending code, a strobe in READY, and one in SAFE.
Settles O15: it holds. -/
theorem biasCodeAndStrobe : Obligations.BiasCodeAndStrobe := by
  refine ⟨fun m c v s h hfresh => ?_, fun m u grp s hgrp h hlife hhold hnone => ?_, fun m u grp s hgrp h hlife hnone hcount => ?_⟩
  · obtain ⟨row, hrow, hk, hwrite⟩ := hostWrite_stores h hfresh (fun row hk => by simp [effectA, effectB, hk])
    have hrw := regRows_biasCode_rw row hrow hk
    refine .of_eq hwrite ⟨storeReg_only row _ v s, fR_storeReg (by rw [hrw]; norm_num) (fun j _ hj => ?_) _ v s⟩
    rw [hrw]
    exact biasCode_writable hj
  · have hgroup : strobeGroup u grp m (m == 0) (now s) s = foldS (strobeLoad (now s))
        ((groupOf u grp s).filter fun g => m == 0 || seqDom g s == m)
        (noteStrobe u grp (groupOf u grp s) ((groupOf u grp s).filter fun g => m == 0 || seqDom g s == m) s) := by
      rw [strobeGroup, if_neg (by simp [hlife, modeOn, hhold]), groupNow_unstrobed hnone]
    refine .of_eq ((hostWrite_oBiasStrobe h).trans ((strobeWrite_single hgrp).trans hgroup)) fun c hc => ?_
    dsimp only
    intro hmember hdomain hrest _
    exact foldS_strobeLoad_aims (now s) hrest rfl
      (.inl (List.mem_filter.2 ⟨mem_groupOf hc hmember, by simpa using hdomain⟩))
  · exact biasStrobe_safe hgrp h hlife hnone hcount

end Sys2Proof.Machine
end

section
/-! PROOF. Slews, dwells and checks of the bias outputs (O16, O17). -/

set_option Elab.async false

namespace Sys2Proof.Machine

variable {s t u : State} {g m o c src code detail : Nat} {v w3 : W40} {x : Tick}

/-! ### Frames of an outcome, and records behind and before other changes -/

/-- What completes with a state that its frame and `R` describe. -/
theorem Completes.of_touches {i : Instr} {r : State} {K : List Fld} {P R : State → Prop} (hr : r = t) (h : Touches K s t)
    (hP : ∀ t, Touches K s t → R t → P t) (hR : R t) (hc : exec i s = .next r := by rfl) : Completes i s P :=
  .of_eq hr (hP t h hR) hc

theorem fR_of_regs (h : t.regs = s.regs) (off hi lo : Nat) : fR off hi lo t = fR off hi lo s := by rw [fR, fR, getR, getR, h]

theorem bR_of_regs (h : t.regs = s.regs) (off i : Nat) : bR off i t = bR off i s := by rw [bR, bR, getR, getR, h]

theorem biasC_of_bias (h : t.bias = s.bias) (k : Nat) : biasC k t = biasC k s := by rw [biasC, biasC, h]

theorem Touches.onlyRegs {offs : List Nat} (h : Touches [.regs] s t) (hk : ∀ o, o ∉ offs → getR o t = getR o s) : OnlyRegs offs s t :=
  ⟨h.frame, hk⟩

/-- A record that is written behind changes which leave the log. -/
theorem Logged.after {s' : State} {K : List Fld} (h : Logged src code detail w3 s' t) (hs : Touches K s s')
    (hlog : Fld.log ∉ K := by decide) (hclock : Fld.clock ∉ K := by decide) : Logged src code detail w3 s t := by
  obtain ⟨r, hpool, hsrc, hcode, hdetail, hw3, htick, hepoch⟩ := h
  exact ⟨r, by rw [hpool, hs.kept (·.log) .log hlog], hsrc, hcode, hdetail, hw3, by rw [htick, hs.kept (·.time.tick) .clock hclock],
    by rw [hepoch, hs.kept (·.time.epoch) .clock hclock]⟩

/-- A record that other changes leave. -/
theorem Logged.before (h : Logged src code detail w3 s t) (hu : u.log = t.log) : Logged src code detail w3 s u := by
  obtain ⟨r, hpool, hr⟩ := h
  exact ⟨r, hu ▸ hpool, hr⟩

/-! ### Slews and dwells -/

theorem slewSet_awake (h : (biasC g s).rest = false) : slewSet g s = (fF (oBiasCfg g) 31 16 s, fF (oBiasCfg g) 15 0 s) := by
  rw [slewSet, h]
  rfl

/-- The code after a step that reaches its goal, or that jumps (R155). -/
theorem stepTo_reached {step : Nat} {goal out : Int} (h : step = 0 ∨ (goal - out).natAbs ≤ step) : stepTo step goal out = goal := by
  unfold stepTo
  split
  · rfl
  · split <;> omega

theorem stepTo_short {step : Nat} {goal out : Int} (h0 : step ≠ 0) (h : step < (goal - out).natAbs) :
    stepTo step goal out = if out < goal then out + step else out - step := by
  unfold stepTo
  rw [if_neg h0]
  split <;> omega

theorem biasMoveEnd_reached {sl : Nat × Nat} {b : Bias} (h : sl.1 = 0 ∨ (b.aim - b.out).natAbs ≤ sl.1) :
    biasMoveEnd x sl b = { b with out := b.aim, phase := .idle, nextAt := none } := by
  rw [biasMoveEnd, biasMove, stepTo_reached h]
  simp

theorem biasMoveEnd_short {sl : Nat × Nat} {b : Bias} (h0 : sl.1 ≠ 0) (h : sl.1 < (b.aim - b.out).natAbs) :
    biasMoveEnd x sl b =
      { b with out := if b.out < b.aim then b.out + sl.1 else b.out - sl.1, nextAt := some (plus x (10 * max 1 sl.2)) } := by
  have hshort : (if b.out < b.aim then b.out + sl.1 else b.out - sl.1) ≠ b.aim := by split <;> omega
  simp only [biasMoveEnd, biasMove, stepTo_short h0 h, if_neg hshort, stepTicks]

theorem biasSlewStepRow_slew (hphase : (biasC c s).phase = .slew) (hnext : (biasC c s).nextAt = some x) (hdue : due x s = true)
    (hconn : (biasC c s).connected = true) :
    biasSlewStepRow c s = setBias c (biasMoveEnd x (slewSet c s) (biasC c s)) s := by
  simp [biasSlewStepRow, hnext, hdue, hconn, hphase]

theorem spanDwellEndRow_dwellA (hphase : (biasC c s).phase = .dwellA x) (hdue : due x s = true) (hconn : (biasC c s).connected = true) :
    spanDwellEndRow c s = spanSwitch c (setBias c
      { biasC c s with span := (biasC c s).aimSpan, phase := .dwellB (plus x 20000), nextAt := none } s) := by
  simp [spanDwellEndRow, hphase, hdue, hconn]

theorem spanDwellEndRow_dwellB (hphase : (biasC c s).phase = .dwellB x) (hdue : due x s = true) (hconn : (biasC c s).connected = true)
    (haim : (biasC c s).aim = 0) :
    spanDwellEndRow c s = setBias c { biasC c s with phase := .idle, nextAt := none } s := by
  simp [spanDwellEndRow, hphase, hdue, hconn, haim]

theorem spanSwitch_only (g : Nat) (s : State) : OnlyRegs [oBiasQf g] s (spanSwitch g s) :=
  (putF_only _ _ _ _ _).trans (putF_only _ _ _ _ _)

theorem spanSwitch_setBias_only (g : Nat) (b : Bias) (s : State) :
    OnlyRegs [oBiasQf g] { s with bias := (spanSwitch g (setBias g b s)).bias } (spanSwitch g (setBias g b s)) := by
  rw [touches_spanSwitch.kept (·.bias) .bias]
  exact spanSwitch_only g _

/-- A change of one channel that leaves the others. -/
theorem setBias_only (c : Nat) (b : Bias) (s : State) :
    setBias c b s = { s with bias := (setBias c b s).bias } ∧ ∀ k, k ≠ c → biasC k (setBias c b s) = biasC k s :=
  ⟨rfl, fun _ hk => biasC_setBias_ne s hk b⟩

/-- R155, R156, R158: the steps of a slew and the dwells of a span change.
Settles O16: it holds. -/
theorem biasSlewsAndDwells : Obligations.BiasSlewsAndDwells := by
  intro c x s
  refine ⟨fun hphase hnext hdue hconn hrest _ => ⟨fun hstep => ?_, fun h0 hstep => ?_⟩, fun hphase hdue hconn => ?_,
    fun hphase hdue hconn haim => ?_⟩
  · refine .of_eq (biasSlewStepRow_slew hphase hnext hdue hconn) ⟨setBias_only _ _ _, ?_⟩
    rw [biasC_setBias, slewSet_awake hrest, biasMoveEnd_reached hstep]
  · refine .of_eq (biasSlewStepRow_slew hphase hnext hdue hconn) ⟨setBias_only _ _ _, ?_⟩
    rw [biasC_setBias, slewSet_awake hrest, biasMoveEnd_short h0 hstep]
  · refine .of_eq (spanDwellEndRow_dwellA hphase hdue hconn) ⟨?_, ?_⟩
    · rw [biasC_of_bias (touches_spanSwitch.kept (·.bias) .bias), biasC_setBias]
    · exact spanSwitch_setBias_only c _ s
  · exact .of_eq (spanDwellEndRow_dwellB hphase hdue hconn haim) ⟨setBias_only _ _ _, biasC_setBias s c _⟩

/-! ### Checks of an output -/

theorem not_biasDisconnected (hconn : (biasC g s).connected = true) (hpower : tilePowered (g / 96) s = true)
    (hecho : isEcho s = false) (hswitched : (outp (512 + g) s).switched = false) : biasDisconnected g s = false := by
  simp [biasDisconnected, hconn, hpower, hecho, hswitched]

theorem oBiasStatus_ne_oBiasLoad (g : Nat) : oBiasStatus g ≠ oBiasLoad g := by
  unfold oBiasStatus oBiasLoad; omega

theorem oBiasLoad_ne_oBiasQf (g : Nat) : oBiasLoad g ≠ oBiasQf g := by
  unfold oBiasLoad oBiasQf; omega

theorem oBiasStatus_ne_oBiasQf (g : Nat) : oBiasStatus g ≠ oBiasQf g := by
  unfold oBiasStatus oBiasQf; omega

theorem fR_record (off hi lo : Nat) : fR off hi lo (record src code detail w3 s) = fR off hi lo s := rfl

theorem bR_record (off i : Nat) : bR off i (record src code detail w3 s) = bR off i s := rfl

theorem unsx_satI_20 {i : Int} (h : -524288 ≤ i) (h' : i < 524288) : unsx 20 (satI 20 i) = (i % 1048576).toNat := by
  have hsat : satI 20 i = i := by
    unfold satI clampI
    norm_num
    omega
  rw [hsat]
  rfl

/-- Where the check of OPEN is not suspended, a measurement below the minimum counts (R163). -/
theorem openCount_counts {i : Int} (hlow : i.natAbs < 10 * fR (oBiasCheck g) 15 0 s) (hrun : openSuspended g s = false) :
    openCount g i s = min 16 ((biasC g s).openCnt + 1) := by
  have hmin : fR (oBiasCheck g) 15 0 s ≠ 0 := by omega
  simp [openCount, hmin, hrun, hlow]

/-- Channel `g` stands, drives more than 100 mV, and is connected: its check of R163 runs. -/
theorem openSuspended_false (habove : above100mV (biasC g s) = true) (hidle : (biasC g s).phase = .idle)
    (hdisc : biasDisconnected g s = false) : openSuspended g s = false := by
  simp [openSuspended, habove, slewing, hidle, hdisc]

/-- Channel `g` with its counts and LOAD after a measurement, before INL and the checks. -/
def loaded (g : Nat) (i : Int) (oc rc : Nat) (s : State) : State :=
  putF (oBiasLoad g) 39 20 (unsx 20 (satI 20 i)) (setBias g { biasC g s with openCnt := oc, retCnt := rc } s)

/-- What a measurement leaves: the registers but LOAD and INL, and how the channel drives. -/
structure Measured (g : Nat) (s t : State) : Prop where
  touches : Touches [.regs, .bias] s t
  kept : ∀ o, o ≠ oBiasLoad g → o ≠ oBiasQf g → getR o t = getR o s
  chan : ∃ oc rc, biasC g t = { biasC g s with openCnt := oc, retCnt := rc }

theorem measured_loaded (g : Nat) (i : Int) (oc rc : Nat) (s : State) : Measured g s (loaded g i oc rc s) where
  touches := touches_putF.after touches_setBias |>.mono
  kept o ho _ := by
    rw [loaded, getR_putF_ne ho]
    rfl
  chan := ⟨oc, rc, by
    rw [loaded, biasC_of_bias (touches_putF.kept (·.bias) .bias), biasC_setBias]⟩

theorem Measured.putF_inl {q : State} (h : Measured g s q) (hi lo n : Nat) : Measured g s (putF (oBiasQf g) hi lo n q) := by
  obtain ⟨hframe, hkept, oc, rc, hchan⟩ := h
  refine ⟨(touches_putF.after hframe).mono, fun o hl hq => (getR_putF_ne hq _ _ _).trans (hkept o hl hq), oc, rc, ?_⟩
  rw [biasC_of_bias (touches_putF.kept (·.bias) .bias), hchan]

theorem oModes_ne_oBias {o : Nat} (ho : o < 0x10b0000) (g : Nat) : o ≠ oBiasLoad g ∧ o ≠ oBiasQf g := by
  unfold oBiasLoad oBiasQf; omega

theorem Measured.getR_low {q : State} (h : Measured g s q) {o : Nat} (ho : o < 0x10b0000) : getR o q = getR o s :=
  h.kept o (oModes_ne_oBias ho g).1 (oModes_ne_oBias ho g).2

theorem Measured.openSuspended_eq {q : State} (h : Measured g s q) : openSuspended g q = openSuspended g s := by
  obtain ⟨oc, rc, hchan⟩ := h.chan
  have hpower : tilePowered (g / 96) q = tilePowered (g / 96) s := by rw [tilePowered, tilePowered, fR, fR, h.getR_low (by decide)]
  have hout : outp (512 + g) q = outp (512 + g) s := by rw [outp, outp, h.touches.kept (·.outs) .outs]
  have hmode : getR oMode q = getR oMode s := h.getR_low (by decide)
  have hecho : isEcho q = isEcho s := by
    rw [isEcho, isEcho, modeOn, modeOn, mode, mode, h.touches.kept (·.life) .life, bR, bR, bR, bR, hmode]
  have habove : above100mV (biasC g q) = above100mV (biasC g s) := by rw [hchan]; rfl
  have hslew : slewing (biasC g q) = slewing (biasC g s) := by rw [hchan]; rfl
  have hconn : (biasC g q).connected = (biasC g s).connected := by rw [hchan]
  rw [openSuspended, openSuspended, biasDisconnected, biasDisconnected, habove, hslew, hconn, hpower, hecho, hout]

theorem unsx_lt (n : Nat) (i : Int) : unsx n i < 2 ^ n := by
  have h : (0 : Int) < (2 ^ n : Nat) := by exact_mod_cast Nat.two_pow_pos n
  have := Int.emod_lt_of_pos i h
  have := Int.emod_nonneg i h.ne'
  unfold unsx
  omega

/-- The row of a measurement, with its counts and what it measures taken out. -/
theorem biasLoadMeasureRow_eq {i d : Int} {n : Nat} (hg : g < nSeqs s) (hconn : (biasC g s).connected = true) :
    ∃ q, (q = loaded g i (openCount g i s) (returnCount g d s) s ∨
        ∃ k, q = putF (oBiasQf g) 15 0 k (loaded g i (openCount g i s) (returnCount g d s) s)) ∧
      biasLoadMeasureRow g i d n s = checkFlag (returnCount g d s) g 11 0x405
        (if openSuspended g q then q else checkFlag (openCount g i s) g 12 0x404 q) := by
  refine ⟨if !slewing (biasC g s) && decide (1000000 ≤ (biasC g s).held) then
      putF (oBiasQf g) 15 0 (min 65535 (max (fR (oBiasQf g) 15 0 (loaded g i (openCount g i s) (returnCount g d s) s)) (n / 4 * 4)))
        (loaded g i (openCount g i s) (returnCount g d s) s)
    else loaded g i (openCount g i s) (returnCount g d s) s, ?_, ?_⟩
  · split
    · exact .inr ⟨_, rfl⟩
    · exact .inl rfl
  · rw [biasLoadMeasureRow, if_pos (by simp [hg, hconn])]
    rfl

/-- A measurement that lets the return stand aside: LOAD, the count, and OPEN where its count stands at 16. -/
theorem biasLoadMeasureRow_open {i d : Int} {n : Nat} (hg : g < nSeqs s) (hconn : (biasC g s).connected = true)
    (hret : bR (oBiasCheck g) 16 s = false) :
    ∃ q, Measured g s q ∧ fR (oBiasLoad g) 39 20 q = unsx 20 (satI 20 i) ∧
      biasLoadMeasureRow g i d n s = if openSuspended g s then q else checkFlag (openCount g i s) g 12 0x404 q := by
  obtain ⟨q, hq, hrow⟩ := biasLoadMeasureRow_eq (i := i) (d := d) (n := n) hg hconn
  have hrc : returnCount g d s = 0 := by simp [returnCount, hret]
  have hmeas := measured_loaded g i (openCount g i s) 0 s
  have hload : fR (oBiasLoad g) 39 20 (loaded g i (openCount g i s) 0 s) = unsx 20 (satI 20 i) :=
    fR_putF_self (unsx_lt 20 _) (by decide) (by decide)
  have hzero (r : State) : checkFlag 0 g 11 0x405 r = r := by simp [checkFlag]
  rw [hrc] at hq hrow
  rw [hzero] at hrow
  have hmq : Measured g s q ∧ fR (oBiasLoad g) 39 20 q = unsx 20 (satI 20 i) := by
    rcases hq with rfl | ⟨k, rfl⟩
    · exact ⟨hmeas, hload⟩
    · exact ⟨hmeas.putF_inl _ _ _, (fR_putF_ne (oBiasLoad_ne_oBiasQf g) _ _ _ _ _).trans hload⟩
  exact ⟨q, hmq.1, hmq.2, by rw [hrow, hmq.1.openSuspended_eq]⟩

theorem checkFlag_sets {q : State} {bitNo : Nat} (h : bR (oBiasStatus g) bitNo q = false) :
    checkFlag 16 g bitNo code q = record (0x3200 + g) code 0 0 (putB (oBiasStatus g) bitNo true q) := by
  simp [checkFlag, h]

/-- R162, R163: the current limit and the load measurement of a bias output.
Settles O17: it holds. -/
theorem biasChecksReport : Obligations.BiasChecksReport := by
  intro c s hc hconn hpower hecho hswitched
  have hsrc := seq_lt_768 hc
  have hdisc := not_biasDisconnected hconn hpower hecho hswitched
  refine ⟨fun hlimit => ?_, fun i hlo hhi hlow hret hcnt hidle habove hopen => ?_⟩
  · have hrow : biasIlimitRow c s = record (0x3200 + c) 0x403 0 0 (putB (oBiasStatus c) 13 true s) := by
      simp [biasIlimitRow, hc, hdisc, hlimit, recordIf]
    have hlogged := logged_record (0x3200 + c) 0x403 0 0 (putB (oBiasStatus c) 13 true s) (by omega) (by decide) (by decide)
    exact .of_touches hrow (touches_record.after touches_putB) (fun _ h r => ⟨And.left r, r.right, h.frame⟩)
      ⟨(bR_record _ _).trans (bR_putB_self true (by decide)), hlogged.after touches_putB⟩
  · obtain ⟨q, hq, hload, hrow⟩ := biasLoadMeasureRow_open (i := i) (d := 0) (n := 0) hc hconn hret
    have hrun := openSuspended_false habove hidle hdisc
    have hopenq : bR (oBiasStatus c) 12 q = false := by
      rw [bR, hq.kept _ (oBiasStatus_ne_oBiasLoad c) (oBiasStatus_ne_oBiasQf c)]
      exact hopen
    have hset := touches_putB (off := oBiasStatus c) (i := 12) (b := true).after hq.touches
    rw [if_neg (by simp [hrun]), openCount_counts hlow hrun, hcnt] at hrow
    exact .of_touches (hrow.trans (checkFlag_sets hopenq)) ((touches_record.after hset).mono (L := [.regs, .log, .bias]))
      (fun _ h r => ⟨h.frame, r⟩) ⟨(bR_record _ _).trans (bR_putB_self true (by decide)),
      (logged_record _ _ _ _ _ (by omega) (by decide) (by decide)).after hset, by
      rw [fR_record, fR_putB_ne (oBiasStatus_ne_oBiasLoad c).symm, hload, unsx_satI_20 hlo hhi]⟩

end Sys2Proof.Machine
end

section
/-! PROOF. Calibration, rotation, power and over-range of the ADCs (O18). -/

set_option Elab.async false

namespace Sys2Proof.Machine

variable {s t u : State} {g m o c a k off : Nat} {v w3 : W40} {x : Tick}

/-! ### One element of a fold -/

/-- What the `k`-th step of a fold does to a part that the other steps leave, under a fact `I` that every step keeps. -/
theorem foldS_at {α β : Type} {I : State → Prop} {F : α → State → State} {π : State → β} {φ : β → β} {k : α} {l : List α}
    (hk : k ∈ l) (hl : l.Nodup) (hI : ∀ j ∈ l, ∀ s, I s → I (F j s)) (hself : ∀ s, I s → π (F k s) = φ (π s))
    (hother : ∀ j ∈ l, ∀ s, j ≠ k → π (F j s) = π s) (hs : I s) : π (foldS F l s) = φ (π s) := by
  induction l generalizing s with
  | nil => exact absurd hk List.not_mem_nil
  | cons b l ih =>
    obtain ⟨hb, hl⟩ := List.nodup_cons.1 hl
    have hI' := fun c hc => hI c (List.mem_cons_of_mem b hc)
    have hother' := fun c hc => hother c (List.mem_cons_of_mem b hc)
    rw [foldS]
    by_cases hbk : b = k
    · subst hbk
      have hrest (l : List α) (hbl : b ∉ l) (hl : ∀ c ∈ l, ∀ s, c ≠ b → π (F c s) = π s) (s : State) : π (foldS F l s) = π s := by
        induction l generalizing s with
        | nil => rfl
        | cons c l ih =>
          rw [foldS, ih (fun hc => hbl (List.mem_cons_of_mem _ hc)) (fun d hd => hl d (List.mem_cons_of_mem _ hd))]
          exact hl c List.mem_cons_self s (fun h => hbl (h ▸ List.mem_cons_self))
      rw [hrest l hb hother', hself s hs]
    · rw [ih ((List.mem_cons.1 hk).resolve_left (Ne.symm hbk)) hl hI' hother' (hI b List.mem_cons_self s hs),
        hother b List.mem_cons_self s hbk]

theorem upTo_nodup (n : Nat) : (upTo n).Nodup := List.nodup_range

theorem mem_upTo {n : Nat} (h : k < n) : k ∈ upTo n := List.mem_range.2 h

theorem adc_of_adcs (h : t.adcs = s.adcs) (a : Nat) : adc a t = adc a s := by rw [adc, adc, h]

theorem Leaves.bR {i : Nat} (h : Leaves o s t) : bR o i t = bR o i s := by
  have h : getR o t = getR o s := h
  rw [Machine.bR, Machine.bR, h]

theorem Leaves.fR {hi lo : Nat} (h : Leaves o s t) : fR o hi lo t = fR o hi lo s := by
  have h : getR o t = getR o s := h
  rw [Machine.fR, Machine.fR, h]

theorem Leaves.getR (h : Leaves o s t) : getR o t = getR o s := h

theorem leaves_putF (h : o ≠ off) (hi lo n : Nat) (s : State) : Leaves o s (putF off hi lo n s) := getR_putF_ne h hi lo n

theorem leaves_setR (h : o ≠ off) (v : W40) (s : State) : Leaves o s (setR off v s) := getR_setR_ne s h v

/-! ### Self-calibration -/

/-- Bit `i` of register `off` across a change of other bits of it. -/
theorem bR_putF_field {i hi lo : Nat} (n : Nat) (h : i < lo ∨ hi < i) (hl : lo ≤ hi := by decide) (hh : hi < 40 := by decide) :
    bR off i (putF off hi lo n s) = bR off i s := bR_putF_apart n hl hh h

theorem bR_spareUpdate {i : Nat} (hi : i < 28) : bR (oAdcStatus a) i (spareUpdate a s) = bR (oAdcStatus a) i s := by
  rw [spareUpdate, bR_putF_field _ (.inl (by omega)), bR_putF_field _ (.inl hi)]

theorem leaves_spareUpdate (h : o ≠ oAdcStatus a) (s : State) : Leaves o s (spareUpdate a s) :=
  (leaves_putF h _ _ _ _).trans (leaves_putF h _ _ _ _)

theorem leaves_adcFigures (h : o ≠ oAdcQf a) (hi : Nat) (s : State) : Leaves o s (adcFigures hi a s) :=
  (leaves_putF h _ _ _ _).trans touches_takeFree.leaves

theorem oAdcStatus_ne_oAdcQf (a k : Nat) : oAdcStatus a ≠ oAdcQf k := by
  unfold oAdcStatus oAdcQf tileStep; omega

theorem oAdcStatus_ne_oAdcCtl (a k : Nat) : oAdcStatus a ≠ oAdcCtl k := by
  unfold oAdcStatus oAdcCtl tileStep; omega

theorem oAdcStatus_ne (h : a ≠ k) : oAdcStatus a ≠ oAdcStatus k := by
  unfold oAdcStatus tileStep; omega

/-- The end of calibration on ADC `a`: the tick of its end is gone, and CAL_BUSY is 0 (R168). -/
theorem calEnd_self (f a : Nat) (s : State) : (adc a (calEnd f a s)).cal = none ∧ bR (oAdcStatus a) 1 (calEnd f a s) = false := by
  unfold calEnd
  dsimp only
  generalize (adc a s) = old
  generalize hq : setAdc a { old with cal := none, rotFrom := some (now s), whole := false } s = q
  have hcal : (adc a q).cal = none := by rw [← hq, adc_setAdc]
  have hfig : Touches [.regs, .free] q (if fixedSpare a q = 63 then q else adcFigures 9 a q) := .ite (.refl q) touches_adcFigures
  have hrec (r : State) := touches_recordIf (c := !(failedSlices a s).isEmpty) (src := 0x4000 + a) (code := 0x501)
    (detail := f * 2 ^ 6 + (failedSlices a s).length) (w3 := 0) (s := r)
  constructor
  · rw [adc_of_adcs ((hrec _).kept (·.adcs) .adcs), adc_of_adcs (touches_spareUpdate.kept (·.adcs) .adcs),
      adc_of_adcs (touches_putB.kept (·.adcs) .adcs), adc_of_adcs (touches_putF.kept (·.adcs) .adcs),
      adc_of_adcs (touches_putB.kept (·.adcs) .adcs), adc_of_adcs (hfig.kept (·.adcs) .adcs), hcal]
  · rw [(hrec _).leaves.bR, bR_spareUpdate (by decide), bR_putB_apart _ (by decide) (by decide), bR_putF_field _ (.inl (by decide)),
      bR_putB_self _ (by decide)]

theorem calEnd_other {f a k : Nat} (h : a ≠ k) (s : State) : adc a (calEnd f k s) = adc a s ∧ Leaves (oAdcStatus a) s (calEnd f k s) := by
  have hst := oAdcStatus_ne h
  unfold calEnd
  dsimp only
  generalize hq : setAdc k { adc k s with cal := none, rotFrom := some (now s), whole := false } s = q
  have hadc : adc a q = adc a s := hq ▸ adc_setAdc_ne s h _
  have hfig : Touches [.regs, .free] q (if fixedSpare k q = 63 then q else adcFigures 9 k q) := .ite (.refl q) touches_adcFigures
  have hrec (r : State) := touches_recordIf (c := !(failedSlices k s).isEmpty) (src := 0x4000 + k) (code := 0x501)
    (detail := f * 2 ^ 6 + (failedSlices k s).length) (w3 := 0) (s := r)
  constructor
  · rw [adc_of_adcs ((hrec _).kept (·.adcs) .adcs), adc_of_adcs (touches_spareUpdate.kept (·.adcs) .adcs),
      adc_of_adcs (touches_putB.kept (·.adcs) .adcs), adc_of_adcs (touches_putF.kept (·.adcs) .adcs),
      adc_of_adcs (touches_putB.kept (·.adcs) .adcs), adc_of_adcs (hfig.kept (·.adcs) .adcs), hadc]
  · exact (((((hq ▸ touches_setAdc.leaves : Leaves _ s q).trans (.ite (.refl _ _) (leaves_adcFigures (oAdcStatus_ne_oAdcQf _ _) _ _))).trans
      (leaves_putB hst _ _ _)).trans (leaves_putF hst _ _ _ _)).trans (leaves_putB hst _ _ _)).trans
      ((leaves_spareUpdate hst _).trans (hrec _).leaves)

theorem adc_index_ne {u f j : Nat} (h : j ≠ f) : 8 * u + f ≠ 8 * u + j := by omega

/-- Every ADC of the tile has ended its calibration. -/
theorem calEnds (u : Nat) (s : State) {f : Nat} (hf : f < 8) :
    let t := foldS (fun f s => calEnd f (8 * u + f) s) (upTo 8) s
    (adc (8 * u + f) t).cal = none ∧ bR (oAdcStatus (8 * u + f)) 1 t = false := by
  refine ⟨?_, ?_⟩
  · refine foldS_at (I := fun _ => True) (π := fun s => (adc (8 * u + f) s).cal) (φ := fun _ => none) (mem_upTo hf) (upTo_nodup 8)
      (fun _ _ _ _ => trivial) (fun s _ => (calEnd_self f _ s).1) (fun j _ s hj => ?_) trivial
    exact congrArg Adc.cal (calEnd_other (adc_index_ne hj) s).1
  · exact foldS_at (I := fun _ => True) (π := fun s => bR (oAdcStatus (8 * u + f)) 1 s) (φ := fun _ => false) (mem_upTo hf) (upTo_nodup 8)
      (fun _ _ _ _ => trivial) (fun s _ => (calEnd_self f _ s).2) (fun j _ s hj => (calEnd_other (adc_index_ne hj) s).2.bR) trivial

theorem selfCalDoneRow_due {u : Nat} {res : List SliceCal} (hu : u < nTiles s) (hcal : (adc (8 * u) s).cal = some x) (hdue : due x s = true) :
    ∃ q st vs, selfCalDoneRow u res s = endRoutineAt 0x201 u st vs (foldS (fun f s => calEnd f (8 * u + f) s) (upTo 8) q) := by
  unfold selfCalDoneRow
  rw [if_pos (by simp [hu, hcal, dueO, hdue])]
  exact ⟨_, _, _, rfl⟩

theorem adcSelfCalDone_completes (u : Nat) (x : Tick) (res : List SliceCal) (s : State) (hu : u < nTiles s)
    (hcal : (adc (8 * u) s).cal = some x) (hdue : due x s = true) :
    Completes (.adcSelfCalDone u res) s (fun t =>
      t = { s with regs := t.regs, log := t.log, adcs := t.adcs, ce := t.ce, free := t.free } ∧
      ∀ f, f < 8 → (adc (8 * u + f) t).cal = none ∧ bR (oAdcStatus (8 * u + f)) 1 t = false) := by
  obtain ⟨q, st, vs, hrow⟩ := selfCalDoneRow_due (res := res) hu hcal hdue
  refine .of_touches rfl touches_selfCalDoneRow (fun _ h r => ⟨h.frame, r⟩) fun f hf => ?_
  rw [hrow, adc_of_adcs (touches_endRoutineAt.kept (·.adcs) .adcs), touches_endRoutineAt.leaves.bR]
  exact calEnds u q hf

/-! ### Rotation -/

/-- ADC `a` takes the rotation index `r`. -/
def rotated (r a : Nat) (s : State) : State := spareUpdate a (setAdc a { adc a s with rot := r } s)

theorem rotated_self (r a : Nat) (s : State) : (adc a (rotated r a s)).rot = r := by
  rw [rotated, adc_of_adcs (touches_spareUpdate.kept (·.adcs) .adcs), adc_setAdc]

theorem rotated_other (r : Nat) (h : a ≠ k) (s : State) : adc a (rotated r k s) = adc a s := by
  rw [rotated, adc_of_adcs (touches_spareUpdate.kept (·.adcs) .adcs), adc_setAdc_ne _ h]

theorem cycleFigures_rot (a k old r : Nat) (s : State) : (adc a (cycleFigures k old r s)).rot = (adc a s).rot := by
  have hset (q : State) (b : Bool) : (adc a (setAdc k { adc k q with whole := b } q)).rot = (adc a q).rot := by
    by_cases h : a = k
    · rw [h, adc_setAdc]
    · rw [adc_setAdc_ne _ h]
  unfold cycleFigures
  split
  · exact hset _ _
  · split
    · rw [hset]
      split
      · rw [adc_of_adcs (touches_adcFigures.kept (·.adcs) .adcs)]
      · rfl
    · rfl

theorem leaves_cycleFigures (h : o ≠ oAdcQf k) (old r : Nat) (s : State) : Leaves o s (cycleFigures k old r s) := by
  unfold cycleFigures
  exact .ite touches_setAdc.leaves (.ite ((Leaves.ite (leaves_adcFigures h _ _) (.refl _ _)).trans touches_setAdc.leaves) (.refl _ _))

theorem leaves_rotFold (u old r : Nat) (l : List Nat) (s : State) :
    Leaves (oAdcRotLog u) s (foldS (fun f => cycleFigures (8 * u + f) old r) l s) :=
  .foldS (fun _ _ => leaves_cycleFigures (by unfold oAdcRotLog oAdcQf tileStep; omega) _ _ _) l s

theorem rotTick_eq (u : Nat) (s : State) : rotTick u s =
    match (adc (8 * u) s).rotFrom with
    | some y => later (s.time.tick - BitVec.ofNat 40 ((s.time.epoch.toNat * 2 ^ 40 + s.time.tick.toNat) % 2 ^ fR (oAdcRotCtl u) 4 0 s)) y
    | none => s.time.tick - BitVec.ofNat 40 ((s.time.epoch.toNat * 2 ^ 40 + s.time.tick.toNat) % 2 ^ fR (oAdcRotCtl u) 4 0 s) := by
  rw [rotTick]
  cases (adc (8 * u) s).rotFrom <;> rfl

theorem rotationRow_steps {u : Nat} (hu : u < nTiles s) (hpower : tilePowered u s = true) (hcount : s.time.counting = true)
    (hen : bR (oAdcRotCtl u) 5 s = true) (hcal : (adc (8 * u) s).cal = none) (hr : rotIndex u s ≠ (adc (8 * u) s).rot) :
    rotationRow u [] s = foldS (fun f => cycleFigures (8 * u + f) (adc (8 * u) s).rot (rotIndex u s)) (upTo 8)
      (fireProd (640 * u + 632) (rotTick u s) 0 (setR (oAdcRotLog u) (rotTick u s)
        (foldS (fun f => rotated (rotIndex u s) (8 * u + f)) (upTo 8) s))) := by
  rw [rotationRow, if_pos (by simp [hu, hpower, hcount, hen, hcal, hr])]
  rfl

theorem touches_rotated {r : Nat} : Touches [.adcs, .regs] s (rotated r a s) := touches_spareUpdate.after touches_setAdc

theorem adcRotationStep_completes (u : Nat) (s : State) (hu : u < nTiles s) (hpower : tilePowered u s = true)
    (hcount : s.time.counting = true) (hen : bR (oAdcRotCtl u) 5 s = true) (hcal : (adc (8 * u) s).cal = none)
    (hr : rotIndex u s ≠ (adc (8 * u) s).rot) :
    Completes (.adcRotationStep u []) s (fun t =>
      t = { s with regs := t.regs, adcs := t.adcs, fabric := t.fabric, free := t.free } ∧
      (∀ f, f < 8 → (adc (8 * u + f) t).rot = rotIndex u s) ∧ getR (oAdcRotLog u) t = rotTick u s) := by
  have hfig : Touches [.adcs, .regs, .free] _ _ := Touches.foldS (s := fireProd (640 * u + 632) (rotTick u s) 0
    (setR (oAdcRotLog u) (rotTick u s) (foldS (fun f => rotated (rotIndex u s) (8 * u + f)) (upTo 8) s)))
    (l := upTo 8) fun (f : Nat) _ => touches_cycleFigures (a := 8 * u + f) (old := (adc (8 * u) s).rot) (r := rotIndex u s)
  have htouches := ((hfig.after touches_fireProd).after touches_setR).after
    (Touches.foldS (s := s) (l := upTo 8) fun f _ => touches_rotated (r := rotIndex u s) (a := 8 * u + f))
  refine .of_touches (rotationRow_steps hu hpower hcount hen hcal hr) (htouches.mono (L := [.adcs, .regs, .free, .fabric]))
    (fun _ h r => ⟨h.frame, r⟩) ⟨fun f hf => ?_, ?_⟩
  · have hkeep (l : List Nat) (q : State) :
        (adc (8 * u + f) (foldS (fun f => cycleFigures (8 * u + f) (adc (8 * u) s).rot (rotIndex u s)) l q)).rot = (adc (8 * u + f) q).rot :=
      foldS_rel (R := fun s t => (adc (8 * u + f) t).rot = (adc (8 * u + f) s).rot) (fun _ => rfl) (fun h k => k.trans h)
        (fun _ _ => cycleFigures_rot _ _ _ _ _) l q
    rw [hkeep, adc_of_adcs (touches_fireProd.kept (·.adcs) .adcs), adc_setR]
    exact foldS_at (I := fun _ => True) (π := fun s => (adc (8 * u + f) s).rot) (φ := fun _ => rotIndex u s) (mem_upTo hf) (upTo_nodup 8)
      (fun _ _ _ _ => trivial) (fun s _ => rotated_self _ _ s) (fun j _ s hj => congrArg Adc.rot (rotated_other _ (adc_index_ne hj) s)) trivial
  · rw [(leaves_rotFold u _ _ _ _).getR, touches_fireProd.leaves.getR, getR_setR]

/-! ### The registers of an ADC -/

/-- ADC `a` powers up, and settles for 100 us (R172). -/
def poweringUp (a : Nat) (s : State) : State :=
  putB (oAdcStatus a) 0 (tilePowered (a / 8) s)
    (putB (oAdcStatus a) 2 true (setAdc a { adc a s with settle := some (plus (now s) 100000) } s))

theorem adcCtlSet_powers (hon : bit v 0 = true) (hwas : bR (oAdcCtl a) 0 s = false) :
    adcCtlSet a v s = poweringUp a (spareUpdate a (setR (oAdcCtl a) (w (v.toNat &&& 0xFD)) s)) := by
  rw [adcCtlSet]
  simp only [hon, hwas, Bool.not_false, Bool.and_self, if_true, poweringUp]

theorem touches_poweringUp : Touches [.regs, .adcs] s (poweringUp a s) :=
  (touches_putB.after (touches_putB.after touches_setAdc)).mono

theorem poweringUp_settle (a : Nat) (s : State) : (adc a (poweringUp a s)).settle = some (plus (now s) 100000) := by
  rw [poweringUp, adc_of_adcs (touches_putB.kept (·.adcs) .adcs), adc_of_adcs (touches_putB.kept (·.adcs) .adcs), adc_setAdc]

theorem bR_poweringUp (a : Nat) (s : State) : bR (oAdcStatus a) 2 (poweringUp a s) = true := by
  rw [poweringUp, bR_putB_apart _ (by decide) (by decide), bR_putB_self _ (by decide)]

theorem w_and_fd (v : W40) : w (v.toNat &&& 0xFD) = v &&& 0xFD := by
  apply BitVec.eq_of_toNat_eq
  rw [w, BitVec.toNat_ofNat, BitVec.toNat_and]
  exact Nat.mod_eq_of_lt (lt_of_le_of_lt Nat.and_le_right (by decide))

theorem hostWrite_oAdcCtl {u f : Nat} (h : Reaches .adcCtl [u, f] m (oAdcCtl (8 * u + f)) v s) :
    hostWrite m (oAdcCtl (8 * u + f)) v s = adcCtlSet (8 * u + f) v s := by
  obtain ⟨row, -, hk, hw⟩ := hostWrite_reaches h
  rw [hw]
  simp [regEffect, effectA, effectB, hk, unit8, nth]

theorem adcCtlWrite_completes (m u f : Nat) (v : W40) (s : State) (h : Reaches .adcCtl [u, f] m (oAdcCtl (8 * u + f)) v s)
    (hon : bit v 0 = true) (hwas : bR (oAdcCtl (8 * u + f)) 0 s = false) :
    Completes (.adcCtlWrite m u f v) s (fun t =>
      t = { s with regs := t.regs, adcs := t.adcs } ∧
      (adc (8 * u + f) t).settle = some (plus s.time.tick 100000) ∧
      bR (oAdcStatus (8 * u + f)) 2 t = true ∧ getR (oAdcCtl (8 * u + f)) t = v &&& 0xFD) := by
  have hne : oAdcCtl (8 * u + f) ≠ oAdcStatus (8 * u + f) := (oAdcStatus_ne_oAdcCtl _ _).symm
  have hstored : Touches [.regs] s (spareUpdate (8 * u + f) (setR (oAdcCtl (8 * u + f)) (w (v.toNat &&& 0xFD)) s)) :=
    (touches_spareUpdate.after touches_setR).mono
  refine .of_touches ((hostWrite_oAdcCtl h).trans (adcCtlSet_powers hon hwas)) ((touches_poweringUp.after hstored).mono (L := [.regs, .adcs]))
    (fun _ h r => ⟨h.frame, r⟩) ⟨?_, bR_poweringUp _ _, ?_⟩
  · rw [poweringUp_settle, now, hstored.kept (·.time.tick) .clock]
  · have hleaves (q : State) : Leaves (oAdcCtl (8 * u + f)) q (poweringUp (8 * u + f) q) :=
      (touches_setAdc.leaves.trans (leaves_putB hne _ _ _)).trans (leaves_putB hne _ _ _)
    rw [(hleaves _).getR, (leaves_spareUpdate hne _).getR, getR_setR, w_and_fd]

theorem adcSettled_completes (u f : Nat) (x : Tick) (s : State) (hu : u < nTiles s) (hf : f < 8)
    (hsettle : (adc (8 * u + f) s).settle = some x) (hdue : due x s = true) :
    Completes (.adcSettled u f) s (fun t => (adc (8 * u + f) t).settle = none ∧ bR (oAdcStatus (8 * u + f)) 2 t = false ∧
      t = { s with adcs := t.adcs, regs := t.regs }) := by
  have hrow : adcSettledRow u f s =
      putB (oAdcStatus (8 * u + f)) 2 false (setAdc (8 * u + f) { adc (8 * u + f) s with settle := none } s) := by
    rw [adcSettledRow]
    dsimp only
    rw [if_pos (by simp [hu, hf, hsettle, dueO, hdue])]
  refine .of_touches hrow (touches_putB.after touches_setAdc)
    (R := fun t => (adc (8 * u + f) t).settle = none ∧ bR (oAdcStatus (8 * u + f)) 2 t = false)
    (fun _ h r => ⟨r.1, r.2, h.frame⟩) ⟨?_, bR_putB_self _ (by decide)⟩
  rw [adc_of_adcs (touches_putB.kept (·.adcs) .adcs), adc_setAdc]

theorem hostWrite_oAdcRotCtl {u : Nat} (h : Reaches .adcRotCtl [u] m (oAdcRotCtl u) v s) :
    ∃ row ∈ regRows, row.k = .adcRotCtl ∧ hostWrite m (oAdcRotCtl u) v s = rotCtlSet u row (oAdcRotCtl u) v s := by
  obtain ⟨row, hrow, hk, hw⟩ := hostWrite_reaches h
  refine ⟨row, mem_regRows_of_findReg hrow, hk, ?_⟩
  rw [hw]
  simp [regEffect, effectA, hk, nth]

theorem regRows_adcRotCtl_rw : ∀ row ∈ regRows, row.k = .adcRotCtl → row.rw = 0x3f := by decide +kernel

theorem rotCtl_writable {j : Nat} (hj : j ≤ 5) : (0x3f).testBit j = true := by
  interval_cases j <;> rfl

/-- Tile `u` rotates with new settings from now on. -/
def rotatesAnew (a : Nat) (s : State) : State := setAdc a { adc a s with rotFrom := some (now s), whole := false } s

theorem touches_rotCtlFold {u : Nat} : Touches [.adcs] s (foldS (fun f => rotatesAnew (8 * u + f)) (upTo 8) s) :=
  Touches.foldS fun _ _ => touches_setAdc

theorem adcRotCtlWrite_completes (m u : Nat) (v : W40) (s : State) (h : Reaches .adcRotCtl [u] m (oAdcRotCtl u) v s) :
    Completes (.adcRotCtlWrite m u v) s (fun t => t = { s with regs := t.regs, adcs := t.adcs } ∧
      (∀ o, o ≠ oAdcRotCtl u → getR o t = getR o s) ∧ fR (oAdcRotCtl u) 5 0 t = fld v 5 0 ∧
      ∀ f, f < 8 → adc (8 * u + f) t = { adc (8 * u + f) s with rotFrom := some s.time.tick, whole := false }) := by
  obtain ⟨row, hrow, hk, hw⟩ := hostWrite_oAdcRotCtl h
  have hrw := regRows_adcRotCtl_rw row hrow hk
  have hset : rotCtlSet u row (oAdcRotCtl u) v s = foldS (fun f => rotatesAnew (8 * u + f)) (upTo 8) (storeReg row (oAdcRotCtl u) v s) := by
    rw [rotCtlSet]
    rfl
  have hstore := touches_storeReg (row := row) (off := oAdcRotCtl u) (v := v) (s := s)
  refine .of_touches (hw.trans hset) ((touches_rotCtlFold.after hstore).mono (L := [.regs, .adcs]))
    (fun _ h r => ⟨h.frame, r⟩) ⟨fun o ho => ?_, ?_, fun f hf => ?_⟩
  · exact touches_rotCtlFold.leaves.getR.trans ((storeReg_only row _ v s).2 o (by simpa using ho))
  · rw [touches_rotCtlFold.leaves.fR]
    exact fR_storeReg (by rw [hrw]; norm_num) (fun j _ hj => by rw [hrw]; exact rotCtl_writable hj) _ v s
  · have hnow : now (storeReg row (oAdcRotCtl u) v s) = s.time.tick := hstore.kept (·.time.tick) .clock
    refine (foldS_at (I := fun q => now q = s.time.tick) (π := fun q => adc (8 * u + f) q)
      (φ := fun b => { b with rotFrom := some s.time.tick, whole := false }) (mem_upTo hf) (upTo_nodup 8)
      (fun j _ q hq => (touches_setAdc.kept (·.time.tick) .clock).trans hq) (fun q hq => ?_) (fun j _ q hj => adc_setAdc_ne q (adc_index_ne hj) _) hnow).trans ?_
    · exact (adc_setAdc q _ _).trans (by rw [hq])
    · rw [adc_of_adcs (hstore.kept (·.adcs) .adcs)]

/-! ### Over-range -/

theorem adcOver_any (uv : List Int) : uv.any adcOver = decide (∃ x ∈ uv, 530000 < x.natAbs) := by
  rw [Bool.eq_iff_iff]
  simp [adcOver]

theorem adcSat_filter (uv : List Int) :
    uv.filter adcSat = uv.filter (fun x => decide (x.natAbs ≤ 530000) && (adcCode x == -2048 || adcCode x == 2047)) := by
  refine List.filter_congr fun x _ => ?_
  rw [adcSat, adcOver, ← decide_not]
  simp only [not_lt]

theorem fR_bumpBy_self {hi lo n : Nat} (h : fR off hi lo s + n < 2 ^ (hi + 1 - lo)) (hl : lo ≤ hi) (hh : hi < 40) :
    fR off hi lo (bumpBy off hi lo n s) = fR off hi lo s + n := by
  rw [bumpBy, min_eq_right (by omega)]
  exact fR_putF_self h hl hh

theorem adcOverrange_completes (u f : Nat) (uv : List Int) (s : State) (hu : u < nTiles s) (hf : f < 8)
    (hpower : bR (oAdcStatus (8 * u + f)) 0 s = true) (hlen : uv.length = 16) {n : Nat} (hn : (uv.filter adcSat).length = n)
    (hover : fR (oAdcCounts (8 * u + f)) 39 20 s < 2 ^ 20 - 1) (hsat : fR (oAdcCounts (8 * u + f)) 19 0 s + n < 2 ^ 20) :
    Completes (.adcOverrange u f uv) s (fun t =>
      t = { s with regs := t.regs, log := t.log } ∧
      fR (oAdcCounts (8 * u + f)) 39 20 t
        = fR (oAdcCounts (8 * u + f)) 39 20 s + (if ∃ x ∈ uv, 530000 < x.natAbs then 1 else 0) ∧
      fR (oAdcCounts (8 * u + f)) 19 0 t = fR (oAdcCounts (8 * u + f)) 19 0 s + n) := by
  have hrow : overrangeRow u f uv s = if uv.any adcOver then
      recordIf (fR (oAdcCounts (8 * u + f)) 39 20 s == 0) (0x4000 + (8 * u + f)) 0x500 0 0
        (bump (oAdcCounts (8 * u + f)) 39 20 (bumpBy (oAdcCounts (8 * u + f)) 19 0 n s))
      else bumpBy (oAdcCounts (8 * u + f)) 19 0 n s := by
    rw [overrangeRow]
    dsimp only
    rw [if_pos (by simp [hu, hf, hpower]), List.take_of_length_le hlen.le, hn]
  generalize hq : bumpBy (oAdcCounts (8 * u + f)) 19 0 n s = q at hrow
  have hlow : fR (oAdcCounts (8 * u + f)) 19 0 q = fR (oAdcCounts (8 * u + f)) 19 0 s + n :=
    hq ▸ fR_bumpBy_self hsat (by decide) (by decide)
  have hhigh : fR (oAdcCounts (8 * u + f)) 39 20 q = fR (oAdcCounts (8 * u + f)) 39 20 s :=
    hq ▸ fR_putF_apart _ (by decide) (by decide) (.inr (by decide))
  refine .of_touches rfl touches_overrangeRow (fun _ h r => ⟨h.frame, r⟩) ?_
  rw [hrow, adcOver_any]
  by_cases hany : ∃ x ∈ uv, 530000 < x.natAbs
  · rw [if_pos hany, if_pos (by simpa using hany), touches_recordIf.leaves.fR, touches_recordIf.leaves.fR,
      fR_bump_self (hhigh ▸ hover) (by decide) (by decide), fR_bump_apart (by decide) (by decide) (.inl (by decide)), hhigh, hlow]
    exact ⟨rfl, rfl⟩
  · rw [if_neg hany, if_neg (by simpa using hany), hhigh, hlow]
    exact ⟨rfl, rfl⟩

/-- R166-R172: what calibration, rotation, power and over-range do to the ADCs.
Settles O18: it holds. -/
theorem adcCommands : Obligations.AdcCommands := by
  refine ⟨adcSelfCalDone_completes, fun u s hu hpower hcount hen hcal => ?_, fun m u f v s _ h hon hwas => ?_, adcSettled_completes,
    fun m u v s h _ => adcRotCtlWrite_completes m u v s h, fun u f uv s hu hf hpower hlen => ?_⟩
  · intro p full r x hr
    have hdone := adcRotationStep_completes u s hu hpower hcount hen hcal hr
    rw [rotTick_eq] at hdone
    exact hdone
  · exact adcCtlWrite_completes m u f v s h hon hwas
  · intro n hover hsat
    exact adcOverrange_completes u f uv s hu hf hpower hlen (by rw [adcSat_filter]) hover hsat

end Sys2Proof.Machine
end

section
/-! PROOF. The verdict bus and the Binder (O19). -/

set_option Elab.async false

namespace Sys2Proof.Machine

variable {s t u : State} {g m o k j : Nat} {v : W40} {x : Tick} {K : List Fld}

/-! ### The verdict bus -/

theorem notBefore_refl (x : Tick) : notBefore x x = true := by
  simp [notBefore]

/-- The head of those on their way reaches the bus where none that has not is earlier. -/
theorem busArrivalRow_head {p : Posted} {r : List Posted} (hbus : s.bus = p :: r) (hdue : due p.at_ s = true) (hfresh : p.taken = false)
    (hlater : ∀ q ∈ r, q.taken = true ∨ notBefore q.at_ p.at_ = true) :
    busArrivalRow 0 s = busArrival p.at_ p.word p.ref (busTake 0 p s) := by
  have hall : s.bus.all (fun q => q.taken || notBefore q.at_ p.at_) = true := by
    rw [hbus, List.all_cons, notBefore_refl, Bool.or_true, Bool.true_and, List.all_eq_true]
    exact fun q hq => by simpa using hlater q hq
  have hfirst : s.bus[0]? = some p := by rw [hbus]; rfl
  simp only [busArrivalRow, hfirst]
  rw [if_pos (by simp only [hfresh, hdue, hall]; rfl)]

theorem busTake_head {p : Posted} {r : List Posted} (hbus : s.bus = p :: r) :
    (busTake 0 p s).bus = if p.remote || p.sent then r else { p with taken := true } :: r := by
  simp only [busTake, hbus]
  split <;> rfl

/-- What an arrival does: the entry of its index, its way to the sequencers, and its way to the Binder (R209, R210). -/
theorem busArrival_eq (x : Tick) (word : W40) (ref : Tick) (s : State) :
    busArrival x word ref s = bndTake (.verdict x word ref) (defer (plus x 2) (.verdictToSeqs (vIndex word) word ref)
      (setVent (vIndex word) { vent (vIndex word) s with word := word, ref := ref } s)) := rfl

theorem binder_bndTake (b : BndIn) (s : State) :
    (bndTake b s).binder = if s.life = .safe ∨ s.life = .ready then { s.binder with inbox := s.binder.inbox ++ [b] } else s.binder := by
  have hruns : binderRuns s = decide (s.life = .safe ∨ s.life = .ready) := by
    rw [binderRuns, Bool.decide_or]
    rfl
  rw [bndTake, hruns]
  by_cases h : s.life = .safe ∨ s.life = .ready
  · rw [if_pos h, if_pos (by simpa using h)]
  · rw [if_neg h, if_neg (by simpa using h)]

theorem vent_of_vb (h : t.vb = s.vb) (i : Nat) : vent i t = vent i s := by rw [vent, vent, h]

theorem verdictBusArrival_completes (p : Posted) (r : List Posted) (s : State) (hbus : s.bus = p :: r) (hdue : due p.at_ s = true)
    (hfresh : p.taken = false) (hopen : gated s = false) (hlater : ∀ q ∈ r, q.taken = true ∨ notBefore q.at_ p.at_ = true) :
    Completes (.verdictBusArrival 0) s (fun t =>
      t = { s with bus := t.bus, vb := t.vb, binder := t.binder, agenda := t.agenda } ∧
      t.bus = (if p.remote || p.sent then r else { p with taken := true } :: r) ∧
      (vent (fld p.word 39 26) t).word = p.word ∧ (vent (fld p.word 39 26) t).ref = p.ref ∧
      (∀ i, i ≠ fld p.word 39 26 → vent i t = vent i s) ∧
      t.agenda = s.agenda ++ [(plus p.at_ 2, .verdictToSeqs (fld p.word 39 26) p.word p.ref)] ∧
      t.binder = if s.life = .safe ∨ s.life = .ready then
          { s.binder with inbox := s.binder.inbox ++ [.verdict p.at_ p.word p.ref] }
        else s.binder) := by
  have hrow : clocked (busArrivalRow 0) s = busArrival p.at_ p.word p.ref (busTake 0 p s) := by
    rw [clocked, hopen]
    exact busArrivalRow_head hbus hdue hfresh hlater
  have htake : Touches [.bus] s (busTake 0 p s) := Touches.bus
  have hvent (b : BndIn) (q : State) (d : Tick × Deferred) (i : Nat) : vent i (bndTake b (defer d.1 d.2 q)) = vent i q := by
    rw [vent_of_vb (touches_bndTake.kept (·.vb) .vb), vent_of_vb (touches_defer.kept (·.vb) .vb)]
  refine .of_touches hrow ((touches_busArrival.after htake).mono (L := [.bus, .vb, .binder, .agenda])) (fun _ h r => ⟨h.frame, r⟩) ?_
  rw [busArrival_eq]
  refine ⟨?_, ?_, ?_, fun i hi => ?_, ?_, ?_⟩
  · rw [touches_bndTake.kept (·.bus) .bus, touches_defer.kept (·.bus) .bus, touches_setVent.kept (·.bus) .bus, busTake_head hbus]
  · rw [hvent _ _ (_, _), ← vIndex, vent_setVent]
  · rw [hvent _ _ (_, _), ← vIndex, vent_setVent]
  · rw [hvent _ _ (_, _), vent_setVent_ne _ (show i ≠ vIndex p.word from hi)]
    exact vent_of_vb (htake.kept (·.vb) .vb) i
  · rw [touches_bndTake.kept (·.agenda) .agenda, defer, touches_setVent.kept (·.agenda) .agenda]
    rfl
  · rw [binder_bndTake, touches_defer.kept (·.life) .life, touches_setVent.kept (·.life) .life, htake.kept (·.life) .life,
      touches_defer.kept (·.binder) .binder, touches_setVent.kept (·.binder) .binder, htake.kept (·.binder) .binder]

/-! ### What the opening of other sets leaves -/

/-- The registers of set `j`. -/
def setRegs (j : Nat) : List Nat := oBndSetCfg j :: (upTo 64).map (oBndMember j)

theorem mem_setRegs : o ∈ setRegs j ↔ o = oBndSetCfg j ∨ ∃ i, i < 64 ∧ oBndMember j i = o := by
  simp [setRegs, upTo]

/-- The step leaves set `j` and its configuration, the lifecycle and the tick. -/
structure Aside (j : Nat) (s t : State) : Prop where
  pset : pset j t = pset j s
  cfg : ∀ o ∈ setRegs j, getF o t = getF o s
  life : t.life = s.life
  tick : t.time.tick = s.time.tick

theorem Aside.refl (j : Nat) (s : State) : Aside j s s := ⟨rfl, fun _ _ => rfl, rfl, rfl⟩

theorem Aside.trans (h : Aside j s t) (k : Aside j t u) : Aside j s u :=
  ⟨k.pset.trans h.pset, fun o ho => (k.cfg o ho).trans (h.cfg o ho), k.life.trans h.life, k.tick.trans h.tick⟩

theorem Aside.ite {c : Prop} [Decidable c] (h : Aside j s t) (k : Aside j s u) : Aside j s (if c then t else u) := by
  split
  · exact h
  · exact k

theorem Aside.foldS {α : Type} {f : α → State → State} (hf : ∀ a s, Aside j s (f a s)) (l : List α) (s : State) :
    Aside j s (foldS f l s) := foldS_rel (Aside.refl j) Aside.trans hf l s

theorem Aside.foldS_mem {α : Type} {f : α → State → State} {l : List α} (hf : ∀ a ∈ l, ∀ s, Aside j s (f a s)) (s : State) :
    Aside j s (Machine.foldS f l s) := by
  induction l generalizing s with
  | nil => exact .refl j s
  | cons a l ih => exact (hf a List.mem_cons_self s).trans (ih (fun b hb => hf b (List.mem_cons_of_mem a hb)) _)

theorem pset_of_sets (h : t.binder.sets = s.binder.sets) (j : Nat) : pset j t = pset j s := by rw [pset, pset, h]

theorem getF_of_force (h : t.force = s.force) (o : Nat) : getF o t = getF o s := by rw [getF, getF, h]

/-- What leaves the Binder and the registers in force. -/
theorem Touches.aside (h : Touches K s t) (hb : Fld.binder ∉ K := by decide) (hf : Fld.force ∉ K := by decide)
    (hl : Fld.life ∉ K := by decide) (hc : Fld.clock ∉ K := by decide) : Aside j s t :=
  ⟨pset_of_sets (congrArg (·.sets) (h.kept (·.binder) .binder hb)) j, fun o _ => getF_of_force (h.kept (·.force) .force hf) o,
    h.kept (·.life) .life hl, h.kept (·.time.tick) .clock hc⟩

/-- What changes the Binder but its sets, and no register in force. -/
theorem Touches.aside_sets (h : Touches K s t) (hs : t.binder.sets = s.binder.sets) (hf : Fld.force ∉ K := by decide)
    (hl : Fld.life ∉ K := by decide) (hc : Fld.clock ∉ K := by decide) : Aside j s t :=
  ⟨pset_of_sets hs j, fun o _ => getF_of_force (h.kept (·.force) .force hf) o, h.kept (·.life) .life hl, h.kept (·.time.tick) .clock hc⟩

theorem aside_setDecoder (e : Nat) (d : Decoder) (s : State) : Aside j s (setDecoder e d s) := touches_setDecoder.aside_sets rfl

theorem aside_setPset (h : j ≠ k) (q : PSet) (s : State) : Aside j s (setPset k q s) :=
  ⟨pset_setPset_ne s h q, fun _ _ => rfl, rfl, rfl⟩

theorem aside_commitRegs {offs : List Nat} (h : ∀ o ∈ setRegs j, o ∉ offs) (s : State) : Aside j s (commitRegs offs s) :=
  ⟨pset_of_sets (congrArg (·.sets) (touches_commitRegs.kept (·.binder) .binder)) j, fun o ho => by rw [getF_commitRegs, if_neg (h o ho)],
    touches_commitRegs.kept (·.life) .life, touches_commitRegs.kept (·.time.tick) .clock⟩

theorem aside_decDecide (x : Tick) (e : Nat) (s : State) : Aside j s (decDecide x e s) := by
  have hset : Aside j s (defer (plus x 2) (.decToSeqs e) (setDecoder e { decoder e s with at_ := x, ready := false } s)) :=
    (aside_setDecoder e _ s).trans touches_defer.aside
  unfold decDecide
  exact .ite (hset.trans touches_resPut.aside) hset

theorem aside_decCheck (x : Tick) (e : Nat) (s : State) : Aside j s (decCheck x e s) := by
  unfold decCheck
  exact .ite (aside_decDecide x e s) (.refl j s)

theorem aside_decFollow (x : Tick) (was : Bool) (e : Nat) (s : State) : Aside j s (decFollow x was e s) := by
  unfold decFollow
  exact .ite (aside_setDecoder _ _ _) (.ite (.refl j s) (aside_decDecide x e s))

theorem setRegs_notMem_decoder {e : Nat} (hj : j < 256) (he : e < 8) (o : Nat) (ho : o ∈ setRegs j) :
    o ∉ (upTo 4).map (oBndDecSel e) ++ [oBndDecCfg e] := by
  simp only [List.mem_append, List.mem_map, List.mem_singleton, oBndDecSel, oBndDecCfg]
  rcases mem_setRegs.1 ho with rfl | ⟨i, hi, rfl⟩
  · rw [oBndSetCfg]
    rintro (⟨n, -, hn⟩ | h) <;> omega
  · rw [oBndMember]
    rintro (⟨n, hn4, hn⟩ | h)
    · have := List.mem_range.1 hn4
      omega
    · omega

theorem setRegs_notMem_set (h : j ≠ k) (hj : j < 256) (hk : k < 256) (o : Nat) (ho : o ∈ setRegs j) : o ∉ setRegs k := by
  rw [mem_setRegs] at *
  simp only [oBndSetCfg, oBndMember] at *
  rintro (hk' | ⟨n, hn, hn'⟩) <;> rcases ho with ho | ⟨i, hi, ho⟩ <;> omega

theorem aside_decAdopt {e : Nat} (hj : j < 256) (he : e < 8) (x : Tick) (s : State) : Aside j s (decAdopt x e s) := by
  unfold decAdopt
  exact .ite (aside_setDecoder _ _ _)
    (((aside_commitRegs (setRegs_notMem_decoder hj he) s).trans (aside_setDecoder _ _ _)).trans (aside_decCheck _ _ _))

theorem aside_decAdoptReady (hj : j < 256) (x : Tick) (was : List Nat) (s : State) : Aside j s (decAdoptReady x was s) := by
  unfold decAdoptReady
  refine .foldS_mem (fun e he s => ?_) s
  dsimp only
  have hadopt : ∀ c : Bool, Aside j s (if c then decAdopt x e s else s) := fun c =>
    .ite (aside_decAdopt hj (List.mem_range.1 he) x s) (.refl j s)
  exact .ite (hadopt _) ((hadopt _).trans (aside_decFollow _ _ _ _))

theorem aside_bndSettle (s : State) : Aside j s (bndSettle s) := by
  unfold bndSettle
  exact .ite (.refl j s) ((touches_putB.after Touches.binder).aside_sets (congrArg (·.sets) (touches_putB.kept (·.binder) .binder)))

theorem aside_decsBreak (k : Nat) (s : State) : Aside j s (decsBreak k s) := by
  unfold decsBreak
  exact .foldS (fun _ _ => aside_setDecoder _ _ _) _ s

theorem aside_setAdopt (hj : j < 256) (hk : k < 256) (h : j ≠ k) (s : State) : Aside j s (setAdopt k s) := by
  have hcommit := aside_commitRegs (setRegs_notMem_set h hj hk) s
  unfold setAdopt
  exact .ite ((hcommit.trans touches_cancelSet.aside).trans (aside_setPset h _ _)) (hcommit.trans (aside_setPset h _ _))

theorem aside_roundOpen (hj : j < 256) (hk : k < 256) (h : j ≠ k) (o : Tick) (s : State) : Aside j s (roundOpen o k s) := by
  have hcancel : Aside j s (cancelSet k (abandonRound k s)) := touches_abandonRound.aside.trans touches_cancelSet.aside
  unfold roundOpen
  dsimp only
  have hadopt : ∀ c : Bool, Aside j s (if c then setAdopt k (cancelSet k (abandonRound k s)) else cancelSet k (abandonRound k s)) :=
    fun c => .ite (hcancel.trans (aside_setAdopt hj hk h _)) hcancel
  have hopen {q r : PSet} {c : Prop} [Decidable c] (t : State) : Aside j t (if c then setPset k q t else decsBreak k (setPset k r t)) :=
    .ite (aside_setPset h _ _) ((aside_setPset h _ _).trans (aside_decsBreak _ _))
  exact .ite ((((hadopt _).trans (hopen _)).trans (aside_decAdoptReady hj _ _ _)).trans (aside_bndSettle _)) ((hadopt _).trans (hopen _))

theorem aside_armSet (hj : j < 256) (hk : k < 256) (h : j ≠ k) (s : State) : Aside j s (armSet k s) := by
  unfold armSet
  exact .ite ((aside_roundOpen hj hk h _ s).trans touches_brTryAll.aside) (.refl j s)

/-! ### Openings by BND_ARM -/

/-- A set whose round opens at tick `o`. -/
def openedSet (o : Tick) (q : PSet) : PSet := { q with hb := o, got := [], p := false, a := false, st := .opn, shown := false, seqP := none }

/-- A set with members that does not wait for a commit opens its round and leaves what is in force (R216). -/
theorem roundOpen_opens (o : Tick) (hmem : nMem j s ≠ 0) (hpend : (pset j s).pend = false) :
    roundOpen o j s = decsBreak j (setPset j (openedSet o (pset j s)) (cancelSet j (abandonRound j s))) := by
  have hq := touches_cancelSet (j := j).after (touches_abandonRound (j := j) (s := s))
  have hset : pset j (cancelSet j (abandonRound j s)) = pset j s := pset_of_sets (congrArg (·.sets) (hq.kept (·.binder) .binder)) j
  have hn : nMem j (cancelSet j (abandonRound j s)) ≠ 0 := by
    rw [nMem, fF, getF_of_force (hq.kept (·.force) .force)]
    exact hmem
  simp only [roundOpen, hset, hpend, Bool.false_eq_true, if_false, if_neg hn, openedSet]

/-- BND_ARM on set `j`, with PACE_SRC 1, members, and no commit that waits (R215). -/
theorem armSet_opens (hruns : binderRuns s = true) (hsrc : fF (oBndSetCfg j) 19 18 s = 1) :
    armSet j s = brTryAll (now s) (roundOpen (now s) j s) := by
  rw [armSet, if_pos (by simp [hruns, paceSrc, hsrc])]

theorem pset_armSet (hruns : binderRuns s = true) (hsrc : fF (oBndSetCfg j) 19 18 s = 1) (hmem : nMem j s ≠ 0)
    (hpend : (pset j s).pend = false) : pset j (armSet j s) = openedSet (now s) (pset j s) := by
  rw [armSet_opens hruns hsrc, (touches_brTryAll.aside (j := j)).pset, roundOpen_opens _ hmem hpend, (aside_decsBreak j _).pset,
    pset_setPset]

/-- What stands while BND_ARM opens set after set: set `j` may open. -/
structure MayOpen (j : Nat) (x : Tick) (s : State) : Prop where
  runs : binderRuns s = true
  tick : s.time.tick = x
  src : fF (oBndSetCfg j) 19 18 s = 1
  mem : nMem j s ≠ 0
  pend : (pset j s).pend = false

theorem Aside.mayOpen (h : Aside j s t) (hs : MayOpen j x s) : MayOpen j x t := by
  obtain ⟨hruns, htick, hsrc, hmem, hpend⟩ := hs
  refine ⟨?_, h.tick.trans htick, ?_, ?_, ?_⟩
  · rwa [binderRuns, h.life]
  · rwa [fF, h.cfg _ (mem_setRegs.2 (.inl rfl))]
  · rwa [nMem, fF, h.cfg _ (mem_setRegs.2 (.inl rfl))]
  · rwa [h.pset]

theorem armSet_mayOpen (hj : j < 256) (hk : k < 256) (h : MayOpen j x s) : MayOpen j x (armSet k s) := by
  by_cases hjk : j = k
  · subst hjk
    obtain ⟨hruns, htick, hsrc, hmem, hpend⟩ := h
    have hset := pset_armSet hruns hsrc hmem hpend
    have hrow : Touches [.regs, .agenda, .binder, .seqs] s (armSet j s) := by
      rw [armSet_opens hruns hsrc, roundOpen_opens _ hmem hpend]
      exact (touches_brTryAll.after (touches_decsBreak.after (touches_setPset.after (touches_cancelSet.after touches_abandonRound)))).mono
    have hforce := hrow.kept (·.force) .force
    refine ⟨?_, (hrow.kept (·.time.tick) .clock).trans htick, ?_, ?_, ?_⟩
    · rwa [binderRuns, hrow.kept (·.life) .life]
    · rwa [fF, getF_of_force hforce]
    · rwa [nMem, fF, getF_of_force hforce]
    · rw [hset]
      exact hpend
  · exact (aside_armSet hj hk hjk s).mayOpen h

/-- An open round of set `j` with its start at tick `x` and no verdict yet. -/
def Opened (j : Nat) (x : Tick) (s : State) : Prop := (pset j s).st = .opn ∧ (pset j s).hb = x ∧ (pset j s).got = []

theorem hostWrite_oBndArm (h : Reaches .bndArm [] m oBndArm v s) : hostWrite m oBndArm v s = bndArm v s := by
  obtain ⟨row, -, hk, hw⟩ := hostWrite_reaches h
  rw [hw]
  simp [regEffect, effectA, hk]

theorem bndArm_set (hj : j < 256) (s : State) : bndArm (BitVec.ofNat 40 j) s = armSet j s := by
  have hval : (BitVec.ofNat 40 j).toNat = j := by rw [BitVec.toNat_ofNat]; omega
  have h8 : bit (BitVec.ofNat 40 j) 8 = false := by rw [bit, hval]; exact Nat.testBit_lt_two_pow hj
  have hfld : fld (BitVec.ofNat 40 j) 7 0 = j := by rw [fld, hval]; omega
  rw [bndArm, if_neg (by simp [h8]), hfld]

theorem bndArm_all (s : State) : bndArm 256 s = foldS armSet (upTo 256) s := rfl

theorem runs_of_life (h : s.life = .safe ∨ s.life = .ready) : binderRuns s = true := by
  rcases h with h | h <;> simp [binderRuns, h]

theorem hostWrite_oBndCommit (h : Reaches .bndCommit [] m oBndCommit 1 s) : hostWrite m oBndCommit 1 s = bndGo s := by
  obtain ⟨row, -, hk, hw⟩ := hostWrite_reaches h
  rw [hw]
  simp [regEffect, effectA, hk, bit]

/-- What a write to the Binder changes. -/
abbrev binderParts : List Fld := [.regs, .force, .log, .seqs, .halves, .binder, .gran, .mem, .rings, .hostMem, .made, .host, .agenda]

theorem Touches.binderFrame (h : Touches binderParts s t) : t = { s with
    regs := t.regs, force := t.force, log := t.log, seqs := t.seqs, halves := t.halves, binder := t.binder, gran := t.gran,
      host := t.host, agenda := t.agenda } := h.frame

theorem bndArmSet_completes (m j : Nat) (s : State) (hj : j < 256) (h : Reaches .bndArm [] m oBndArm (BitVec.ofNat 40 j) s)
    (hopen : MayOpen j s.time.tick s) : Completes (.bndArmSet m j) s (fun t =>
      t = { s with
        regs := t.regs, force := t.force, log := t.log, seqs := t.seqs, halves := t.halves, binder := t.binder, gran := t.gran,
          host := t.host, agenda := t.agenda } ∧
      (pset j t).st = .opn ∧ (pset j t).hb = s.time.tick ∧ (pset j t).got = [] ∧ ∀ k, k ≠ j → pset k t = pset k s) := by
  obtain ⟨hruns, -, hsrc, hmem, hpend⟩ := hopen
  have hset := pset_armSet hruns hsrc hmem hpend
  have hexec : exec (.bndArmSet m j) s = .next (hostWrite m oBndArm (BitVec.ofNat 40 j) s) := by
    conv_rhs => rw [← Nat.mod_eq_of_lt hj]
    rfl
  refine .of_touches ((hostWrite_oBndArm h).trans (bndArm_set hj s)) (touches_armSet.mono (L := binderParts))
    (fun _ h r => ⟨h.binderFrame, r⟩) ⟨?_, ?_, ?_, fun k hk => ?_⟩ hexec
  · rw [hset, openedSet]
  · rw [hset, openedSet, now]
  · rw [hset, openedSet]
  · rw [armSet_opens hruns hsrc, (touches_brTryAll.aside (j := k)).pset, roundOpen_opens _ hmem hpend, (aside_decsBreak j _).pset,
      pset_setPset_ne _ hk]
    exact (touches_abandonRound.aside.trans touches_cancelSet.aside : Aside k s _).pset

theorem armSet_all_opens {l : List Nat} (hj : j < 256) (hl : ∀ k ∈ l, k < 256) (hmem : j ∈ l) (hnodup : l.Nodup) (hopen : MayOpen j x s) :
    Opened j x (foldS armSet l s) := by
  have hset : (fun q => ((pset j q).st, (pset j q).hb, (pset j q).got)) (foldS armSet l s) = (SetSt.opn, x, []) :=
    foldS_at (I := MayOpen j x) (π := fun q => ((pset j q).st, (pset j q).hb, (pset j q).got)) (φ := fun _ => (SetSt.opn, x, [])) hmem hnodup
      (fun k hk q hq => armSet_mayOpen hj (hl k hk) hq) (fun q hq => ?_) (fun k hk q hkj => ?_) hopen
  · simpa [Opened] using hset
  · obtain ⟨hruns, htick, hsrc, hmem, hpend⟩ := hq
    simp only [pset_armSet hruns hsrc hmem hpend, openedSet, now, htick]
  · simp only [(aside_armSet hj (hl k hk) (Ne.symm hkj) q).pset]

theorem bndArmAll_completes (m : Nat) (s : State) (h : Reaches .bndArm [] m oBndArm 256 s) :
    Completes (.bndArmAll m) s (fun t =>
      t = { s with
        regs := t.regs, force := t.force, log := t.log, seqs := t.seqs, halves := t.halves, binder := t.binder, gran := t.gran,
          host := t.host, agenda := t.agenda } ∧
      ∀ j, j < 256 → MayOpen j s.time.tick s → Opened j s.time.tick t) := by
  have hall : hostWrite m oBndArm 256 s = foldS armSet (upTo 256) s := (hostWrite_oBndArm h).trans (bndArm_all s)
  have hbound (k : Nat) (hk : k ∈ upTo 256) : k < 256 := List.mem_range.1 hk
  have hin (k : Nat) (hk : k < 256) : k ∈ upTo 256 := mem_upTo hk
  have hnodup := upTo_nodup 256
  generalize upTo 256 = l at hall hbound hin hnodup
  exact .of_touches hall ((Touches.foldS fun _ _ => touches_armSet).mono (L := binderParts)) (fun _ h r => ⟨h.binderFrame, r⟩)
    fun j hj hopen => armSet_all_opens hj hbound (hin j hj) hnodup hopen

/-! ### Deadlines -/

theorem binderDeadline_completes (j : Nat) (s : State) (hj : j < 256) (hlife : s.life = .safe ∨ s.life = .ready)
    (hopen : (pset j s).st = .opn) (hen : bF (oBndSetCfg j) 23 s = true)
    (hdue : due (plus (pset j s).hb (fF (oBndSetCfg j) 39 24 s)) s = true) :
    Completes (.binderDeadline j) s (fun t => t = { s with
      binder := { s.binder with inbox := s.binder.inbox ++ [.deadline (plus (pset j s).hb (fF (oBndSetCfg j) 39 24 s)) j] } }) := by
  have hruns := runs_of_life hlife
  have hgate : gated s = false := by rcases hlife with h | h <;> simp [gated, h]
  refine .of_eq (t := bndTake (.deadline (plus (pset j s).hb (fF (oBndSetCfg j) 39 24 s)) j) s) ?_ ?_
  · rw [clocked, hgate, binderDeadlineRow]
    simp [hj, hruns, hopen, hen, hdue]
  · rw [bndTake, if_pos hruns]

/-- The Binder has taken what reached it. -/
def emptied (s : State) : State := { s with binder := { s.binder with inbox := [] } }

theorem pset_emptied (k : Nat) (s : State) : pset k (emptied s) = pset k s := pset_of_sets rfl k

theorem touches_emptied : Touches [.binder] s (emptied s) := Touches.binder

/-- Set `j` as its deadline decides it, with the inbox empty. -/
def deadlined (j : Nat) (x : Tick) (s : State) : State := setDecide x j (setPset j { pset j s with a := true } (emptied s))

theorem touches_deadlined : Touches [.binder, .agenda] s (deadlined j x s) :=
  (touches_setDecide.after (touches_setPset.after touches_emptied)).mono

theorem agenda_deadlined : (deadlined j x s).agenda = s.agenda ++ [(plus x 5, .present j)] := by
  rw [deadlined, setDecide, defer, touches_setPset.kept (·.agenda) .agenda, touches_setPset.kept (·.agenda) .agenda,
    touches_emptied.kept (·.agenda) .agenda]

/-- The deadline is all that has reached the Binder. -/
theorem foldS_bndIn_deadline (hlife : s.life = .safe ∨ s.life = .ready) (hinbox : s.binder.inbox = [.deadline x j])
    (hopen : (pset j s).st = .opn) :
    foldS bndIn (if binderRuns s then s.binder.inbox else []) (emptied s) = deadlined j x s := by
  rw [if_pos (runs_of_life hlife), hinbox, foldS, foldS, bndIn, setDeadline, pset_emptied, if_pos hopen, deadlined]

theorem no_presentation_due (hagenda : ∀ e ∈ s.agenda, presents e.2 = true → due e.1 s = false) (hlate : due (plus x 5) s = false) :
    (deadlined j x s).agenda.filter (fun e => presents e.2 && due e.1 (deadlined j x s)) = [] := by
  rw [agenda_deadlined, List.filter_eq_nil_iff]
  have hdue (y : Tick) : due y (deadlined j x s) = due y s := by rw [due, due, now, now, touches_deadlined.kept (·.time.tick) .clock]
  intro e he
  rw [hdue]
  rcases List.mem_append.1 he with he | he
  · by_cases hp : presents e.2 = true
    · simp [hp, hagenda e he hp]
    · simp [hp]
  · simp [List.mem_singleton.1 he, hlate]

/-- The presentations that are due act. -/
def presentDue (s : State) : State :=
  foldS (fun e s => match e.2 with
    | .present j => if s.agenda.contains e then setPresent e.1 j { s with agenda := s.agenda.erase e } else s
    | _ => s) (s.agenda.filter (fun e => presents e.2 && due e.1 s)) s

theorem binderEnd_eq (s : State) : binderEnd s = presentDue (foldS bndIn (if binderRuns s then s.binder.inbox else []) (emptied s)) := rfl

/-- The deadline that reached the Binder decides its set with the A bit (R216). -/
theorem binderEnd_deadline (hlife : s.life = .safe ∨ s.life = .ready)
    (hinbox : s.binder.inbox = [.deadline x j]) (hagenda : ∀ e ∈ s.agenda, presents e.2 = true → due e.1 s = false)
    (hlate : due (plus x 5) s = false) (hopen : (pset j s).st = .opn) : binderEnd s = deadlined j x s := by
  rw [binderEnd_eq, foldS_bndIn_deadline hlife hinbox hopen, presentDue, no_presentation_due hagenda hlate, foldS]

theorem pset_deadlined (j : Nat) (x : Tick) (s : State) :
    (pset j (deadlined j x s)).st = .decided ∧ (pset j (deadlined j x s)).a = true := by
  rw [deadlined, setDecide, pset_of_sets (congrArg (·.sets) (touches_defer.kept (·.binder) .binder)), pset_setPset, pset_setPset]
  exact ⟨rfl, rfl⟩

theorem frame_deadlined (j : Nat) (x : Tick) (s : State) : deadlined j x s =
    { s with binder := (deadlined j x s).binder, agenda := s.agenda ++ [(plus x 5, .present j)] } := by
  rw [← agenda_deadlined]
  exact touches_deadlined.frame

theorem inbox_deadlined (j : Nat) (x : Tick) (s : State) : (deadlined j x s).binder.inbox = [] := by
  rw [deadlined, setDecide, touches_defer.kept (·.binder) .binder]
  rfl

theorem pset_deadlined_ne (h : k ≠ j) (x : Tick) (s : State) : pset k (deadlined j x s) = pset k s := by
  rw [deadlined, setDecide, pset_of_sets (congrArg (·.sets) (touches_defer.kept (·.binder) .binder)), pset_setPset_ne _ h,
    pset_setPset_ne _ h, pset_emptied]

/-! ### Commits -/

theorem goSet_unopened (h : (pset j s).st ≠ .opn) : goSet j s = setAdopt j s := by
  rw [goSet, if_neg h]

/-- A set that adopts takes its shadows into force (R223). -/
theorem getF_setAdopt (h : o ∈ setRegs j) (s : State) : getF o (setAdopt j s) = getR o s := by
  have hcommit : getF o (commitRegs (setRegs j) s) = getR o s := by rw [getF_commitRegs, if_pos h]
  rw [← hcommit]
  unfold setAdopt
  dsimp only
  split
  · exact getF_of_force ((touches_setPset.after touches_cancelSet).kept (·.force) .force) o
  · exact getF_of_force (touches_setPset.kept (·.force) .force) o

theorem st_setAdopt (h : (pset j s).st ≠ .opn) : (pset j (setAdopt j s)).st ≠ .opn := by
  have hcommit : pset j (commitRegs (setRegs j) s) = pset j s :=
    pset_of_sets (congrArg (·.sets) (touches_commitRegs.kept (·.binder) .binder)) j
  unfold setAdopt
  dsimp only
  split
  · rw [pset_setPset]
    exact fun h => nomatch h
  · rw [pset_setPset]
    exact fun hopen => h ((congrArg PSet.st hcommit).symm.trans hopen)

theorem aside_goSet (hj : j < 256) (hk : k < 256) (h : j ≠ k) (s : State) : Aside j s (goSet k s) := by
  unfold goSet
  exact .ite (aside_setPset h _ _) (aside_setAdopt hj hk h s)

/-- What stands while the sets adopt one by one: set `j` has no open round, and its shadows. -/
structure MayAdopt (j o : Nat) (v : W40) (s : State) : Prop where
  st : (pset j s).st ≠ .opn
  shadow : getR o s = v

theorem goSet_mayAdopt (hj : j < 256) (hk : k < 256) (h : MayAdopt j o v s) : MayAdopt j o v (goSet k s) := by
  refine ⟨?_, by rw [getR, touches_goSet.kept (·.regs) .regs, ← getR]; exact h.shadow⟩
  by_cases hjk : j = k
  · rw [← hjk, goSet_unopened h.st]
    exact st_setAdopt h.st
  · rw [(aside_goSet hj hk hjk s).pset]
    exact h.st

theorem goSet_all_adopt {l : List Nat} (hj : j < 256) (hl : ∀ k ∈ l, k < 256) (hmem : j ∈ l) (hnodup : l.Nodup) (ho : o ∈ setRegs j)
    (h : MayAdopt j o v s) : getF o (foldS goSet l s) = v :=
  foldS_at (I := MayAdopt j o v) (φ := fun _ => v) (π := getF o) hmem hnodup (fun k hk _ hq => goSet_mayAdopt hj (hl k hk) hq)
    (fun q hq => by rw [goSet_unopened hq.st, getF_setAdopt ho, hq.shadow])
    (fun k hk q hkj => (aside_goSet hj (hl k hk) (Ne.symm hkj) q).cfg o ho) h

theorem oBndStatus_notMem_setRegs (hj : j < 256) : oBndStatus ∉ setRegs j := by
  rw [mem_setRegs]
  unfold oBndStatus oBndSetCfg oBndMember
  rintro (h | ⟨i, hi, h⟩) <;> omega

/-- Every set without an open round takes its shadows into force (R223). -/
theorem getF_bndGo (hj : j < 256) (hclosed : (pset j s).st ≠ .opn) (ho : o ∈ setRegs j) : getF o (bndGo s) = getR o s := by
  unfold bndGo
  dsimp only
  generalize hq : putB oBndStatus 0 true (if bR oBndStatus 0 s then s else
    { s with binder := { s.binder with goAt := some (now s), waited := false } }) = q
  have hadopt : MayAdopt j o (getR o s) q := by
    have hpset : pset j q = pset j s := by
      rw [← hq, pset_of_sets (congrArg (·.sets) (touches_putB.kept (·.binder) .binder))]
      split <;> rfl
    refine ⟨hpset ▸ hclosed, ?_⟩
    rw [← hq, getR_putB_ne (fun h => oBndStatus_notMem_setRegs hj (by rwa [h] at ho))]
    split <;> rfl
  have hdecs (r : State) : Aside j r (foldS (fun e s => setDecoder e { decoder e s with pend := true } s) (upTo 8) r) :=
    .foldS (fun _ _ => aside_setDecoder _ _ _) _ r
  rw [getF_of_force (touches_brTryAll.kept (·.force) .force), (aside_bndSettle _).cfg o ho, (aside_decAdoptReady hj _ _ _).cfg o ho,
    (hdecs _).cfg o ho]
  exact goSet_all_adopt hj (fun k => List.mem_range.1) (mem_upTo hj) (upTo_nodup 256) ho hadopt

theorem commitWaitRow_late (hgo : s.binder.goAt = some x) (hpend : bR oBndStatus 0 s = true) (hwaited : s.binder.waited = false)
    (hdue : due (plus x 1000000) s = true) :
    commitWaitRow s = record 0xA800 0x508 0 0 { s with binder := { s.binder with waited := true } } := by
  simp [commitWaitRow, hgo, hpend, hwaited, hdue]

/-- R209, R210, R215, R216, R223: the verdict bus and the Binder.
Settles O19: it holds. -/
theorem binderCommands : Obligations.BinderCommands := by
  refine ⟨verdictBusArrival_completes, fun m j s hj h hlife hsrc hmem hpend => ?_, fun m s h hlife => ?_, binderDeadline_completes,
    fun j x s hlife hinbox hagenda hlate hopen => ?_, fun m s h hclosed => ?_, fun x s hgo hpend hwaited hgate hdue => ?_⟩
  · exact bndArmSet_completes m j s hj h ⟨runs_of_life hlife, rfl, hsrc, hmem, hpend⟩
  · obtain ⟨t, hexec, hframe, hopens⟩ := bndArmAll_completes m s h
    exact ⟨t, hexec, hframe, fun j hj hsrc hmem hpend => hopens j hj ⟨runs_of_life hlife, rfl, hsrc, hmem, hpend⟩⟩
  · rw [binderEnd_deadline hlife hinbox hagenda hlate hopen]
    obtain ⟨hst, ha⟩ := pset_deadlined j x s
    exact ⟨frame_deadlined j x s, inbox_deadlined j x s, hst, ha, fun k hk => pset_deadlined_ne hk x s⟩
  · refine .of_touches (hostWrite_oBndCommit h) (touches_bndGo.mono (L := binderParts)) (fun _ h r => ⟨h.binderFrame, r⟩)
      fun j hj => ⟨getF_bndGo hj (hclosed j hj) (mem_setRegs.2 (.inl rfl)), fun i hi =>
        getF_bndGo hj (hclosed j hj) (mem_setRegs.2 (.inr ⟨i, hi, rfl⟩))⟩
  · have hwait : Touches [.binder] s { s with binder := { s.binder with waited := true } } := Touches.binder
    have hrow : clocked commitWaitRow s = record 0xA800 0x508 0 0 { s with binder := { s.binder with waited := true } } := by
      rw [clocked, hgate]
      exact commitWaitRow_late hgo hpend hwaited hdue
    refine .of_touches hrow ((touches_record.after hwait).mono (L := [.log, .binder])) (fun _ h r => ⟨h.frame, r⟩) ⟨?_, ?_⟩
    · exact (logged_record _ _ _ _ _ (by decide) (by decide) (by decide)).after hwait
    · exact congrArg (·.waited) (touches_record.kept (·.binder) .binder)

end Sys2Proof.Machine
end

section
/-! PROOF. Verdicts and events of the tone slots (O20, O21). -/

set_option Elab.async false

namespace Sys2Proof.Machine

variable {s t u : State} {g m o k j n : Nat} {v : Win} {x : Tick} {K : List Fld}

/-! ### The fields of a verdict word (Table 9.3) -/

/-- The number that a verdict word spells. -/
def verdictNum (idx state : Nat) (early recant absent ovr : Bool) (conf shot : Nat) : Nat :=
  idx % 0x4000 * 2 ^ 26 + state % 4 * 2 ^ 24 + 2 ^ 23 + b2n early * 2 ^ 22 + b2n recant * 2 ^ 21
    + b2n absent * 2 ^ 20 + b2n ovr * 2 ^ 19 + conf % 256 * 2 ^ 11 + shot % 0x800

theorem b2n_le (b : Bool) : b2n b ≤ 1 := by cases b <;> decide

theorem decide_b2n (b : Bool) : decide (b2n b = 1) = b := by cases b <;> rfl

section
variable (idx state : Nat) (early recant absent ovr : Bool) (conf shot : Nat)

theorem toNat_verdictWord :
    (verdictWord idx state early recant absent ovr conf shot).toNat = verdictNum idx state early recant absent ovr conf shot := by
  have := b2n_le early; have := b2n_le recant; have := b2n_le absent; have := b2n_le ovr
  have hlt : verdictNum idx state early recant absent ovr conf shot < 2 ^ 40 := by
    unfold verdictNum
    omega
  rw [verdictWord, w, BitVec.toNat_ofNat, ← verdictNum, Nat.mod_eq_of_lt hlt]

theorem fld_verdictWord (hi lo : Nat) : fld (verdictWord idx state early recant absent ovr conf shot) hi lo =
    verdictNum idx state early recant absent ovr conf shot / 2 ^ lo % 2 ^ (hi + 1 - lo) := by
  rw [fld, toNat_verdictWord, Nat.shiftRight_eq_div_pow]

theorem bit_verdictWord (i : Nat) : bit (verdictWord idx state early recant absent ovr conf shot) i =
    decide (verdictNum idx state early recant absent ovr conf shot / 2 ^ i % 2 = 1) := by
  rw [bit, toNat_verdictWord, Nat.testBit_eq_decide_div_mod_eq]

theorem vIndex_verdictWord : vIndex (verdictWord idx state early recant absent ovr conf shot) = idx % 0x4000 := by
  have := b2n_le early; have := b2n_le recant; have := b2n_le absent; have := b2n_le ovr
  rw [vIndex, fld_verdictWord, verdictNum]
  omega

theorem vState_verdictWord : vState (verdictWord idx state early recant absent ovr conf shot) = state % 4 := by
  have := b2n_le early; have := b2n_le recant; have := b2n_le absent; have := b2n_le ovr
  rw [vState, fld_verdictWord, verdictNum]
  omega

theorem vValid_verdictWord : vValid (verdictWord idx state early recant absent ovr conf shot) = true := by
  have := b2n_le early; have := b2n_le recant; have := b2n_le absent; have := b2n_le ovr
  rw [vValid, bit_verdictWord, verdictNum]
  exact decide_eq_true (by omega)

theorem vEarly_verdictWord : vEarly (verdictWord idx state early recant absent ovr conf shot) = early := by
  have := b2n_le early; have := b2n_le recant; have := b2n_le absent; have := b2n_le ovr
  rw [vEarly, bit_verdictWord, verdictNum, ← decide_b2n early]
  exact decide_eq_decide.2 (by rw [decide_b2n]; omega)

theorem vAbsent_verdictWord : vAbsent (verdictWord idx state early recant absent ovr conf shot) = absent := by
  have := b2n_le early; have := b2n_le recant; have := b2n_le absent; have := b2n_le ovr
  rw [vAbsent, bit_verdictWord, verdictNum, ← decide_b2n absent]
  exact decide_eq_decide.2 (by rw [decide_b2n]; omega)

theorem conf_verdictWord : fld (verdictWord idx state early recant absent ovr conf shot) 18 11 = conf % 256 := by
  have := b2n_le early; have := b2n_le recant; have := b2n_le absent; have := b2n_le ovr
  rw [fld_verdictWord, verdictNum]
  omega

theorem shot_verdictWord : fld (verdictWord idx state early recant absent ovr conf shot) 10 0 = shot % 0x800 := by
  rw [fld_verdictWord, verdictNum]
  omega

end

/-! ### What leads up to a verdict -/

theorem slot_of_slots (h : t.slots = s.slots) (k : Nat) : slot k t = slot k s := by rw [slot, slot, h]

/-- Counting saturations sets the count of the slot and its mark alone (R177). -/
theorem slot_noteSat (g : Nat) (zs : List (Tick × Sample)) (s : State) : ∃ c, slot g (noteSat g zs s) = { slot g s with counted := c } := by
  unfold noteSat
  extract_lets fresh new
  split
  · exact ⟨_, slot_setSlot _ _ _⟩
  · exact ⟨_, rfl⟩

theorem leaves_noteSat (h : o ≠ oSlotCounts g) (zs : List (Tick × Sample)) (s : State) : Leaves o s (noteSat g zs s) := by
  unfold noteSat
  extract_lets fresh new
  split
  · exact (leaves_putF h _ _ _ _).trans touches_setSlot.leaves
  · exact .refl o s

theorem slot_countWindow (v : Win) (g : Nat) (zs : List Sample) (s : State) :
    ∃ c, slot g (countWindow v g zs s) = { slot g s with counted := c } := slot_noteSat _ _ _

theorem wins_countWindow (v : Win) (g : Nat) (zs : List Sample) (s : State) : (slot g (countWindow v g zs s)).wins = (slot g s).wins := by
  obtain ⟨c, h⟩ := slot_countWindow v g zs s
  rw [h]

theorem postAt_countWindow (v : Win) (g : Nat) (zs : List Sample) (x : Tick) (s : State) :
    postAt g x (countWindow v g zs s) = postAt g x s := by
  obtain ⟨c, h⟩ := slot_countWindow v g zs s
  rw [postAt, postAt, h]

theorem ownIndex_of_leaves (h : Leaves oFedStatus s t) (g : Nat) : ownIndex g t = ownIndex g s := by
  rw [ownIndex, ownIndex, devNum, devNum, h.fR]

theorem ownIndex_countWindow (v : Win) (g k : Nat) (zs : List Sample) (s : State) :
    ownIndex k (countWindow v g zs s) = ownIndex k s :=
  ownIndex_of_leaves (leaves_noteSat (by unfold oFedStatus oSlotCounts; omega) _ _) k

theorem ownIndex_mod (hg : g < nSeqs s) : ownIndex g s % 0x4000 = 1024 * devNum s + g := by
  have hdev : devNum s < 16 := fld_lt _ 39 36
  have := seq_lt_768 hg
  rw [ownIndex]
  omega

theorem readoutRuns_of (hg : g < nSeqs s) (hlife : s.life = .safe ∨ s.life = .ready) (hpower : tilePowered (g / 96) s = true) :
    readoutRuns g s = true := by
  rcases hlife with h | h <;> simp [readoutRuns, hg, h, hpower]

theorem earliest_single (g : Nat) (v : Win) : earliest g [v] = some v := rfl

theorem dropWin_single (v : Win) : dropWin v [v] = [] := by simp [dropWin]

/-! ### Posting -/

theorem bus_slotPost {word : W40} {ref : Tick} {i q : Int} {rec : Bool} :
    (slotPost x v g word ref i q rec s).bus = s.bus ++ [{ at_ := x, word := word, ref := ref }] := by
  have hpost : (postVerdict x word ref (setR (oThrLast g) word (setSlot g { slot g s with lastPost := some x } s))).bus =
      s.bus ++ [{ at_ := x, word := word, ref := ref }] := by
    rw [postVerdict, touches_setR.kept (·.bus) .bus, touches_setSlot.kept (·.bus) .bus]
  unfold slotPost
  dsimp only
  split
  · rw [touches_resMake.kept (·.bus) .bus, hpost]
  · exact hpost

theorem wins_slotPost {word : W40} {ref : Tick} {i q : Int} {rec : Bool} :
    (slot g (slotPost x v g word ref i q rec s)).wins = (slot g s).wins := by
  have hset : (slot g (postVerdict x word ref (setR (oThrLast g) word (setSlot g { slot g s with lastPost := some x } s)))).wins =
      (slot g s).wins := by
    rw [slot_of_slots (touches_postVerdict.kept (·.slots) .slots), slot_of_slots (touches_setR.kept (·.slots) .slots), slot_setSlot]
  unfold slotPost
  dsimp only
  split
  · rw [slot_of_slots (touches_resMake.kept (·.slots) .slots), hset]
  · exact hset

/-- A verdict with a record makes it at its posting tick (R205). -/
theorem made_slotPost {word : W40} {ref : Tick} {i q : Int} : ∃ d ∈ (slotPost x v g word ref i q true s).gran.made,
    d.at_ = x ∧ d.key = g ∧ d.words = [ref, BitVec.ofInt 40 i, BitVec.ofInt 40 q, word] := by
  refine ⟨_, List.mem_append_right _ (List.mem_singleton.2 rfl), rfl, rfl, rfl⟩

/-! ### The final verdict -/

/-- The state in which a final verdict is posted: its samples have counted, its window is gone, and the flags of the slot stand. -/
structure Settled (v : Win) (g : Nat) (s t : State) : Prop where
  touches : Touches [.regs, .slots, .fabric, .log] s t
  wins : (slot g t).wins = dropWin v (slot g s).wins

theorem Settled.step (h : Settled v g s t) (hk : Touches K t u) (hs : Fld.slots ∉ K := by decide)
    (hK : ∀ f ∈ K, f ∈ [Fld.regs, .slots, .fabric, .log] := by decide) : Settled v g s u :=
  ⟨(hk.after h.touches).mono fun f hf => (List.mem_append.1 hf).elim id (hK f),
    (congrArg Slot.wins (slot_of_slots (hk.kept (·.slots) .slots hs) g)).trans h.wins⟩

theorem Settled.ite {c : Prop} [Decidable c] (h : Settled v g s t) (k : Settled v g s u) : Settled v g s (if c then t else u) := by
  split
  · exact h
  · exact k

theorem settled_window (zs : List Sample) :
    Settled v g s (setSlot g { slot g (countWindow v g zs s) with wins := dropWin v (slot g (countWindow v g zs s)).wins }
      (countWindow v g zs s)) where
  touches := (touches_setSlot.after touches_countWindow).mono
  wins := by rw [slot_setSlot, wins_countWindow]

/-- The verdict of window `v` in state `s` (R195, R204). -/
def finalWord (v : Win) (g : Nat) (zs : List Sample) (s : State) : W40 :=
  let r := integral v g zs
  let c := classify v g r.1 r.2.1
  verdictWord (ownIndex g s) c.1 false (match v.early with | some e => e != c.1 | none => false) false (orFlags zs).ovr
    (confidence c.2 (fld (winR v (oThrCfg g)) 21 16) (orFlags zs) (v.crcBad || zs.any (fun z => z.crcBad))) (fld v.shot 10 0)

theorem finalPost_posts (v : Win) (g : Nat) (xs : List AdcTick) (s : State) : ∃ r, Settled v g s r ∧
    finalPost v g xs s = slotPost (postAt g (plus (winRef v) (winV v g)) s) v g
      (finalWord v g (windowSamples v g (winN v g) xs s) s) (winRef v) (integral v g (windowSamples v g (winN v g) xs s)).1
      (integral v g (windowSamples v g (winN v g) xs s)).2.1 true r := by
  rw [finalWord, ← ownIndex_countWindow v g g (windowSamples v g (winN v g) xs s) s,
    ← postAt_countWindow v g (windowSamples v g (winN v g) xs s) _ s]
  refine ⟨_, ?_, rfl⟩
  have hflags (b : Bool) (n : Nat) := ((settled_window (v := v) (g := g) (s := s) (windowSamples v g (winN v g) xs s)).step
    (touches_putB (off := oThrFlags g) (i := 6) (b := b))).step (touches_putF (off := oThrFlags g) (hi := 4) (lo := 0) (x := n))
  have hsat (b : Bool) (n : Nat) := Settled.ite (c := b = true)
    ((hflags b n).step (touches_bump (off := oThrFlags g) (hi := 39) (lo := 20))) (hflags b n)
  exact .ite ((((hsat _ _).step touches_bump).step touches_fireProd).step touches_recordIf) (hsat _ _)

theorem confidence_zero {c : Int} {sh : Nat} {zs : List Sample} {b : Bool}
    (h : ∃ z ∈ zs, z.flags.cal = true ∨ z.flags.deg = true ∨ z.flags.trn = true ∨ z.crcBad = true) :
    confidence c sh (orFlags zs) (b || zs.any (fun z => z.crcBad)) = 0 := by
  obtain ⟨z, hz, hflag⟩ := h
  rw [confidence, if_pos]
  simp only [orFlags, Bool.or_eq_true, List.any_eq_true]
  rcases hflag with h | h | h | h
  · exact .inl (.inl (.inl ⟨z, hz, h⟩))
  · exact .inl (.inl (.inr ⟨z, hz, h⟩))
  · exact .inl (.inr ⟨z, hz, h⟩)
  · exact .inr (.inr ⟨z, hz, h⟩)

theorem finalRow_posts {xs : List AdcTick} (hruns : readoutRuns g s = true) (hwins : (slot g s).wins = [v]) (hw : 0 < v.w)
    (hdone : winnowNext g v = none) (hdue : due (plus (winRef v) (winV v g)) s = true) : finalRow g xs s = finalPost v g xs s := by
  simp only [finalRow, hwins, earliest_single]
  rw [if_pos (by simp [hruns, hw, hdone, hdue])]

theorem winRef_of_pos (hw : 0 < v.w) : winRef v = plus v.t (v.w - 1) := by rw [winRef, if_neg (by omega)]

/-- R190, R192, R195-R198, R204, R205: the final verdict of a window.
Settles O20: it holds. -/
theorem finalVerdictPosted : Obligations.FinalVerdictPosted := by
  intro g v xs s hg hlife hpower hwins hw hdone hdue
  have hrow := finalRow_posts (xs := xs) (readoutRuns_of hg hlife hpower) hwins hw hdone (by rwa [winRef_of_pos hw])
  obtain ⟨r, ⟨hr, hrwins⟩, hpost⟩ := finalPost_posts v g xs s
  rw [hwins, dropWin_single] at hrwins
  rw [winRef_of_pos hw] at hpost
  refine .of_touches (hrow.trans hpost) ((touches_slotPost.after hr).mono (L := [.regs, .log, .slots, .bus, .made, .fabric]))
    (R := fun t => (slot g t).wins = [] ∧ t.gran.mem = s.gran.mem ∧ ∃ word, t.bus = _ ∧ (∃ d, d ∈ t.gran.made ∧ _) ∧ _)
    (fun _ h r => ⟨(h.mono (L := [.regs, .log, .slots, .bus, .gran, .mem, .rings, .hostMem, .made, .fabric])).frame, r⟩)
    ⟨wins_slotPost.trans hrwins, ?_, _, ?_, made_slotPost, ?_, ?_, ?_, ?_, ?_, ?_, fun hflag => ?_⟩
  · rw [touches_slotPost.kept (·.gran.mem) .mem, hr.kept (·.gran.mem) .mem]
  · rw [bus_slotPost, hr.kept (·.bus) .bus]
  · rw [finalWord, vIndex_verdictWord, ownIndex_mod hg]
  · rw [finalWord, vState_verdictWord]
    rfl
  · rw [finalWord, vValid_verdictWord]
  · rw [finalWord, vEarly_verdictWord]
  · rw [finalWord, vAbsent_verdictWord]
  · rw [finalWord, shot_verdictWord]
    exact Nat.mod_eq_of_lt (fld_lt _ 10 0)
  · rw [finalWord, conf_verdictWord, confidence_zero (zs := windowSamples v g (winN v g) xs s) hflag]

/-! ### Detectors, absent and early verdicts, and the flush of results -/

/-- What the update sets for an interval with the samples `zs` (R187). -/
def detectorLevel (zs : List Sample) (failed : Bool) : Nat := if failed then 0 else (levels zs).1 * 2 ^ 20 + (levels zs).2

theorem detectorRow_updates {xs : List AdcTick} (hruns : readoutRuns g s = true) (hen : bit (detNow g s).det 5 = true)
    (hnew : (slot g s).detAt ≠ some (detStamp g s)) : ∃ r, (slot g r).detAt = some (detStamp g s) ∧
      ∃ (c : Bool) (y : Tick), detectorRow g xs s = if c then fireProd (640 * (g / 96) + 192 + g % 96) y 0 (setR (oSlotLevel g)
        (w (detectorLevel (chainStream g (detShape g s).1 (detShape g s).2 (detStart g s) xs s)
          (feedTick (feedFrom (detStart g s) xs) (detStamp g s)).crcBad)) r)
      else setR (oSlotLevel g) (w (detectorLevel (chainStream g (detShape g s).1 (detShape g s).2 (detStart g s) xs s)
          (feedTick (feedFrom (detStart g s) xs) (detStamp g s)).crcBad)) r := by
  refine ⟨noteSat g ((upTo (detShape g s).2).map (fun k => plus (detStart g s) (k * (detShape g s).1)) |>.zip
      (chainStream g (detShape g s).1 (detShape g s).2 (detStart g s) xs s))
      (setSlot g { slot g s with detAt := some (detStamp g s) } s), ?_, ?_⟩
  · obtain ⟨c, h⟩ := slot_noteSat g ((upTo (detShape g s).2).map (fun k => plus (detStart g s) (k * (detShape g s).1)) |>.zip
      (chainStream g (detShape g s).1 (detShape g s).2 (detStart g s) xs s)) (setSlot g { slot g s with detAt := some (detStamp g s) } s)
    rw [h, slot_setSlot]
  · rw [detectorRow]
    simp only [hruns, hen]
    rw [if_neg (by decide), if_neg (by simpa using hnew), if_neg (by decide)]
    exact ⟨_, _, rfl⟩

theorem absentRow_posts (hruns : readoutRuns g s = true) (hwins : (slot g s).wins = [v]) (hw : v.w = 0)
    (hdue : due (plus v.t (winV v g)) s = true) :
    absentRow g s = slotPost (postAt g (plus v.t (winV v g)) s) v g
      (verdictWord (ownIndex g s) 0 false false true false 0 (fld v.shot 10 0)) v.t 0 0 true
      (setSlot g { slot g s with wins := [] } s) := by
  have hpost (y : Tick) : postAt g y (setSlot g { slot g s with wins := [] } s) = postAt g y s := by
    rw [postAt, postAt, slot_setSlot]
  have href : winRef v = v.t := by rw [winRef, if_pos hw]
  simp only [absentRow, hwins, earliest_single, href]
  rw [if_pos (by simp [hruns, hw, hdue]), dropWin_single, hpost]
  rfl

theorem winnowRow_evaluates {xs : List AdcTick} (hruns : readoutRuns g s = true) (hwins : (slot g s).wins = [v])
    (hnext : winnowNext g v = some m) (hdue : due (plus v.t (partN v g m * winD v g - 1 + winV v g)) s = true) :
    winnowRow g m xs s = winnowEval (postAt g (plus v.t (partN v g m * winD v g - 1 + winV v g)) s) v m g xs s := by
  simp only [winnowRow, hwins, earliest_single]
  rw [if_pos (by simp [hruns, hnext, hdue])]

theorem wins_replaceWin (u : Win) (h : (slot g s).wins = [v]) : (slot g (replaceWin g v u s)).wins = [u] := by
  rw [replaceWin, slot_setSlot, h]
  simp

/-- The samples of step `m` of window `v`. -/
def stepSamples (v : Win) (g m : Nat) (xs : List AdcTick) (s : State) : List Sample := windowSamples v g (partN v g m) xs s

/-- L of step `m` of window `v` (R199). -/
def stepL (v : Win) (g m : Nat) (xs : List AdcTick) (s : State) : Int :=
  winnowL v g (partN v g m) (integral v g (stepSamples v g m xs s)).1 (integral v g (stepSamples v g m xs s)).2.1

theorem winnowEval_below {xs : List AdcTick} (h : (stepL v g m xs s).natAbs < (winR v (oWinThr g)).toNat) :
    winnowEval x v m g xs s = replaceWin g v { v with steps := m } (countWindow v g (stepSamples v g m xs s) s) := by
  have hlow : ¬ ((winR v (oWinThr g)).toNat : Int) ≤ (stepL v g m xs s).natAbs := by omega
  exact if_neg hlow

theorem winnowEval_reaches {xs : List AdcTick} (h : (winR v (oWinThr g)).toNat ≤ (stepL v g m xs s).natAbs) : ∃ st word i q rec r,
    Touches [.regs, .slots, .fabric] s r ∧
    slot g r = slot g (replaceWin g v { v with steps := m, early := some st } (countWindow v g (stepSamples v g m xs s) s)) ∧
    winnowEval x v m g xs s = slotPost x v g word (plus v.t (partN v g m * winD v g - 1)) i q rec r ∧
    vEarly word = true ∧ vValid word = true ∧
    vState word = (if 0 < stepL v g m xs s then fld (winR v (oWinCtl g)) 21 20 else fld (winR v (oWinCtl g)) 19 18) := by
  have hhigh : ((winR v (oWinThr g)).toNat : Int) ≤ (stepL v g m xs s).natAbs := by omega
  refine ⟨if 0 < stepL v g m xs s then fld (winR v (oWinCtl g)) 21 20 else fld (winR v (oWinCtl g)) 19 18, _, _, _, _, _, ?_, ?_,
    if_pos hhigh, ?_, ?_, ?_⟩
  · exact (touches_fireProd.after (touches_bump.after (touches_replaceWin.after touches_countWindow))).mono
  · rw [slot_of_slots (touches_fireProd.kept (·.slots) .slots), slot_of_slots (touches_bump.kept (·.slots) .slots)]
    rfl
  · exact vEarly_verdictWord ..
  · exact vValid_verdictWord ..
  · refine (vState_verdictWord ..).trans (Nat.mod_eq_of_lt ?_)
    split
    · exact fld_lt _ 21 20
    · exact fld_lt _ 19 18

theorem resultFlushRow_due {p : Nat} {h : Half} (hhalf : tget? p s.halves = some h) (hdue : due h.flushAt s = true) :
    resultFlushRow p s = resSlot p h.ring (h.words ++ zero4) (delHalf p s) := by
  have hof : halfOf p s = some h := hhalf
  simp only [resultFlushRow, hof, hdue, resFlush]
  rfl

theorem detectorUpdate_completes (g : Nat) (xs : List AdcTick) (s : State) (hruns : readoutRuns g s = true)
    (hen : bit (detNow g s).det 5 = true) (hnew : (slot g s).detAt ≠ some (detStamp g s)) :
    Completes (.detectorUpdate g xs) s (fun t =>
      t = { s with regs := t.regs, slots := t.slots, fabric := t.fabric } ∧ (slot g t).detAt = some (detStamp g s) ∧
      getR (oSlotLevel g) t = w (detectorLevel (chainStream g (detShape g s).1 (detShape g s).2 (detStart g s) xs s)
        (feedTick (feedFrom (detStart g s) xs) (detStamp g s)).crcBad)) := by
  obtain ⟨r, hr, c, y, hrow⟩ := detectorRow_updates (xs := xs) hruns hen hnew
  refine .of_touches rfl touches_detectorRow (fun _ h r => ⟨h.frame, r⟩) ?_
  rw [hrow]
  split
  · rw [slot_of_slots (touches_fireProd.kept (·.slots) .slots), slot_of_slots (touches_setR.kept (·.slots) .slots),
      touches_fireProd.leaves.getR, getR_setR]
    exact ⟨hr, rfl⟩
  · rw [slot_of_slots (touches_setR.kept (·.slots) .slots), getR_setR]
    exact ⟨hr, rfl⟩

/-- The parts of the state that a posted verdict may change. -/
theorem Touches.postFrame (h : Touches [.regs, .slots, .bus, .made] s t) :
    t = { s with regs := t.regs, slots := t.slots, bus := t.bus, gran := t.gran } :=
  (h.mono (L := [.regs, .slots, .bus, .gran, .mem, .rings, .hostMem, .made])).frame

theorem Touches.earlyFrame (h : Touches [.regs, .slots, .bus, .made, .fabric] s t) :
    t = { s with regs := t.regs, slots := t.slots, bus := t.bus, gran := t.gran, fabric := t.fabric } :=
  (h.mono (L := [.regs, .slots, .bus, .gran, .mem, .rings, .hostMem, .made, .fabric])).frame

theorem absentVerdictPost_completes (g : Nat) (v : Win) (s : State) (hg : g < nSeqs s) (hruns : readoutRuns g s = true)
    (hwins : (slot g s).wins = [v]) (hw : v.w = 0) (hdue : due (plus v.t (winV v g)) s = true) :
    Completes (.absentVerdictPost g) s (fun t =>
      t = { s with regs := t.regs, slots := t.slots, bus := t.bus, gran := t.gran } ∧
      (slot g t).wins = [] ∧
      ∃ word, t.bus = s.bus ++ [{ at_ := postAt g (plus v.t (winV v g)) s, word := word, ref := v.t }] ∧
        vIndex word = 1024 * devNum s + g ∧ vAbsent word = true ∧ vValid word = true ∧ fld word 18 11 = 0) := by
  refine .of_touches (absentRow_posts hruns hwins hw hdue) ((touches_slotPost.after touches_setSlot).mono (L := [.regs, .slots, .bus, .made]))
    (fun _ h r => ⟨h.postFrame, r⟩) ⟨?_, verdictWord (ownIndex g s) 0 false false true false 0 (fld v.shot 10 0), ?_, ?_, vAbsent_verdictWord ..,
      vValid_verdictWord .., ?_⟩
  · rw [wins_slotPost, slot_setSlot]
  · rw [bus_slotPost, touches_setSlot.kept (·.bus) .bus]
  · rw [vIndex_verdictWord, ownIndex_mod hg]
  · rw [conf_verdictWord]

theorem winnowStep_below (g m : Nat) (v : Win) (xs : List AdcTick) (s : State) (hruns : readoutRuns g s = true)
    (hwins : (slot g s).wins = [v]) (hnext : winnowNext g v = some m)
    (hdue : due (plus v.t (partN v g m * winD v g - 1 + winV v g)) s = true)
    (hlow : (stepL v g m xs s).natAbs < (winR v (oWinThr g)).toNat) :
    Completes (.winnowStep g m xs) s (fun t =>
      t = { s with regs := t.regs, slots := t.slots } ∧ (slot g t).wins = [{ v with steps := m }]) := by
  refine .of_touches ((winnowRow_evaluates hruns hwins hnext hdue).trans (winnowEval_below hlow))
    ((touches_replaceWin.after touches_countWindow).mono (L := [.regs, .slots])) (fun _ h r => ⟨h.frame, r⟩) ?_
  exact wins_replaceWin _ ((wins_countWindow v g _ s).trans hwins)

theorem winnowStep_reaches (g m : Nat) (v : Win) (xs : List AdcTick) (s : State) (hruns : readoutRuns g s = true)
    (hwins : (slot g s).wins = [v]) (hnext : winnowNext g v = some m)
    (hdue : due (plus v.t (partN v g m * winD v g - 1 + winV v g)) s = true)
    (hhigh : (winR v (oWinThr g)).toNat ≤ (stepL v g m xs s).natAbs) :
    Completes (.winnowStep g m xs) s (fun t =>
      t = { s with regs := t.regs, slots := t.slots, bus := t.bus, gran := t.gran, fabric := t.fabric } ∧
      (∃ st, (slot g t).wins = [{ v with steps := m, early := some st }]) ∧
      ∃ word, t.bus = s.bus ++
          [⟨postAt g (plus v.t (partN v g m * winD v g - 1 + winV v g)) s, word, plus v.t (partN v g m * winD v g - 1), false, false, false⟩] ∧
        vEarly word = true ∧ vValid word = true ∧
        vState word = if 0 < stepL v g m xs s then fld (winR v (oWinCtl g)) 21 20 else fld (winR v (oWinCtl g)) 19 18) := by
  obtain ⟨st, word, i, q, rec, r, hr, hslot, hpost, hearly, hvalid, hstate⟩ := winnowEval_reaches
    (x := postAt g (plus v.t (partN v g m * winD v g - 1 + winV v g)) s) hhigh
  refine .of_touches ((winnowRow_evaluates hruns hwins hnext hdue).trans hpost)
    ((touches_slotPost.after hr).mono (L := [.regs, .slots, .bus, .made, .fabric])) (fun _ h r => ⟨h.earlyFrame, r⟩)
    ⟨⟨st, ?_⟩, word, ?_, hearly, hvalid, hstate⟩
  · rw [wins_slotPost, hslot, wins_replaceWin _ ((wins_countWindow v g _ s).trans hwins)]
  · rw [bus_slotPost, hr.kept (·.bus) .bus]

theorem Touches.flushFrame (h : Touches [.halves, .gran, .mem, .rings, .host, .regs, .log] s t) :
    t = { s with regs := t.regs, log := t.log, halves := t.halves, gran := t.gran, host := t.host } :=
  (h.mono (L := [.halves, .gran, .mem, .rings, .hostMem, .made, .host, .regs, .log])).frame

/-- R15, R187, R197, R199-R201, R205: the events of a tone slot.
Settles O21: it holds. -/
theorem slotEvents : Obligations.SlotEvents := by
  refine ⟨fun g xs s hg hlife hpower hen hnew => ?_, fun g v s hg hlife hpower hwins hw hdue => ?_,
    fun g m v xs s hg hlife hpower hwins hnext => ?_, fun p h s hhalf hdue => ?_⟩
  · exact detectorUpdate_completes g xs s (readoutRuns_of hg hlife hpower) hen hnew
  · exact absentVerdictPost_completes g v s hg (readoutRuns_of hg hlife hpower) hwins hw hdue
  · intro n r l x hdue
    exact ⟨winnowStep_below g m v xs s (readoutRuns_of hg hlife hpower) hwins hnext hdue,
      winnowStep_reaches g m v xs s (readoutRuns_of hg hlife hpower) hwins hnext hdue⟩
  · refine .of_touches (resultFlushRow_due hhalf hdue) ((touches_resSlot.after touches_delHalf).mono
      (L := [.halves, .gran, .mem, .rings, .host, .regs, .log])) (fun _ h r => ⟨h.flushFrame, r⟩) ?_
    rw [touches_resSlot.kept (·.halves) .halves]
    exact tget?_tdel_self p s.halves

end Sys2Proof.Machine
end

section
/-! PROOF. A bit of TAP_CFG that no write can set (O25). -/

set_option Elab.async false

namespace Sys2Proof.Machine

/-- In READY, with all tiles powered, TAP_CFG of tap 0 of core 0 holds a 1 in bit 26, which no write can set. -/
def oddTap : State := setR (oTapCfg 0 0) 0x4000000 (putF oPowerStatus 29 20 0x3FF { State.reset with
  life := .ready, time := { locked := true, counting := true, everLocked := true, refValid := true, tick := 1000 },
  pins := { State.reset.pins with vaux := true } })

/-- The row of TAP_CFG in the register map. -/
def tapCfgRow : RegRow := ⟨.tapCfg, 0x1100100, [(8, 0x400000), (16, 0x1000), (4, 0x20)], 0xfff3ffffff, 0x0, 0x0, false, .tile⟩

theorem findReg_oTapCfg : findReg (oTapCfg 0 0) = some (tapCfgRow, [0 / 16, 0 % 16, 0]) :=
  findReg_of_rowIdx (by simp [regRows, regRows8, tapCfgRow]) (by decide) (by decide)

theorem oddTap_reaches : Reaches .tapCfg [0 / 16, 0 % 16, 0] 0 (oTapCfg 0 0) 0 oddTap :=
  ⟨by decide +kernel, by decide +kernel, by decide +kernel, by decide +kernel, tapCfgRow, findReg_oTapCfg, rfl, by decide +kernel,
    by decide +kernel⟩

/-- The write keeps the bit that is not writable (Table 0.4). -/
theorem getR_oddTap : getR (oTapCfg 0 0) (hostWrite 0 (oTapCfg 0 0) 0 oddTap) = 0x4000000 := by decide +kernel

/-- R236, R420: the statement asks that TAP_CFG reads the writable bits of the value written and 0 elsewhere; a write keeps the bits that are not
writable as they stood, and a state may hold a 1 there.
Refutes O25: in `oddTap` bit 26 stays 1. -/
theorem not_coreCommandsAndTaps : ¬ Obligations.CoreCommandsAndTaps := by
  intro h
  obtain ⟨-, -, -, hcfg, -⟩ := h 0 0 oddTap (by decide +kernel)
  obtain ⟨t, hexec, -, hget⟩ := hcfg 0 0 (by decide) oddTap_reaches rfl
  have ht : t = hostWrite 0 (oTapCfg 0 0) 0 oddTap := by
    injection hexec with h
    exact h.symm
  rw [ht, getR_oddTap] at hget
  exact absurd hget (by decide)

end Sys2Proof.Machine
end

section
/-! PROOF. The arithmetic of a signal core (O22). -/

set_option Elab.async false

namespace Sys2Proof.Machine

variable {s t u : State} {k j e' n : Nat} {v : BitVec 80} {e : Tick} {c c0 c' : Core} {P : Core → Prop}

/-! ### Bank accesses, post-modify, and the sticky bits -/

theorem core_of_cores (h : t.cores = s.cores) (j : Nat) : core j t = core j s := by rw [core, core, h]

/-- What the bank accesses of an instruction may write in a core: D, the banks, and what is kept of the stores. -/
def Accessed (c0 c : Core) : Prop := ∃ d db0 db1 st, c = { c0 with d := d, db0 := db0, db1 := db1, stored := st }

theorem Accessed.refl (c : Core) : Accessed c c := ⟨_, _, _, _, rfl⟩

theorem Accessed.trans (h : Accessed c0 c) (h' : Accessed c c') : Accessed c0 c' := by
  obtain ⟨_, _, _, _, rfl⟩ := h
  obtain ⟨_, _, _, _, rfl⟩ := h'
  exact ⟨_, _, _, _, rfl⟩

theorem accessed_putBank (j a : Nat) (v : W40) (c : Core) : Accessed c (putBank j a v c) := by
  unfold putBank
  split <;> exact ⟨_, _, _, _, rfl⟩

/-- A port's access writes D or a bank only. -/
theorem portAccess_accessed (e : Tick) (k j : Nat) (v : BitVec 80) (s : State) (c0 : Core) (x : Core × List Nat) :
    Accessed x.1 (portAccess e k j v s c0 x).1 := by
  have hstore (val : W40) (bits : List Nat) : Accessed x.1 (match tapOver e j (coreAg c0 (portField v j).ag).ptr k c0 s with
      | some _ => (x.1, x.2 ++ bits ++ [9])
      | none => ({ putBank j (coreAg c0 (portField v j).ag).ptr val x.1 with
          stored := (e, j, (coreAg c0 (portField v j).ag).ptr) :: x.1.stored }, x.2 ++ bits)).1 := by
    split
    · exact .refl _
    · exact (accessed_putBank j _ val x.1).trans ⟨_, _, _, _, rfl⟩
  unfold portAccess
  extract_lets p a store
  split
  · exact ⟨_, _, _, _, rfl⟩
  · exact hstore _ _
  · exact hstore _ _
  · exact hstore _ _
  · exact .refl _

theorem portAccess_none (h : (portField v j).kind = 0) (s : State) (c0 : Core) (x : Core × List Nat) :
    portAccess e k j v s c0 x = x := by
  simp only [portAccess, h]

/-- Post-modify writes the address generators only. -/
theorem postModify_ag (g : Nat) (x : Core × List Nat) : ∃ ag, (postModify g x).1 = { x.1 with ag := ag } := by
  unfold postModify
  dsimp only
  split
  · exact ⟨_, rfl⟩
  · exact ⟨_, rfl⟩

theorem foldl_postModify_ag (l : List Nat) (x : Core × List Nat) :
    ∃ ag, (l.foldl (fun a g => postModify g a) x).1 = { x.1 with ag := ag } := by
  induction l generalizing x with
  | nil => exact ⟨_, rfl⟩
  | cons g l ih =>
    obtain ⟨ag, hg⟩ := postModify_ag g x
    obtain ⟨ag', hl⟩ := ih (postModify g x)
    exact ⟨ag', by rw [List.foldl_cons, hl, hg]⟩

theorem modified_none (h0 : (portField v 0).pm = false) (h1 : (portField v 1).pm = false) : modified v = [] := by
  simp [modified, h0, h1]

theorem leaves_stick {o : Nat} (h : o ≠ oCoreStatus k) (bits : List Nat) (s : State) : Leaves o s (stick k bits s) :=
  .foldS (fun _ s => leaves_putB h _ _ s) bits s

/-- No loop of the core ends at `pc`. -/
def NoLoopEnds (pc : Nat) (c : Core) : Prop := ∀ l ∈ c.loops.head?, l.fin ≠ pc

theorem loopStep_other {pc : Nat} (h : NoLoopEnds pc c) : loopStep pc c = c := by
  unfold loopStep
  split
  · next l t hl => exact if_neg (h l (by rw [hl]; rfl))
  · rfl

/-- The core and the sticky bits after the accesses of both ports (R228). -/
def accesses (e : Tick) (k : Nat) (v : BitVec 80) (s : State) (c0 : Core) : Core × List Nat :=
  portAccess e k 1 v s c0 (portAccess e k 0 v s c0 ({ c0 with stored := [] }, []))

theorem accesses_accessed (e : Tick) (k : Nat) (v : BitVec 80) (s : State) (c0 : Core) : Accessed c0 (accesses e k v s c0).1 :=
  (Accessed.trans ⟨_, _, _, _, rfl⟩ (portAccess_accessed e k 0 v s c0 ({ c0 with stored := [] }, []))).trans
    (portAccess_accessed e k 1 v s c0 _)

theorem accesses_none (h0 : (portField v 0).kind = 0) (h1 : (portField v 1).kind = 0) (s : State) (c0 : Core) :
    accesses e k v s c0 = ({ c0 with stored := [] }, []) := by
  rw [accesses, portAccess_none h1, portAccess_none h0]

/-- The address generators after an operation that left `y`. -/
def modifiedAg (v : BitVec 80) (y : Core × List Nat) : Tab AG := ((modified v).foldl (fun a g => postModify g a) y).1.ag

/-- Where an executed instruction leaves its core: accesses, operation, post-modify (R228). -/
theorem core_coreExec {ticks : Nat} {f : CoreOp} (hv : coreWord (core k s) = v)
    (hloop : ∀ x, Accessed (core k s) x → NoLoopEnds (core k s).pc (f (core k s) x).1) :
    core k (coreExec e ticks k f s) = { (f (core k s) (accesses e k v s (core k s)).1).1 with
      ag := modifiedAg v ((f (core k s) (accesses e k v s (core k s)).1).1,
        (accesses e k v s (core k s)).2 ++ (f (core k s) (accesses e k v s (core k s)).1).2), nextAt := plus e ticks } := by
  obtain ⟨ag, hag⟩ := foldl_postModify_ag (modified v) ((f (core k s) (accesses e k v s (core k s)).1).1,
    (accesses e k v s (core k s)).2 ++ (f (core k s) (accesses e k v s (core k s)).1).2)
  rw [coreExec, hv]
  dsimp only
  rw [core_of_cores (touches_stick.kept (·.cores) .cores), core_setCore, ← accesses, modifiedAg, hag]
  exact loopStep_other (hloop _ (accesses_accessed e k v s (core k s)))

theorem coreExec_other {ticks : Nat} {f : CoreOp} (hj : j ≠ k) (s : State) : core j (coreExec e ticks k f s) = core j s := by
  rw [coreExec]
  dsimp only
  rw [core_of_cores (touches_stick.kept (·.cores) .cores), core_setCore_ne _ hj]

theorem leaves_coreExec {o ticks : Nat} {f : CoreOp} (h : o ≠ oCoreStatus k) (s : State) : Leaves o s (coreExec e ticks k f s) :=
  touches_setCore.leaves.trans (leaves_stick h _ _)

/-- An instruction that goes on at `pc`, whose operation leaves `P` and agrees with `c'` (R228). -/
theorem coreDone_coreExec {pc ticks : Nat} {f : CoreOp} (hv : coreWord (core k s) = v)
    (hloop : ∀ x, Accessed (core k s) x → NoLoopEnds (core k s).pc (f (core k s) x).1)
    (hpc : ∀ x, Accessed (core k s) x → (f (core k s) x).1.pc = pc)
    (hP : ∀ x ag y, Accessed (core k s) x → P { (f (core k s) x).1 with ag := ag, nextAt := y })
    (hc : ∀ y, { (f (core k s) { core k s with stored := [] }).1 with nextAt := y } = { c' with pc := pc, nextAt := y, stored := [] }) :
    CoreDone k v pc ticks P c' s (coreExec (core k s).nextAt ticks k f s) := by
  have hcore := core_coreExec (e := (core k s).nextAt) (ticks := ticks) hv hloop
  have hx := accesses_accessed (core k s).nextAt k v s (core k s)
  refine ⟨touches_coreExec.frame, fun j hj => coreExec_other hj s, fun o ho => (leaves_coreExec ho s).getR, ?_, ?_, ?_, fun h => ?_⟩
  · rw [hcore]
    exact hpc _ hx
  · rw [hcore]
  · rw [hcore]
    exact hP _ _ _ hx
  · obtain ⟨h0, h1, hpm0, hpm1⟩ := h
    rw [hcore, modifiedAg, modified_none hpm0 hpm1, List.foldl_nil, accesses_none h0 h1, ← hc]

/-- Without accesses and without sticky bits an instruction changes its core alone. -/
theorem coreExec_noAccess {ticks : Nat} {f : CoreOp} (hv : coreWord (core k s) = v) (h : NoAccess v)
    (hbits : (f (core k s) { core k s with stored := [] }).2 = [])
    (hloop : NoLoopEnds (core k s).pc (f (core k s) { core k s with stored := [] }).1) :
    coreExec e ticks k f s = setCore k { (f (core k s) { core k s with stored := [] }).1 with nextAt := plus e ticks } s := by
  obtain ⟨h0, h1, hpm0, hpm1⟩ := h
  rw [coreExec, hv, portAccess_none h0, portAccess_none h1, modified_none hpm0 hpm1]
  dsimp only [List.foldl]
  rw [hbits, loopStep_other]
  · rfl
  · exact hloop

/-! ### Rows of the instructions -/

theorem coreReady_of_issues (h : CoreIssues k v s) : coreReady k s = true := by
  obtain ⟨hk, hlife, hst, hdue, -⟩ := h
  have hruns : coresRun s = true := by rcases hlife with h | h <;> simp [coresRun, h]
  simp [coreReady, hk, hruns, hst, hdue]

theorem coreWord_of_issues (h : CoreIssues k v s) : coreWord (core k s) = v := h.2.2.2.2.2.1

theorem noLoopEnds_of_issues (h : CoreIssues k v s) : NoLoopEnds (core k s).pc (core k s) := h.2.2.2.2.2.2.2

/-- The row of the opcode that stands at the PC acts. -/
theorem coreRow_acts {op : Nat} {okField : BitVec 80 → Bool} {act : Tick → BitVec 80 → State → State} (h : CoreIssues k v s)
    (hop : cf v 79 72 = op) (hok : okField v = true) : coreRow op k okField act s = act (core k s).nextAt v s := by
  have hready := coreReady_of_issues h
  obtain ⟨-, -, -, -, hpc, hv, hports, -⟩ := h
  have hv : coreWord (core k s) = v := hv
  simp [coreRow, hready, hv, hop, hports, hok, Nat.not_le.2 hpc]

/-- A row that completes in one tick and goes on at the next address. -/
theorem simpleRow_done {op : Nat} {okField : BitVec 80 → Bool} {f : BitVec 80 → CoreOp} (h : CoreIssues k v s)
    (hop : cf v 79 72 = op) (hok : okField v = true)
    (hkeeps : ∀ x, Accessed (core k s) x → (f v (core k s) x).1.pc = (core k s).pc ∧ (f v (core k s) x).1.loops = (core k s).loops)
    (hP : ∀ x ag pc y, Accessed (core k s) x → P { (f v (core k s) x).1 with pc := pc, ag := ag, nextAt := y })
    (hc : ∀ pc y, { (f v (core k s) { core k s with stored := [] }).1 with pc := pc, nextAt := y } =
      { c' with pc := pc, nextAt := y, stored := [] }) :
    CoreDone k v ((core k s).pc + 1) 1 P c' s (simpleRow op k okField f s) := by
  rw [simpleRow, coreRow_acts h hop hok]
  refine coreDone_coreExec (coreWord_of_issues h) (fun x hx => ?_) (fun x hx => ?_) (fun x ag y hx => hP x ag _ y hx) (fun y => ?_)
  · have hloops := noLoopEnds_of_issues h
    rw [NoLoopEnds, ← (hkeeps x hx).2] at hloops
    exact hloops
  · exact congrArg (· + 1) (hkeeps x hx).1
  · have hpc : (f v (core k s) { core k s with stored := [] }).1.pc + 1 = (core k s).pc + 1 :=
      congrArg (· + 1) (hkeeps _ ⟨_, _, _, _, rfl⟩).1
    exact hpc ▸ hc ((core k s).pc + 1) y

/-! ### The arithmetic of a core -/

/-- OPA or OPB on an accumulator (R231). -/
def macAcc (o : Nat) (a : BitVec 88) (p : Int) : BitVec 88 :=
  match o with
  | 1 => BitVec.ofInt 88 p
  | 2 => a + BitVec.ofInt 88 p
  | 3 => a - BitVec.ofInt 88 p
  | _ => a

theorem macApply_fst (o : Nat) (a : BitVec 88) (p : Int) : (macApply o a p).1 = macAcc o a p := by
  match o with
  | 0 => rfl
  | 1 => rfl
  | 2 => exact (BitVec.ofInt_add _ _).trans (by rw [BitVec.ofInt_toInt]; rfl)
  | 3 =>
    refine (congrArg (BitVec.ofInt 88) (Int.sub_eq_add_neg (a := a.toInt) (b := p))).trans ?_
    rw [BitVec.ofInt_add, BitVec.ofInt_neg, BitVec.ofInt_toInt, ← BitVec.sub_eq_add_neg]
    rfl
  | _ + 4 => rfl

theorem accessed_keeps {x : Core} (h : Accessed c0 x) : x.pc = c0.pc ∧ x.loops = c0.loops ∧ x.acc0 = c0.acc0 ∧ x.acc1 = c0.acc1 ∧ x.ag = c0.ag := by
  obtain ⟨_, _, _, _, rfl⟩ := h
  exact ⟨rfl, rfl, rfl, rfl, rfl⟩

theorem coreNop_done (h : CoreIssues k v s) (hop : cf v 79 72 = 0x01) :
    CoreDone k v ((core k s).pc + 1) 1 (fun _ => True) (core k s) s (coreNopRow k s) :=
  simpleRow_done h hop rfl (fun _ hx => ⟨(accessed_keeps hx).1, (accessed_keeps hx).2.1⟩) (fun _ _ _ _ _ => trivial) fun _ _ => rfl

theorem coreMac_done (h : CoreIssues k v s) (hop : cf v 79 72 = 0x02) :
    CoreDone k v ((core k s).pc + 1) 1
      (fun c' => c'.acc0 = macAcc (cf v 71 70) (core k s).acc0 (macProduct (partOf (cf v 64 63) (coreD (core k s) (cf v 67 65)))
          (partOf (cf v 59 58) (coreD (core k s) (cf v 62 60)))) ∧
        c'.acc1 = macAcc (cf v 69 68) (core k s).acc1 (macProduct (partOf (cf v 54 53) (coreD (core k s) (cf v 57 55)))
          (partOf (cf v 49 48) (coreD (core k s) (cf v 52 50)))))
      { core k s with
        acc0 := macAcc (cf v 71 70) (core k s).acc0 (macProduct (partOf (cf v 64 63) (coreD (core k s) (cf v 67 65)))
          (partOf (cf v 59 58) (coreD (core k s) (cf v 62 60))))
        acc1 := macAcc (cf v 69 68) (core k s).acc1 (macProduct (partOf (cf v 54 53) (coreD (core k s) (cf v 57 55)))
          (partOf (cf v 49 48) (coreD (core k s) (cf v 52 50)))) } s (coreMacRow k s) := by
  simp only [← macApply_fst]
  exact simpleRow_done h hop rfl (fun _ hx => ⟨(accessed_keeps hx).1, (accessed_keeps hx).2.1⟩) (fun _ _ _ _ _ => ⟨rfl, rfl⟩) fun _ _ => rfl

/-- The second operand of ALU. -/
def aluOperand (v : BitVec 80) (c : Core) : W40 := if cf v 59 59 = 1 then wi (sx 19 (cf v 58 40)) else coreD c (cf v 62 60)

theorem coreAlu_done (h : CoreIssues k v s) (hop : cf v 79 72 = 0x03) {r : W40}
    (hr : aluResult (cf v 71 69) (coreD (core k s) (cf v 65 63)) (aluOperand v (core k s)) = r) :
    CoreDone k v ((core k s).pc + 1) 1 (fun c' => tget 0 (cf v 68 66) c'.d = r ∧ c'.z = decide (r = 0) ∧ c'.n = r.msb)
      { core k s with d := tset 0 (cf v 68 66) r (core k s).d, z := decide (r = 0), n := r.msb } s (coreAluRow k s) := by
  subst hr
  exact simpleRow_done h hop rfl (fun _ hx => ⟨(accessed_keeps hx).1, (accessed_keeps hx).2.1⟩)
    (fun _ _ _ _ _ => ⟨tget_tset_self _ _ _ _, rfl, rfl⟩) fun _ _ => rfl

theorem coreAcc_putAcc (i : Nat) (x : BitVec 88) (c : Core) : coreAcc (putAcc i x c) i = x := by
  unfold coreAcc putAcc
  split <;> rfl

/-- Writing an accumulator leaves the rest of the core. -/
theorem putAcc_keeps (i : Nat) (x : BitVec 88) (c : Core) : (putAcc i x c).pc = c.pc ∧ (putAcc i x c).loops = c.loops := by
  unfold putAcc
  split <;> exact ⟨rfl, rfl⟩

theorem coreAcc_done (h : CoreIssues k v s) (hop : cf v 79 72 = 0x04) (hfn : cf v 71 69 ≠ 7) {i : Nat} {x : BitVec 88} {w0 : Bool}
    (hr : accResult v (core k s) = (i, x, w0)) :
    CoreDone k v ((core k s).pc + 1) 1 (fun c' => coreAcc c' i = x ∧ c'.z = decide (x = 0) ∧ c'.n = x.msb)
      (putAcc i x { core k s with z := decide (x = 0), n := x.msb }) s (coreAccRow k s) := by
  have hop4 (y : Core) : (opAcc v (core k s) y).1 = { putAcc i x y with z := zAcc x, n := nAcc x } := by
    simp only [opAcc, hr]
  refine simpleRow_done h hop (by simpa using hfn) (fun y hy => ?_) (fun y _ _ _ _ => ?_) (fun _ _ => ?_)
  · rw [hop4]
    obtain ⟨hpc, hloops⟩ := putAcc_keeps i x y
    obtain ⟨hypc, hyloops, -⟩ := accessed_keeps hy
    exact ⟨hpc.trans hypc, hloops.trans hyloops⟩
  · rw [hop4]
    exact ⟨coreAcc_putAcc i x y, rfl, rfl⟩
  · rw [hop4]
    unfold putAcc
    split <;> rfl

/-- NORM with its exponent, where it is asked for (R233). -/
theorem coreNorm_done (h : CoreIssues k v s) (hop : cf v 79 72 = 0x05) {a : BitVec 88} (ha : coreAcc (core k s) (cf v 71 71) = a) :
    CoreDone k v ((core k s).pc + 1) 1 (fun c' => coreAcc c' (cf v 71 71) = accNorm a ∧
        c'.z = decide (accNorm a = 0) ∧ c'.n = (accNorm a).msb ∧
        (cf v 67 67 = 1 → tget 0 (cf v 70 68) c'.d = BitVec.ofInt 40 (accExp a)))
      (putAcc (cf v 71 71) (accNorm a) { core k s with
        z := decide (accNorm a = 0), n := (accNorm a).msb,
        d := if cf v 67 67 = 1 then tset 0 (cf v 70 68) (BitVec.ofInt 40 (accExp a)) (core k s).d else (core k s).d })
      s (coreNormRow k s) := by
  have hopn (y : Core) : (opNorm v (core k s) y).1 = putAcc (cf v 71 71) (accNorm a) { y with
      z := decide (accNorm a = 0), n := (accNorm a).msb,
      d := if cf v 67 67 = 1 then tset 0 (cf v 70 68) (BitVec.ofInt 40 (accExp a)) y.d else y.d } := by
    simp only [opNorm, ha]
    unfold putAcc putD
    split <;> split <;> rfl
  refine simpleRow_done h hop rfl (fun y hy => ?_) (fun y ag pc z _ => ?_) (fun _ _ => ?_)
  · rw [hopn]
    obtain ⟨hpc, hloops⟩ := putAcc_keeps (cf v 71 71) (accNorm a) { y with
      z := decide (accNorm a = 0), n := (accNorm a).msb,
      d := if cf v 67 67 = 1 then tset 0 (cf v 70 68) (BitVec.ofInt 40 (accExp a)) y.d else y.d }
    obtain ⟨hypc, hyloops, -⟩ := accessed_keeps hy
    exact ⟨hpc.trans hypc, hloops.trans hyloops⟩
  · rw [hopn]
    refine ⟨coreAcc_putAcc _ _ _, ?_, ?_, fun hexp => ?_⟩
    · unfold putAcc
      split <;> rfl
    · unfold putAcc
      split <;> rfl
    · unfold putAcc
      rw [if_pos hexp]
      split <;> exact tget_tset_self _ _ _ _
  · rw [hopn]
    unfold putAcc
    split <;> rfl

theorem coreExp_done (h : CoreIssues k v s) (hop : cf v 79 72 = 0x06) {a : BitVec 88} (ha : coreAcc (core k s) (cf v 71 71) = a) :
    CoreDone k v ((core k s).pc + 1) 1 (fun c' => tget 0 (cf v 70 68) c'.d = BitVec.ofInt 40 (accExp a) ∧ c'.acc0 = (core k s).acc0 ∧
        c'.acc1 = (core k s).acc1)
      { core k s with d := tset 0 (cf v 70 68) (BitVec.ofInt 40 (accExp a)) (core k s).d, z := decide (a = 0), n := a.msb }
      s (coreExpRow k s) := by
  subst ha
  exact simpleRow_done h hop rfl (fun _ hx => ⟨(accessed_keeps hx).1, (accessed_keeps hx).2.1⟩)
    (fun _ _ _ _ hx => ⟨tget_tset_self _ _ _ _, (accessed_keeps hx).2.2.1, (accessed_keeps hx).2.2.2.1⟩) fun _ _ => rfl

theorem cf_low (v : BitVec 80) : cf v 67 40 % 2 ^ 12 = cf v 51 40 := Nat.mod_mod_of_dvd _ (Nat.pow_dvd_pow 2 (by decide))

/-- The word that LDI writes (R235). -/
def ldiWord (v : BitVec 80) (c : Core) : W40 :=
  if cf v 68 68 = 0 then wi (sx 28 (cf v 67 40)) else setFld (coreD c (cf v 71 69)) 39 28 (cf v 51 40)

theorem coreLdi_done (h : CoreIssues k v s) (hop : cf v 79 72 = 0x07) :
    CoreDone k v ((core k s).pc + 1) 1 (fun c' => tget 0 (cf v 71 69) c'.d = ldiWord v (core k s))
      { core k s with d := tset 0 (cf v 71 69) (ldiWord v (core k s)) (core k s).d } s (coreLdiRow k s) := by
  have hopl (y : Core) : (opLdi v (core k s) y).1 = putD (cf v 71 69) (ldiWord v (core k s)) y := by
    simp only [opLdi, cf_low, ldiWord]
  refine simpleRow_done h hop rfl (fun y hy => ?_) (fun y ag pc z _ => ?_) (fun _ _ => ?_)
  · rw [hopl]
    exact ⟨(accessed_keeps hy).1, (accessed_keeps hy).2.1⟩
  · rw [hopl]
    exact tget_tset_self _ _ _ _
  · rw [hopl]
    rfl

/-- An address generator with the field that SETAG names set (R234). -/
def agSet (f x : Nat) (a : AG) : AG :=
  match f with
  | 0 => { a with ptr := x % 2 ^ 14 }
  | 1 => { a with base := x % 2 ^ 14 }
  | 2 => { a with len := x % 2 ^ 15 }
  | _ => { a with mod := sx 15 x }

theorem setag_done (h : CoreIssues k v s) (hop : cf v 79 72 = 0x08)
    (hlen : cf v 68 67 = 2 → setagValue v (core k s) % 2 ^ 15 ≤ 16384) :
    CoreDone k v ((core k s).pc + 1) 1 (fun _ => True)
      (putAg (cf v 71 69) (agSet (cf v 68 67) (setagValue v (core k s)) (coreAg (core k s) (cf v 71 69))) (core k s)) s
      (setagRow k s) := by
  have hok : ¬ (cf v 68 67 = 2 ∧ 16384 < setagValue v (core k s) % 2 ^ 15) := fun ⟨h2, hlong⟩ => Nat.not_lt.2 (hlen h2) hlong
  rw [setagRow, coreRow_acts h hop rfl, if_neg hok]
  refine coreDone_coreExec (coreWord_of_issues h) (fun x hx => ?_) (fun x hx => ?_) (fun _ _ _ _ => trivial) (fun _ => rfl)
  · have hloops := noLoopEnds_of_issues h
    rw [NoLoopEnds, ← (accessed_keeps hx).2.1] at hloops
    exact hloops
  · exact congrArg (· + 1) (accessed_keeps hx).1

/-- R228, R231-R235, Table 11.6: the arithmetic of a core.
Settles O22: it holds. -/
theorem coreArithmetic : Obligations.CoreArithmetic := by
  intro k v s h c d done op
  refine ⟨fun hop => ?_, fun hop => ?_, fun hop => ?_, fun hop hfn i x w0 hr => ?_, fun hop => ?_, fun hop => ?_, fun hop => ?_,
    fun hop => ?_⟩
  · exact .of_eq rfl (coreNop_done h hop)
  · exact .of_eq rfl (coreMac_done h hop)
  · exact .of_eq rfl (coreAlu_done h hop rfl)
  · exact .of_eq rfl (coreAcc_done h hop hfn hr)
  · exact .of_eq rfl (coreNorm_done h hop rfl)
  · exact .of_eq rfl (coreExp_done h hop rfl)
  · exact .of_eq rfl (coreLdi_done h hop)
  · exact fun hlen => .of_eq rfl (setag_done h hop hlen)

end Sys2Proof.Machine
end

section
/-! PROOF. The bank accesses of a core (O23). -/

set_option Elab.async false

namespace Sys2Proof.Machine

variable {s t u : State} {k j n a : Nat} {v : BitVec 80} {e : Tick} {c c0 c' : Core}

/-! ### Bank accesses where no tap has written -/

theorem tapOver_none (h : c.taps = []) : tapOver e j a k c s = none := by
  have htap (i : Nat) : (coreTap c i).wrote = none := by rw [coreTap, h]; rfl
  rw [tapOver, List.findSome?_eq_none_iff]
  intro p hp
  obtain ⟨i, -, rfl⟩ := List.mem_map.1 hp
  rw [htap]

/-- The address that port `j` accesses. -/
def portAddr (v : BitVec 80) (j : Nat) (c : Core) : Nat := (coreAg c (portField v j).ag).ptr

section
variable (hnone : c0.taps = []) (x : Core × List Nat)
include hnone

theorem portAccess_load (h : (portField v j).kind = 1) :
    (portAccess e k j v s c0 x).1 = putD (portField v j).reg (bank c0 j (portAddr v j c0)) x.1 := by
  simp only [portAccess, h, bankAt, tapOver_none hnone]
  rfl

theorem portAccess_store (h : (portField v j).kind = 2) :
    (portAccess e k j v s c0 x).1 = { putBank j (portAddr v j c0) (coreD c0 (portField v j).reg) x.1 with
      stored := (e, j, portAddr v j c0) :: x.1.stored } := by
  simp only [portAccess, h, tapOver_none hnone]
  rfl

theorem portAccess_store_acc0 (h : (portField v j).kind = 3) :
    (portAccess e k j v s c0 x).1 = { putBank j (portAddr v j c0) (accWord c0.acc0) x.1 with
      stored := (e, j, portAddr v j c0) :: x.1.stored } := by
  simp only [portAccess, h, tapOver_none hnone]
  rfl

theorem portAccess_store_acc1 (h : (portField v j).kind = 4) :
    (portAccess e k j v s c0 x).1 = { putBank j (portAddr v j c0) (accWord c0.acc1) x.1 with
      stored := (e, j, portAddr v j c0) :: x.1.stored } := by
  simp only [portAccess, h, tapOver_none hnone]
  rfl

end

/-- An access of port 0 leaves bank 1. -/
theorem portAccess_zero_db1 (x : Core × List Nat) : (portAccess e k 0 v s c0 x).1.db1 = x.1.db1 := by
  have hstore (val : W40) (bits : List Nat) : (match tapOver e 0 (coreAg c0 (portField v 0).ag).ptr k c0 s with
      | some _ => (x.1, x.2 ++ bits ++ [9])
      | none => ({ putBank 0 (coreAg c0 (portField v 0).ag).ptr val x.1 with
          stored := (e, 0, (coreAg c0 (portField v 0).ag).ptr) :: x.1.stored }, x.2 ++ bits)).1.db1 = x.1.db1 := by
    split <;> rfl
  unfold portAccess
  extract_lets p a store
  split
  · rfl
  · exact hstore _ _
  · exact hstore _ _
  · exact hstore _ _
  · rfl

/-! ### Post-modify -/

theorem modified_port0 (h0 : (portField v 0).pm = true) (h1 : (portField v 1).pm = false) : modified v = [(portField v 0).ag] := by
  simp [modified, h0, h1]

/-- PTR moves by MOD modulo LEN from BASE (R235). -/
theorem postModify_ptr {g : Nat} {x : Core × List Nat} {b : AG} (hb : coreAg x.1 g = b) (hlen : b.len ≠ 0) (hbase : b.base < 16384)
    (hle : b.base ≤ b.ptr) (hptr : b.ptr < 16384) :
    (coreAg (postModify g x).1 g).ptr = (b.base + (((b.ptr - b.base : Nat) : Int) + b.mod).emod b.len |>.toNat) % 16384 := by
  have hoff : (b.ptr + 16384 - b.base % 16384) % 16384 = b.ptr - b.base := by omega
  have hpos : (0 : Int) ≤ (((b.ptr - b.base : Nat) : Int) + b.mod).emod b.len := Int.emod_nonneg _ (by exact_mod_cast hlen)
  subst hb
  have hadd (b : Nat) {i : Int} (hi : 0 ≤ i) : b + i.toNat = ((b : Int) + i).toNat := by omega
  have hset : coreAg (postModify g x).1 g = { coreAg x.1 g with
      ptr := ((coreAg x.1 g).base + ((((coreAg x.1 g).ptr - (coreAg x.1 g).base : Nat) : Int) + (coreAg x.1 g).mod).emod
        (coreAg x.1 g).len |>.toNat) % 16384 } := by
    unfold postModify
    dsimp only
    rw [if_neg hlen, hoff]
    refine (tget_tset_self _ _ _ _).trans ?_
    congr 2
    exact hadd _ hpos
  rw [hset]

/-! ### NOP with its accesses -/

/-- NOP with no access of port 1: what its access of port 0 and its post-modify leave. -/
theorem core_coreNopRow (h : CoreIssues k v s) (hop : cf v 79 72 = 0x01) (hkind : (portField v 1).kind = 0) :
    core k (coreNopRow k s) = { nextPc (portAccess (core k s).nextAt k 0 v s (core k s) ({ core k s with stored := [] }, [])).1 with
      ag := modifiedAg v (nextPc (portAccess (core k s).nextAt k 0 v s (core k s) ({ core k s with stored := [] }, [])).1,
        (portAccess (core k s).nextAt k 0 v s (core k s) ({ core k s with stored := [] }, [])).2 ++ []),
      nextAt := plus (core k s).nextAt 1 } := by
  rw [coreNopRow, simpleRow, coreRow_acts h hop rfl, core_coreExec (coreWord_of_issues h), accesses, portAccess_none hkind]
  intro x hx
  have hloops := noLoopEnds_of_issues h
  rw [NoLoopEnds, ← (accessed_keeps hx).2.1] at hloops
  exact hloops

/-- R228-R230, R232, R235: the accesses of port 0, stated on NOP.
Settles O23: it holds. -/
theorem coreBankAccesses : Obligations.CoreBankAccesses := by
  intro k v s h hop htaps c p a hkind hpm
  have hcore := core_coreNopRow h hop hkind
  have hkeeps := accessed_keeps (portAccess_accessed (core k s).nextAt k 0 v s (core k s) ({ core k s with stored := [] }, []))
  refine .of_eq rfl ?_
  rw [hcore]
  refine ⟨fun hp => ?_, fun hp => ?_, fun hp => ?_, fun hp => ?_, portAccess_zero_db1 _, fun hp g hg hlen hbase hle hptr => ?_, fun hp => ?_⟩
  · simp only [nextPc, portAccess_load htaps _ hp]
    exact ⟨tget_tset_self _ _ _ _, rfl⟩
  · simp only [nextPc, portAccess_store htaps _ hp]
    rfl
  · simp only [nextPc, portAccess_store_acc0 htaps _ hp]
    rfl
  · simp only [nextPc, portAccess_store_acc1 htaps _ hp]
    rfl
  · subst hg
    simp only [modifiedAg, modified_port0 hp hpm, List.foldl_cons, List.foldl_nil]
    refine postModify_ptr ?_ hlen hbase hle hptr
    exact congrArg (tget {} (portField v 0).ag) hkeeps.2.2.2.2
  · simp only [modifiedAg, modified_none hp hpm, List.foldl_nil]
    exact hkeeps.2.2.2.2

end Sys2Proof.Machine
end

section
/-! PROOF. The flow of a signal core (O24). -/

set_option Elab.async false

namespace Sys2Proof.Machine

variable {s t u : State} {k j n a : Nat} {v : BitVec 80} {e x : Tick} {c c0 c' : Core}

/-! ### Branches and loops -/

theorem accessed_stays (h : CoreIssues k v s) {y z : Core} (hy : Accessed (core k s) y) (hz : z.loops = y.loops) :
    NoLoopEnds (core k s).pc z := by
  have hloops := noLoopEnds_of_issues h
  rw [NoLoopEnds, ← (accessed_keeps hy).2.1, ← hz] at hloops
  exact hloops

/-- An instruction that only goes on at another address. -/
theorem coreDone_goesTo {pc ticks : Nat} (h : CoreIssues k v s) :
    CoreDone k v pc ticks (fun _ => True) (core k s) s
      (coreExec (core k s).nextAt ticks k (fun _ c => ({ c with pc := pc }, [])) s) :=
  coreDone_coreExec (coreWord_of_issues h) (fun _ hx => accessed_stays h hx rfl) (fun _ _ => rfl) (fun _ _ _ _ => trivial) (fun _ => rfl)

theorem coreDone_goesOn (h : CoreIssues k v s) {ticks : Nat} :
    CoreDone k v ((core k s).pc + 1) ticks (fun _ => True) (core k s) s
      (coreExec (core k s).nextAt ticks k (fun _ c => (nextPc c, [])) s) :=
  coreDone_coreExec (coreWord_of_issues h) (fun _ hx => accessed_stays h hx rfl) (fun _ hx => congrArg (· + 1) (accessed_keeps hx).1)
    (fun _ _ _ _ => trivial) (fun _ => rfl)

theorem coreBr_done (h : CoreIssues k v s) (hop : cf v 79 72 = 0x09) (hcond : cf v 71 68 < 7) {taken : Bool}
    (ht : coreCond (cf v 71 68) (core k s) = taken) :
    CoreDone k v (if taken then cf v 52 40 else (core k s).pc + 1) (if taken then 2 else 1) (fun _ => True) (core k s) s
      (coreBrRow k s) := by
  rw [coreBrRow, coreRow_acts h hop (by simpa using hcond), ht]
  cases taken
  · exact coreDone_goesOn h
  · exact coreDone_goesTo h

/-- The count of LOOP (R247). -/
def loopCountOf (v : BitVec 80) (c : Core) : Nat := if cf v 71 71 = 1 then (coreD c (cf v 70 68)).toNat else cf v 67 53

theorem coreLoop_skips (h : CoreIssues k v s) (hop : cf v 79 72 = 0x0A) (hfin : (core k s).pc + 1 ≤ cf v 52 40)
    (hn : loopCountOf v (core k s) = 0) :
    CoreDone k v (cf v 52 40 + 1) 1 (fun _ => True) (core k s) s (coreLoopRow k s) := by
  have hrow : coreLoopRow k s = coreExec (core k s).nextAt 1 k (fun _ c => ({ c with pc := cf v 52 40 + 1 }, [])) s := by
    rw [coreLoopRow, coreRow_acts h hop (by simpa using hfin)]
    exact if_pos hn
  rw [hrow]
  exact coreDone_goesTo h

theorem coreLoop_enters (h : CoreIssues k v s) (hop : cf v 79 72 = 0x0A) (hfin : (core k s).pc + 1 ≤ cf v 52 40)
    (hn : loopCountOf v (core k s) ≠ 0) (hroom : (core k s).loops.length < 4) :
    CoreDone k v ((core k s).pc + 1) 1 (fun _ => True)
      { core k s with loops := ⟨(core k s).pc + 1, cf v 52 40, loopCountOf v (core k s)⟩ :: (core k s).loops } s (coreLoopRow k s) := by
  have hrow : coreLoopRow k s = coreExec (core k s).nextAt 1 k (fun _ c =>
      (nextPc { c with loops := ⟨(core k s).pc + 1, cf v 52 40, loopCountOf v (core k s)⟩ :: c.loops }, [])) s := by
    rw [coreLoopRow, coreRow_acts h hop (by simpa using hfin)]
    exact (if_neg hn).trans (if_neg (Nat.not_le.2 hroom))
  rw [hrow]
  refine coreDone_coreExec (coreWord_of_issues h) (fun _ _ l hl => ?_) (fun _ hx => congrArg (· + 1) (accessed_keeps hx).1)
    (fun _ _ _ _ => trivial) (fun _ => rfl)
  obtain rfl : _ = l := by simpa [nextPc] using hl
  exact fun hpc : cf v 52 40 = (core k s).pc => by omega

/-! ### Taps, posts and events -/

theorem tapAt_quiet {y : Tap} (h : y.wrote = none) : tapAt e y = y := by rw [tapAt, h]

/-- A tap whose flags have been read. -/
def flagless (y : Tap) : Tap := { y with flags := ⟨false, false, false, false, false⟩, oldFlags := ⟨false, false, false, false, false⟩ }

theorem tapClear_quiet {y : Tap} (h : y.wrote = none) : tapClear e y = flagless y := by
  unfold tapClear flagless
  split
  · next hw => exact absurd (h.symm.trans hw) (by simp)
  · rfl

/-- The flags of a tap as RDTAP reads them. -/
def flagWord (f : Flags) : Nat := b2n f.ovr + 2 * b2n f.cal + 4 * b2n f.deg + 8 * b2n f.mp + 16 * b2n f.trn

/-- What RDTAP reads of a tap in which nothing is under way (R237). -/
def tapWord (what : Nat) (y : Tap) : W40 :=
  match what with
  | 0 => w y.count
  | 1 => y.stamp
  | _ => w (flagWord y.flags)

/-- RDTAP at tick `e`. -/
def opRdtap (e : Tick) (v : BitVec 80) : CoreOp := fun c0 c =>
  let i := cf v 71 70
  let x := tapAt e (coreTap c0 i)
  let f := x.flags
  let bits := b2n f.ovr + 2 * b2n f.cal + 4 * b2n f.deg + 8 * b2n f.mp + 16 * b2n f.trn
  let val : W40 := match cf v 66 65 with
    | 0 => w x.count
    | 1 => x.stamp
    | _ => w bits
  let c := putD (cf v 69 67) val (nextPc c)
  (if cf v 66 65 = 2 then putTap i (tapClear e (coreTap c i)) c else c, [])

theorem rdtapRow_eq (k : Nat) (s : State) :
    rdtapRow k s = coreRow 0x0C k (fun v => cf v 66 65 != 3) (fun e v s => coreExec e 1 k (opRdtap e v) s) s := rfl

theorem tapWord_eq (what : Nat) (y : Tap) : (match what with
    | 0 => w y.count
    | 1 => y.stamp
    | _ => w (b2n y.flags.ovr + 2 * b2n y.flags.cal + 4 * b2n y.flags.deg + 8 * b2n y.flags.mp + 16 * b2n y.flags.trn)) = tapWord what y := by
  match what with
  | 0 => rfl
  | 1 => rfl
  | _ + 2 => rfl

/-- The core after RDTAP, where nothing is under way at the tap. -/
def tapRead (v : BitVec 80) (y : Tap) (c : Core) : Core :=
  let c := putD (cf v 69 67) (tapWord (cf v 66 65) y) (nextPc c)
  if cf v 66 65 = 2 then putTap (cf v 71 70) (flagless y) c else c

theorem opRdtap_quiet {x : Core} (hx : Accessed c0 x) (hquiet : (coreTap c0 (cf v 71 70)).wrote = none) :
    (opRdtap e v c0 x).1 = tapRead v (coreTap c0 (cf v 71 70)) x := by
  obtain ⟨d, db0, db1, st, rfl⟩ := hx
  have hclear : tapClear e (coreTap c0 (cf v 71 70)) = flagless (coreTap c0 (cf v 71 70)) := tapClear_quiet hquiet
  unfold opRdtap tapRead
  dsimp only
  rw [tapAt_quiet hquiet, tapWord_eq, ← hclear]
  rfl

theorem tapRead_keeps (v : BitVec 80) (y : Tap) (c : Core) : (tapRead v y c).pc = c.pc + 1 ∧ (tapRead v y c).loops = c.loops ∧
    tget 0 (cf v 69 67) (tapRead v y c).d = tapWord (cf v 66 65) y := by
  unfold tapRead
  dsimp only
  split <;> exact ⟨rfl, rfl, tget_tset_self _ _ _ _⟩

theorem rdtap_done (h : CoreIssues k v s) (hop : cf v 79 72 = 0x0C) (hwhat : cf v 66 65 ≠ 3) {P : Core → Prop}
    (hquiet : (coreTap (core k s) (cf v 71 70)).wrote = none)
    (hP : ∀ x ag y, P { tapRead v (coreTap (core k s) (cf v 71 70)) x with ag := ag, nextAt := y })
    (hc : ∀ y, { tapRead v (coreTap (core k s) (cf v 71 70)) { core k s with stored := [] } with nextAt := y } =
      { c' with pc := (core k s).pc + 1, nextAt := y, stored := [] }) :
    CoreDone k v ((core k s).pc + 1) 1 P c' s (rdtapRow k s) := by
  rw [rdtapRow_eq, coreRow_acts h hop (by simpa using hwhat)]
  refine coreDone_coreExec (coreWord_of_issues h) (fun x hx => ?_) (fun x hx => ?_) (fun x ag y hx => ?_) (fun y => ?_)
  · rw [opRdtap_quiet hx hquiet]
    exact accessed_stays h hx (tapRead_keeps v _ x).2.1
  · rw [opRdtap_quiet hx hquiet, (tapRead_keeps v _ x).1, (accessed_keeps hx).1]
  · rw [opRdtap_quiet hx hquiet]
    exact hP x ag y
  · rw [opRdtap_quiet ⟨_, _, _, _, rfl⟩ hquiet]
    exact hc y

theorem rdtap_reads (h : CoreIssues k v s) (hop : cf v 79 72 = 0x0C) (hwhat : cf v 66 65 < 2)
    (hquiet : (coreTap (core k s) (cf v 71 70)).wrote = none) :
    CoreDone k v ((core k s).pc + 1) 1 (fun c' => tget 0 (cf v 69 67) c'.d = tapWord (cf v 66 65) (coreTap (core k s) (cf v 71 70)))
      { core k s with d := tset 0 (cf v 69 67) (tapWord (cf v 66 65) (coreTap (core k s) (cf v 71 70))) (core k s).d } s (rdtapRow k s) := by
  refine rdtap_done h hop (by omega) hquiet (fun x ag y => (tapRead_keeps v _ x).2.2) (fun y => ?_)
  have hread (c : Core) : tapRead v (coreTap (core k s) (cf v 71 70)) c =
      putD (cf v 69 67) (tapWord (cf v 66 65) (coreTap (core k s) (cf v 71 70))) (nextPc c) := if_neg (by omega)
  rw [hread]
  rfl

theorem rdtap_clears (h : CoreIssues k v s) (hop : cf v 79 72 = 0x0C) (hwhat : cf v 66 65 = 2)
    (hquiet : (coreTap (core k s) (cf v 71 70)).wrote = none) :
    CoreDone k v ((core k s).pc + 1) 1
      (fun c' => tget 0 (cf v 69 67) c'.d = w (flagWord (coreTap (core k s) (cf v 71 70)).flags) ∧
        (coreTap c' (cf v 71 70)).flags = ⟨false, false, false, false, false⟩)
      (putTap (cf v 71 70) (flagless (coreTap (core k s) (cf v 71 70)))
        (putD (cf v 69 67) (w (flagWord (coreTap (core k s) (cf v 71 70)).flags)) (core k s))) s (rdtapRow k s) := by
  have hread (c : Core) : tapRead v (coreTap (core k s) (cf v 71 70)) c = putTap (cf v 71 70) (flagless (coreTap (core k s) (cf v 71 70)))
      (putD (cf v 69 67) (w (flagWord (coreTap (core k s) (cf v 71 70)).flags)) (nextPc c)) := by
    unfold tapRead
    dsimp only
    rw [if_pos hwhat, hwhat]
    rfl
  refine rdtap_done h hop (by omega) hquiet (fun x ag y => ?_) (fun y => ?_)
  · rw [hread]
    exact ⟨tget_tset_self _ _ _ _, congrArg Tap.flags (tget_tset_self _ _ _ _)⟩
  · rw [hread]
    rfl

theorem coreEventRow_eq (h : CoreIssues k v s) (hop : cf v 79 72 = 0x0E) :
    coreEventRow k s = fireProd (640 * (k / 16) + 576 + 2 * (k % 16) + cf v 71 71) (plus (core k s).nextAt 1) 0
      (coreExec (core k s).nextAt 1 k (fun _ c => (nextPc c, [])) s) := by
  rw [coreEventRow, coreRow_acts h hop rfl]

theorem cf_one_lt (v : BitVec 80) (i : Nat) : cf v i i < 2 := by
  simpa [cf] using Nat.mod_lt (v.toNat >>> i) (Nat.two_pow_pos (i + 1 - i))

theorem fabricRuns_of_life (h : s.life = .safe ∨ s.life = .ready) : fabricRuns s = true := by
  rcases h with h | h <;> simp [fabricRuns, h]

/-- The events of the cores leave the control die at once (Table 15.1). -/
theorem onTileDie_core (hn : n < 2) : onTileDie (640 * (k / 16) + 576 + 2 * (k % 16) + n) = false := by
  have hr : (640 * (k / 16) + 576 + 2 * (k % 16) + n) % 640 = 576 + 2 * (k % 16) + n := by omega
  rw [onTileDie, hr]
  simp only [Bool.and_eq_false_iff, Bool.or_eq_false_iff, decide_eq_false_iff_not]
  omega

theorem fires_core (hruns : fabricRuns s = true) (hn : n < 2) (x : Tick) :
    (fireProd (640 * (k / 16) + 576 + 2 * (k % 16) + n) x 0 s).fabric.fires =
      s.fabric.fires ++ [⟨x, 0, 0, some (640 * (k / 16) + 576 + 2 * (k % 16) + n), false⟩] := by
  rw [fireProd, onTileDie_core hn, addFire, if_pos hruns]
  rfl

theorem coreEvent_completes (h : CoreIssues k v s) (hop : cf v 79 72 = 0x0E) : Completes (.coreEvent k) s (fun t =>
    t = { s with cores := t.cores, regs := t.regs, fabric := t.fabric } ∧
    t.fabric.fires = s.fabric.fires ++
      [⟨plus (core k s).nextAt 1, 0, 0, some (640 * (k / 16) + 576 + 2 * (k % 16) + cf v 71 71), false⟩] ∧
    (core k t).pc = (core k s).pc + 1) := by
  obtain ⟨-, -, -, hpc, -⟩ := coreDone_goesOn (ticks := 1) h
  have hexec := touches_coreExec (e := (core k s).nextAt) (ticks := 1) (k := k) (f := fun _ c => (nextPc c, [])) (s := s)
  have hruns : fabricRuns (coreExec (core k s).nextAt 1 k (fun _ c => (nextPc c, [])) s) = true := by
    rw [fabricRuns, hexec.kept (·.life) .life]
    exact fabricRuns_of_life h.2.1
  refine .of_touches (coreEventRow_eq h hop) ((touches_fireProd.after hexec).mono (L := [.cores, .regs, .fabric]))
    (fun _ h r => ⟨h.frame, r⟩) ⟨?_, ?_⟩
  · rw [fires_core hruns (cf_one_lt v 71), hexec.kept (·.fabric) .fabric]
  · rw [core_of_cores (touches_fireProd.kept (·.cores) .cores)]
    exact hpc

theorem coreHaltRow_halts (h : CoreIssues k v s) (hop : cf v 79 72 = 0x0F) :
    coreHaltRow k s = setCore k { nextPc (core k s) with st := .halted } s := by
  have hready := coreReady_of_issues h
  obtain ⟨-, -, -, -, hpc, hv, -⟩ := h
  have hv : coreWord (core k s) = v := hv
  simp [coreHaltRow, hready, hv, hop, Nat.not_le.2 hpc]

theorem setCore_only (k : Nat) (c : Core) (s : State) : OnlyCore k s (setCore k c s) :=
  ⟨rfl, fun _ hj => core_setCore_ne s hj c⟩

theorem coreUndefinedRow_faults (h : CoreIssues k v s) (hop : cf v 79 72 = 0 ∨ 0x0F < cf v 79 72) :
    coreUndefinedRow k s = coreFault 0 k s := by
  have hready := coreReady_of_issues h
  obtain ⟨-, -, -, -, hpc, hv, -⟩ := h
  have hv : coreWord (core k s) = v := hv
  simp [coreUndefinedRow, hready, hv, hop, Nat.not_le.2 hpc]

theorem coreFault_completes {i : Instr} {r : State} (hk : k < 16 * nTiles s) (hr : r = coreFault 0 k s) (hc : exec i s = .next r) :
    Completes i s (fun t => t = { s with log := t.log, cores := t.cores } ∧ (core k t).st = .faulted ∧
      Logged (0x5000 + k) 0x509 0 (BitVec.ofNat 40 (k * 2 ^ 20 + (core k s).pc)) s t ∧ ∀ j, j ≠ k → core j t = core j s) := by
  have hbound : k < 128 := by
    rw [nTiles] at hk
    split at hk <;> omega
  have hset := touches_setCore (k := k) (x := { core k s with st := .faulted, kind := 0, waitDl := none }) (s := s)
  refine .of_touches hr ((touches_record.after hset).mono (L := [.log, .cores])) (fun _ h r => ⟨h.frame, r⟩) ⟨?_, ?_, fun j hj => ?_⟩ hc
  · rw [coreFault, core_of_cores (touches_record.kept (·.cores) .cores), core_setCore]
  · exact (logged_record _ _ _ _ _ (by omega) (by decide) (by decide)).after hset
  · rw [coreFault, core_of_cores (touches_record.kept (·.cores) .cores), core_setCore_ne _ hj]

/-! ### POST -/

theorem ownIndex_core_lt (hk : k < 16 * nTiles s) (hn : n < 2) : ownIndex (768 + 2 * k + n) s = 1024 * devNum s + 768 + 2 * k + n ∧
    ownIndex (768 + 2 * k + n) s < 2 ^ 14 := by
  have hdev : devNum s < 16 := fld_lt _ 39 36
  have hbound : k < 128 := by
    rw [nTiles] at hk
    split at hk <;> omega
  rw [ownIndex]
  omega

/-- A word that POST has marked: below bit 20 its flags may change, its index, state, VALID and RECANT do not. -/
def Marked (i : Nat) (d word : W40) : Prop :=
  vIndex word = i ∧ vValid word = true ∧ vRecant word = false ∧ vState word = vState d ∧ fld word 10 0 = fld d 10 0

theorem marked_setBits {d : W40} {i : Nat} (hi : i < 2 ^ 14) :
    Marked i d (setBit (setBit (setFld d 39 26 i) 23 true) 21 false) := by
  refine ⟨?_, ?_, ?_, ?_, ?_⟩
  · rw [vIndex, fld_setBit_apart _ _ (by decide) (by decide), fld_setBit_apart _ _ (by decide) (by decide),
      fld_setFld_of_lt _ hi (by decide) (by decide)]
  · simp [vValid, bit_setBit]
  · simp [vRecant, bit_setBit]
  · rw [vState, fld_setBit_apart _ _ (by decide) (by decide), fld_setBit_apart _ _ (by decide) (by decide),
      fld_setFld_apart _ _ (by decide) (by decide) (by decide), vState]
  · rw [fld_setBit_apart _ _ (by decide) (by decide), fld_setBit_apart _ _ (by decide) (by decide),
      fld_setFld_apart _ _ (by decide) (by decide) (by decide)]

theorem Marked.setFlags {d word : W40} {i hi lo x : Nat} (h : Marked i d word) (hl : lo ≤ hi) (hh : hi < 21) (h11 : 10 < lo) :
    Marked i d (setFld word hi lo x) := by
  obtain ⟨hindex, hvalid, hrecant, hstate, hshot⟩ := h
  refine ⟨?_, ?_, ?_, ?_, ?_⟩
  · rwa [vIndex, fld_setFld_apart _ _ hl (by omega) (by omega)]
  · rwa [vValid, bit_setFld _ _ _ hl (by omega), if_neg (by omega)]
  · rwa [vRecant, bit_setFld _ _ _ hl (by omega), if_neg (by omega)]
  · rwa [vState, fld_setFld_apart _ _ hl (by omega) (by omega)]
  · rwa [fld_setFld_apart _ _ hl (by omega) (by omega)]

theorem Marked.ite {d a b : W40} {i : Nat} {p : Bool} (ha : Marked i d a) (hb : Marked i d b) :
    Marked i d (if p then a else b) := by
  cases p
  · exact hb
  · exact ha

theorem marked_postWord (hk : k < 16 * nTiles s) :
    Marked (1024 * devNum s + 768 + 2 * k + cf v 71 71) (coreD (core k s) (cf v 70 68)) (postWord v e k s) := by
  obtain ⟨hindex, hlt⟩ := ownIndex_core_lt hk (cf_one_lt v 71)
  have hbits := marked_setBits (d := coreD (core k s) (cf v 70 68)) (hindex ▸ hlt)
  rw [postWord, hindex]
  have hconf := Marked.ite (p := cf v 61 61 == 1 && ((tapAt e (coreTap (core k s) (cf v 66 65))).flags.cal ||
    (tapAt e (coreTap (core k s) (cf v 66 65))).flags.deg || (tapAt e (coreTap (core k s) (cf v 66 65))).flags.trn))
    (hbits.setFlags (hi := 18) (lo := 11) (x := 0) (by decide) (by decide) (by decide)) hbits
  exact .ite (hconf.setFlags (by decide) (by decide) (by decide)) hconf

/-- The verdict that POST puts on the bus. -/
def posted (v : BitVec 80) (k : Nat) (s : State) : State :=
  postVerdict (plus (core k s).nextAt 1) (postWord v (core k s).nextAt k s) (postRef v (core k s).nextAt k s)
    (coreExec (core k s).nextAt 1 k (fun _ c => (nextPc c, [])) s)

theorem touches_posted : Touches [.cores, .regs, .bus] s (posted v k s) :=
  (touches_postVerdict.after touches_coreExec).mono

/-- The record of the verdict of POST leaves only where EN of the core's results is set (R241). -/
def postRecord (v : BitVec 80) (k : Nat) (s t : State) : State :=
  resMake (plus (core k s).nextAt 1) (0x2000 + k) (fR (oCoreCtl k) 19 0 t) (tileDom (k / 16) t) (1024 * fR (oCoreCtl k) 25 20 t)
    [postRef v (core k s).nextAt k s, coreD (core k s) ((cf v 70 68 + 1) % 8), coreD (core k s) ((cf v 70 68 + 2) % 8),
      postWord v (core k s).nextAt k s] t

theorem postRow_eq (h : CoreIssues k v s) (hop : cf v 79 72 = 0x0D) : postRow k s =
    if bR (oCoreCtl k) 26 s then postRecord v k s (posted v k s) else posted v k s := by
  have hctl : bR (oCoreCtl k) 26 (posted v k s) = bR (oCoreCtl k) 26 s := by
    have hne : oCoreCtl k ≠ oCoreStatus k := by
      rw [oCoreCtl, oCoreStatus]
      omega
    rw [posted, bR_of_regs (touches_postVerdict.kept (·.regs) .regs), (leaves_coreExec hne s).bR]
  rw [postRow, coreRow_acts h hop rfl, ← hctl]
  rfl

theorem mem_postRecord : ∃ r ∈ (postRecord v k s t).gran.made, r.at_ = plus (core k s).nextAt 1 ∧ r.key = 0x2000 + k ∧
    r.words = [postRef v (core k s).nextAt k s, coreD (core k s) ((cf v 70 68 + 1) % 8),
      coreD (core k s) ((cf v 70 68 + 2) % 8), postWord v (core k s).nextAt k s] :=
  ⟨_, List.mem_append_right _ (List.mem_singleton.2 rfl), rfl, rfl, rfl⟩

theorem touches_postRecord : Touches [.made] t (postRecord v k s t) := touches_resMake

theorem postRow_cases (h : CoreIssues k v s) (hop : cf v 79 72 = 0x0D) :
    Touches [.made] (posted v k s) (postRow k s) ∧ (bR (oCoreCtl k) 26 s = true → postRow k s = postRecord v k s (posted v k s)) := by
  rw [postRow_eq h hop]
  split
  · exact ⟨touches_postRecord, fun _ => rfl⟩
  · next hoff => exact ⟨(Touches.refl _).mono, fun hon => absurd hon hoff⟩

theorem post_completes (h : CoreIssues k v s) (hop : cf v 79 72 = 0x0D) : Completes (.post k) s (fun t =>
    t = { s with cores := t.cores, regs := t.regs, bus := t.bus, gran := t.gran } ∧
    (∀ j, j ≠ k → core j t = core j s) ∧ (core k t).pc = (core k s).pc + 1 ∧ t.gran.mem = s.gran.mem ∧
    ∃ word ref, t.bus = s.bus ++ [{ at_ := plus (core k s).nextAt 1, word := word, ref := ref }] ∧
    vIndex word = 1024 * devNum s + 768 + 2 * k + cf v 71 71 ∧ vValid word = true ∧ vRecant word = false ∧
    vState word = vState (coreD (core k s) (cf v 70 68)) ∧ fld word 10 0 = fld (coreD (core k s) (cf v 70 68)) 10 0 ∧
    (cf v 67 67 = 1 → ref = coreD (core k s) (cf v 64 62)) ∧
    (cf v 67 67 = 0 → (coreTap (core k s) (cf v 66 65)).wrote = none → ref = (coreTap (core k s) (cf v 66 65)).stamp) ∧
    (bR (oCoreCtl k) 26 s = true → ∃ r ∈ t.gran.made, r.at_ = plus (core k s).nextAt 1 ∧ r.key = 0x2000 + k ∧
      r.words = [ref, coreD (core k s) ((cf v 70 68 + 1) % 8), coreD (core k s) ((cf v 70 68 + 2) % 8), word])) := by
  obtain ⟨-, hother, -, hpc, -⟩ := coreDone_goesOn (ticks := 1) h
  obtain ⟨hmade, hrecord⟩ := postRow_cases h hop
  obtain ⟨hindex, hvalid, hrecant, hstate, hshot⟩ := marked_postWord (v := v) (e := (core k s).nextAt) h.1
  have hcores := (hmade.kept (·.cores) .cores).trans (touches_postVerdict.kept (·.cores) .cores)
  refine .of_touches (t := postRow k s) rfl
    ((hmade.after touches_posted).mono (L := [.cores, .regs, .bus, .gran, .mem, .rings, .hostMem, .made]))
    (fun _ h r => ⟨h.frame, r⟩) ⟨fun j hj => ?_, ?_, ?_, postWord v (core k s).nextAt k s, postRef v (core k s).nextAt k s, ?_, hindex, hvalid, hrecant, hstate, hshot, fun href => ?_, fun href hquiet => ?_,
      fun hon => ?_⟩
  · rw [core_of_cores hcores, hother j hj]
  · rw [core_of_cores hcores, hpc]
  · rw [hmade.kept (·.gran.mem) .mem, touches_posted.kept (·.gran.mem) .mem]
  · rw [hmade.kept (·.bus) .bus, posted, postVerdict, touches_coreExec.kept (·.bus) .bus]
  · rw [postRef, if_neg (by omega)]
  · rw [postRef, if_pos href, tapAt_quiet hquiet]
  · rw [hrecord hon]
    exact mem_postRecord

/-! ### WAITT -/

/-- The instruction that WAITT completes with (R242). -/
def opWaited (tO : Bool) (v : BitVec 80) : CoreOp := fun c0 c =>
  (nextPc { (if cf v 49 49 = 1 then putD (cf v 69 67) (coreD c0 (cf v 69 67) + 1) c else c) with tO := tO }, [])

/-- The core whose wait is over, before its instruction completes. -/
def awake (c : Core) : Core := { c with st := .running, waitDl := none, metAt := none }

theorem waitDone_eq {tO : Bool} : waitDone x tO v k s = coreExec x 1 k (opWaited tO v) (setCore k (awake (core k s)) s) := rfl

/-- The core after a wait that has ended with `tO`. -/
def waited (tO : Bool) (v : BitVec 80) (c : Core) : Core :=
  { c with
    tO := tO, waitDl := none, metAt := none,
    d := if cf v 49 49 = 1 then tset 0 (cf v 69 67) (tget 0 (cf v 69 67) c.d + 1) c.d else c.d }

theorem opWaited_keeps (tO : Bool) (v : BitVec 80) (c0 c : Core) : (opWaited tO v c0 c).1.pc = c.pc + 1 ∧
    (opWaited tO v c0 c).1.loops = c.loops ∧ (opWaited tO v c0 c).1.tO = tO ∧ (cf v 49 49 = 1 →
      tget 0 (cf v 69 67) (opWaited tO v c0 c).1.d = tget 0 (cf v 69 67) c0.d + 1) := by
  unfold opWaited
  refine ⟨?_, ?_, rfl, fun hbump => ?_⟩
  · split <;> rfl
  · split <;> rfl
  · dsimp only [nextPc]
    rw [if_pos hbump]
    exact tget_tset_self _ _ _ _

theorem opWaited_awake (tO : Bool) (v : BitVec 80) (c : Core) (y : Tick) :
    { (opWaited tO v (awake c) { awake c with stored := [] }).1 with nextAt := y } =
      { waited tO v c with st := .running, pc := c.pc + 1, nextAt := y, stored := [] } := by
  unfold opWaited waited awake
  dsimp only
  split <;> rfl

theorem waittRow_met (h : CoreIssues k v s) (hop : cf v 79 72 = 0x0B) (hquiet : (coreTap (core k s) (cf v 71 70)).wrote = none)
    (hmet : notBefore (w (coreTap (core k s) (cf v 71 70)).count) (coreD (core k s) (cf v 69 67)) = true) :
    waittRow k s = waitDone (core k s).nextAt false v k s := by
  have hst := h.2.2.1
  have hmet : waitMet (core k s).nextAt (core k s) v = true := by rwa [waitMet, tapAt_quiet hquiet]
  have hact := coreRow_acts (okField := anyField) (act := fun e v s =>
      if waitMet e (core k s) v then waitDone e false v k s
      else if cf v 50 50 = 0 ∧ cf v 66 51 = 0 then waitDone e true v k s
      else
        setCore k { core k s with
          st := .waiting
          metAt := metSoon e (core k s) v
          waitDl := if cf v 50 50 = 0 then some (plus e (cf v 66 51)) else none } s) h hop rfl
  rw [waittRow, if_neg (by simp [hst])]
  exact hact.trans (if_pos hmet)

theorem coreDone_of_setCore {pc d : Nat} {P : Core → Prop} (hnext : c.nextAt = (core k s).nextAt)
    (h : CoreDone k v pc d P c' (setCore k c s) t) : CoreDone k v pc d P c' s t := by
  obtain ⟨hframe, hother, hregs, hpc, hat, hP, hquiet⟩ := h
  rw [core_setCore, hnext] at hat hquiet
  exact ⟨hframe, fun j hj => (hother j hj).trans (core_setCore_ne s hj c), hregs, hpc, hat, hP, hquiet⟩

theorem waitt_met_done (h : CoreIssues k v s) (hop : cf v 79 72 = 0x0B) (hquiet : (coreTap (core k s) (cf v 71 70)).wrote = none)
    (hmet : notBefore (w (coreTap (core k s) (cf v 71 70)).count) (coreD (core k s) (cf v 69 67)) = true) :
    CoreDone k v ((core k s).pc + 1) 1
      (fun c' => c'.tO = false ∧ (cf v 49 49 = 1 → tget 0 (cf v 69 67) c'.d = coreD (core k s) (cf v 69 67) + 1))
      (waited false v (core k s)) s (waittRow k s) := by
  have hst : (core k s).st = .running := h.2.2.1
  have hawake : core k (setCore k (awake (core k s)) s) = awake (core k s) := core_setCore ..
  have hnext : (core k s).nextAt = (core k (setCore k (awake (core k s)) s)).nextAt := by rw [hawake]; rfl
  rw [waittRow_met h hop hquiet hmet, waitDone_eq]
  refine coreDone_of_setCore (c := awake (core k s)) rfl ?_
  rw [hnext]
  refine coreDone_coreExec ?_ (fun y hy => ?_) (fun y hy => ?_) (fun y ag z _ => ?_) (fun y => ?_) <;> rw [hawake] at *
  · exact coreWord_of_issues h
  · have hloops := noLoopEnds_of_issues h
    rwa [NoLoopEnds, (opWaited_keeps false v _ y).2.1, (accessed_keeps hy).2.1]
  · rw [(opWaited_keeps false v _ y).1, (accessed_keeps hy).1]
    rfl
  · obtain ⟨-, -, htO, hd⟩ := opWaited_keeps false v (awake (core k s)) y
    exact ⟨htO, hd⟩
  · rw [opWaited_awake, ← hst]
    rfl

theorem waittRow_waits (h : CoreIssues k v s) (hop : cf v 79 72 = 0x0B) (hquiet : (coreTap (core k s) (cf v 71 70)).wrote = none)
    (hmet : notBefore (w (coreTap (core k s) (cf v 71 70)).count) (coreD (core k s) (cf v 69 67)) = false)
    (hwait : cf v 50 50 = 1 ∨ cf v 66 51 ≠ 0) : waittRow k s = setCore k { core k s with
      st := .waiting, metAt := none
      waitDl := if cf v 50 50 = 0 then some (plus (core k s).nextAt (cf v 66 51)) else none } s := by
  have hst := h.2.2.1
  have hmet : waitMet (core k s).nextAt (core k s) v = false := by rwa [waitMet, tapAt_quiet hquiet]
  have hact := coreRow_acts (okField := anyField) (act := fun e v s =>
      if waitMet e (core k s) v then waitDone e false v k s
      else if cf v 50 50 = 0 ∧ cf v 66 51 = 0 then waitDone e true v k s
      else
        setCore k { core k s with
          st := .waiting
          metAt := metSoon e (core k s) v
          waitDl := if cf v 50 50 = 0 then some (plus e (cf v 66 51)) else none } s) h hop rfl
  have hsoon : metSoon (core k s).nextAt (core k s) v = none := by
    rw [metSoon, hquiet]
  rw [waittRow, if_neg (by simp [hst])]
  refine hact.trans ?_
  rw [hmet, if_neg (by decide), if_neg (by omega), hsoon]

/-! ### The end of a wait -/

/-- A core that waits in a WAITT without accesses, outside any loop. -/
structure CoreWaits (k : Nat) (v : BitVec 80) (s : State) : Prop where
  core_lt : k < 16 * nTiles s
  waiting : (core k s).st = .waiting
  life : s.life = .safe ∨ s.life = .ready
  word : coreWord (core k s) = v
  quiet : NoAccess v
  noLoop : (core k s).loops = []

theorem CoreWaits.runs (h : CoreWaits k v s) : coresRun s = true := by
  rcases h.life with h | h <;> simp [coresRun, h]

theorem CoreWaits.ends (h : CoreWaits k v s) {tO : Bool} : waitDone x tO v k s = setCore k
    { waited tO v (core k s) with st := .running, pc := (core k s).pc + 1, nextAt := plus x 1, stored := [] }
    (setCore k (awake (core k s)) s) := by
  have hawake : core k (setCore k (awake (core k s)) s) = awake (core k s) := core_setCore ..
  rw [waitDone_eq, coreExec_noAccess (v := v), hawake, opWaited_awake]
  · rw [hawake]
    exact h.word
  · exact h.quiet
  · rfl
  · rw [hawake, NoLoopEnds, (opWaited_keeps tO v _ _).2.1]
    simp [awake, h.noLoop]

theorem CoreWaits.only_ends (h : CoreWaits k v s) {tO : Bool} : OnlyCore k s (waitDone x tO v k s) ∧
    core k (waitDone x tO v k s) =
      { waited tO v (core k s) with st := .running, pc := (core k s).pc + 1, nextAt := plus x 1, stored := [] } := by
  rw [h.ends]
  exact ⟨⟨rfl, fun j hj => by rw [core_setCore_ne _ hj, core_setCore_ne _ hj]⟩, core_setCore ..⟩

theorem CoreWaits.met (h : CoreWaits k v s) (hdue : due x s = true) (hmet : (core k s).metAt = some x)
    (hdl : ∀ y, (core k s).waitDl = some y → notBefore y x = true) : waittRow k s = waitDone x false v k s := by
  have htime : metInTime (core k s) = some x := by
    unfold metInTime
    rw [hmet]
    cases hw : (core k s).waitDl with
    | none => rfl
    | some y => exact if_pos (hdl y hw)
  rw [waittRow, if_pos h.waiting, htime]
  dsimp only
  rw [if_pos (by simp [h.runs, hdue]), h.word]

theorem CoreWaits.times_out (h : CoreWaits k v s) (hdue : due x s = true) (hdl : (core k s).waitDl = some x)
    (hmet : ∀ y, (core k s).metAt = some y → notBefore x y = false) : waittTimeoutRow k s = waitDone x true v k s := by
  have htime : metInTime (core k s) = none := by
    unfold metInTime
    rw [hdl]
    cases hm : (core k s).metAt with
    | none => rfl
    | some y => exact if_neg (by simp [hmet y hm])
  rw [waittTimeoutRow, hdl]
  dsimp only
  rw [if_pos (by simp [h.runs, hdue, h.waiting, htime]), h.word]

/-! ### The obligation -/

/-- Settles O24: an instruction that acts runs as one tick of its core (`coreDone_coreExec`), and a wait that ends completes its WAITT. -/
theorem coreFlow : Obligations.CoreFlow := by
  unfold Obligations.CoreFlow
  intro k v s
  refine ⟨fun h => ⟨fun hop hcond => ?_, fun hop hfin => ⟨fun hn => ?_, fun hn hroom => ?_⟩, fun hop hwhat hquiet => ?_,
    fun hop hwhat hquiet => ?_, fun hop => post_completes h hop, fun hop => coreEvent_completes h hop, fun hop => ?_,
    fun hop hquiet hmet => .of_eq (t := waittRow k s) rfl (waitt_met_done h hop hquiet hmet),
    fun hop hquiet hmet hwait => .of_eq (waittRow_waits h hop hquiet hmet hwait) ⟨setCore_only k _ s, core_setCore ..⟩,
    fun hop => coreFault_completes h.1 (coreUndefinedRow_faults h hop) rfl⟩,
    fun x hk hst hlife hv hdue hacc hloops => ?_⟩
  · exact .of_eq (t := coreBrRow k s) rfl (coreBr_done h hop hcond rfl)
  · exact .of_eq (t := coreLoopRow k s) rfl (coreLoop_skips h hop hfin hn)
  · exact .of_eq (t := coreLoopRow k s) rfl (coreLoop_enters h hop hfin hn hroom)
  · have hword : tapWord (cf v 66 65) (coreTap (core k s) (cf v 71 70)) =
        if cf v 66 65 = 0 then BitVec.ofNat 40 (coreTap (core k s) (cf v 71 70)).count else (coreTap (core k s) (cf v 71 70)).stamp := by
      obtain h0 | h1 : cf v 66 65 = 0 ∨ cf v 66 65 = 1 := by omega
      · rw [h0]; rfl
      · rw [h1]; rfl
    exact .of_eq (t := rdtapRow k s) rfl (hword ▸ rdtap_reads h hop hwhat hquiet)
  · exact .of_eq (t := rdtapRow k s) rfl (rdtap_clears h hop hwhat hquiet)
  · exact .of_eq (coreHaltRow_halts h hop) ⟨setCore_only k _ s, core_setCore ..⟩
  · have hw : CoreWaits k v s := ⟨hk, hst, hlife, hv, hacc, hloops⟩
    exact ⟨fun hmet hdl => .of_eq (hw.met hdue hmet hdl) hw.only_ends, fun hdl hmet => .of_eq (hw.times_out hdue hdl hmet) hw.only_ends⟩

end Sys2Proof.Machine
end

section
/-! PROOF. Refused register writes (O57). -/

set_option Elab.async false

namespace Sys2Proof.Machine

variable {s t : State} {m off code : Nat} {v : W40} {row : RegRow} {is : List Nat}

/-- One record with code `code` is all that changes. -/
def OneRecord (code : Nat) (s t : State) : Prop := t = { s with log := t.log } ∧
  ∃ r : Rec, t.log.pool = s.log.pool ++ [r] ∧ r.code = BitVec.ofNat 16 code ∧ r.tick = s.time.tick

theorem oneRecord_recordOwned (o : Nat × Bool) (src code detail : Nat) (w3 : W40) (s : State) :
    OneRecord code s (recordOwned o src code detail w3 s) := ⟨rfl, _, rfl, rfl, rfl⟩

theorem oneRecord_record (src code detail : Nat) (w3 : W40) (s : State) : OneRecord code s (record src code detail w3 s) :=
  ⟨rfl, _, rfl, rfl, rfl⟩

theorem refuseWrite_oneRecord (h : code ≠ 2 ∨ row.k ≠ .syncInStat) : OneRecord code s (refuseWrite m code row is v s) := by
  unfold refuseWrite
  split
  · next h3 =>
    obtain ⟨rfl, -⟩ : code = 3 ∧ _ := by simpa using h3
    exact oneRecord_record ..
  · rw [if_neg (by simpa using h.elim (fun h h2 => absurd h2 h) fun h _ => h)]
    exact oneRecord_recordOwned ..

/-- SYNC_IN_STAT refused for the state: LOAD_ARM returns to 0 besides (R63). -/
theorem refuseWrite_syncInStat (hk : row.k = .syncInStat) : ∃ o src detail,
    refuseWrite m 2 row is v s = recordOwned o src 2 detail 0 (putB oSyncInStat 2 false s) := by
  unfold refuseWrite
  rw [if_neg (by simp), if_pos (by simp [hk])]
  exact ⟨_, _, _, rfl⟩

theorem hostWrite_absent {src : Nat} (hf : fnReaches m s = true) (hst : staged m s = none) (ha : absentAt off s = some src) :
    hostWrite m off v s = record src 6 0 0 s := by
  rw [hostWrite_of_unstaged hf hst, regWrite, ha]

/-- Settles O57: a refused write is one record (`refuseWrite_oneRecord`). -/
theorem refusedWritesChangeNothing : Obligations.RefusedWritesChangeNothing := by
  unfold Obligations.RefusedWritesChangeNothing
  intro m off v s hf hst
  refine ⟨fun src ha => .of_eq (hostWrite_absent hf hst ha) (oneRecord_record ..), fun row is code ha hu hrow hw =>
    ⟨fun h => .of_eq (hostWrite_refused hf hst ha hu hrow hw) (refuseWrite_oneRecord h), fun hcode hk => ?_⟩⟩
  subst hcode
  obtain ⟨o, src, detail, hrefuse⟩ := refuseWrite_syncInStat (m := m) (is := is) (v := v) (s := s) hk
  refine .of_eq ((hostWrite_refused hf hst ha hu hrow hw).trans hrefuse) ⟨⟨rfl, _, rfl, rfl, rfl⟩, ?_, fun o ho => ?_⟩
  · exact bR_putB_self _ (by decide)
  · exact getR_putB_ne ho _ _

end Sys2Proof.Machine
end

section
/-! PROOF. Accesses of the host (O56). -/

set_option Elab.async false

namespace Sys2Proof.Machine

variable {s t : State} {m off g : Nat} {v : W40} {row : RegRow} {is : List Nat}

/-! ### Whole writes -/

theorem registerWrite_stores {k : RegK} (h : Reaches k is m off v s) (hrow : findReg off = some (row, is)) (hfresh : s.fresh = [])
    (hA : effectA m row is off v s = none) (hB : effectB m row is v s = none) : hostWrite m off v s = storeReg row off v s := by
  obtain ⟨row', hrow', -, hw⟩ := hostWrite_reaches h
  obtain rfl : row' = row := congrArg Prod.fst (Option.some.inj (hrow'.symm.trans hrow))
  rw [hw, ← joinCommit_of_noFresh (s := storeReg row' off v s) (off := off) hfresh]
  simp only [regEffect, hA, hB]

/-- A field of a register that only stores takes the value written. -/
theorem hostWrite_stores_field {k : RegK} {hi lo : Nat} (h : Reaches k is m off v s) (hfresh : s.fresh = [])
    (hk : ∀ row : RegRow, row.k = k → effectA m row is off v s = none ∧ effectB m row is v s = none)
    (hrw : ∀ row ∈ regRows, row.k = k → row.rw < 2 ^ 40 ∧ ∀ j ≤ hi, lo ≤ j → row.rw.testBit j = true) :
    OnlyRegs [off] s (hostWrite m off v s) ∧ fR off hi lo (hostWrite m off v s) = fld v hi lo := by
  obtain ⟨row, hmem, hrk, hw⟩ := hostWrite_stores h hfresh hk
  obtain ⟨hlt, hbits⟩ := hrw row hmem hrk
  rw [hw]
  exact ⟨storeReg_only .., fR_storeReg hlt (fun j hl hh => hbits j hh hl) _ _ _⟩

theorem regRows_vecAlloc_rw : ∀ row ∈ regRows, row.k = .vecAlloc → row.rw < 2 ^ 40 ∧ ∀ j ≤ 11, 0 ≤ j → row.rw.testBit j = true := by
  decide +kernel

theorem regRows_secDomains_rw : ∀ row ∈ regRows, row.k = .secDomains → row.rw < 2 ^ 40 ∧ ∀ j ≤ 15, 0 ≤ j → row.rw.testBit j = true := by
  decide +kernel

/-! ### Halves -/

theorem dropStaged_of_none (h : staged m s = none) : dropStaged m s = s := by rw [dropStaged, h]

theorem lowWrite_stages (hf : fnReaches m s = true) (hst : staged m s = none) (lo : BitVec 32) :
    lowWrite m off lo s = { s with host := { s.host with stage := tput m (off, lo) s.host.stage } } := by
  rw [lowWrite, if_pos hf, dropStaged_of_none hst]

theorem staged_unstage : staged m (unstage m s) = none := tget?_tdel_self ..

/-- The high half of a staged write completes it (R418). -/
theorem highWrite_completes {lo : BitVec 32} (hf : fnReaches m s = true) (hst : staged m s = some (off, lo)) (hi : BitVec 32) :
    highWrite m off hi s = hostWrite m off (w (hi.toNat % 256 * 2 ^ 32 + lo.toNat)) (unstage m s) := by
  have hf' : fnReaches m (unstage m s) = true := hf
  rw [hostWrite_of_unstaged hf' staged_unstage, highWrite, if_pos hf, hst]
  exact if_pos rfl

theorem highWrite_alone (hf : fnReaches m s = true) (hst : staged m s = none) (hi : BitVec 32) :
    highWrite m off hi s = partialLost m 1 s := by
  rw [highWrite, if_pos hf, hst]

theorem partialLost_one (m : Nat) (s : State) : partialLost m 1 s =
    bumpBy (oHostStatus m) 19 8 1 (recordIf (fR (oHostStatus m) 19 8 s == 0) (0xE000 + m) 0x106 0 0 s) := rfl

theorem regs_recordIf (c : Bool) (src code detail : Nat) (w3 : W40) (s : State) : (recordIf c src code detail w3 s).regs = s.regs :=
  touches_recordIf.kept (·.regs) .regs

theorem partialLost_counts (hm : m < 16) (h : fR (oHostStatus m) 19 8 s < 2 ^ 12 - 1) :
    fR (oHostStatus m) 19 8 (partialLost m 1 s) = fR (oHostStatus m) 19 8 s + 1 ∧
    (fR (oHostStatus m) 19 8 s = 0 → Logged (0xE000 + m) 0x106 0 0 s (partialLost m 1 s)) ∧
    ∀ o, o ≠ oHostStatus m → getR o (partialLost m 1 s) = getR o s := by
  have hregs := regs_recordIf (fR (oHostStatus m) 19 8 s == 0) (0xE000 + m) 0x106 0 0 s
  refine ⟨?_, fun hfirst => ?_, fun o ho => ?_⟩
  · rw [partialLost_one, bumpBy, fR_of_regs hregs, fR_putF_self (by omega) (by decide) (by decide)]
    omega
  · rw [partialLost_one, recordIf, if_pos (by simp [hfirst])]
    exact (logged_record _ _ _ _ _ (by omega) (by decide) (by decide)).before (touches_bumpBy.kept (·.log) .log)
  · rw [partialLost_one, bumpBy, getR_putF_ne ho]
    rw [getR, hregs, getR]

/-! ### Reads -/

theorem lowRead_answers (hf : fnReaches m s = true) : lowRead m off s =
    answer m (w ((regRead m off s).1.toNat % 2 ^ 32)) (some (off, (regRead m off s).1)) (regRead m off s).2 := by
  rw [lowRead, if_pos hf]

theorem highRead_latched {x : W40} (hf : fnReaches m s = true) (hl : tget? m s.host.rlatch = some (off, x)) :
    highRead m off s = answer m (w (x.toNat / 2 ^ 32)) none s := by
  rw [highRead, if_pos hf, hl]
  dsimp only
  rw [if_pos rfl]

theorem partialRow_reads (hf : fnReaches m s = true) (size : Nat) : partialRow m false off size s =
    { answer m 0 none s with host := { (answer m 0 none s).host with readBytes := (upTo size).map (fun i => imageByte m (off + i) s) } } := by
  rw [partialRow, if_pos hf]
  rfl

/-! ### Owners -/

theorem hostWrite_oSeqOwner (h : Reaches .seqOwner [g / 96, g % 96] m (oSeqOwner g) v s) :
    hostWrite m (oSeqOwner g) v s = seqOwnerSet g v s := by
  obtain ⟨row, -, hk, hw⟩ := hostWrite_reaches h
  rw [hw, ← unit96_pair g]
  simp only [regEffect, effectA, effectB, hk, unit96_pair]

theorem ownerField_of_reaches (h : Reaches .seqOwner is m off v s) : ownerField off = true := by
  obtain ⟨row, hrow, hk, -⟩ := hostWrite_reaches h
  rw [ownerField, hrow]
  dsimp only
  rw [hk]

/-- A sequencer that leaves SECURE is zeroed (R407). -/
def zeroedSeq (q : Seq) : Seq := { q with imem := [], g := [], unbHeld := false }

theorem seqOwnerSet_eq : seqOwnerSet g v s = setR (oSeqOwner g) (w (fld v 4 0))
    (if movesSecure (getR (oSeqOwner g) s) v then modSeq g zeroedSeq s else s) := rfl

theorem seqOwnerSet_owns : getR (oSeqOwner g) (seqOwnerSet g v s) = BitVec.ofNat 40 (fld v 4 0) ∧
    (∀ o, o ≠ oSeqOwner g → getR o (seqOwnerSet g v s) = getR o s) ∧ (∀ k, k ≠ g → seq k (seqOwnerSet g v s) = seq k s) ∧
    (movesSecure (getR (oSeqOwner g) s) v = false → (seqOwnerSet g v s).seqs = s.seqs) ∧
    (movesSecure (getR (oSeqOwner g) s) v = true → seq g (seqOwnerSet g v s) = zeroedSeq (seq g s)) := by
  rw [seqOwnerSet_eq]
  refine ⟨getR_setR .., fun o ho => (getR_setR_ne _ ho _).trans ?_, fun k hk => ?_, fun hno => ?_, fun hmoves => ?_⟩
  · split <;> rfl
  · split
    · exact seq_modSeq_ne s hk zeroedSeq
    · rfl
  · rw [if_neg (by simp [hno])]
    rfl
  · rw [if_pos hmoves]
    exact seq_modSeq s g zeroedSeq

/-! ### Configuration space -/

theorem mem_insNat {k j : Nat} : ∀ {l : List Nat}, j ∈ insNat k l ↔ j = k ∨ j ∈ l
  | [] => by simp [insNat]
  | i :: l => by
    rw [insNat]
    split
    · simp
    · split
      · next h => simp [h]
      · simp [mem_insNat (l := l), or_left_comm]

theorem mem_toggleNat (m : Nat) (on : Bool) (l : List Nat) : m ∈ toggleNat m on l ↔ on = true := by
  cases on
  · simp [toggleNat]
  · simp [toggleNat, mem_insNat]

theorem msixRelease_msixOn (m v : Nat) (s : State) : (msixRelease m v s).host.msixOn = s.host.msixOn := by
  unfold msixRelease
  dsimp only
  split <;> rfl

theorem msixReleaseAll_msixOn (m : Nat) (s : State) : (msixReleaseAll m s).host.msixOn = s.host.msixOn := by
  refine foldS_rel (R := fun s t => t.host.msixOn = s.host.msixOn) (fun _ => rfl) (fun h h' => h'.trans h) (fun k u => ?_) _ _
  split
  · exact msixRelease_msixOn ..
  · rfl

theorem pcieConfig_busMaster (hf : fnReaches m s = true) (on : Bool) : pcieConfig m .busMaster on s =
    { s with host := { s.host with busMaster := toggleNat m on s.host.busMaster } } := by
  simp [pcieConfig, hf]

theorem pcieConfig_msixEnable (hf : fnReaches m s = true) (on : Bool) : pcieConfig m .msixEnable on s =
    msixReleaseAll m { s with host := { s.host with msixOn := toggleNat m on s.host.msixOn } } := by
  simp [pcieConfig, hf]

theorem pcieConfig_ptmEnable (hf : fnReaches 0 s = true) (on : Bool) : pcieConfig 0 .ptmEnable on s =
    { s with host := { s.host with ptmOn := on } } := by
  simp [pcieConfig, hf]

/-- Settles O56: each access is one case of its row's definition. -/
theorem hostAccesses : Obligations.HostAccesses := by
  unfold Obligations.HostAccesses
  intro m s
  refine ⟨fun k is off v row h hrow hfresh hA hB => ?_, fun off lo hf hst => ?_, fun off hi lo hf hst => ?_,
    fun off hi hm hf hst hroom => ?_, fun off hf => ⟨?_, fun x hl => ?_⟩, fun off size hf => ?_, fun d v hd h hfresh => ?_,
    fun g v hg h => ?_, fun v h hfresh => ?_, fun on hf => ⟨?_, ?_, fun hm => ?_⟩⟩
  · exact .of_eq (registerWrite_stores h hrow hfresh hA hB) ⟨storeReg_only .., getR_setR ..⟩
  · exact .of_eq (lowWrite_stages hf hst lo) ⟨rfl, tget?_tput_self .., fun k hk => tget?_tput_ne hk ..⟩
  · exact congrArg Host.Outcome.next (highWrite_completes hf hst hi)
  · exact .of_touches (highWrite_alone hf hst hi) touches_partialLost (fun _ h r => ⟨h.frame, r⟩) (partialLost_counts hm hroom)
  · exact .of_touches (lowRead_answers hf) ((touches_answer.after touches_regRead).mono (L := [.regs, .time, .clock, .gran, .mem, .rings, .hostMem, .made, .host]))
      (fun _ h r => ⟨h.frame, r⟩) ⟨rfl, tget?_tput_self ..⟩
  · exact .of_eq (highRead_latched hf hl) ⟨rfl, rfl⟩
  · exact .of_eq (partialRow_reads hf size) ⟨rfl, rfl⟩
  · exact .of_eq (t := hostWrite m (oVecAlloc d) v s) rfl (hostWrite_stores_field h hfresh (fun row hk => by simp [effectA, effectB, hk]) regRows_vecAlloc_rw)
  · exact .of_eq (((if_pos (ownerField_of_reaches h)).trans (hostWrite_oSeqOwner h))) seqOwnerSet_owns
  · exact .of_eq (t := hostWrite m oSecDomains v s) rfl (hostWrite_stores_field h hfresh (fun row hk => by simp [effectA, effectB, hk]) regRows_secDomains_rw)
  · exact .of_eq (pcieConfig_busMaster hf on) ⟨rfl, mem_toggleNat ..⟩
  · refine .of_touches (pcieConfig_msixEnable hf on) ((touches_msixReleaseAll.after Touches.host).mono (L := [.host]))
      (fun _ h r => ⟨h.frame, r⟩) ?_
    rw [msixReleaseAll_msixOn]
    exact mem_toggleNat ..
  · subst hm
    exact .of_eq (pcieConfig_ptmEnable hf on) rfl

end Sys2Proof.Machine
end

section
/-! PROOF. The event fabric (O49). -/

set_option Elab.async false

namespace Sys2Proof.Machine

variable {s t : State} {c m : Nat} {v : W40} {x : Tick} {o : Nat}

/-! ### EV_FIRE -/

theorem hostWrite_oEvFire (h : Reaches .evFire [] m oEvFire v s) : hostWrite m oEvFire v s = fireChan (fld v 8 0) s.time.tick 0 s := by
  obtain ⟨row, -, hk, hw⟩ := hostWrite_reaches h
  rw [hw]
  simp only [regEffect, effectA, hk, now]

theorem fireChan_runs (hf : fabricRuns s = true) (n : Nat) (x : Tick) (d : Nat) :
    fireChan n x d s = { s with fabric := { s.fabric with fires := s.fabric.fires ++ [⟨x, n, d, none, true⟩] } } := if_pos hf

theorem regRows_evRoute_rw : ∀ row ∈ regRows, row.k = .evRoute → row.rw < 2 ^ 40 ∧ ∀ j ≤ 9, 0 ≤ j → row.rw.testBit j = true := by
  decide +kernel

theorem regRows_evChanCfg_rw : ∀ row ∈ regRows, row.k = .evChanCfg → row.rw < 2 ^ 40 ∧ ∀ j ≤ 4, 0 ≤ j → row.rw.testBit j = true := by
  decide +kernel

/-! ### A channel that fires -/

/-- The largest depth of the sources of a firing (R307). -/
def fireDepth (x : Tick) (c : Nat) (s : State) : Nat := (firesAt x c s).foldl (fun a f => max a f.depth) 0

/-- The channel has fired: its sources of the tick are gone, and it counts. -/
def chanTaken (x : Tick) (c : Nat) (s : State) : State :=
  let s' := { s with fabric := { s.fabric with fires := s.fabric.fires.filter (fun f => !(f.at_ == x && fireRoute f s == some c)) } }
  if 1 < (firesAt x c s).length then bump (oEvChanStat c) 15 8 s' else s'

/-- It shows itself with its depth. -/
def chanShown (d c : Nat) (s : State) : State :=
  putF (oEvChanStat c) 7 4 d (putB (oEvChanStat c) 0 true (bump (oEvChanStat c) 39 16 s))

/-- Its depth has reached 15, which is recorded with producer `u` (R307). -/
def chanDeep (u d c : Nat) (s : State) : State :=
  if d = 15 then recordIf (!bR (oEvChanStat c) 1 s) (0xA000 + c) 0x609 0 (w (u * 2 ^ 16 + c)) (putB (oEvChanStat c) 1 true s) else s

/-- It sends to its inputs and to SYNC_OUT. -/
def chanSent (x : Tick) (d c : Nat) (s : State) : State :=
  let s' := foldS (eventSend x c d) (inputsOf c s) s
  if fR oSyncOutCtl 1 0 s' = 2 ∧ fR oSyncOutCtl 12 4 s' = c then syncOutEvent x s' else s'

theorem chanFire_eq : ∃ u, chanFire x c s = chanSent x (fireDepth x c s) c
    (chanDeep u (fireDepth x c s) c (chanShown (fireDepth x c s) c (chanTaken x c s))) := ⟨_, rfl⟩

theorem touches_chanTaken : Touches [.fabric, .regs] s (chanTaken x c s) := by
  unfold chanTaken
  exact ((Touches.ite touches_bump (.refl _)).after Touches.fabric).mono

theorem touches_chanShown {d : Nat} : Touches [.regs] s (chanShown d c s) :=
  (touches_putF.after (touches_putB.after touches_bump)).mono

theorem touches_chanDeep {u d : Nat} : Touches [.regs, .log] s (chanDeep u d c s) :=
  (Touches.ite (touches_recordIf.after touches_putB) (.refl _)).mono

theorem touches_chanSent {d : Nat} : Touches [.regs, .agenda] s (chanSent x d c s) :=
  ((Touches.ite touches_syncOutEvent (.refl _)).after (Touches.foldS fun _ _ => touches_eventSend)).mono

theorem leaves_eventSend {d i : Nat} (h : o < 0x210000) (s : State) : Leaves o s (eventSend x c d i s) := by
  unfold eventSend
  dsimp only
  refine .ite (leaves_bump ?_ _ _ _) rfl
  rw [oEvInCnt]
  omega

theorem leaves_syncOutEvent (h : o < 0x210000) (s : State) : Leaves o s (syncOutEvent x s) := by
  unfold syncOutEvent
  refine .ite (leaves_bump ?_ _ _ _) rfl
  rw [oEvInCnt]
  omega

theorem leaves_chanSent {d : Nat} (h : o < 0x210000) (s : State) : Leaves o s (chanSent x d c s) := by
  unfold chanSent
  have hfold := Leaves.foldS (fun i s => leaves_eventSend (x := x) (c := c) (d := d) (i := i) h s) (inputsOf c s) s
  exact .ite (hfold.trans (leaves_syncOutEvent h _)) hfold

/-- What the channel shows of a firing of depth `d`. -/
def Shows (c d n : Nat) (t : State) : Prop :=
  bR (oEvChanStat c) 0 t = true ∧ fR (oEvChanStat c) 7 4 t = d % 16 ∧ fR (oEvChanStat c) 39 16 t = n

theorem Shows.of_leaves {d n : Nat} (h : Shows c d n s) (hl : Leaves (oEvChanStat c) s t) : Shows c d n t := by
  obtain ⟨hon, hdepth, hcount⟩ := h
  exact ⟨hl.bR.trans hon, hl.fR.trans hdepth, hl.fR.trans hcount⟩

theorem count_chanTaken : fR (oEvChanStat c) 39 16 (chanTaken x c s) = fR (oEvChanStat c) 39 16 s := by
  unfold chanTaken
  dsimp only
  split
  · exact fR_bump_apart (by decide) (by decide) (by decide)
  · rfl

theorem shows_chanShown {d : Nat} (h : fR (oEvChanStat c) 39 16 s < 2 ^ 24 - 1) :
    Shows c d (fR (oEvChanStat c) 39 16 s + 1) (chanShown d c s) := by
  unfold chanShown
  refine ⟨?_, ?_, ?_⟩
  · rw [bR_putF_apart _ (by decide) (by decide) (by decide), bR_putB_self _ (by decide)]
  · rw [fR, getR_putF_self]
    exact fld_setFld _ _ (by decide) (by decide)
  · rw [fR_putF_apart _ (by decide) (by decide) (by decide), fR_putB_apart _ (by decide) (by decide), fR_bump_self h (by decide) (by decide)]

theorem Shows.deep {u d d' n : Nat} (h : Shows c d n s) : Shows c d n (chanDeep u d' c s) := by
  unfold chanDeep
  split
  · obtain ⟨hon, hdepth, hcount⟩ := h
    have hregs := regs_recordIf (!bR (oEvChanStat c) 1 s) (0xA000 + c) 0x609 0 (w (u * 2 ^ 16 + c)) (putB (oEvChanStat c) 1 true s)
    refine ⟨?_, ?_, ?_⟩
    · rw [bR_of_regs hregs, bR_putB_apart _ (by decide) (by decide), hon]
    · rw [fR_of_regs hregs, fR_putB_apart _ (by decide) (by decide), hdepth]
    · rw [fR_of_regs hregs, fR_putB_apart _ (by decide) (by decide), hcount]
  · exact h

theorem mem_fires_chanFire (y : Fire) :
    y ∈ (chanFire x c s).fabric.fires ↔ y ∈ s.fabric.fires ∧ ¬ (y.at_ = x ∧ fireRoute y s = some c) := by
  obtain ⟨u, heq⟩ := chanFire_eq (x := x) (c := c) (s := s)
  have hkept : (chanFire x c s).fabric = (chanTaken x c s).fabric := by
    rw [heq, touches_chanSent.kept (·.fabric) .fabric, touches_chanDeep.kept (·.fabric) .fabric, touches_chanShown.kept (·.fabric) .fabric]
  have htaken : (chanTaken x c s).fabric.fires = s.fabric.fires.filter (fun f => !(f.at_ == x && fireRoute f s == some c)) := by
    unfold chanTaken
    dsimp only
    split <;> rfl
  rw [hkept, htaken]
  simp [List.mem_filter, imp_iff_not_or]

theorem shows_chanFire (hc : c < 512) (h : fR (oEvChanStat c) 39 16 s < 2 ^ 24 - 1) :
    Shows c (fireDepth x c s) (fR (oEvChanStat c) 39 16 s + 1) (chanFire x c s) := by
  obtain ⟨u, heq⟩ := chanFire_eq (x := x) (c := c) (s := s)
  have hcount := count_chanTaken (x := x) (c := c) (s := s)
  rw [heq, ← hcount]
  exact (shows_chanShown (hcount ▸ h)).deep.of_leaves (leaves_chanSent (by rw [oEvChanStat]; omega) _)

theorem channelFireRow_fires {f : Fire} (hruns : fabricRuns s = true) (hf : firstFire c s = some f) :
    channelFireRow c s = chanFire f.at_ c s := by
  rw [channelFireRow, hf]
  exact if_pos hruns

/-- Settles O49: a channel's firing leaves what it has shown (`Shows`) to its sends. -/
theorem eventCommands : Obligations.EventCommands := by
  unfold Obligations.EventCommands
  intro m v s
  refine ⟨fun h hruns => .of_eq ((hostWrite_oEvFire h).trans (fireChan_runs hruns _ _ _)) ⟨rfl, rfl⟩, fun c f hc hruns hf hroom => ?_,
    fun u hu h hfresh => ?_, fun c hc h hfresh => ?_⟩
  · obtain ⟨hon, hdepth, hcount⟩ := shows_chanFire (x := f.at_) hc hroom
    exact .of_touches (channelFireRow_fires hruns hf) (touches_chanFire.mono (L := [.regs, .log, .fabric, .agenda]))
      (fun _ h r => ⟨h.frame, r⟩) ⟨mem_fires_chanFire, hon, hdepth, hcount⟩
  · exact .of_eq (t := hostWrite m (oEvRoute u) v s) rfl
      (hostWrite_stores_field h hfresh (fun row hk => by simp [effectA, effectB, hk]) regRows_evRoute_rw)
  · exact .of_eq (t := hostWrite m (oEvChanCfg c) v s) rfl
      (hostWrite_stores_field h hfresh (fun row hk => by simp [effectA, effectB, hk]) regRows_evChanCfg_rw)

end Sys2Proof.Machine
end

section
/-! PROOF. A sample whose delivery meets a ring without an owner (O47). -/

set_option Elab.async false

namespace Sys2Proof.Machine

/-- A RESULT ring of domain 0 that stands empty. -/
def emptyRing : Ring := { base := 0x4000000, length := 8, type := 2 }

/-- A ring whose owner is no domain: HOST_STATUS of that owner would stand at MON_LAST_RAW of SENSE input 3. -/
def strayRing : Ring := { emptyRing with owner := (oMonLastRaw 3 - 0x7000) / 8, watermark := 1, wmArmed := true }

/-- In READY a conversion of SENSE input 3 has ended, its sample goes to ring 0, and a half-filled slot of the monitors waits for the stray ring. -/
def strayConversion : State := { setR oMonCtl (w (2 ^ 26)) State.reset with
  life := .ready
  mon := { cur := some ⟨3, 0, 0, false, false, false, false⟩ }
  halves := [(0x3000, ⟨[0, 0, 0, 0], 0, 1⟩)]
  gran := { State.reset.gran with rings := [(0, emptyRing), (1, strayRing)] } }

/-- A sample of 0. -/
def zeroConv : Conv := ⟨0, 0, false, false⟩

/-- The watermark of the stray ring counts a lost interrupt over the raw code of the sample. -/
theorem getR_strayConversion : getR (oMonLastRaw 3) (conversionRow zeroConv strayConversion) = 1 := by decide +kernel

/-- R279, R353: the half-filled slot of the monitors leaves as the sample is delivered, and the interrupt of its ring is lost to a
function that does not exist, which HOST_STATUS of the ring's owner counts; a state may hold an owner for which that register is
MON_LAST_RAW of the source.
Refutes O47: in `strayConversion` the raw code of the sample is then 1 and not 0. -/
theorem not_monitorConversions : ¬ Obligations.MonitorConversions := by
  intro h
  obtain ⟨-, -, -, hdone, -⟩ := h strayConversion
  obtain ⟨t, hexec, -, hraw, -⟩ := hdone ⟨3, 0, 0, false, false, false, false⟩ zeroConv rfl (by decide +kernel) (by decide +kernel)
    (by decide +kernel) (fun _ => by decide +kernel)
  have ht : t = conversionRow zeroConv strayConversion := by
    injection hexec with h
    exact h.symm
  rw [ht, getR_strayConversion] at hraw
  exact absurd hraw (by decide)

end Sys2Proof.Machine
end

section
/-! PROOF. Routines that end and park. -/

set_option Elab.async false

namespace Sys2Proof.Machine

variable {s t u : State} {r q : Routine} {op st : Nat} {res : List W40} {f : Routine → State → State} {n o k : Nat}

theorem getR_of_regs (h : t.regs = s.regs) (o : Nat) : getR o t = getR o s := by rw [getR, h, getR]

/-! ### Records that stay -/

section
variable {K : List Fld} {src code detail : Nat} {w3 : W40}

theorem Touches.mem_pool (h : Touches K s t) {r : Rec} (hr : r ∈ s.log.pool) (hp : Fld.pool ∉ K := by decide) : r ∈ t.log.pool :=
  (h.grows hp).subset hr

theorem Logged.reports (h : Logged src code detail w3 s t) : Reports src code s t := by
  obtain ⟨r, hpool, hsrc, hcode, -⟩ := h
  refine ⟨r, ?_, hsrc, hcode⟩
  rw [hpool, List.drop_left]
  exact List.mem_singleton.2 rfl

/-- A record made stays while no tick takes the records out. -/
theorem Reports.before (h : Reports src code s t) (k : Touches K t u) (hp : Fld.pool ∉ K := by decide) : Reports src code s u := by
  obtain ⟨r, hmem, hsrc, hcode⟩ := h
  obtain ⟨l, hl⟩ := k.grows hp
  refine ⟨r, ?_, hsrc, hcode⟩
  rw [← hl, List.drop_append]
  exact List.mem_append_left _ hmem

theorem Reports.after (h : Reports src code t u) (k : Touches K s t) (hp : Fld.pool ∉ K := by decide) : Reports src code s u := by
  obtain ⟨r, hmem, hsrc, hcode⟩ := h
  exact ⟨r, (List.drop_subset_drop_left _ (k.grows hp).length_le) hmem, hsrc, hcode⟩

theorem reports_record (hs : src < 2 ^ 16) (hc : code < 2 ^ 16) : Reports src code s (record src code detail w3 s) := by
  unfold Reports record recordAt
  dsimp only
  rw [List.drop_left]
  exact ⟨_, List.mem_singleton.2 rfl, Nat.mod_eq_of_lt hs, Nat.mod_eq_of_lt hc⟩

end

/-! ### Routines that end and park -/

theorem opDo_open (hcur : s.ce.cur = some r) (hop : r.opcode = op) (hend : r.ended = none) : opDo op f s = f r s := by
  rw [opDo, hcur]
  exact if_pos ⟨hop, by rw [hend]; rfl⟩

theorem opRun_runs (h : Runs op r s) : opRun op f s = f r s := by
  obtain ⟨hcur, hop, hend, hhandlers⟩ := h
  rw [opRun, hhandlers]
  exact opDo_open hcur hop hend

/-- The engine with its routine ended. -/
def ended (st : Nat) (res : List W40) (r : Routine) (s : State) : State :=
  { s with ce := { s.ce with cur := some { r with ended := some (st, res, s.time.tick) } } }

theorem ends_ended : Ends st res r s (ended st res r s) := ⟨_, rfl, rfl, rfl, rfl⟩

theorem Ends.of_ce {s₀ : State} (h : Ends st res r s t) (hce : u.ce = t.ce) (htime : s.time.tick = s₀.time.tick) : Ends st res r s₀ u := by
  rw [Ends, hce, ← htime]
  exact h

theorem closeRoutine_plain (h : progressive r.opcode = false ∨ st = 0 ∨ st = 7 ∨ st = 10) (x : Tick) :
    closeRoutine st res x r = { r with ended := some (st, res, x) } := by
  rw [closeRoutine, if_neg]
  rcases h with h | h | h | h <;> simp [h]

theorem finish_ended (hcur : s.ce.cur = some r) (h1 : r.opcode ≠ 0x401) (h2 : r.opcode ≠ 0x402)
    (hp : progressive r.opcode = false ∨ st = 0 ∨ st = 7 ∨ st = 10) : finish st res s = ended st res r s := by
  rw [finish_of_plain hcur h1 h2, closeRoutine_plain hp]
  rfl

theorem refuse_ended (hcur : s.ce.cur = some r) (h1 : r.opcode ≠ 0x401) (h2 : r.opcode ≠ 0x402) : refuse st s = ended st [] r s := by
  simp only [refuse, hcur, releaseHold, h1, h2, if_false]
  rfl

theorem cur_rejoin : (rejoin n k s).ce.cur = s.ce.cur := by
  rw [rejoin]
  split <;> rfl

theorem parked_rejoin : (rejoin n k s).ce.parked = s.ce.parked := by
  rw [rejoin]
  split <;> rfl

theorem park_parked (hcur : s.ce.cur = some r) :
    (park s).ce.cur = none ∧ (park s).ce.parked = tput (freePlace s) r s.ce.parked := by
  rw [park, hcur]
  exact ⟨cur_rejoin, parked_rejoin⟩

theorem parks_park (hcur : s.ce.cur = some q) (hring : q.ring = r.ring) (htag : q.tag = r.tag) (hop : q.opcode = r.opcode)
    (hend : q.ended = none) : Parks r (park s) := by
  obtain ⟨hnone, hparked⟩ := park_parked hcur
  refine ⟨hnone, freePlace s, q, ?_, hring, htag, hop, hend⟩
  rw [hparked]
  exact tget?_tput_self ..

theorem Parks.of_ce (h : Parks r t) (hce : u.ce = t.ce) : Parks r u := by
  rw [Parks, hce]
  exact h

end Sys2Proof.Machine
end

section
/-! PROOF. Checks of the monitors (O48). -/

set_option Elab.async false

namespace Sys2Proof.Machine

variable {s t : State} {n u g c a : Nat} {uv : Int}

/-! ### SENSE inputs -/

theorem sense_of_senses (h : t.senses = s.senses) (n : Nat) : sense n t = sense n s := by rw [sense, h, sense]

/-- The input whose second compliance check in a row has failed. -/
def senseOpened (n : Nat) (s : State) : State :=
  setSense n { sense n s with
    failed := 2, open_ := true, openRec := (sense n s).openRec && !!bR (oSenseStat n) 6 s } s

theorem complianceRow_runs (hruns : monRuns s = true) (hon : bR (oSenseCfg n) 0 s = true) (ok : Bool) :
    complianceRow n ok s = if ok then setSense n { sense n s with failed := 0, open_ := false } s
      else if (sense n s).failed + 1 < 2 then setSense n { sense n s with failed := 1 } s
      else putB (oSenseStat n) 6 true (onConv n (fun c => { c with openI := true }) (senseOpened n s)) := by
  rw [complianceRow, if_neg (by simp [hruns, hon])]
  rfl

theorem touches_senseOpened : Touches [.senses] s (senseOpened n s) := touches_setSense

theorem overvoltRow_clamps (hruns : monRuns s = true) (hfirst : bR (oSenseStat n) 9 s = false) : overvoltRow n s =
    record (0xB000 + n) 0x803 0 0 (onConv n (fun c => { c with clamp := true }) (putB (oSenseStat n) 9 true s)) := by
  rw [overvoltRow, if_pos hruns, hfirst]
  rfl

/-! ### Window monitors -/

/-- What a window monitor with setting `cfg` shows of its ball. -/
def wmonOut (cfg : W40) (uv : Int) : Bool := bit cfg 20 && (atLeast uv (fld cfg 19 10) || !atLeast uv (fld cfg 9 0))

/-- A window monitor that trips counts, and keeps the threshold that it has met. -/
def wmonTrip (g : Nat) (high low : Bool) (s : State) : State :=
  let s := bump (oWmonStat g) 39 20 s
  let s := if high then putB (oWmonStat g) 2 true s else s
  if low then putB (oWmonStat g) 1 true s else s

theorem wmonSample_cases : ∃ high low x, wmonSample uv g s = putB (oWmonStat g) 0 (wmonOut (getR (oWmonCfg g) s) uv) s ∨
    wmonSample uv g s = fireProd (640 * (g / 96) + 480 + g % 96) x 0
      (wmonTrip g high low (putB (oWmonStat g) 0 (wmonOut (getR (oWmonCfg g) s) uv) s)) := by
  unfold wmonSample
  dsimp only
  split
  · exact ⟨_, _, _, .inr rfl⟩
  · exact ⟨true, true, 0, .inl rfl⟩

theorem leaves_wmonTrip {o : Nat} {high low : Bool} (h : o ≠ oWmonStat g) (s : State) : Leaves o s (wmonTrip g high low s) := by
  unfold wmonTrip
  have hset (p : Bool) (i : Nat) (u : State) : Leaves o u (if p then putB (oWmonStat g) i true u else u) :=
    .ite (leaves_putB h i true u) rfl
  exact ((leaves_bump h 39 20 s).trans (hset high 2 _)).trans (hset low 1 _)

theorem bR_wmonTrip {high low : Bool} : bR (oWmonStat g) 0 (wmonTrip g high low s) = bR (oWmonStat g) 0 s := by
  have hset (p : Bool) (i : Nat) (hi : i < 40) (h0 : 0 ≠ i) (u : State) :
      bR (oWmonStat g) 0 (if p then putB (oWmonStat g) i true u else u) = bR (oWmonStat g) 0 u := by
    cases p
    · rfl
    · exact bR_putB_apart _ hi h0
  rw [wmonTrip, hset low 1 (by decide) (by decide), hset high 2 (by decide) (by decide), bump,
    bR_putF_apart _ (by decide) (by decide) (by decide)]

theorem leaves_wmonSample {o : Nat} (h : o ≠ oWmonStat g) (uv : Int) (s : State) : Leaves o s (wmonSample uv g s) := by
  obtain ⟨high, low, x, heq | heq⟩ := wmonSample_cases (uv := uv) (g := g) (s := s)
  · rw [heq]
    exact leaves_putB h ..
  · rw [heq]
    exact ((leaves_putB h ..).trans (leaves_wmonTrip h _)).trans (getR_of_regs (touches_fireProd.kept (·.regs) .regs) o)

theorem bR_wmonSample : bR (oWmonStat g) 0 (wmonSample uv g s) = wmonOut (getR (oWmonCfg g) s) uv := by
  obtain ⟨high, low, x, heq | heq⟩ := wmonSample_cases (uv := uv) (g := g) (s := s)
  · rw [heq, bR_putB_self _ (by decide)]
  · rw [heq, bR_of_regs (touches_fireProd.kept (·.regs) .regs), bR_wmonTrip, bR_putB_self _ (by decide)]

theorem touches_wmonTrip {high low : Bool} : Touches [.regs] s (wmonTrip g high low s) :=
  ((Touches.ite touches_putB (.refl _)).after ((Touches.ite touches_putB (.refl _)).after touches_bump)).mono

theorem wmonRow_samples (hrate : fR (oWmonTile u) 13 0 s ≠ 0) (htick : s.time.tick.toNat % (100 * fR (oWmonTile u) 13 0 s) = 0)
    (hpower : tilePowered u s = true) (htest : selfTesting u s = false) (uvs : List Int) :
    wmonRow u uvs s = tripSend u (foldS (fun c s => wmonSample (nth 0 uvs c) (96 * u + c) s) (upTo 96) s) := by
  unfold wmonRow
  dsimp only
  rw [if_neg (by simp [hrate, htick, hpower, htest, now])]

theorem bR_wmonFold {uvs : List Int} (hc : c < 96) :
    bR (oWmonStat (96 * u + c)) 0 (foldS (fun c s => wmonSample (nth 0 uvs c) (96 * u + c) s) (upTo 96) s) =
      wmonOut (getR (oWmonCfg (96 * u + c)) s) (nth 0 uvs c) := by
  refine foldS_at (I := fun t => getR (oWmonCfg (96 * u + c)) t = getR (oWmonCfg (96 * u + c)) s) (π := bR (oWmonStat (96 * u + c)) 0)
    (φ := fun _ => wmonOut (getR (oWmonCfg (96 * u + c)) s) (nth 0 uvs c)) (mem_upTo hc) (upTo_nodup 96) (fun j hj t ht => ?_)
    (fun t ht => ?_) (fun j hj t hne => ?_) rfl
  · refine Eq.trans (leaves_wmonSample ?_ _ t).getR ht
    have hj := List.mem_range.1 hj
    rw [oWmonCfg, oWmonStat, tileStep, tileStep]
    omega
  · rw [bR_wmonSample, ht]
  · have hj := List.mem_range.1 hj
    refine (leaves_wmonSample ?_ _ t).bR
    rw [oWmonStat, oWmonStat, tileStep, tileStep]
    omega

/-! ### Overload -/

/-- The overload of the tick shows, and counts. -/
def ovlShown (a : Nat) (s : State) : State := bump (oOvlStat a) 39 20 (putB (oOvlStat a) 0 true s)

/-- It fires its producer where the tick before had none. -/
def ovlFired (u f : Nat) (first : Bool) (s : State) : State := if first then fireProd (640 * u + 624 + f) (now s) 0 s else s

/-- The overload of output `f` of tile `u` in this tick (R366). -/
def overloaded (u f : Nat) (s : State) : State :=
  let s' := ovlFired u f (tget? (8 * u + f) s.mon.ovl != some (minus (now s) 1))
    (recordIf (!bR (oOvlStat (8 * u + f)) 0 s) (0x4000 + (8 * u + f)) 0x804 0 0 (ovlShown (8 * u + f) s))
  tripSend u { s' with mon := { s'.mon with ovl := tput (8 * u + f) (now s') s'.mon.ovl } }

theorem overloadRow_counts {f mV : Nat} (hover : 1000 * fR (oOvlCfg (8 * u + f)) 9 0 s < mV) (hon : bR (oOvlCfg (8 * u + f)) 10 s = true)
    (hpower : tilePowered u s = true) (htest : selfTesting u s = false) (hnew : tget? (8 * u + f) s.mon.ovl ≠ some s.time.tick) :
    overloadRow u f mV s = overloaded u f s := by
  unfold overloadRow
  dsimp only
  rw [if_neg (by simp [hover, hon, hpower, htest, hnew, now])]
  rfl

theorem touches_ovlFired {f : Nat} {first : Bool} : Touches [.fabric] s (ovlFired u f first s) :=
  (Touches.ite touches_fireProd (.refl _)).mono

theorem touches_ovlRecorded {f : Nat} {first b : Bool} : Touches [.regs, .log, .fabric] s
    (ovlFired u f first (recordIf b (0x4000 + (8 * u + f)) 0x804 0 0 (ovlShown (8 * u + f) s))) :=
  (touches_ovlFired.after (touches_recordIf.after (touches_bump.after touches_putB))).mono

theorem touches_overloaded {f : Nat} : Touches [.regs, .log, .fabric, .mon, .agenda] s (overloaded u f s) :=
  (touches_tripSend.after (Touches.mon.after touches_ovlRecorded)).mono

theorem regs_overloaded {f : Nat} : (overloaded u f s).regs = (ovlShown (8 * u + f) s).regs := by
  rw [overloaded, touches_tripSend.kept (·.regs) .regs]
  exact (touches_ovlFired.kept (·.regs) .regs).trans (touches_recordIf.kept (·.regs) .regs)

theorem log_overloaded {f : Nat} : (overloaded u f s).log =
    (recordIf (!bR (oOvlStat (8 * u + f)) 0 s) (0x4000 + (8 * u + f)) 0x804 0 0 (ovlShown (8 * u + f) s)).log := by
  rw [overloaded, touches_tripSend.kept (·.log) .log]
  exact touches_ovlFired.kept (·.log) .log

theorem overload_shows {f : Nat} (hu : u < 8) (hf : f < 8) (hroom : fR (oOvlStat (8 * u + f)) 39 20 s < 2 ^ 20 - 1) :
    bR (oOvlStat (8 * u + f)) 0 (overloaded u f s) = true ∧
    fR (oOvlStat (8 * u + f)) 39 20 (overloaded u f s) = fR (oOvlStat (8 * u + f)) 39 20 s + 1 ∧
    tget? (8 * u + f) (overloaded u f s).mon.ovl = some s.time.tick ∧
    (bR (oOvlStat (8 * u + f)) 0 s = false → Logged (0x4000 + 8 * u + f) 0x804 0 0 s (overloaded u f s)) ∧
    (bR (oOvlStat (8 * u + f)) 0 s = true → (overloaded u f s).log = s.log) := by
  refine ⟨?_, ?_, ?_, fun hnew => ?_, fun hold => ?_⟩
  · rw [bR_of_regs regs_overloaded, ovlShown, bump, bR_putF_apart _ (by decide) (by decide) (by decide), bR_putB_self _ (by decide)]
  · have hput : fR (oOvlStat (8 * u + f)) 39 20 (putB (oOvlStat (8 * u + f)) 0 true s) = fR (oOvlStat (8 * u + f)) 39 20 s :=
      fR_putB_apart _ (by decide) (by decide)
    rw [fR_of_regs regs_overloaded, ovlShown, fR_bump_self (hput ▸ hroom) (by decide) (by decide), hput]
  · rw [overloaded, touches_tripSend.kept (·.mon) .mon]
    refine (tget?_tput_self ..).trans (congrArg some ?_)
    exact touches_ovlRecorded.kept (·.time.tick) .clock
  · rw [Nat.add_assoc]
    refine Logged.before ?_ log_overloaded
    rw [hnew]
    exact (logged_record _ _ _ _ _ (by omega) (by decide) (by decide)).after (touches_bump.after touches_putB)
  · rw [log_overloaded, hold]
    exact (touches_bump.after touches_putB).kept (·.log) .log

/-! ### Self-test -/

theorem cur_progressRoutine {r : Routine} {op : Nat} {p : W40} (hcur : s.ce.cur = some r) (hop : r.opcode = op) (hend : r.ended = none) :
    (progressRoutine op p s).ce.cur = some { r with progress := p } := by
  rw [progressRoutine]
  dsimp only
  rw [hcur]
  exact congrArg some (if_pos (by simp [isOpen, hop, hend]))

theorem doSelftest_parks {r : Routine} (h : Runs 0x902 r s) (wmon ovl : List Nat) :
    Touches [.ce, .free, .agenda] s (doSelftest wmon ovl s) ∧ Parks r (doSelftest wmon ovl s) ∧
      (doSelftest wmon ovl s).free = s.free + 1 := by
  rw [doSelftest, opRun_runs h]
  obtain ⟨hcur, hop, hend, -⟩ := h
  refine ⟨(touches_tripSend.after (touches_park.after (touches_progressRoutine.after (touches_takeFree.after Touches.ce)))).mono, ?_, ?_⟩
  · refine Parks.of_ce ?_ (touches_tripSend.kept (·.ce) .ce)
    exact parks_park (cur_progressRoutine rfl hop hend) rfl rfl rfl hend
  · rw [touches_tripSend.kept (·.free) .free, touches_park.kept (·.free) .free]
    rfl

theorem nTiles_le : nTiles s ≤ 8 := by
  rw [nTiles]
  split <;> omega

/-- Settles O48: each check of a monitor is one case of its row. -/
theorem monitorChecks : Obligations.MonitorChecks := by
  unfold Obligations.MonitorChecks
  intro s
  refine ⟨fun n ok hn hruns hon => ?_, fun n hn hruns hfirst => ?_, fun u uvs hu hrate htick hpower htest => ?_,
    fun u f mV hu hf hover hon hpower htest hnew hroom => ?_, fun r wmon ovl h => ?_⟩
  · refine .of_eq (complianceRow_runs hruns hon ok) ⟨fun hok => ?_, fun hok h0 => ?_, fun hok h1 => ?_⟩
    · rw [if_pos hok]
      exact ⟨touches_setSense.frame, sense_setSense ..⟩
    · rw [if_neg (by simp [hok]), if_pos (by omega)]
      exact ⟨touches_setSense.frame, sense_setSense ..⟩
    · rw [if_neg (by simp [hok]), if_neg (by omega)]
      refine ⟨((touches_putB.after (touches_onConv.after touches_senseOpened)).mono (L := [.regs, .mon, .senses])).frame, ?_,
        bR_putB_self _ (by decide)⟩
      rw [sense_of_senses ((touches_putB.after touches_onConv).kept (·.senses) .senses), senseOpened, sense_setSense]
  · refine .of_touches (overvoltRow_clamps hruns hfirst) ((touches_record.after (touches_onConv.after touches_putB)).mono (L := [.regs, .log, .mon]))
      (fun _ h r => ⟨h.frame, r⟩) ⟨?_, ?_, fun o ho => ?_⟩
    · rw [bR_of_regs ((touches_record.after touches_onConv).kept (·.regs) .regs), bR_putB_self _ (by decide)]
    · exact (logged_record _ _ _ _ _ (by omega) (by decide) (by decide)).after (touches_onConv.after touches_putB)
    · rw [getR_of_regs ((touches_record.after touches_onConv).kept (·.regs) .regs), getR_putB_ne ho]
  · refine .of_touches (wmonRow_samples hrate htick hpower htest uvs) ((touches_tripSend.after (Touches.foldS fun _ _ => touches_wmonSample)).mono
      (L := [.regs, .fabric, .agenda])) (fun _ h r => ⟨h.frame, r⟩) fun c hc => ?_
    rw [bR_of_regs (touches_tripSend.kept (·.regs) .regs), bR_wmonFold hc]
    rfl
  · exact .of_touches (overloadRow_counts hover hon hpower htest hnew) touches_overloaded (fun _ h r => ⟨h.frame, r⟩)
      (overload_shows (by have := nTiles_le (s := s); omega) hf hroom)
  · obtain ⟨htouches, hparks, hfree⟩ := doSelftest_parks h wmon ovl
    exact .of_touches rfl htouches (fun _ h r => ⟨h.frame, r⟩) ⟨hparks, hfree, htouches.kept (·.regs) .regs⟩

end Sys2Proof.Machine
end

section
/-! PROOF. A tick that passes (O27). -/

set_option Elab.async false

namespace Sys2Proof.Machine

variable {s t : State}

/-! ### A tick that passes -/

/-- The device as the count of TICK moves on: what ends with the tick before is done. -/
def beforeCount (s : State) : State := pastEnd (endTick s)

/-- The rest of a tick, once TICK has counted. -/
def afterCount (s : State) : State :=
  reasonsUpdate (envelopeTick (resTick (filterTick (overloadEnds (railTick (slewTick (trapTick (runAgenda (lifeTick (clearTick s))))))))))

theorem tickOnce_powered (h : powered s = true) : tickOnce s = afterCount (countTick (beforeCount s)) := by
  rw [tickOnce, if_neg (by simp [h])]
  rfl

theorem counting_pastTidy : (pastTidy s).time.counting = s.time.counting := by
  have hfold : Touches [.outs] s (foldS (fun e s => outTidy e.1 s) s.outs s) := Touches.foldS fun _ _ => touches_outTidy
  unfold pastTidy
  exact hfold.kept (·.time.counting) .time

/-- The histories of HOLD, the relays and the balls with the values of this tick. -/
def histNoted (s : State) : State :=
  let note := fun (b : Bool) (h : List (Tick × Bool)) => histTidy (now s) (histNote (now s) (histAt b (now s) h) b h)
  { s with holdHist := note (modeOn 5 s) s.holdHist, lbHist := note (relays s) s.lbHist, ballHist := note (ballBase s) s.ballHist }

theorem counting_pastEnd (s : State) : (pastEnd s).time.counting = s.time.counting := by
  have heq : pastEnd s = coresTidy (slotsTidy (marksEnd (pastTidy (biasHeld (histNoted s))))) := rfl
  rw [heq, touches_coresTidy.kept (·.time.counting) .time, touches_slotsTidy.kept (·.time.counting) .time,
    touches_marksEnd.kept (·.time.counting) .time, counting_pastTidy, touches_biasHeld.kept (·.time.counting) .time]
  rfl

theorem counting_beforeCount : (beforeCount s).time.counting = s.time.counting := by
  rw [beforeCount, counting_pastEnd, touches_endTick.kept (·.time.counting) .time]

theorem touches_beforeCount : Touches [.binder, .agenda, .regs, .log, .pool, .gran, .halves, .mem, .rings, .host, .bus, .ports,
    .pair, .made, .fabric, .force, .bias, .outs, .flux, .mon, .senses, .crcDown, .modeWas, .fresh, .holdHist, .lbHist, .ballHist, .time,
    .lbResume, .armAfter, .seqs, .adcs, .glean, .safeAt, .slots, .cores] s (beforeCount s) :=
  (touches_pastEnd.after touches_endTick).mono

/-- The parts that may change once TICK has counted. -/
def afterParts : List Fld := [.host, .therm, .regs, .agenda, .vb, .seqs, .binder, .fabric, .wits, .time, .pins, .force,
    .gran, .log, .halves, .mem, .rings, .ports, .ce, .pair, .outs, .cores, .mon, .safePend, .slots, .fresh, .prb, .drv, .flux, .free]

theorem touches_afterCount : Touches afterParts s (afterCount s) :=
  (touches_reasonsUpdate.after (touches_envelopeTick.after (touches_resTick.after (touches_filterTick.after (touches_overloadEnds.after
    (touches_railTick.after (touches_slewTick.after (touches_trapTick.after (touches_runAgenda.after (touches_lifeTick.after
      touches_clearTick)))))))))).mono

/-- TICK one on. -/
def counted (s : State) : State := { s with time := { s.time with tick := s.time.tick + 1 } }

theorem countTick_counts (hc : s.time.counting = true) : countTick s = if s.time.tick + 1 = 0 then epochWrap (counted s) else counted s :=
  if_pos hc

/-- The time as one tick of CK1 passes (R54). -/
theorem time_tickOnce (h : powered s = true) :
    (s.time.counting = true → (tickOnce s).time.tick = s.time.tick + 1 ∧
      (tickOnce s).time.epoch = if s.time.tick + 1 = 0 then s.time.epoch + 1 else s.time.epoch) ∧
    (s.time.counting = false → (tickOnce s).time.tick = s.time.tick ∧ (tickOnce s).time.epoch = s.time.epoch) := by
  have htick : (beforeCount s).time.tick = s.time.tick := touches_beforeCount.kept (·.time.tick) .clock
  have hepoch : (beforeCount s).time.epoch = s.time.epoch := touches_beforeCount.kept (·.time.epoch) .clock
  have hcounting := counting_beforeCount (s := s)
  rw [tickOnce_powered h, touches_afterCount.kept (·.time.tick) .clock, touches_afterCount.kept (·.time.epoch) .clock, ← hcounting, ← htick,
    ← hepoch]
  generalize beforeCount s = u
  refine ⟨fun hc => ?_, fun hc => ?_⟩
  · rw [countTick_counts hc]
    by_cases hz : u.time.tick + 1 = 0
    · rw [if_pos hz, if_pos hz]
      exact ⟨rfl, rfl⟩
    · rw [if_neg hz, if_neg hz]
      exact ⟨rfl, rfl⟩
  · rw [countTick, if_neg (by simp [hc])]
    exact ⟨rfl, rfl⟩

theorem step_empty (h : s.pending = []) : step s = .next (tickOnce s) := by rw [step, h]

theorem epochAdvanceRow_wraps (hc : s.time.counting = true) (ht : s.time.tick = 0xFFFFFFFFFF) : epochAdvanceRow s = tickOnce s := by
  rw [epochAdvanceRow, if_pos (by simp [hc, ht, now])]

/-- As TICK wraps, the wrap is recorded at tick 0. -/
theorem wrap_recorded (h : powered s = true) (hc : s.time.counting = true) (ht : s.time.tick = 0xFFFFFFFFFF) :
    ∃ r ∈ (tickOnce s).log.pool, r.source = 0 ∧ r.code = 0x204 ∧ r.tick = 0 := by
  have htick : (beforeCount s).time.tick = 0xFFFFFFFFFF := (touches_beforeCount.kept (·.time.tick) .clock).trans ht
  have hcounting : (beforeCount s).time.counting = true := counting_beforeCount.trans hc
  rw [tickOnce_powered h]
  have hwrap : ∃ r ∈ (countTick (beforeCount s)).log.pool, r.source = 0 ∧ r.code = 0x204 ∧ r.tick = 0 := by
    revert htick hcounting
    generalize beforeCount s = u
    intro htick hcounting
    rw [countTick_counts hcounting, if_pos (by rw [htick]; decide)]
    refine ⟨_, List.mem_append_right _ (List.mem_singleton.2 rfl), rfl, rfl, ?_⟩
    exact (congrArg (· + 1) htick).trans (by decide)
  obtain ⟨r, hmem, hr⟩ := hwrap
  exact ⟨r, touches_afterCount.mem_pool hmem, hr⟩

/-- Settles O27: nothing but the count moves TICK in a tick (`touches_beforeCount`, `touches_afterCount`). -/
theorem ticksAndEpochs : Obligations.TicksAndEpochs := by
  unfold Obligations.TicksAndEpochs
  refine ⟨fun s hp h => ⟨_, step_empty hp, ?_, time_tickOnce h⟩, fun s h hc ht => ?_⟩
  · rw [touches_tickOnce.kept (·.pending) .pending, hp]
  · obtain ⟨htick, hepoch⟩ := (time_tickOnce h).1 hc
    refine .of_touches (epochAdvanceRow_wraps hc ht) touches_tickOnce (fun t h r => ⟨h.kept (·.life) .life, h.kept (·.wave) .wave,
      h.kept (·.lins) .lins, ?_, r⟩) ⟨htick.trans (by rw [ht]; decide), hepoch.trans (if_pos (by rw [ht]; decide)), wrap_recorded h hc ht⟩
    exact congrArg State.sec h.frame

end Sys2Proof.Machine
end

section
/-! PROOF. SYNC_IN and SYNC_OUT (O37). -/

set_option Elab.async false

namespace Sys2Proof.Machine

variable {s t : State} {m o u g : Nat} {v : W40} {x : Tick}

/-! ### Registers that no unit of a tile commits -/

theorem tile_of_mem_unitRegs : ∀ o ∈ unitRegs u g, 0x1000000 ≤ o := by
  have htone (p : Bool) : ∀ o ∈ toneRegs p g, 0x1000000 ≤ o := by
    cases p <;> simp only [toneRegs, List.forall_mem_append, List.forall_mem_map, List.forall_mem_cons, oFreq, oPhase, oCtl] <;>
      simp [oDrvFreq, oPrbFreq, oDrvPhase, oPrbPhase, oDrvCtl, oPrbCtl] <;>
      and_intros <;> intros <;> omega
  unfold unitRegs
  split
  · simp [seqRegs, oSeqCtl, oSeqEvsel]
    omega
  · exact htone false
  · exact htone true
  · simp only [slotRegs, List.forall_mem_append, List.forall_mem_map, List.forall_mem_cons, oSlotCfg, oSlotGain, oSlotDet, oThrCfg,
      oThrRing, oThrBab, oThrBc, oThrCi, oThrCq, oWinAxis, oWinCtl, oWinThr, oWinOfs, oWinSlope, List.not_mem_nil, IsEmpty.forall_iff, implies_true, and_true]
    and_intros <;> intros <;> omega
  · simp only [fluxRegs, List.forall_mem_append, List.forall_mem_map, List.forall_mem_cons, oFluxGain, oFluxIir, oFluxFir,
      List.not_mem_nil, IsEmpty.forall_iff, implies_true, and_true]
    and_intros <;> intros <;> omega

theorem joinCommit_other (h : o < 0x1000000) (s : State) : joinCommit o s = s := by
  refine foldS_untouched (fun e _ s => ?_) s
  have hnot : o ∉ unitRegs (e.1 - 10) e.2 := fun hmem => absurd (tile_of_mem_unitRegs o hmem) (by omega)
  have hwave : ¬ oWaveDesc e.2 0 ≤ o := by
    rw [oWaveDesc]
    omega
  simp [hnot, hwave]

theorem OnlyRegs.touches {offs : List Nat} (h : OnlyRegs offs s t) : Touches [.regs] s t := by
  rw [h.1]
  exact .regs

/-! ### SYNC_IN -/

theorem syncEdge_counts (hon : bR oSyncInStat 0 s = true) (hlife : s.life ≠ .staging) {e : BitVec 64} (hlast : s.time.lastEdge = some e)
    (h0 : 0 ≤ posDiff (samplePos s.time.tick o) e.toNat) (hnear : posDiff (samplePos s.time.tick o) e.toNat < 1600) :
    syncEdge o s = bump oSyncInStat 23 8 s := by
  simp [syncEdge, hon, hlife, hlast, now, h0, hnear]

/-- An edge has entered its stamp (R62). -/
def stamped (o : Nat) (s : State) : State :=
  { s with time := { s.time with
    lastEdge := some (BitVec.ofNat 64 (samplePos (now s) o)), fifo := s.time.fifo ++ [⟨now s, s.time.epoch, o⟩] } }

theorem syncEdge_stamps (hon : bR oSyncInStat 0 s = true) (hlife : s.life ≠ .staging) (hlast : s.time.lastEdge = none)
    (hroom : s.time.fifo.length < 16) (hload : bR oSyncInStat 2 s = false) :
    syncEdge o s = if bR oSyncInStat 1 s then fireProd 5120 (plus (now s) 3) 0 (stamped o s) else stamped o s := by
  have hregs : ∀ t : State, t.regs = s.regs → bR oSyncInStat 2 t = false := fun t ht => (bR_of_regs ht _ _).trans hload
  unfold syncEdge
  rw [if_neg (by simp [hon, hlife]), hlast]
  dsimp only
  rw [if_neg (by decide), if_neg (by omega), hregs, Bool.false_and, if_neg (by decide)]
  · rfl
  · split
    · exact touches_fireProd.kept (·.regs) .regs
    · rfl

theorem touches_stamped : Touches [.time] s (stamped o s) := Touches.time

/-! ### Reads of the FIFO -/

theorem findReg_oSyncInStamp : findReg oSyncInStamp = some (⟨.syncInStamp, 0x228, [], 0, 0, 0, false, .dom0⟩, []) := rfl

theorem regRead_oSyncInStamp (m : Nat) (s : State) : regRead m oSyncInStamp s = stampPop s := by
  simp [regRead, readable_of_mayRead (s := s) (m := m) rfl rfl findReg_oSyncInStamp rfl]

theorem hostRead_oSyncInStamp (hf : fnReaches m s = true) :
    hostRead m oSyncInStamp s = answer m (stampPop s).1 none (stampPop s).2 := by
  rw [hostRead_reaches hf, regRead_oSyncInStamp]

theorem touches_stampRead : Touches [.regs, .time, .host] s (answer m (stampPop s).1 none (stampPop s).2) :=
  (touches_answer.after touches_stampPop).mono

/-! ### SYNC_OUT -/

theorem syncOutFireRow_fires (hx : s.time.fireNext = some x) (hdue : due x s = true) (hctl : fR oSyncOutCtl 1 0 s = 1) :
    syncOutFireRow s = { pulseStart x s with time := { (pulseStart x s).time with
      fireNext := if (getR oSyncOutPeriod s).toNat = 0 then none else some (plus x (getR oSyncOutPeriod s).toNat) } } := by
  rw [syncOutFireRow, hx]
  exact if_pos (by simp [hdue, hctl])

theorem hostWrite_oSyncOutCtl (h : Reaches .syncOutCtl [] m oSyncOutCtl v s) : hostWrite m oSyncOutCtl v s = syncOutCtl v s := by
  obtain ⟨row, -, hk, hw⟩ := hostWrite_reaches h
  rw [hw]
  simp only [regEffect, effectA, hk]

/-- SYNC_OUT_CTL with the bits written; MISSED stays where it is not cleared. -/
def syncOutStored (v : W40) (s : State) : State :=
  setR oSyncOutCtl (w ((v.toNat &&& 0x1FF3) + (if bR oSyncOutCtl 13 s && !bit v 13 then 2 ^ 13 else 0))) s

theorem fR_syncOutStored : fR oSyncOutCtl 1 0 (syncOutStored v s) = fld v 1 0 := by
  have hmask : (v.toNat &&& 0x1FF3) % 4 = v.toNat % 4 := by
    rw [show 4 = 2 ^ 2 from rfl, Nat.and_mod_two_pow, show 0x1FF3 % 2 ^ 2 = 2 ^ 2 - 1 from rfl, Nat.and_two_pow_sub_one_eq_mod, Nat.mod_mod]
  rw [fR, syncOutStored, getR_setR, fld, fld, w, BitVec.toNat_ofNat]
  simp only [Nat.shiftRight_zero]
  split <;> omega

theorem syncOutCtl_cases : syncOutCtl v s =
    if fld v 1 0 = 1 then
      if notBefore (getR oSyncOutTime s) s.time.tick then
        { syncOutStored v s with time := { s.time with fireNext := some (getR oSyncOutTime s) } }
      else putB oSyncOutCtl 13 true { syncOutStored v s with time := { s.time with fireNext := none } }
    else if fld v 1 0 = 2 then { syncOutStored v s with time := { s.time with fireNext := none } }
    else syncOutOff (syncOutStored v s) := by
  have htime : getR oSyncOutTime (syncOutStored v s) = getR oSyncOutTime s := getR_setR_ne s (by decide) _
  rw [← htime]
  rfl

theorem getR_syncOutStored (h : o ≠ oSyncOutCtl) : getR o (syncOutStored v s) = getR o s := getR_setR_ne s h _

/-- What a write of SYNC_OUT_CTL leaves (R64). -/
theorem syncOutCtl_writes : fR oSyncOutCtl 1 0 (syncOutCtl v s) = fld v 1 0 ∧
    (fld v 1 0 = 1 → notBefore (getR oSyncOutTime s) s.time.tick = true → (syncOutCtl v s).time.fireNext = some (getR oSyncOutTime s)) ∧
    (fld v 1 0 = 1 → notBefore (getR oSyncOutTime s) s.time.tick = false → (syncOutCtl v s).time.fireNext = none ∧
      bR oSyncOutCtl 13 (syncOutCtl v s) = true) ∧
    (fld v 1 0 ≠ 1 → (syncOutCtl v s).time.fireNext = none) ∧ ∀ o, o ≠ oSyncOutCtl → getR o (syncOutCtl v s) = getR o s := by
  have hstored := fR_syncOutStored (v := v) (s := s)
  have hother (o : Nat) (ho : o ≠ oSyncOutCtl) := getR_syncOutStored (v := v) (s := s) ho
  rw [syncOutCtl_cases]
  by_cases h1 : fld v 1 0 = 1
  · rw [if_pos h1]
    by_cases hb : notBefore (getR oSyncOutTime s) s.time.tick = true
    · rw [if_pos hb]
      exact ⟨hstored, fun _ _ => rfl, fun _ h => absurd (hb.symm.trans h) (by decide), fun h => absurd h1 h, hother⟩
    · rw [if_neg hb]
      exact ⟨(fR_putB_apart _ (by decide) (by decide)).trans hstored, fun _ h => absurd h hb, fun _ _ => ⟨rfl, bR_putB_self _ (by decide)⟩,
        fun _ => rfl, fun o ho => (getR_putB_ne ho _ _).trans (hother o ho)⟩
  · rw [if_neg h1]
    by_cases h2 : fld v 1 0 = 2
    · rw [if_pos h2]
      exact ⟨hstored, fun h => absurd h h1, fun h => absurd h h1, fun _ => rfl, hother⟩
    · rw [if_neg h2]
      exact ⟨hstored, fun h => absurd h h1, fun h => absurd h h1, fun _ => rfl, hother⟩

/-! ### SYNC_IN_STAT -/

theorem regRows_syncInStat : ∀ row ∈ regRows, row.k = .syncInStat → row.rw = 7 := by decide +kernel

theorem regRows_syncOutPeriod : ∀ row ∈ regRows, row.k = .syncOutPeriod → row.rw = 2 ^ 40 - 1 := by decide +kernel

theorem hostWrite_oSyncInStat (h : Reaches .syncInStat [] m oSyncInStat v s) :
    ∃ row : RegRow, row.rw = 7 ∧ hostWrite m oSyncInStat v s = storeReg row oSyncInStat v s := by
  obtain ⟨row, hrow, hk, hw⟩ := hostWrite_reaches h
  refine ⟨row, regRows_syncInStat row (mem_regRows_of_findReg hrow) hk, ?_⟩
  rw [hw, ← joinCommit_other (o := oSyncInStat) (by decide) (storeReg row oSyncInStat v s)]
  simp only [regEffect, effectA, effectB, hk]

theorem armed_word (n : Nat) (hn : n < 4) : fld (BitVec.ofNat 40 (n + 4)) 1 0 = n ∧ bit (BitVec.ofNat 40 (n + 4)) 2 = true := by
  revert n
  decide

theorem loadArm_arms (h : Reaches .syncInStat [] m oSyncInStat (BitVec.ofNat 40 (fR oSyncInStat 1 0 s + 4)) s) :
    OnlyRegs [oSyncInStat] s (hostWrite m oSyncInStat (BitVec.ofNat 40 (fR oSyncInStat 1 0 s + 4)) s) ∧
    bR oSyncInStat 2 (hostWrite m oSyncInStat (BitVec.ofNat 40 (fR oSyncInStat 1 0 s + 4)) s) = true ∧
    fR oSyncInStat 1 0 (hostWrite m oSyncInStat (BitVec.ofNat 40 (fR oSyncInStat 1 0 s + 4)) s) = fR oSyncInStat 1 0 s := by
  obtain ⟨row, hrw, hw⟩ := hostWrite_oSyncInStat h
  obtain ⟨hfld, hbit⟩ := armed_word (fR oSyncInStat 1 0 s) (fld_lt _ 1 0)
  have hlt : row.rw < 2 ^ 40 := by rw [hrw]; decide
  rw [hw]
  refine ⟨storeReg_only .., ?_, ?_⟩
  · exact (bit_storeReg hlt (by rw [hrw]; rfl) _ _ _).trans hbit
  · refine (fR_storeReg hlt (fun j _ hj => ?_) _ _ _).trans hfld
    rw [hrw]
    interval_cases j <;> rfl

theorem hostWrite_oSyncOutPeriod (h : Reaches .syncOutPeriod [] m oSyncOutPeriod v s) (hfresh : s.fresh = []) :
    OnlyRegs [oSyncOutPeriod] s (hostWrite m oSyncOutPeriod v s) ∧ getR oSyncOutPeriod (hostWrite m oSyncOutPeriod v s) = v := by
  obtain ⟨row, hmem, hk, hw⟩ := hostWrite_stores h hfresh (fun row hk => by simp [effectA, effectB, hk])
  rw [hw]
  exact ⟨storeReg_only .., getR_storeReg_full (regRows_syncOutPeriod row hmem hk) _ _ _⟩

theorem next_pulse (p : W40) : (if p.toNat = 0 then none else some (plus x p.toNat)) = if p = 0 then none else some (x + p) := by
  have hzero : p.toNat = 0 ↔ p = 0 := BitVec.toNat_eq (y := 0) |>.symm
  have hplus : plus x p.toNat = x + p := by rw [plus, BitVec.ofNat_toNat, BitVec.setWidth_eq]
  simp only [hzero, hplus]

/-- Settles O37: the cases of an edge, a read, a pulse and a write of the SYNC registers. -/
theorem syncInAndOut : Obligations.SyncInAndOut := by
  unfold Obligations.SyncInAndOut
  intro s
  refine ⟨fun off hlife hcount hon hload => ⟨fun hlast hroom => ?_, fun e hlast h0 hnear hmax => ?_⟩, fun m h => ?_,
    fun m hf => ⟨fun e r hfifo => ?_, fun hfifo => ?_⟩, fun x hx hdue hctl => ?_, fun m v h => ?_, fun m v h hfresh => ?_⟩
  · have hrow : syncInEdgeRow off s = syncEdge (off % 16) s := if_pos hcount
    refine .of_touches (hrow.trans (syncEdge_stamps hon hlife hlast hroom hload))
      (((Touches.ite touches_fireProd (.refl _)).after touches_stamped).mono (L := [.regs, .time, .clock, .log, .seqs, .fabric]))
      (fun _ h r => ⟨h.frame, r⟩) ⟨?_, ?_⟩
    · split
      · exact touches_fireProd.kept (·.time.fifo) .time
      · rfl
    · split
      · exact touches_fireProd.kept (·.regs) .regs
      · rfl
  · have hrow : syncInEdgeRow off s = syncEdge (off % 16) s := if_pos hcount
    exact .of_eq (hrow.trans (syncEdge_counts hon hlife hlast h0 hnear)) ⟨bump_only .., fR_bump_self hmax (by decide) (by decide)⟩
  · obtain ⟨honly, hbit, hfld⟩ := loadArm_arms h
    exact .of_touches (t := hostWrite m oSyncInStat (BitVec.ofNat 40 (fR oSyncInStat 1 0 s + 4)) s) rfl
      (honly.touches.mono (L := [.regs, .time, .clock])) (fun _ h r => ⟨h.frame, r⟩) ⟨hbit, hfld, fun o ho => honly.2 o (by simpa using ho)⟩
  · refine .of_touches (hostRead_oSyncInStamp hf) (touches_stampRead.mono (L := [.regs, .time, .clock, .gran, .mem, .rings, .hostMem, .made, .host]))
      (fun _ h r => ⟨h.frame, r⟩) ?_
    simp only [stampPop, hfifo]
    exact ⟨rfl, rfl, getR_setR ..⟩
  · refine .of_touches (hostRead_oSyncInStamp hf) (touches_stampRead.mono (L := [.regs, .time, .clock, .gran, .mem, .rings, .hostMem, .made, .host]))
      (fun _ h r => ⟨h.frame, r⟩) ?_
    simp only [stampPop, hfifo]
    refine ⟨rfl, ?_⟩
    exact bR_putB_self _ (by decide)
  · refine .of_eq (syncOutFireRow_fires hx hdue hctl) ⟨rfl, ?_, ?_, next_pulse _⟩
    · exact List.mem_append_left _ (List.mem_append_right _ (List.mem_singleton.2 rfl))
    · exact List.mem_append_right _ (List.mem_singleton.2 rfl)
  · exact .of_eq (hostWrite_oSyncOutCtl h) syncOutCtl_writes
  · exact .of_eq (t := hostWrite m oSyncOutPeriod v s) rfl (hostWrite_oSyncOutPeriod h hfresh)

end Sys2Proof.Machine
end

section
/-! PROOF. Witness engines without an open Bale. -/

set_option Elab.async false

namespace Sys2Proof.Machine

variable {s t u : State} {K L : List Fld} {e : Nat}

/-- A fold whose steps touch `K` wherever `I` holds, which every step keeps. -/
theorem Touches.foldS_of {α : Type} {I : State → Prop} {f : α → State → State}
    (h : ∀ a s, I s → Touches K s (f a s) ∧ I (f a s)) : ∀ {l : List α} {s : State}, I s → Touches K s (Machine.foldS f l s) ∧ I (Machine.foldS f l s)
  | [], s, hs => ⟨(Touches.refl s).mono fun _ => nofun, hs⟩
  | a :: l, s, hs => by
    obtain ⟨ha, hI⟩ := h a s hs
    obtain ⟨hl, hI⟩ := Touches.foldS_of h (l := l) hI
    exact ⟨(ha.trans hl).mono fun _ hf => (List.mem_append.1 hf).elim id id, hI⟩

/-! ### Witness engines without an open Bale -/

/-- No witness engine has a Bale open. -/
def NoBales (s : State) : Prop := ∀ e, (wit e s).bale = none

theorem NoBales.of_wits (h : NoBales s) (hw : t.wits = s.wits) : NoBales t := fun e => by
  rw [wit, hw]
  exact h e

theorem NoBales.of_touches (h : NoBales s) (k : Touches K s t) (hw : Fld.wits ∉ K := by decide) : NoBales t :=
  h.of_wits (k.kept (·.wits) .wits hw)

theorem NoBales.setWit (h : NoBales s) {x : Wit} (hx : x.bale = none) : NoBales (setWit e x s) := fun k => by
  by_cases hk : k = e
  · rw [hk, wit_setWit, hx]
  · rw [wit_setWit_ne s hk, h k]

/-- An engine without an open Bale that closes early only leaves its trigger. -/
theorem witCloseEarly_quiet {ts : Bool} (h : NoBales s) : Touches [.wits] s (witCloseEarly ts e s) ∧ NoBales (witCloseEarly ts e s) := by
  have heq : witCloseEarly ts e s = setWit e { wit e s with st := .off, met := [] } s := by
    unfold witCloseEarly
    dsimp only
    rw [h e]
  rw [heq]
  exact ⟨touches_setWit, h.setWit (h e)⟩

theorem witStopAll_quiet {ts : Bool} (h : NoBales s) : Touches [.wits] s (witStopAll ts s) ∧ NoBales (witStopAll ts s) :=
  Touches.foldS_of (fun _ _ hs => witCloseEarly_quiet hs) h

end Sys2Proof.Machine
end

section
/-! PROOF. Time steps (O36). -/

set_option Elab.async false

namespace Sys2Proof.Machine

variable {s t u : State} {q : StepReq} {x y : Tick} {f : BitVec 64} {n d : Int}

/-! ### The time after a step -/

theorem fullTime_setFull (f : BitVec 64) (s : State) : fullTime (setFull f s) = f := by
  have htick : (BitVec.ofNat 40 f.toNat).toNat = f.toNat % 2 ^ 40 := BitVec.toNat_ofNat ..
  have hepoch : (BitVec.ofNat 24 (f.toNat / 2 ^ 40)).toNat = f.toNat / 2 ^ 40 := by
    rw [BitVec.toNat_ofNat]
    exact Nat.mod_eq_of_lt (by have := f.isLt; omega)
  have hsum : f.toNat / 2 ^ 40 * 2 ^ 40 + f.toNat % 2 ^ 40 = f.toNat := Nat.div_add_mod' ..
  show BitVec.ofNat 64 ((BitVec.ofNat 24 (f.toNat / 2 ^ 40)).toNat * 2 ^ 40 + (BitVec.ofNat 40 f.toNat).toNat) = f
  rw [htick, hepoch, hsum, BitVec.ofNat_toNat, BitVec.setWidth_eq]

theorem fullTime_of_clock (htick : t.time.tick = s.time.tick) (hepoch : t.time.epoch = s.time.epoch) : fullTime t = fullTime s := by
  rw [fullTime, htick, hepoch, fullTime]

/-- The time that a step brings (R58). -/
def stepTime' (q : StepReq) (x : Tick) (s : State) : BitVec 64 := BitVec.ofInt 64 ((fullTime s).toNat + stepChange q x s)

theorem ofInt_add_int (F : BitVec 64) (n : Int) : BitVec.ofInt 64 (F.toNat + n) = F + BitVec.ofInt 64 n := by
  rw [BitVec.ofInt_add]
  simp

theorem ofInt_add_loaded (F f k : BitVec 64) : BitVec.ofInt 64 (F.toNat + ((f.toNat : Int) - (F - k).toNat)) = f + k := by
  apply BitVec.eq_of_toNat_eq
  simp only [BitVec.toNat_ofInt, BitVec.toNat_add, BitVec.toNat_sub]
  omega

theorem moved_loaded (F f : BitVec 64) (now x : Tick) (h : F.toNat % 2 ^ 40 = now.toNat) :
    x + BitVec.ofInt 40 ((f.toNat : Int) - (F - BitVec.ofNat 64 (now - x).toNat).toNat) = BitVec.ofNat 40 f.toNat := by
  apply BitVec.eq_of_toNat_eq
  simp only [BitVec.toNat_ofInt, BitVec.toNat_add, BitVec.toNat_sub, BitVec.toNat_ofNat]
  omega

theorem fullTime_mod (s : State) : (fullTime s).toNat % 2 ^ 40 = s.time.tick.toNat := by
  have htick := s.time.tick.isLt
  rw [fullTime, BitVec.toNat_ofNat]
  omega

theorem stepChange_load (hq : q.kind = .load f) :
    stepChange q x s = (f.toNat : Int) - (fullTime s - BitVec.ofNat 64 (s.time.tick - x).toNat).toNat := by
  simp only [stepChange, hq, now]

theorem stepTime'_load (hq : q.kind = .load f) : stepTime' q x s = f + BitVec.ofNat 64 (s.time.tick - x).toNat :=
  (congrArg (fun d : Int => BitVec.ofInt 64 ((fullTime s).toNat + d)) (stepChange_load hq)).trans (ofInt_add_loaded _ _ _)

theorem stepTime'_shift (hq : q.kind = .shift n) : stepTime' q x s = fullTime s + BitVec.ofInt 64 n := by
  have hchange : stepChange q x s = n := by simp only [stepChange, hq]
  exact (congrArg (fun d : Int => BitVec.ofInt 64 ((fullTime s).toNat + d)) hchange).trans (ofInt_add_int _ _)

/-- A load puts its value at the edge of the step, wherever TICK stands. -/
theorem moved_load (hq : q.kind = .load f) : moved (stepChange q x s) x = BitVec.ofNat 40 f.toNat :=
  (congrArg (fun d : Int => moved d x) (stepChange_load hq)).trans (moved_loaded _ _ _ _ (fullTime_mod s))

/-! ### A step applied -/

/-- The device with its times moved and the time of the step. -/
def stepMoved (q : StepReq) (x : Tick) (s : State) : State :=
  setFull (stepTime' q x s) { shiftAll (stepChange q x s) (witStopAll true s) with down := [] }

/-- SYNC_OUT, the Binder and LOAD_ARM meet the step. -/
def stepMet (q : StepReq) (old : Tick) (s : State) : State :=
  let s := binderStep (fireAfterStep old s)
  if q.sync then putB oSyncInStat 2 false s else s

/-- The request is gone; in READY the sequencers resume 10,000 ticks on. -/
def stepTaken (q : StepReq) (d : Int) (x : Tick) (s : State) : State :=
  { s with time := { s.time with
    shifts := (x, d) :: s.time.shifts
    req := none, resume := if s.life = .ready then some (plus x 10000) else none,
    stepAcq := acqReq q } }

def stepEnds (q : StepReq) (x : Tick) (s : State) : State := reasonsUpdate (putB oTimeStatus 7 false (slewBegin x q.phase s))

theorem applyStep_eq : ∃ ep wide, applyStep q x s = stepEnds q (moved (stepChange q x s) x) (stepTaken q (stepChange q x s)
    (moved (stepChange q x s) x) (stepMet q s.time.tick (recordAt (moved (stepChange q x s) x) ep 0 [] 0 0x205 wide (wi (stepChange q x s))
      (stepMoved q x s)))) := ⟨_, _, rfl⟩

/-- The parts that hold times, and so move with a step. -/
def movedParts : List Fld := [.wits, .time, .log, .lbReq, .lbResume, .armAfter, .safePend, .holdHist, .lbHist, .ballHist, .seqs, .barriers,
  .drv, .prb, .flux, .outs, .bias, .adcs, .slots, .halves, .bus, .binder, .cores, .made, .ce, .fabric, .ports, .fed, .pair, .mon, .senses,
  .therm, .glean, .safeAt, .agenda, .down, .clock]

theorem touches_stepMoved_quiet (h : NoBales s) : Touches movedParts s (stepMoved q x s) :=
  (touches_setFull.after (Touches.down.after (touches_shiftAll.after (witStopAll_quiet h).1))).mono

theorem touches_stepMoved : Touches (movedParts ++ [.regs, .rings, .host]) s (stepMoved q x s) :=
  (touches_setFull.after (Touches.down.after (touches_shiftAll.after touches_witStopAll))).mono

theorem touches_stepMet {old : Tick} : Touches [.regs, .time, .agenda, .binder] s (stepMet q old s) :=
  ((Touches.ite touches_putB (.refl _)).after (touches_binderStep.after touches_fireAfterStep)).mono

theorem touches_stepTaken : Touches [.time] s (stepTaken q d x s) := .time

theorem touches_stepEnds : Touches [.seqs, .regs, .time] s (stepEnds q x s) :=
  (touches_reasonsUpdate.after (touches_putB.after touches_slewBegin)).mono

theorem touches_applyStep_quiet (h : NoBales s) : Touches (movedParts ++ [.regs]) s (applyStep q x s) := by
  obtain ⟨ep, wide, heq⟩ := applyStep_eq (q := q) (x := x) (s := s)
  rw [heq]
  exact (touches_stepEnds.after (touches_stepTaken.after (touches_stepMet.after (touches_recordAt.after (touches_stepMoved_quiet h))))).mono

theorem reports_recordAt {src code detail key : Nat} {ep : BitVec 24} {doms : List Nat} {w3 : W40} (hs : src < 2 ^ 16) (hc : code < 2 ^ 16) :
    Reports src code s (recordAt x ep key doms src code detail w3 s) := by
  unfold Reports recordAt
  dsimp only
  rw [List.drop_left]
  exact ⟨_, List.mem_singleton.2 rfl, Nat.mod_eq_of_lt hs, Nat.mod_eq_of_lt hc⟩

theorem applyStep_reports : Reports 0 0x205 s (applyStep q x s) := by
  obtain ⟨ep, wide, heq⟩ := applyStep_eq (q := q) (x := x) (s := s)
  rw [heq]
  exact ((reports_recordAt (by decide) (by decide)).after touches_stepMoved).before
    (touches_stepEnds.after (touches_stepTaken.after touches_stepMet))

theorem fullTime_applyStep : fullTime (applyStep q x s) = stepTime' q x s := by
  obtain ⟨ep, wide, heq⟩ := applyStep_eq (q := q) (x := x) (s := s)
  have hafter (u : State) : Touches [.seqs, .regs, .time, .agenda, .binder, .log] u (stepEnds q (moved (stepChange q x s) x)
      (stepTaken q (stepChange q x s) (moved (stepChange q x s) x) (stepMet q s.time.tick
        (recordAt (moved (stepChange q x s) x) ep 0 [] 0 0x205 wide (wi (stepChange q x s)) u)))) :=
    (touches_stepEnds.after (touches_stepTaken.after (touches_stepMet.after touches_recordAt))).mono
  rw [heq, fullTime_of_clock ((hafter _).kept (·.time.tick) .clock) ((hafter _).kept (·.time.epoch) .clock), stepMoved, fullTime_setFull]

theorem stepEnds_time : (stepEnds q x s).time.req = s.time.req ∧ (stepEnds q x s).time.resume = s.time.resume ∧
    bR oTimeStatus 7 (stepEnds q x s) = false := by
  refine ⟨?_, ?_, ?_⟩
  · exact touches_reasonsUpdate.kept (·.time.req) .time
  · exact touches_reasonsUpdate.kept (·.time.resume) .time
  · rw [stepEnds, bR_of_regs (touches_reasonsUpdate.kept (·.regs) .regs), bR_putB_self _ (by decide)]

theorem applyStep_time : (applyStep q x s).time.req = none ∧ bR oTimeStatus 7 (applyStep q x s) = false ∧
    (applyStep q x s).time.resume = if s.life = .ready then some (plus (moved (stepChange q x s) x) 10000) else none := by
  obtain ⟨ep, wide, heq⟩ := applyStep_eq (q := q) (x := x) (s := s)
  have hlife : (stepMet q s.time.tick (recordAt (moved (stepChange q x s) x) ep 0 [] 0 0x205 wide (wi (stepChange q x s))
      (stepMoved q x s))).life = s.life :=
    (touches_stepMet.after (touches_recordAt.after touches_stepMoved)).kept (·.life) .life
  rw [heq]
  obtain ⟨hreq, hresume, hbit⟩ := stepEnds_time (q := q) (x := moved (stepChange q x s) x) (s := stepTaken q (stepChange q x s)
    (moved (stepChange q x s) x) (stepMet q s.time.tick (recordAt (moved (stepChange q x s) x) ep 0 [] 0 0x205 wide (wi (stepChange q x s))
      (stepMoved q x s))))
  refine ⟨hreq, hbit, ?_⟩
  rw [hresume, ← hlife]
  rfl

theorem timeStepRow_applies (hreq : s.time.req = some q) (hquiet : q.quiet = some y) (hdue : due (ck3After y) s = true)
    (hcount : s.time.counting = true) (hlife : s.life = .safe ∨ s.life = .ready) : timeStepRow s = applyStep q (ck3After y) s := by
  have hlife : (s.life == .safe || s.life == .ready) = true := by simpa using hlife
  simp only [timeStepRow, hreq, stepAt, hquiet, Option.map_some, hdue, hcount, hlife, Bool.and_self, if_true]

/-! ### The resumption, and a step that waits -/

/-- The end of the delay after a step. -/
def stepResumed (s : State) : State := { s with time := { s.time with resume := none, stepAcq := false } }

theorem timeStepResumeRow_resumes (hx : s.time.resume = some x) (hdue : due x s = true) : timeStepResumeRow s =
    reasonsUpdate (if s.time.acquiring && s.time.stepAcq then acquired (witArmAll x (stepResumed s)) else witArmAll x (stepResumed s)) := by
  rw [timeStepResumeRow, hx]
  exact if_pos hdue

theorem resume_acquired : (acquired s).time.resume = s.time.resume := by
  unfold acquired
  exact (Touches.foldS fun _ _ => touches_barHeld).kept (·.time.resume) .time

theorem resume_timeStepResumeRow (hx : s.time.resume = some x) (hdue : due x s = true) : (timeStepResumeRow s).time.resume = none := by
  rw [timeStepResumeRow_resumes hx hdue, touches_reasonsUpdate.kept (·.time.resume) .time]
  have harm : (witArmAll x (stepResumed s)).time.resume = none := touches_witArmAll.kept (·.time.resume) .time
  split
  · rw [resume_acquired, harm]
  · exact harm

theorem timeStepWaitRow_waits (hreq : s.time.req = some q) (hwaited : q.waited = false) (hdue : due (plus q.at_ 1000000) s = true) :
    timeStepWaitRow s = record 0 0x206 0 0 { s with time := { s.time with req := some { q with waited := true } } } := by
  rw [timeStepWaitRow, hreq]
  exact if_pos (by simp [hwaited, hdue])

/-- Settles O36: a step that is applied brings its time (`fullTime_applyStep`) and moves what counts from a tick (`touches_stepMoved`). -/
theorem timeSteps : Obligations.TimeSteps := by
  unfold Obligations.TimeSteps
  refine ⟨fun q y s hreq hquiet hdue hcount hlife => ?_, fun x s hx hdue => ?_, fun q s hreq hwaited hdue => ?_⟩
  · obtain ⟨hnone, hbit, hresume⟩ := applyStep_time (q := q) (x := ck3After y) (s := s)
    have hfull := fullTime_applyStep (q := q) (x := ck3After y) (s := s)
    have hrow := timeStepRow_applies hreq hquiet hdue hcount hlife
    have hquietly (h : NoBales s) : (timeStepRow s).gran = { s.gran with made := (timeStepRow s).gran.made } ∧ (timeStepRow s).host = s.host := by
      have htouches := touches_applyStep_quiet (q := q) (x := ck3After y) h
      rw [hrow]
      exact ⟨congrArg State.gran htouches.frame, htouches.kept (·.host) .host⟩
    refine .of_touches (t := timeStepRow s) rfl touches_timeStepRow (fun t h r => ⟨h.kept (·.life) .life, h.kept (·.wave) .wave,
      h.kept (·.vb) .vb, h.kept (·.gran.mem) .mem, h.kept (·.gran.hostMem) .hostMem, h.kept (·.lins) .lins, h.kept (·.pins) .pins,
      h.kept (·.free) .free, r⟩) ⟨hquietly, ?_⟩
    rw [hrow]
    refine ⟨hnone, hbit, applyStep_reports, fun f hf => ⟨?_, fun hready => ?_⟩, fun n hn => ?_, fun hsafe => ?_⟩
    · rw [hfull, stepTime'_load hf]
    · rw [hresume, if_pos hready, moved_load hf]
    · rw [hfull, stepTime'_shift hn]
    · rw [hresume, if_neg (by simp [hsafe])]
  · exact .of_touches (t := timeStepResumeRow s) rfl (touches_timeStepResumeRow.mono
      (L := [.regs, .time, .clock, .log, .seqs, .barriers, .wits, .ports])) (fun _ h r => ⟨h.frame, r⟩)
      ⟨resume_timeStepResumeRow hx hdue, touches_timeStepResumeRow.kept (·.time.tick) .clock⟩
  · refine .of_eq (timeStepWaitRow_waits hreq hwaited hdue) ⟨?_, rfl, rfl⟩
    exact (logged_record _ _ _ _ _ (by decide) (by decide) (by decide)).after Touches.time

end Sys2Proof.Machine
end

section
/-! PROOF. The ring routines (O42). -/

set_option Elab.async false

namespace Sys2Proof.Machine

variable {s t u : State} {K : List Fld} {r q : Routine} {n k : Nat} {x : Ring}

theorem Touches.memKept (h : Touches K s t) (hm : Fld.mem ∉ K := by decide) (hh : Fld.hostMem ∉ K := by decide) : MemKept s t :=
  ⟨fun a => by rw [h.kept (·.gran.mem) .mem hm], fun a => by rw [h.kept (·.gran.hostMem) .hostMem hh]⟩

theorem Ends.of_tick {s₀ : State} {st : Nat} {res : List W40} (h : Ends st res r s t) (htime : s.time.tick = s₀.time.tick) :
    Ends st res r s₀ t := h.of_ce rfl htime

theorem ring_of_rings (h : t.gran.rings = s.gran.rings) (n : Nat) : ring n t = ring n s := by rw [ring, h, ring]

theorem touches_ended {st : Nat} {res : List W40} : Touches [.ce] s (ended st res r s) := .ce

/-- A routine that sets its ring and ends. -/
theorem finish_setRing {st : Nat} {res : List W40} (hcur : s.ce.cur = some r) (h1 : r.opcode ≠ 0x401) (h2 : r.opcode ≠ 0x402)
    (hp : progressive r.opcode = false ∨ st = 0 ∨ st = 7 ∨ st = 10) :
    finish st res (setRing n x s) = ended st res r (setRing n x s) := finish_ended (s := setRing n x s) hcur h1 h2 hp

theorem touches_ended_setRing {st : Nat} {res : List W40} :
    Touches [.rings, .ce] s (ended st res r (setRing n x s)) := (touches_ended.after touches_setRing).mono

theorem ended_setRing {st : Nat} {res : List W40} : Ends st res r s (ended st res r (setRing n x s)) ∧
    ring n (ended st res r (setRing n x s)) = x ∧ ∀ k, k ≠ n → ring k (ended st res r (setRing n x s)) = ring k s :=
  ⟨ends_ended, ring_setRing s n x, fun _ hk => ring_setRing_ne s hk x⟩

/-! ### Assignment, clearing and queries -/

theorem doRingAssign_assigns (h : Runs 0x101 r s) (hsec : bit (prm r 0) 0 = true → bR oSecDomains (fld (prm r 0) 4 1) s = true)
    (hlen : (ring r.target s).length = 0) : doRingAssign s = ended 0 [] r (setRing r.target { ring r.target s with
      owner := fld (prm r 0) 4 1, secure := bit (prm r 0) 0 } s) := by
  have hok : (bit (prm r 0) 0 && !bR oSecDomains (fld (prm r 0) 4 1) s) = false := by
    cases hb : bit (prm r 0) 0
    · rfl
    · simp [hsec hb]
  rw [doRingAssign, opRun_runs h]
  dsimp only
  rw [hok, if_neg (by decide), if_neg (by simp [hlen])]
  obtain ⟨hcur, hop, -, -⟩ := h
  exact finish_setRing hcur (by simp [hop]) (by simp [hop]) (.inr (.inl rfl))

theorem doRingClear_clears (h : Runs 0x104 r s) : doRingClear s = ended 0 [] r (setRing r.target { ring r.target s with
    fullDrops := 0, disDrops := 0, lastDrop := 0 } s) := by
  rw [doRingClear, opRun_runs h]
  obtain ⟨hcur, hop, -, -⟩ := h
  exact finish_setRing hcur (by simp [hop]) (by simp [hop]) (.inr (.inl rfl))

theorem doRingQuery_answers (h : Runs 0x105 r s) (hok : descrBad r.target s = false) :
    doRingQuery s = ended 0 (descrWords (ring r.target s)) r s := by
  rw [doRingQuery, opRun_runs h]
  dsimp only
  rw [hok, if_neg (by decide)]
  obtain ⟨hcur, hop, -, -⟩ := h
  exact finish_ended hcur (by simp [hop]) (by simp [hop]) (.inr (.inl rfl))

/-- An uncorrectable error in the descriptor of ring `n` (R267). -/
def descrError (n : Nat) (s : State) : State := eccCount (.uncorrectable 0) (64 * n) (some n) s

theorem touches_descrError : Touches [.regs, .log] s (descrError n s) := touches_eccCount

theorem getR_descrError : getR oGrEccAddr (descrError n s) = BitVec.ofNat 40 (64 * n) := by
  have hword : 32 * (64 * n / 32 + 0) = 64 * n := by omega
  unfold descrError eccCount
  dsimp only
  rw [getR_of_regs (touches_ringRecord.kept (·.regs) .regs), getR_setR, hword, w]

theorem doRingQuery_fails (h : Runs 0x105 r s) (hbad : descrBad r.target s = true) :
    doRingQuery s = ended 9 [] r (descrError r.target s) := by
  rw [doRingQuery, opRun_runs h]
  dsimp only
  rw [hbad, if_pos rfl]
  obtain ⟨hcur, hop, -, -⟩ := h
  have hcur : (descrError r.target s).ce.cur = some r := by rw [touches_descrError.kept (·.ce) .ce, hcur]
  exact finish_ended hcur (by simp [hop]) (by simp [hop]) (.inl (by rw [hop]; rfl))

/-! ### Configuration -/

/-- What a drained mark leaves of a ring. -/
def SameBody (x y : Ring) : Prop := y.length = x.length ∧ y.tail = x.tail ∧ y.head = x.head ∧ y.owner = x.owner

theorem SameBody.refl (x : Ring) : SameBody x x := ⟨rfl, rfl, rfl, rfl⟩

theorem SameBody.trans {x y z : Ring} (h : SameBody x y) (k : SameBody y z) : SameBody x z := by
  obtain ⟨hl, ht, hh, ho⟩ := h
  obtain ⟨kl, kt, kh, ko⟩ := k
  exact ⟨kl.trans hl, kt.trans ht, kh.trans hh, ko.trans ho⟩

theorem sameBody_setRing {g : Nat} {y : Ring} (h : SameBody (ring g s) y) : SameBody (ring n s) (ring n (setRing g y s)) := by
  by_cases hn : n = g
  · subst hn
    rw [ring_setRing]
    exact h
  · rw [ring_setRing_ne s hn]
    exact .refl _

theorem sameBody_undrain : SameBody (ring k s) (ring k (undrain n x s)) := by
  unfold undrain
  dsimp only
  split
  · exact sameBody_setRing ⟨rfl, rfl, rfl, rfl⟩
  · exact .refl _

/-- The ring leaves the source that it drained, where it takes another or changes its type (R278). -/
def sourceLeft (n : Nat) (q : RingAsk) (s : State) : State :=
  if takesSource n q s || (drains (ring n s).type && q.type != (ring n s).type) then undrain n (ring n s) s else s

/-- The ring marks the source that it takes. -/
def sourceTaken (take : Bool) (n : Nat) (q : RingAsk) (s : State) : State :=
  if take then setRing (fld q.w8 19 0) { ring (fld q.w8 19 0) s with drained := true, drainer := n } s else s

/-- Ring `n` as configured (R278). -/
def configuredRing (q : RingAsk) (x : Ring) : Ring :=
  { x with
    type := q.type, vector := q.vector, watermark := q.watermark, wmArmed := true, w6 := q.w6, w7 := q.w7, w8 := q.w8,
    base := if drains q.type then 0 else x.base }

/-- The rings of the source ready for the configuration. -/
def sourced (n : Nat) (q : RingAsk) (s : State) : State := sourceTaken (takesSource n q s) n q (sourceLeft n q s)

theorem touches_sourced {q : RingAsk} : Touches [.rings] s (sourced n q s) :=
  ((Touches.ite touches_setRing (.refl _)).after (Touches.ite touches_undrain (.refl _))).mono

theorem sameBody_sourced {q : RingAsk} : SameBody (ring n s) (ring n (sourced n q s)) := by
  have hleft : SameBody (ring n s) (ring n (sourceLeft n q s)) := by
    unfold sourceLeft
    split
    · exact sameBody_undrain
    · exact .refl _
  refine hleft.trans ?_
  unfold sourced sourceTaken
  split
  · exact sameBody_setRing ⟨rfl, rfl, rfl, rfl⟩
  · exact .refl _

theorem doRingConfig_configures (h : Runs 0x102 r s) (hok : ringConfigRefusal r.dom r.target (ringAsk r) s = none) :
    doRingConfig s = ended 0 [] r (setRing r.target (configuredRing (ringAsk r) (ring r.target (sourced r.target (ringAsk r) s)))
      (sourced r.target (ringAsk r) s)) := by
  rw [doRingConfig, opRun_runs h]
  dsimp only
  rw [hok]
  obtain ⟨hcur, hop, -, -⟩ := h
  have hcur : (sourced r.target (ringAsk r) s).ce.cur = some r := by rw [touches_sourced.kept (·.ce) .ce, hcur]
  exact finish_setRing hcur (by simp [hop]) (by simp [hop]) (.inr (.inl rfl))

theorem ringAsk_fields (r : Routine) : (ringAsk r).type = fld (prm r 0) 39 37 ∧ (ringAsk r).vector = fld (prm r 0) 36 26 ∧
    (ringAsk r).watermark = fld (prm r 1) 29 0 := ⟨rfl, rfl, rfl⟩

/-! ### Resizing -/

/-- The routine that runs is still `r`, but for marks of its own. -/
def StillRuns (r : Routine) (s : State) : Prop := ∃ q, s.ce.cur = some q ∧ q.ring = r.ring ∧ q.tag = r.tag ∧ q.opcode = r.opcode

theorem StillRuns.of_ce (h : StillRuns r s) (hce : t.ce = s.ce) : StillRuns r t := by
  rw [StillRuns, hce]
  exact h

theorem stillRuns_keep (h : StillRuns r s) {f : Routine → Routine} (hf : ∀ q, (f q).ring = q.ring ∧ (f q).tag = q.tag ∧ (f q).opcode = q.opcode)
    (hcur : t.ce.cur = s.ce.cur.map f) : StillRuns r t := by
  obtain ⟨q, hq, hring, htag, hop⟩ := h
  obtain ⟨fring, ftag, fop⟩ := hf q
  exact ⟨f q, by rw [hcur, hq]; rfl, fring.trans hring, ftag.trans htag, fop.trans hop⟩

theorem StillRuns.ends {st : Nat} {res : List W40} (h : StillRuns r s) (h1 : r.opcode ≠ 0x401) (h2 : r.opcode ≠ 0x402)
    (hp : progressive r.opcode = false ∨ st = 0 ∨ st = 7 ∨ st = 10) :
    Touches [.ce] s (finish st res s) ∧ Ends st res r s (finish st res s) := by
  obtain ⟨q, hq, hring, htag, hop⟩ := h
  rw [finish_ended hq (hop ▸ h1) (hop ▸ h2) (hop ▸ hp)]
  exact ⟨touches_ended, _, rfl, hring, htag, rfl⟩

theorem touches_ringDiscard_rings : Touches [.wits, .gran, .regs, .log, .halves, .ce, .mem] s (ringDiscard n s) := by
  unfold ringDiscard
  extract_lets x abandoned dropped keep ce kept
  have hkept : Touches [.wits, .gran, .regs, .log, .halves, .ce] s kept :=
    .mono (Touches.ce.after ((Touches.foldS fun _ _ => touches_producerDrop.after touches_delHalf).after
      (Touches.foldS fun _ _ => touches_baleAbandon)))
  exact .mono (.ite ((touches_setMem (zeroRange_wf _ _)).after hkept) hkept)

theorem stillRuns_ringDiscard (h : StillRuns r s) : StillRuns r (ringDiscard n s) := by
  unfold ringDiscard
  extract_lets x abandoned dropped keep ce kept
  have hdropped : dropped.ce = s.ce := ((Touches.foldS fun _ _ => touches_producerDrop.after touches_delHalf).after
    (Touches.foldS (l := balesOf n s) fun _ _ => touches_baleAbandon)).kept (·.ce) .ce
  have hkept : StillRuns r kept := by
    refine stillRuns_keep (s := dropped) (f := keep) (h.of_ce hdropped) (fun q => ?_) rfl
    dsimp only [keep]
    split <;> exact ⟨rfl, rfl, rfl⟩
  split
  · exact hkept.of_ce rfl
  · exact hkept

/-- The contents of ring `n` leave it, with the Bales and half-filled slots that stand for it (R277). -/
def ringEmptied (n : Nat) (s : State) : State := balesGone n (if !ringQuiet n s then ringDiscard n s else s)

theorem touches_ringEmptied : Touches [.wits, .gran, .regs, .log, .halves, .ce, .mem] s (ringEmptied n s) :=
  (touches_balesGone.after (Touches.ite touches_ringDiscard_rings (.refl _))).mono

theorem stillRuns_ringEmptied (h : StillRuns r s) : StillRuns r (ringEmptied n s) := by
  refine StillRuns.of_ce ?_ (touches_balesGone.kept (·.ce) .ce)
  split
  · exact stillRuns_ringDiscard h
  · exact h

/-- The routine notes how many slots it has zeroed. -/
def zeroedNoted (z : Nat) (s : State) : State := { s with ce := { s.ce with cur := s.ce.cur.map (fun r => { r with zeroed := z }) } }

/-- Ring `n` empty, in its new place (R277). -/
def resizedRing (r : Routine) (forced : Bool) (x x' : Ring) : Ring :=
  { x' with
    base := if drains x.type then 0 else (prm r 0).toNat, length := fld (prm r 1) 29 0, tail := 0, head := 0, forced := forced
    eccStop := false }

/-- Its source goes free where it is given up. -/
def sourceFreed (r : Routine) (x : Ring) (s : State) : State :=
  if fld (prm r 1) 29 0 = 0 ∧ x.length ≠ 0 then undrain r.target x s else s

/-- Ring `n` leaves the list of the engine. -/
def unlisted (n : Nat) (s : State) : State := { s with ce := { s.ce with list := s.ce.list.filter (fun m => m != n) } }

/-- The ring takes its new place, and leaves the list of the engine. -/
def resized (r : Routine) (forced : Bool) (x : Ring) (s : State) : State :=
  watermark r.target (unlisted r.target (setRing r.target (resizedRing r forced x (ring r.target s)) s))

theorem doRingResize_resizes (h : Runs 0x103 r s)
    (hok : resizeRefusal r.target (prm r 0).toNat (fld (prm r 1) 29 0) (r.flags.testBit 0) s = none) :
    ∃ z items, doRingResize .clean s = finish 0 [BitVec.ofNat 40 (level (ring r.target s)), items]
      (resized r (!ringQuiet r.target s) (ring r.target s) (sourceFreed r (ring r.target s) (zeroedNoted z (ringEmptied r.target s)))) := by
  rw [doRingResize, opRun_runs h]
  dsimp only
  rw [hok]
  exact ⟨_, _, rfl⟩

/-- What a watermark leaves of a ring. -/
def SameRing (x y : Ring) : Prop := y = { x with wmArmed := y.wmArmed }

theorem sameRing_watermark : SameRing (ring n s) (ring n (watermark n s)) := by
  unfold watermark
  dsimp only
  split
  · rfl
  · split
    · split
      · rw [ring_of_rings (touches_sendMsix.kept (·.gran.rings) .rings), ring_setRing]
        rfl
      · rfl
    · rw [ring_setRing]
      rfl

theorem resized_ring {forced : Bool} : SameRing (resizedRing r forced x (ring r.target s)) (ring r.target (resized r forced x s)) := by
  have h := sameRing_watermark (n := r.target) (s := unlisted r.target (setRing r.target (resizedRing r forced x (ring r.target s)) s))
  rwa [ring_of_rings (t := unlisted r.target _) (s := setRing r.target (resizedRing r forced x (ring r.target s)) s) rfl, ring_setRing] at h

theorem touches_unlisted : Touches [.ce] s (unlisted n s) := .ce

theorem touches_resized {forced : Bool} : Touches [.rings, .host, .regs, .ce] s (resized r forced x s) :=
  (touches_watermark.after (touches_unlisted.after touches_setRing)).mono

theorem stillRuns_resized {forced : Bool} (h : StillRuns r s) : StillRuns r (resized r forced x s) := by
  unfold resized
  exact StillRuns.of_ce (s := unlisted r.target s) h (touches_watermark.kept (·.ce) .ce)

theorem touches_sourceFreed : Touches [.rings] s (sourceFreed r x s) := (Touches.ite touches_undrain (.refl _)).mono

theorem touches_zeroedNoted {z : Nat} : Touches [.ce] s (zeroedNoted z s) := .ce

theorem owner_sourceFreed : (ring r.target (sourceFreed r x s)).owner = (ring r.target s).owner := by
  unfold sourceFreed
  split
  · exact sameBody_undrain.2.2.2
  · rfl

theorem ringResize_completes (h : Runs 0x103 r s)
    (hok : resizeRefusal r.target (prm r 0).toNat (fld (prm r 1) 29 0) (r.flags.testBit 0) s = none) :
    Completes (.ringResize .clean) s (fun t =>
      t = { s with
        regs := t.regs, log := t.log, halves := t.halves, wits := t.wits, gran := t.gran, ce := t.ce, host := t.host } ∧
      (∃ items, Ends 0 [BitVec.ofNat 40 (level (ring r.target s)), items] r s t) ∧
      (ring r.target t).length = fld (prm r 1) 29 0 ∧ (ring r.target t).tail = 0 ∧ (ring r.target t).head = 0 ∧
      (ring r.target t).forced = !ringQuiet r.target s ∧ (ring r.target t).owner = (ring r.target s).owner ∧
      ((ring r.target s).type ≠ 5 → (ring r.target s).type ≠ 6 → (ring r.target t).base = (prm r 0).toNat)) := by
  obtain ⟨z, items, heq⟩ := doRingResize_resizes h hok
  obtain ⟨hcur, hop, -, -⟩ := h
  have hruns : StillRuns r (zeroedNoted z (ringEmptied r.target s)) :=
    stillRuns_keep (f := fun q => { q with zeroed := z }) (stillRuns_ringEmptied ⟨r, hcur, rfl, rfl, rfl⟩) (fun _ => ⟨rfl, rfl, rfl⟩) rfl
  have hempty : Touches [.wits, .gran, .regs, .log, .halves, .ce, .mem] s (zeroedNoted z (ringEmptied r.target s)) :=
    (touches_zeroedNoted.after touches_ringEmptied).mono
  revert hruns hempty heq
  generalize zeroedNoted z (ringEmptied r.target s) = u
  intro heq hruns hempty
  have hfreed : StillRuns r (sourceFreed r (ring r.target s) u) := hruns.of_ce (touches_sourceFreed.kept (·.ce) .ce)
  obtain ⟨hfin, hends⟩ := (stillRuns_resized (forced := !ringQuiet r.target s) (x := ring r.target s) hfreed).ends (st := 0)
    (res := [BitVec.ofNat 40 (level (ring r.target s)), items]) (by simp [hop]) (by simp [hop]) (.inr (.inl rfl))
  have hring := resized_ring (r := r) (forced := !ringQuiet r.target s) (x := ring r.target s) (s := sourceFreed r (ring r.target s) u)
  have htouches : Touches [.regs, .log, .halves, .wits, .gran, .mem, .rings, .hostMem, .made, .ce, .host] s (doRingResize .clean s) := by
    rw [heq]
    exact (hfin.after (touches_resized.after (touches_sourceFreed.after hempty))).mono
  have howner : (ring r.target (sourceFreed r (ring r.target s) u)).owner = (ring r.target s).owner :=
    owner_sourceFreed.trans (congrArg Ring.owner (ring_of_rings (hempty.kept (·.gran.rings) .rings) _))
  have hfinal : ring r.target (doRingResize .clean s) = ring r.target (resized r (!ringQuiet r.target s) (ring r.target s)
      (sourceFreed r (ring r.target s) u)) := by
    rw [heq]
    exact ring_of_rings (hfin.kept (·.gran.rings) .rings) _
  refine .of_touches (t := doRingResize .clean s) rfl htouches (fun _ h r => ⟨h.frame, r⟩) ?_
  rw [hfinal, hring]
  refine ⟨⟨items, ?_⟩, rfl, rfl, rfl, rfl, howner, fun h5 h6 => ?_⟩
  · rw [heq]
    exact hends.of_tick ((touches_resized.after (touches_sourceFreed.after hempty)).kept (·.time.tick) .clock)
  · exact if_neg (by simp [drains, h5, h6])

/-- Settles O42: each routine sets its ring (`ended_setRing`), and a resizing goes through `resized`. -/
theorem ringRoutines : Obligations.RingRoutines := by
  unfold Obligations.RingRoutines
  intro r s
  refine ⟨fun h hsec hlen => ?_, fun h hok => ?_, fun h hok => ringResize_completes h hok, fun h => ?_, fun h => ⟨fun hok => ?_, fun hbad => ?_⟩⟩
  · obtain ⟨hends, hring, hothers⟩ := ended_setRing (st := 0) (res := []) (r := r) (n := r.target) (s := s)
      (x := { ring r.target s with owner := fld (prm r 0) 4 1, secure := bit (prm r 0) 0 })
    exact .of_eq (doRingAssign_assigns h hsec hlen) ⟨rfl, touches_ended_setRing.memKept, hends, hothers, hring⟩
  · obtain ⟨hends, hring, -⟩ := ended_setRing (st := 0) (res := []) (r := r) (n := r.target) (s := sourced r.target (ringAsk r) s)
      (x := configuredRing (ringAsk r) (ring r.target (sourced r.target (ringAsk r) s)))
    obtain ⟨hlength, htail, hhead, howner⟩ := sameBody_sourced (n := r.target) (q := ringAsk r) (s := s)
    have htouches := (touches_ended_setRing (st := 0) (res := []) (r := r) (n := r.target)
      (x := configuredRing (ringAsk r) (ring r.target (sourced r.target (ringAsk r) s)))).after (touches_sourced (n := r.target) (q := ringAsk r) (s := s))
    refine .of_touches (doRingConfig_configures h hok) (htouches.mono (L := [.rings, .ce, .gran, .made, .mem, .hostMem]))
      (fun _ h r => ⟨h.frame, r⟩) ⟨htouches.memKept, hends.of_tick (touches_sourced.kept (·.time.tick) .clock), ?_⟩
    rw [hring]
    exact ⟨rfl, rfl, rfl, rfl, hlength, htail, hhead, howner⟩
  · obtain ⟨hends, hring, hothers⟩ := ended_setRing (st := 0) (res := []) (r := r) (n := r.target) (s := s)
      (x := { ring r.target s with fullDrops := 0, disDrops := 0, lastDrop := 0 })
    exact .of_eq (doRingClear_clears h) ⟨rfl, touches_ended_setRing.memKept, hends, hothers, hring⟩
  · exact .of_eq (doRingQuery_answers h hok) ⟨ends_ended, rfl⟩
  · have hends : Ends 9 [] r (descrError r.target s) (ended 9 [] r (descrError r.target s)) := ends_ended
    have hget : getR oGrEccAddr (ended 9 [] r (descrError r.target s)) = BitVec.ofNat 40 (64 * r.target) := by
      rw [getR_of_regs (touches_ended.kept (·.regs) .regs), getR_descrError]
    have htick : (descrError r.target s).time.tick = s.time.tick := touches_descrError.kept (·.time.tick) .clock
    refine .of_touches (doRingQuery_fails h hbad) ((touches_ended.after touches_descrError).mono (L := [.regs, .log, .ce])) (fun t h (k : Ends 9 [] r s t ∧ getR oGrEccAddr t = BitVec.ofNat 40 (64 * r.target)) => ⟨k.1, h.frame, k.2⟩)
      ⟨hends.of_tick htick, hget⟩

end Sys2Proof.Machine
end

section
/-! PROOF. A decoder table load that lets a BR resolve (O44). -/

set_option Elab.async false

namespace Sys2Proof.Machine

/-- BND_TABLE_LOAD of no word for decoder 0. -/
def emptyTableLoad : Routine := ⟨0, 0, false, 1, 0x402, 0, 0, 0, [0x4000000, 0, 0, 0], 0, 0, true, 0, 0, none⟩

/-- In READY decoder 0 has 1 bit in force and a commit to 0 bits waits for the table that loads; sequencer 0 waits in a BR on bit 0 of its output,
which is not decided. -/
def heldDecoder : State := { setF (oBndDecCfg 0) (w (2 ^ 35)) State.reset with
  life := .ready
  binder := { decs := [(0, { loading := true, held := true, pend := true })] }
  seqs := [(0, { st := .waiting, wait := .br ⟨3, 0, 0, false, 0, 0, 0, false, false, 7, 2, none⟩ })]
  ce := { State.reset.ce with cur := some emptyTableLoad } }

theorem heldDecoder_waits : brNow ⟨3, 0, 0, false, 0, 0, 0, false, false, 7, 2, none⟩ 0 heldDecoder = none := by decide +kernel

theorem heldDecoder_resumes : (seq 0 (doTableLoad .clean heldDecoder)).st = .running := by decide +kernel

theorem exec_heldDecoder {t : State} (h : exec (.bndTableLoad .clean) heldDecoder = .next t) : t = doTableLoad .clean heldDecoder := by
  injection h with h
  exact h.symm

/-- R221, R84: the commit of a decoder that a load has held up acts as the load ends, and a BR that waits on the decoder may then resolve.
The statement asks that BND_TABLE_LOAD changes no sequencer.
Refutes O44: in `heldDecoder` sequencer 0 waits, and runs after the load. -/
theorem not_unitLoads : ¬ Obligations.UnitLoads := by
  intro h
  obtain ⟨-, -, -, -, -, -, -, hload, -⟩ := h emptyTableLoad heldDecoder
  obtain ⟨t, hexec, hframe, -⟩ := hload ⟨rfl, rfl, rfl, rfl⟩ (by decide +kernel)
  have hseqs : t.seqs = heldDecoder.seqs := by rw [hframe]
  have hruns : (seq 0 t).st = .running := exec_heldDecoder hexec ▸ heldDecoder_resumes
  rw [seq_of_seqs hseqs] at hruns
  exact absurd hruns (by decide)

end Sys2Proof.Machine
end

section
/-! PROOF. LOOPBACK and the mode bits of the twin (O29). -/

set_option Elab.async false

namespace Sys2Proof.Machine

variable {s t : State} {x : Tick} {lb : Bool} {bits : Nat}

/-! ### The relays switch -/

/-- The request is gone, and MODE_STATUS shows the new position of the relays. -/
def relayBits (lb : Bool) (s : State) : State :=
  putB oModeStatus 7 lb (putB oModeStatus 8 false { s with lbReq := none, lbWaited := false })

theorem touches_relayBits : Touches [.regs, .lbReq, .lbWaited] s (relayBits lb s) :=
  (touches_putB.after (touches_putB.after (Touches.set [.lbReq, .lbWaited] rfl))).mono

def relayCommitted (lb : Bool) (s : State) : State :=
  commitRegs ((upTo (nTiles (relayBits lb s))).map oLbCtl) (relayBits lb s)

def relayRecorded (lb : Bool) (s : State) : State := record 0 0x104 0 0 (relayCommitted lb s)

theorem touches_relayRecorded : Touches [.force, .log] (relayBits lb s) (relayRecorded lb s) :=
  (touches_record.after touches_commitRegs).mono

theorem reports_relayRecorded : Reports 0 0x104 s (relayRecorded lb s) :=
  (reports_record (by decide) (by decide)).after ((touches_commitRegs.after touches_relayBits).mono (L := [.force, .regs, .lbReq, .lbWaited]))

theorem modeOn_relayRecorded : modeOn 5 (relayRecorded lb s) = modeOn 5 s := by
  have hregs : (relayRecorded lb s).regs = (relayBits lb s).regs := touches_relayRecorded.kept (·.regs) .regs
  have hlife : (relayRecorded lb s).life = s.life := (touches_relayRecorded.kept (·.life) .life).trans (touches_relayBits.kept (·.life) .life)
  have hmode : mode 5 (relayRecorded lb s) = mode 5 s := by
    rw [mode, bR_of_regs hregs, relayBits, bR_putB_ne (by decide), bR_putB_ne (by decide)]
    rfl
  rw [modeOn, hlife, hmode, modeOn]

/-- The bias outputs follow the relays, except under HOLD. -/
def relayFollowed (lb : Bool) (s : State) : State :=
  if modeOn 5 (relayRecorded lb s) then relayRecorded lb s else biasFollow (now (relayRecorded lb s)) (relayRecorded lb s)

theorem touches_relayFollowed : Touches [.bias] (relayRecorded lb s) (relayFollowed lb s) := .ite (.refl _) touches_biasFollow

def relayNoted (lb : Bool) (s : State) : State :=
  foldS (fun g u => noteTrn g 1 (now u) u) (upTo (nSeqs (relayFollowed lb s))) (relayFollowed lb s)

theorem touches_relayNoted : Touches [.slots] (relayFollowed lb s) (relayNoted lb s) := .foldS fun _ _ => touches_noteTrn

def relaySettling (lb : Bool) (s : State) : State :=
  itemsOff (fun i => i.kind == 1) { relayNoted lb s with lbResume := some (plus (now (relayNoted lb s)) 2000) }

theorem touches_relaySettling : Touches [.pair, .lbResume] (relayNoted lb s) (relaySettling lb s) :=
  (touches_itemsOff.after Touches.lbResume).mono

theorem relaySwitch_eq : relaySwitch lb s = fsetAll (relaySettling lb s) := rfl

theorem touches_relayBits_settling : Touches [.force, .log, .bias, .slots, .pair, .lbResume] (relayBits lb s) (relaySettling lb s) :=
  (((touches_relaySettling.after touches_relayNoted).after touches_relayFollowed).after touches_relayRecorded).mono

theorem modeStatus_ne_slotStatus (g : Nat) : oModeStatus ≠ oSlotStatus g := by
  unfold oModeStatus oSlotStatus
  omega

theorem leaves_fsetAll : Leaves oModeStatus s (fsetAll s) :=
  .foldS (fun g _ => .ite (leaves_fsetUpdate (modeStatus_ne_slotStatus g) _) (.refl _ _)) _ _

theorem bR_relaySwitch (i : Nat) : bR oModeStatus i (relaySwitch lb s) = bR oModeStatus i (relayBits lb s) := by
  rw [relaySwitch_eq, leaves_fsetAll.bR, bR_of_regs (touches_relayBits_settling.kept (·.regs) .regs)]

theorem lbResume_relaySwitch : (relaySwitch lb s).lbResume = some (plus s.time.tick 2000) := by
  have htick : (relayNoted lb s).time.tick = s.time.tick :=
    ((((touches_relayNoted.after touches_relayFollowed).after touches_relayRecorded).after touches_relayBits).mono
      (L := [.force, .log, .bias, .slots, .regs, .lbReq, .lbWaited])).kept (·.time.tick) .clock
  rw [relaySwitch_eq, touches_fsetAll.kept (·.lbResume) .lbResume]
  show some (plus (relayNoted lb s).time.tick 2000) = _
  rw [htick]

theorem bias_relaySwitch (h : modeOn 5 s = true) : (relaySwitch lb s).bias = s.bias := by
  have hfollowed : relayFollowed lb s = relayRecorded lb s := if_pos (modeOn_relayRecorded.trans h)
  rw [relaySwitch_eq, touches_fsetAll.kept (·.bias) .bias, touches_relaySettling.kept (·.bias) .bias, touches_relayNoted.kept (·.bias) .bias,
    hfollowed, touches_relayRecorded.kept (·.bias) .bias, touches_relayBits.kept (·.bias) .bias]

theorem reports_relaySwitch : Reports 0 0x104 s (relaySwitch lb s) :=
  reports_relayRecorded.before ((((touches_fsetAll.after touches_relaySettling).after touches_relayNoted).after touches_relayFollowed).mono
    (L := [.bias, .slots, .pair, .lbResume, .regs]))

theorem loopbackSwitchRow_switches (hreq : s.lbReq = some (x, lb)) (hlife : s.life = .ready) (hquiet : anyInShot s = false)
    (hstep : s.time.req = none) (hresume : s.time.resume = none)
    (htwin : paired s = true → portUp (pairPort s) s = true → Config.twinQuiet (fullTime s) = true) :
    loopbackSwitchRow s = relaySwitch lb s := by
  have hready : twinReady s = true := by
    rw [twinReady]
    cases hp : paired s
    · rfl
    · cases hu : portUp (pairPort s) s
      · rfl
      · exact htwin hp hu
  simp [loopbackSwitchRow, hreq, hlife, quiet, hquiet, pastStep, hstep, hresume, hready]

/-! ### The mode bits of the twin -/

/-- The mode bits of the twin are kept. -/
def twinModeKept (bits : Nat) (s : State) : State := { s with pair := { s.pair with twinMode := bits % 64 } }

theorem touches_twinModeKept : Touches [.pair] s (twinModeKept bits s) := .pair

/-- A difference that is new sets MISMATCH and ends the comparison. -/
def mismatchNoted (s : State) : State := cmpHalt (record (0x7000 + pairPort s) 0x70D 0 0 (putB oModeStatus 9 true s))

theorem pairModeRow_eq (hp : paired s = true) (hu : portUp (pairPort s) s = true) :
    pairModeRow bits s = if !bitsAgree (twinModeKept bits s) && !bR oModeStatus 9 (twinModeKept bits s)
      then mismatchNoted (twinModeKept bits s) else twinModeKept bits s := by
  rw [pairModeRow, if_pos (by simp [hp, hu])]
  rfl

theorem bitsAgree_twinModeKept : bitsAgree (twinModeKept bits s) = decide ((bits % 64 ^^^ (getR oMode s).toNat) &&& 0x37 = 0) := by
  rw [bitsAgree]
  exact Bool.beq_eq_decide_eq _ _

theorem touches_mismatchNoted : Touches [.pair, .outs, .log] (putB oModeStatus 9 true s) (mismatchNoted s) :=
  (touches_cmpHalt.after touches_record).mono

theorem twinMode_cmpHalt : (cmpHalt s).pair.twinMode = s.pair.twinMode := by
  have hstop : ∀ u : State, (cmpStop u).pair = u.pair := fun u => touches_cmpStop.kept (·.pair) .pair
  rw [cmpHalt, hstop]
  rfl

theorem twinMode_mismatchNoted : (mismatchNoted s).pair.twinMode = s.pair.twinMode := by
  rw [mismatchNoted, twinMode_cmpHalt]
  rfl

theorem mismatch_mismatchNoted : bR oModeStatus 9 (mismatchNoted s) = true := by
  rw [bR_of_regs (touches_mismatchNoted.kept (·.regs) .regs)]
  exact bR_putB_self _ (by decide)

theorem pairPort_lt (s : State) : pairPort s < 16 := fld_lt _ _ _

theorem logged_mismatchNoted : Logged (0x7000 + pairPort s) 0x70D 0 0 s (mismatchNoted s) := by
  have hport := pairPort_lt s
  have hlog : Logged (0x7000 + pairPort s) 0x70D 0 0 s (record (0x7000 + pairPort s) 0x70D 0 0 (putB oModeStatus 9 true s)) :=
    (logged_record _ _ _ _ _ (by omega) (by decide) (by decide)).after touches_putB
  exact hlog.before (touches_cmpHalt.kept (·.log) .log)

theorem pairModeRow_compares (hp : paired s = true) (hu : portUp (pairPort s) s = true) :
    let differ := (bits % 64 ^^^ (getR oMode s).toNat) &&& 0x37 ≠ 0
    let t := pairModeRow bits s
    t.pair.twinMode = bits % 64 ∧ (differ → bR oModeStatus 9 t = true) ∧ (¬ differ → t = { s with pair := t.pair }) ∧
      (differ → bR oModeStatus 9 s = false → Logged (0x7000 + pairPort s) 0x70D 0 0 s t) := by
  dsimp only
  rw [pairModeRow_eq hp hu, bitsAgree_twinModeKept]
  by_cases hd : (bits % 64 ^^^ (getR oMode s).toNat) &&& 0x37 = 0
  · rw [decide_eq_true hd]
    exact ⟨rfl, fun h => absurd hd h, fun _ => rfl, fun h => absurd hd h⟩
  · rw [decide_eq_false hd]
    have hkept : bR oModeStatus 9 (twinModeKept bits s) = bR oModeStatus 9 s := rfl
    rw [hkept]
    cases hm : bR oModeStatus 9 s
    · exact ⟨twinMode_mismatchNoted, fun _ => mismatch_mismatchNoted, fun h => absurd hd h,
        fun _ _ => logged_mismatchNoted.after touches_twinModeKept⟩
    · exact ⟨rfl, fun _ => hm, fun h => absurd hd h, fun _ h => nomatch h⟩

/-- Settles O29, from the stages of `relaySwitch` and of `pairModeRow`. -/
theorem loopbackAndTwinModes : Obligations.LoopbackAndTwinModes := by
  unfold Obligations.LoopbackAndTwinModes
  refine ⟨fun x lb s hreq hlife hquiet hstep hresume htwin => ?_, fun x lb s hreq hw hdue => ?_, fun x s hresume hdue => ?_,
    fun bits s hp hu => ⟨_, rfl, pairModeRow_compares hp hu⟩⟩
  · refine .of_touches (loopbackSwitchRow_switches hreq hlife hquiet hstep hresume htwin) touches_relaySwitch
      (fun t h r => ⟨h.frame, r⟩) ⟨bias_relaySwitch, ?_, ?_, ?_, lbResume_relaySwitch, reports_relaySwitch⟩
    · rw [relays, bR_relaySwitch]
      exact bR_putB_self _ (by decide)
    · rw [relaySwitch_eq, touches_fsetAll.kept (·.lbReq) .lbReq, touches_relayBits_settling.kept (·.lbReq) .lbReq]
      rfl
    · rw [bR_relaySwitch, relayBits, bR_putB_apart _ (by decide) (by decide)]
      exact bR_putB_self _ (by decide)
  · have hrow : loopbackWaitRow s = record 0 0x105 0 0 { s with lbWaited := true } := by
      simp [loopbackWaitRow, hreq, hw, hdue]
    exact .of_touches hrow ((touches_record.after Touches.lbWaited).mono (L := [.lbWaited, .log])) (fun t h r => ⟨h.frame, r⟩)
      ⟨logged_record _ _ _ _ _ (by decide) (by decide) (by decide), rfl, rfl⟩
  · have hrow : loopbackResumeRow s = reasonsUpdate { s with lbResume := none } := by
      simp [loopbackResumeRow, hresume, dueO, hdue]
    exact .of_touches hrow ((touches_reasonsUpdate.after Touches.lbResume).mono (L := [.seqs, .lbResume]))
      (fun t h r => ⟨h.frame, r, h.kept (·.regs) .regs, h.kept (·.life) .life⟩) (touches_reasonsUpdate.kept (·.lbResume) .lbResume)

end Sys2Proof.Machine
end

section
/-! PROOF. Entries to STAGING and OFF (O30). -/

set_option Elab.async false

namespace Sys2Proof.Machine

variable {s t : State} {r : Nat}

/-! ### Entries to STAGING and OFF -/

/-- What an entry to STAGING or OFF keeps (R28, R373). -/
def KeepsAcross (s t : State) : Prop :=
  t.fuses = s.fuses ∧ t.sec.nvm = s.sec.nvm ∧ t.gran.hostMem = s.gran.hostMem ∧ t.gran.mem = [] ∧ t.gran.rings = [] ∧ t.seqs = [] ∧
    t.pending = s.pending

theorem powered_iff : powered s = true ↔ s.life ≠ .off := by simp [powered]

/-- The state that an entry to STAGING leaves before its record. -/
def stagingBegun (s : State) : State :=
  let s := keepAcross .staging s
  { s with pins := { s.pins with reset := false, mainOk := true }
           therm := { s.therm with railBad := s.therm.railBad.map (fun e => (e.1, (0 : Tick))) } }

theorem enterStaging_eq (old : Nat) (s : State) :
    enterStaging old s = record 0 0x100 (old * 2 ^ 16 + 2 ^ 12) 0 (putF oSecStatus 31 25 s.sec.rollback (stagingBegun s)) := rfl

theorem lifeCode_lt (l : Life) : lifeCode l < 6 := by cases l <;> decide

theorem keeps_enterStaging (old : Nat) : KeepsAcross s (enterStaging old s) := by
  have h : Touches [.regs, .log] (stagingBegun s) (enterStaging old s) := (touches_record.after touches_putF).mono
  have hbegun : KeepsAcross s (stagingBegun s) := ⟨rfl, rfl, rfl, rfl, rfl, rfl, rfl⟩
  have hsec : (enterStaging old s).sec = (stagingBegun s).sec := (congrArg State.sec h.frame :)
  have hgran : (enterStaging old s).gran = (stagingBegun s).gran := (congrArg State.gran h.frame :)
  rw [KeepsAcross, h.kept (·.fuses) .fuses, hsec, hgran, h.kept (·.seqs) .seqs, h.kept (·.pending) .pending]
  exact hbegun

theorem pool_enterStaging (l : Life) (s : State) : (enterStaging (lifeCode l) s).log.pool.map (fun r => (r.code.toNat, r.detail.toNat)) =
    [(0x100, lifeCode l * 2 ^ 16 + 2 ^ 12)] := by
  have hcode := lifeCode_lt l
  obtain ⟨e, hpool, -, hc, hd, -⟩ := logged_record 0 0x100 (lifeCode l * 2 ^ 16 + 2 ^ 12) 0 (putF oSecStatus 31 25 s.sec.rollback (stagingBegun s))
    (by decide) (by decide) (by omega)
  have hempty : (putF oSecStatus 31 25 s.sec.rollback (stagingBegun s)).log.pool = [] := rfl
  rw [enterStaging_eq, hpool, hempty, List.nil_append, List.map_singleton, hc, hd]

theorem enterStaging_enters (l : Life) (s : State) :
    (enterStaging (lifeCode l) s).life = .staging ∧ KeepsAcross s (enterStaging (lifeCode l) s) ∧
    (enterStaging (lifeCode l) s).sec.rollback = s.sec.rollback ∧ fR oSecStatus 31 25 (enterStaging (lifeCode l) s) = s.sec.rollback % 128 ∧
    (enterStaging (lifeCode l) s).log.pool.map (fun r => (r.code.toNat, r.detail.toNat)) = [(0x100, lifeCode l * 2 ^ 16 + 2 ^ 12)] := by
  refine ⟨rfl, keeps_enterStaging _, rfl, ?_, pool_enterStaging l s⟩
  rw [enterStaging_eq, fR_of_regs (touches_record.kept (·.regs) .regs), fR, getR_putF_self]
  exact fld_setFld _ _ (by decide) (by decide)

theorem keeps_enterOff : KeepsAcross s (enterOff s) := by
  have h : Touches [.sec, .rollback, .free] s (burstCut s) := touches_burstCut.mono
  have hnvm : (burstCut s).sec.nvm = s.sec.nvm := by
    rw [burstCut]
    cases s.sec.burst <;> rfl
  have hoff : KeepsAcross (burstCut s) (enterOff s) := ⟨rfl, rfl, rfl, rfl, rfl, rfl, rfl⟩
  have hgran : (burstCut s).gran = s.gran := (congrArg State.gran h.frame :)
  rw [KeepsAcross, h.kept (·.fuses) .fuses, hnvm, hgran, h.kept (·.pending) .pending] at hoff
  exact hoff

/-! ### VAUX and the rails -/

/-- VAUX is within tolerance and the straps are sampled. -/
def vauxUp (straps : Nat) (s : State) : State := { s with pins := { s.pins with vaux := true, straps := straps % 4 } }

/-- The rails out of tolerance after rail `r` has left it or come back. -/
def railsAfter (r : Nat) (ok : Bool) (s : State) : Tab Tick :=
  if ok then tdel r s.therm.railBad
  else match tget? r s.therm.railBad with
    | some _ => s.therm.railBad
    | none => tput r (now s) s.therm.railBad

theorem isSome_railsAfter (ok : Bool) : (tget? r (railsAfter r ok s)).isSome = !ok := by
  rw [railsAfter]
  cases ok
  · cases h : tget? r s.therm.railBad with
    | some x => simp [h]
    | none => simp [tget?_tput_self]
  · simp [tget?_tdel_self]

def railChanged (r : Nat) (ok : Bool) (s : State) : State :=
  let s := putB oPowerStatus r ok s
  { s with therm := { s.therm with railBad := railsAfter r ok s } }

theorem railChangeRow_changes (ok : Bool) (h : s.life ≠ .off ∨ s.pins.vaux = true) (hr : r < 10) : railChangeRow r ok s = railChanged r ok s := by
  have hpower : (powered s || s.pins.vaux) = true := by simpa [powered_iff] using h
  rw [railChangeRow, if_pos (by simp [hpower, hr])]
  rfl

/-- Settles O30, from what `keepAcross` keeps. -/
theorem powerAndReset : Obligations.PowerAndReset := by
  unfold Obligations.PowerAndReset
  refine fun s => ⟨fun hlife hvaux => ?_, fun hlife => ?_, fun hpower => ?_, fun straps hlife hvaux => ?_, fun r ok hpower hr => ?_⟩
  · have hrow : powerOnRow s = enterStaging (lifeCode s.life) s := by simp [powerOnRow, hlife, hvaux, lifeCode]
    exact .of_eq hrow (enterStaging_enters s.life s)
  · have hrow : resetNRow s = enterStaging (lifeCode s.life) s := by
      rcases hlife with h | h <;> simp [resetNRow, h]
    exact .of_eq hrow (enterStaging_enters s.life s)
  · have hrow : powerLossRow s = enterOff s := if_pos (by simpa [powered_iff] using hpower)
    exact .of_eq hrow ⟨rfl, keeps_enterOff, rfl, rfl⟩
  · have hrow : vauxPowerUpRow straps s = putB oPowerStatus 9 true (vauxUp straps s) := by
      simp [vauxPowerUpRow, hlife, hvaux, vauxUp]
    exact .of_eq hrow ⟨rfl, rfl, putB_only _ _ _ _, bR_putB_self _ (by decide)⟩
  · refine .of_eq (railChangeRow_changes ok hpower hr) ⟨?_, isSome_railsAfter ok, rfl, fun o ho => getR_putB_ne ho _ _⟩
    exact bR_putB_self ok (by omega)

end Sys2Proof.Machine
end

section
/-! PROOF. Clocks and die-to-die links (O31). -/

set_option Elab.async false

namespace Sys2Proof.Machine

variable {s t : State} {u g c : Nat} {x : Tick} {down : Bool}

/-! ### The first lock -/

theorem highest_mem (s : State) : ∀ (l : List Nat), l ≠ [] → (highest s l).1 ∈ l
  | [], h => absurd rfl h
  | [u], _ => List.mem_singleton.2 rfl
  | u :: v :: l, _ => by
    rw [highest]
    split
    · exact List.mem_cons_self
    · exact List.mem_cons_of_mem _ (highest_mem s (v :: l) (List.cons_ne_nil _ _))

theorem nTiles_le_eight (s : State) : nTiles s ≤ 8 := by
  rw [nTiles]
  split <;> decide

theorem nStacks_le_two (s : State) : nStacks s ≤ 2 := by
  rw [nStacks]
  split <;> decide

theorem sensor_lt (h : u ∈ sensorsOf s) : u < 48 := by
  have ht := nTiles_le_eight s
  have hn := nStacks_le_two s
  rw [sensorsOf, List.mem_append, List.mem_append, List.mem_map, List.mem_map] at h
  rcases h with (h | ⟨i, hi, rfl⟩) | ⟨i, hi, rfl⟩
  · have := List.mem_range.1 h
    omega
  · have := List.mem_range.1 hi
    omega
  · have := List.mem_range.1 hi
    omega

theorem hottest_lt (s : State) : hottest s < 48 := by
  refine sensor_lt (highest_mem s _ ?_)
  simp [sensorsOf, upTo]

/-- The clock runs from TICK 0 and CLK_STATUS shows it locked. -/
def clockStarted (s : State) : State :=
  putF oClkStatus 1 0 3 { s with time := { s.time with
    locked := true, counting := true, everLocked := true, refValid := true, refAt := none, tick := 0, epoch := 0 } }

/-- A hot sensor holds the power-up schedule back, with its record. -/
def powerHeld (s : State) : State :=
  record (0xC000 + hottest s) 0x807 0 0 (putB oThermStatus 6 true { s with therm := { s.therm with hold := true } })

def scheduleStarted (s : State) : State := { s with therm := { s.therm with schedAt := some (now s) } }

theorem hotForPower_started : hotForPower (railTick (clockStarted s)) = hotForPower s := by
  rw [hotForPower, touches_railTick.kept (·.therm) .therm]
  rfl

theorem pllLockRow_starts (hlife : s.life = .staging) (hlock : s.time.everLocked = false) (hhot : hotForPower s = false) :
    pllLockRow s = scheduleStarted (railTick (clockStarted s)) := by
  have h : pllLockRow s = if hotForPower (railTick (clockStarted s)) = true then powerHeld (railTick (clockStarted s))
      else scheduleStarted (railTick (clockStarted s)) := by
    rw [pllLockRow, if_pos (by simp [hlife, hlock])]
    rfl
  rw [h, hotForPower_started, if_neg (by simp [hhot])]

theorem pllLockRow_holds (hlife : s.life = .staging) (hlock : s.time.everLocked = false) (hhot : hotForPower s = true) :
    pllLockRow s = powerHeld (railTick (clockStarted s)) := by
  have h : pllLockRow s = if hotForPower (railTick (clockStarted s)) = true then powerHeld (railTick (clockStarted s))
      else scheduleStarted (railTick (clockStarted s)) := by
    rw [pllLockRow, if_pos (by simp [hlife, hlock])]
    rfl
  rw [h, hotForPower_started, if_pos hhot]

theorem leaves_railTick {o : Nat} (h : o ≠ oPowerStatus) : Leaves o s (railTick s) := .ite (leaves_putF h _ _ _ _) (.refl _ _)

theorem hottest_of_therm (hf : t.fuses = s.fuses) (ht : t.therm.sensors = s.therm.sensors) : hottest t = hottest s := by
  have hsensors : sensorsOf t = sensorsOf s := by rw [sensorsOf, nTiles, nStacks, hf, sensorsOf, nTiles, nStacks]
  have hreading : ∀ k, readingOf k t = readingOf k s := fun k => by rw [readingOf, ht, readingOf]
  have hhighest : ∀ l, highest t l = highest s l := by
    intro l
    induction l with
    | nil => rfl
    | cons u l ih =>
      cases l with
      | nil => rw [highest, highest, hreading]
      | cons v l => rw [highest, highest, hreading, ih]
  rw [hottest, hottest, hsensors, hhighest]

theorem touches_started : Touches [.regs, .time, .clock] s (railTick (clockStarted s)) :=
  (touches_railTick.after (touches_putF.after (Touches.set [.time, .clock] rfl))).mono

theorem hottest_started : hottest (railTick (clockStarted s)) = hottest s :=
  hottest_of_therm (touches_started.kept (·.fuses) .fuses) (congrArg Therm.sensors (touches_started.kept (·.therm) .therm))

theorem time_started : (railTick (clockStarted s)).time.counting = true ∧ (railTick (clockStarted s)).time.tick = 0 ∧
    (railTick (clockStarted s)).time.epoch = 0 ∧ (railTick (clockStarted s)).time.locked = true := by
  have htime : (railTick (clockStarted s)).time = (clockStarted s).time := (congrArg State.time touches_railTick.frame :)
  rw [htime]
  exact ⟨rfl, rfl, rfl, rfl⟩

theorem clkStatus_started : fR oClkStatus 1 0 (railTick (clockStarted s)) = 3 := by
  rw [(leaves_railTick (by decide)).fR]
  exact fR_putF_self (by decide) (by decide) (by decide)

/-! ### The reference -/

def referenceLost (s : State) : State := { s with time := { s.time with refValid := false, refAt := some (now s) } }

def referenceBack (s : State) : State := { s with time := { s.time with refValid := true, refAt := none } }

/-- The loss of the reference is shown, counted and recorded. -/
def lossNoted (s : State) : State := record 0 0x202 0 0 (bump oClkStatus 15 8 (putF oClkStatus 2 1 2 (referenceLost s)))

def returnNoted (s : State) : State := record 0 0x203 0 0 (putF oClkStatus 2 1 1 (referenceBack s))

theorem touches_referenceLost : Touches [.time] s (referenceLost s) := .time

theorem touches_referenceBack : Touches [.time] s (referenceBack s) := .time

theorem touches_lossNoted : Touches [.time, .clock, .regs, .log] s (lossNoted s) :=
  (touches_record.after (touches_bump.after (touches_putF.after touches_referenceLost))).mono

theorem touches_returnNoted : Touches [.time, .clock, .regs, .log] s (returnNoted s) :=
  (touches_record.after (touches_putF.after touches_referenceBack)).mono

theorem valid_lossNoted : (lossNoted s).time.refValid = false := rfl

theorem valid_returnNoted : (returnNoted s).time.refValid = true := rfl

theorem regs_lossNoted : (lossNoted s).regs = (bump oClkStatus 15 8 (putF oClkStatus 2 1 2 (referenceLost s))).regs :=
  touches_record.kept (·.regs) .regs

theorem regs_returnNoted : (returnNoted s).regs = (putF oClkStatus 2 1 1 (referenceBack s)).regs := touches_record.kept (·.regs) .regs

theorem counts_lossNoted (h : fR oClkStatus 15 8 s < 255) :
    fR oClkStatus 2 1 (lossNoted s) = 2 ∧ fR oClkStatus 15 8 (lossNoted s) = fR oClkStatus 15 8 s + 1 := by
  have hcount : fR oClkStatus 15 8 (putF oClkStatus 2 1 2 (referenceLost s)) = fR oClkStatus 15 8 s :=
    fR_putF_apart (s := referenceLost s) 2 (by decide) (by decide) (by decide)
  rw [fR_of_regs regs_lossNoted, fR_of_regs regs_lossNoted]
  refine ⟨?_, ?_⟩
  · rw [fR_bump_apart (by decide) (by decide) (by decide)]
    exact fR_putF_self (by decide) (by decide) (by decide)
  · rw [fR_bump_self (by rw [hcount]; exact h) (by decide) (by decide), hcount]

theorem status_returnNoted : fR oClkStatus 2 1 (returnNoted s) = 1 := by
  rw [fR_of_regs regs_returnNoted]
  exact fR_putF_self (by decide) (by decide) (by decide)

theorem getR_lossNoted {o : Nat} (h : o ≠ oClkStatus) : getR o (lossNoted s) = getR o s := by
  rw [getR_of_regs regs_lossNoted, (leaves_bump h _ _ _).getR, getR_putF_ne h]
  rfl

theorem getR_returnNoted {o : Nat} (h : o ≠ oClkStatus) : getR o (returnNoted s) = getR o s := by
  rw [getR_of_regs regs_returnNoted, getR_putF_ne h]
  rfl

theorem logged_lossNoted : Logged 0 0x202 0 0 s (lossNoted s) := by
  have h : Logged 0 0x202 0 0 (bump oClkStatus 15 8 (putF oClkStatus 2 1 2 (referenceLost s))) (lossNoted s) :=
    logged_record _ _ _ _ _ (by decide) (by decide) (by decide)
  exact h.after ((touches_bump.after (touches_putF.after touches_referenceLost)).mono (L := [.regs, .time]))

theorem logged_returnNoted : Logged 0 0x203 0 0 s (returnNoted s) := by
  have h : Logged 0 0x203 0 0 (putF oClkStatus 2 1 1 (referenceBack s)) (returnNoted s) :=
    logged_record _ _ _ _ _ (by decide) (by decide) (by decide)
  exact h.after ((touches_putF.after touches_referenceBack).mono (L := [.regs, .time]))

theorem refLostRow_loses (hlife : s.life ≠ .off) (hlock : s.time.locked = true) (href : s.time.refValid = true) :
    refLostRow s = lossNoted s := by
  rw [refLostRow, if_pos (by simp [powered_iff.2 hlife, hlock, href])]
  rfl

theorem refBack_of_due (h : ∀ x, s.time.refAt = some x → due (plus x 10000000) s = true) : refBack s = true := by
  rw [refBack]
  split
  next x hx => exact h x hx
  next => rfl

theorem refRestoredRow_restores (hlife : s.life ≠ .off) (hlock : s.time.locked = true) (href : s.time.refValid = false)
    (hdue : ∀ x, s.time.refAt = some x → due (plus x 10000000) s = true) :
    refRestoredRow s = returnNoted s := by
  rw [refRestoredRow, if_pos (by simp [powered_iff.2 hlife, hlock, href, refBack_of_due hdue])]
  rfl

/-! ### Transfers between the dies -/

/-- The detail word of a failed transfer. -/
def transferDetail (u : Nat) (down : Bool) (s : State) : Nat := u * 2 ^ 17 + (if down then 2 ^ 16 else 0) + s.time.tick.toNat % 2 ^ 16

theorem b2n_mul (b : Bool) (n : Nat) : b2n b * n = if b then n else 0 := by cases b <;> simp [b2n]

def transferRecorded (u : Nat) (down : Bool) (s : State) : State := record (0xF000 + u) 0x101 (transferDetail u down s) s.time.tick s

/-- What a failed transfer of the down-path discards. -/
def transferDropped (u : Nat) (s : State) : State :=
  { s with
    down := s.down.filter (fun e => !inTransfer u (now s) e)
    fabric := { s.fabric with acts := s.fabric.acts.filter (fun e => !inTransfer u (now s) e) }
    agenda := s.agenda.filter (fun e => !strobeInTransfer u s e)
    crcDown := insNat u s.crcDown }

theorem dieLinkCrcRow_up (hu : u < nTiles s) (hp : tilePowered u s = true) : dieLinkCrcRow u false s = transferRecorded u false s := by
  rw [dieLinkCrcRow, if_pos (by simp [hu, hp]), b2n_mul]
  rfl

theorem dieLinkCrcRow_down (hu : u < nTiles s) (hp : tilePowered u s = true) :
    dieLinkCrcRow u true s = transferDropped u (transferRecorded u true s) := by
  rw [dieLinkCrcRow, if_pos (by simp [hu, hp]), b2n_mul]
  rfl

theorem log_transferDropped : (transferDropped u s).log = s.log := rfl

theorem logged_transferRecorded (hu : u < nTiles s) :
    Logged (0xF000 + u) 0x101 (transferDetail u down s) s.time.tick s (transferRecorded u down s) := by
  have h8 := nTiles_le_eight s
  have hsum : transferDetail u down s < 2 ^ 20 := by
    rw [transferDetail]
    split <;> omega
  exact logged_record _ _ _ _ _ (by omega) (by decide) hsum

theorem inTransfer_iff {e : Nat × QEntry} : inTransfer u x e = true ↔ e.1 / 96 = u ∧ e.2.launch = x := by simp [inTransfer]

/-! ### A silent link -/

/-- A bias channel on its way to rest. -/
def restBias (life : Bool) (x : Tick) (b : Bias) : Bias :=
  if b.connected then
    redirect x b.restCode b.restSpan (if life then { b with rest := true, target := b.restCode, loaded := false } else { b with rest := true })
  else b

theorem beginMove_rest (keep : Bool) (x : Tick) (b : Bias) : (beginMove keep x b).rest = b.rest := by
  rw [beginMove]
  split <;> split <;> rfl

theorem redirect_rest (x : Tick) (aim : Int) (span : Nat) (b : Bias) : (redirect x aim span b).rest = b.rest := by
  rw [redirect]
  split
  · split
    · rfl
    · exact beginMove_rest ..
  · split
    · rfl
    · exact beginMove_rest ..
  · exact beginMove_rest ..

theorem restBias_rest {life : Bool} {b : Bias} (h : b.connected = true) : (restBias life x b).rest = true := by
  rw [restBias, if_pos h, redirect_rest]
  split <;> rfl

theorem biasC_goRest (life : Bool) (x : Tick) (g : Nat) (s : State) : biasC g (goRest life x g s) = restBias life x (biasC g s) := by
  rw [goRest, restBias]
  cases h : (biasC g s).connected
  · rfl
  · cases life <;> exact biasC_setBias ..

theorem biasC_goRest_ne (life : Bool) (x : Tick) {g k : Nat} (h : k ≠ g) (s : State) : biasC k (goRest life x g s) = biasC k s := by
  rw [goRest]
  cases (biasC g s).connected
  · rfl
  · cases life <;> exact biasC_setBias_ne _ h _

theorem nodup_channels (u : Nat) : ((upTo 96).map (fun c => 96 * u + c)).Nodup :=
  (upTo_nodup 96).map (fun _ _ h => by simpa using h)

theorem biasC_tileRest (life : Bool) (x : Tick) (u : Nat) (hc : c < 96) (s : State) :
    biasC (96 * u + c) (tileRest life x u s) = restBias life x (biasC (96 * u + c) s) :=
  foldS_at (I := fun _ => True) (List.mem_map_of_mem (mem_upTo hc)) (nodup_channels u) (fun _ _ _ _ => trivial)
    (fun s _ => biasC_goRest life x _ s) (fun _ _ s h => biasC_goRest_ne life x (Ne.symm h) s) trivial

def linkCut (u : Nat) (s : State) : State := { s with cutTiles := insNat u s.cutTiles }

theorem tileLinkTimeoutRow_rests (hu : u < nTiles s) (hp : tilePowered u s = true) (hc : u ∉ s.cutTiles) :
    tileLinkTimeoutRow u s = tileRest true (now s) u (linkCut u s) := by
  rw [tileLinkTimeoutRow, if_pos (by simp [hu, hp, hc])]
  rfl

theorem time_powerHeld : (powerHeld s).time = s.time := rfl

theorem held_powerHeld : (powerHeld s).therm.hold = true ∧ bR oThermStatus 6 (powerHeld s) = true :=
  ⟨rfl, bR_putB_self (s := { s with therm := { s.therm with hold := true } }) true (by decide)⟩

theorem touches_powerHeld : Touches [.log, .regs, .therm] s (powerHeld s) := (touches_record.after (touches_putB.after Touches.therm)).mono

theorem reports_powerHeld (h : hottest s < 48) : Reports (0xC000 + hottest s) 0x807 s (powerHeld s) :=
  (reports_record (by omega) (by decide)).after ((touches_putB.after Touches.therm).mono (L := [.regs, .therm]))

theorem reports_powerHeld_started : Reports (0xC000 + hottest s) 0x807 s (powerHeld (railTick (clockStarted s))) := by
  have h := reports_powerHeld (s := railTick (clockStarted s)) (by rw [hottest_started]; exact hottest_lt s)
  rw [hottest_started] at h
  exact h.after touches_started

/-- Settles O31: the intermediate states of the clock, and `restBias` on every channel of a silent tile. -/
theorem clocksAndDieLinks : Obligations.ClocksAndDieLinks := by
  unfold Obligations.ClocksAndDieLinks
  refine ⟨fun s hlife hlock hhot => ?_, fun s hlife hlock hhot => ?_, fun s hlife hlock href hcount => ?_,
    fun s hlife hlock href hdue => ?_, fun u s hu hp => ⟨fun down => ?_, fun hcut => ?_⟩⟩
  · obtain ⟨hcounting, htick, hepoch, hlocked⟩ := time_started (s := s)
    refine .of_eq (pllLockRow_starts hlife hlock hhot) ⟨hlocked, hcounting, htick, hepoch, clkStatus_started, ?_, ?_⟩
    · exact congrArg some htick
    · exact touches_started.kept (·.log) .log
  · obtain ⟨hcounting, htick, -⟩ := time_started (s := s)
    have htouches : Touches [.regs, .time, .clock, .log, .therm] s (powerHeld (railTick (clockStarted s))) :=
      (touches_powerHeld.after touches_started).mono
    obtain ⟨hhold, hstatus⟩ := held_powerHeld (s := railTick (clockStarted s))
    rw [← time_powerHeld] at hcounting htick
    exact .of_touches (pllLockRow_holds hlife hlock hhot) htouches (fun t h r => ⟨h.frame, r⟩)
      ⟨hcounting, htick, hhold, hstatus, reports_powerHeld_started⟩
  · obtain ⟨hvalid, hlosses⟩ := counts_lossNoted hcount
    exact .of_touches (refLostRow_loses hlife hlock href) touches_lossNoted (fun t h r => ⟨h.frame, r⟩)
      ⟨valid_lossNoted, hvalid, hlosses, logged_lossNoted, fun o ho => getR_lossNoted ho⟩
  · exact .of_touches (refRestoredRow_restores hlife hlock href hdue) touches_returnNoted (fun t h r => ⟨h.frame, r⟩)
      ⟨valid_returnNoted, status_returnNoted, logged_returnNoted, fun o ho => getR_returnNoted ho⟩
  · cases down
    · exact .of_touches (R := Logged (0xF000 + u) 0x101 (transferDetail u false s) s.time.tick s) (dieLinkCrcRow_up hu hp)
        (touches_record.mono (L := [.log])) (fun t h r => ⟨r, fun _ => h.frame, fun h => nomatch h⟩) (logged_transferRecorded hu)
    · refine .of_eq (dieLinkCrcRow_down hu hp) ⟨(logged_transferRecorded hu).before log_transferDropped, (fun h => nomatch h),
        fun _ => ⟨rfl, rfl, fun e => ?_, fun e => ?_, fun e => ?_, fun k off hk hoff => ?_⟩⟩
      · show e ∈ s.down.filter (fun e => !inTransfer u s.time.tick e) ↔ _
        rw [List.mem_filter, Bool.not_eq_true', ← Bool.not_eq_true, inTransfer_iff]
      · show e ∈ s.fabric.acts.filter (fun e => !inTransfer u s.time.tick e) ↔ _
        rw [List.mem_filter, Bool.not_eq_true', ← Bool.not_eq_true, inTransfer_iff]
      · show e ∈ s.agenda.filter (fun e => !strobeInTransfer u s e) ↔ _
        rw [List.mem_filter, Bool.not_eq_true']
      · show (tileDie k && (insNat u s.crcDown).contains ((off - 0x1000000) / 0x400000)) = true
        rw [hk, hoff, Bool.true_and, List.contains_iff_mem]
        exact mem_insNat.2 (.inl rfl)
  · refine .of_touches (R := fun t => u ∈ t.cutTiles ∧ ∀ c, c < 96 → (biasC (96 * u + c) s).connected = true →
        (biasC (96 * u + c) t).rest = true) (tileLinkTimeoutRow_rests hu hp hcut)
      ((touches_tileRest.after Touches.cutTiles).mono (L := [.bias, .cutTiles]))
      (fun t h r => ⟨h.frame, r.1, h.kept (·.life) .life, r.2⟩) ⟨?_, fun c hc hconn => ?_⟩
    · rw [touches_tileRest.kept (·.cutTiles) .cutTiles]
      exact mem_insNat.2 (.inl rfl)
    · rw [biasC_tileRest _ _ _ hc]
      exact restBias_rest hconn

end Sys2Proof.Machine
end

section
/-! PROOF. A trap that lets a decoder write its record (O32). -/

set_option Elab.async false

namespace Sys2Proof.Machine

/-- In READY the trap of a FATAL condition pends while the table of decoder 0 loads. A commit of the decoder waits for the load: it brings 1 bit
and decoder records without a flush time to ring 0, an empty RESULT ring of domain 0. The set of the bit has no members. -/
def deciding : State := { setR (oBndDecCfg 0) (w (2 ^ 35 + 2 ^ 34)) State.reset with
  life := .ready
  gran := { State.reset.gran with rings := [(0, emptyRing)] }
  binder := { decs := [(0, { loading := true, held := true, pend := true })] }
  ce := { State.reset.ce with cur := some emptyTableLoad, traps := [1] } }

theorem mem_deciding : deciding.gran.mem = [] := rfl

/-- The decoder record stands in the Granary. -/
theorem mem_microTrapFatalRow_deciding : (microTrapFatalRow deciding).gran.mem ≠ [] := by decide +kernel

theorem exec_deciding {t : State} (h : exec .microTrapFatal deciding = .next t) : t = microTrapFatalRow deciding := by
  injection h with h
  exact h.symm

/-- R221, R301: the trap ends BND_TABLE_LOAD, so that the commit which it held up acts; the decoder then has its bit, decides, and writes its
record to a ring. The statement asks that Granary memory stays.
Refutes O32: `deciding` has no word in Granary memory before the trap and the decoder record after it. -/
theorem not_fatalEventsHalt : ¬ Obligations.FatalEventsHalt := by
  intro h
  obtain ⟨-, -, -, -, -, -, htrap, -⟩ := h deciding rfl
  obtain ⟨t, hexec, -, -, -, -, hmem, -⟩ := htrap (by decide)
  rw [exec_deciding hexec, mem_deciding] at hmem
  exact mem_microTrapFatalRow_deciding hmem

end Sys2Proof.Machine
end

section
/-! PROOF. Resets of the endpoint and of its functions (O33). -/

set_option Elab.async false

namespace Sys2Proof.Machine

variable {s t u : State} {k m n op x : Nat} {r : Routine} {p : Routine → Bool} {rs : List Routine}

/-! ### Interrupts change what is sent and what pends -/

/-- Nothing of the host's side has changed but the interrupts that are sent or pend. -/
def MsixOnly (s t : State) : Prop := t.host = { s.host with sent := t.host.sent, pba := t.host.pba }

theorem MsixOnly.of_host (h : t.host = s.host) : MsixOnly s t := by
  rw [MsixOnly, h]

theorem MsixOnly.refl (s : State) : MsixOnly s s := rfl

theorem MsixOnly.trans (h : MsixOnly s t) (k : MsixOnly t u) : MsixOnly s u := by
  rw [MsixOnly] at *
  rw [k, h]

theorem MsixOnly.ite {c : Prop} [Decidable c] (h : MsixOnly s t) (k : MsixOnly s u) : MsixOnly s (if c then t else u) := by
  split
  · exact h
  · exact k

theorem msixOnly_sendMsix (v : Nat) : MsixOnly s (sendMsix m v s) := by
  rw [sendMsix]
  split
  · split <;> rfl
  · exact .of_host (touches_bump.kept (·.host) .host)

theorem msixOnly_watermark : MsixOnly s (watermark n s) := by
  rw [watermark]
  exact .ite (.refl _) (.ite (.ite ((MsixOnly.of_host (touches_setRing.kept (·.host) .host)).trans (msixOnly_sendMsix _)) (.refl _))
    (.of_host (touches_setRing.kept (·.host) .host)))

theorem msixOnly_ringAppend (slots : List (List W40)) : MsixOnly s (ringAppend n slots s) := by
  have h : Touches [.mem, .rings] s (setRing n { ring n s with tail := plus (ring n s).tail slots.length }
      (setMem (wrSlots (ring n s) s.gran.mem (ring n s).tail slots) s)) :=
    (touches_setRing.after (touches_setMem (wrSlots_wf _ _ _))).mono
  exact (MsixOnly.of_host (h.kept (·.host) .host)).trans msixOnly_watermark

theorem msixOnly_ringPut (sl : List W40) : MsixOnly s (ringPut n sl s).1 := by
  rw [ringPut]
  split
  · exact .refl _
  · split
    · exact .of_host (touches_ringDrop.kept (·.host) .host)
    · exact msixOnly_ringAppend _

theorem msixOnly_resWrite (key : Nat) (sl : List W40) : MsixOnly s (resWrite key n sl s) := by
  rw [resWrite]
  exact (msixOnly_ringPut sl).trans (.ite (.refl _) (.of_host (touches_producerDrops.kept (·.host) .host)))

theorem msixOnly_resSlot (key : Nat) (sl : List W40) : MsixOnly s (resSlot key n sl s) := by
  have hspent : ∀ g : Gran, MsixOnly s { s with gran := g } := fun g => .of_host rfl
  have hdrops : ∀ (c : Bool) (v src : Nat) (u : State), MsixOnly u (recordIf c src 0x605 0 0 (producerDrops v key u)) := fun _ _ _ _ =>
    .of_host (((touches_recordIf.after touches_producerDrops).mono (L := [.log, .gran, .regs])).kept (·.host) .host)
  unfold resSlot
  extract_lets g waiting fits q
  split
  · exact (hspent _).trans (msixOnly_resWrite key sl)
  · split
    · exact hspent _
    · exact (hspent _).trans (hdrops _ _ _ _)

theorem msixOnly_resFlush (key : Nat) : MsixOnly s (resFlush key s) := by
  rw [resFlush]
  split
  · exact (MsixOnly.of_host (touches_delHalf.kept (·.host) .host)).trans (msixOnly_resSlot _ _)
  · exact .refl _

theorem msixOnly_resPut (key dom flush : Nat) (ws : List W40) : MsixOnly s (resPut key n dom flush ws s) := by
  have hrefuse : ∀ code, MsixOnly s (producerRefuse key code s) := fun code => .of_host (touches_producerRefuse.kept (·.host) .host)
  unfold resPut
  refine .ite (hrefuse 4) (.ite (hrefuse 3) (.ite ((msixOnly_resFlush key).trans (msixOnly_resSlot _ _)) ?_))
  extract_lets hold
  have hhold : ∀ v, MsixOnly v (hold v) := fun v => .of_host rfl
  split
  · exact .ite ((MsixOnly.of_host (touches_delHalf.kept (·.host) .host)).trans (msixOnly_resSlot _ _)) ((msixOnly_resFlush key).trans (hhold _))
  · exact hhold _

theorem msixOnly_decDecide (x : Tick) (e : Nat) : MsixOnly s (decDecide x e s) := by
  have h : Touches [.binder, .agenda] s (defer (plus x 2) (.decToSeqs e) (setDecoder e { decoder e s with at_ := x, ready := false } s)) :=
    (touches_defer.after touches_setDecoder).mono
  exact (MsixOnly.of_host (h.kept (·.host) .host)).trans (.ite (msixOnly_resPut _ _ _ _) (.refl _))

theorem msixOnly_decAdopt (x : Tick) (e : Nat) : MsixOnly s (decAdopt x e s) := by
  rw [decAdopt]
  refine .ite (.of_host (touches_setDecoder.kept (·.host) .host)) ?_
  have h : Touches [.force, .binder] s (setDecoder e { decoder e s with page := !(decoder e s).page, pend := false, ready := false }
      (commitRegs ((upTo 4).map (oBndDecSel e) ++ [oBndDecCfg e]) s)) := (touches_setDecoder.after touches_commitRegs).mono
  exact (MsixOnly.of_host (h.kept (·.host) .host)).trans (.ite (msixOnly_decDecide _ _) (.refl _))

/-! ### What a hold releases -/

/-- What the release of a hold can touch: the commit of a slot or a decoder, and what a decoder's adoption decides. -/
abbrev released : List Fld :=
  [.slots, .seqs, .fresh, .force, .regs, .log, .binder, .agenda, .gran, .halves, .mem, .rings, .host]

theorem touches_commitReq_slot : Touches [.seqs, .fresh, .force, .regs, .slots, .log] s (commitReq 3 k s) := by
  unfold commitReq
  exact .mono (.ite (.ite (.refl _) (touches_arrive.after touches_modSeq)) (touches_commitSlot.after touches_arrive))

theorem touches_releaseHold' : Touches released s (releaseHold op k s) := by
  unfold releaseHold
  exact .mono (.ite ((Touches.ite touches_commitReq_slot (.refl _)).after touches_setSlot) (.ite ((Touches.ite
    (touches_brTryAll.after (touches_bndSettle.after touches_decAdopt)) (.refl _)).after touches_setDecoder) (.refl _)))

theorem msixOnly_adopted (x y : Tick) : MsixOnly s (brTryAll x (bndSettle (decAdopt y k s))) :=
  (msixOnly_decAdopt y k).trans (.of_host (((touches_brTryAll.after touches_bndSettle).mono (L := [.seqs, .binder, .regs])).kept (·.host) .host))

theorem msixOnly_releaseHold : MsixOnly s (releaseHold op k s) := by
  have hslot : ∀ v : State, MsixOnly v (commitReq 3 k v) := fun v => .of_host (touches_commitReq_slot.kept (·.host) .host)
  have hset : ∀ d, MsixOnly s (setDecoder k d s) := fun d => .of_host (touches_setDecoder.kept (·.host) .host)
  unfold releaseHold
  exact .ite ((MsixOnly.of_host (touches_setSlot.kept (·.host) .host)).trans (.ite (hslot _) (.refl _)))
    (.ite ((hset _).trans (.ite (msixOnly_adopted _ _) (.refl _))) (.refl _))

/-! ### Routines that are aborted -/

/-- What an abort makes of a routine. -/
def abortedRoutine (p : Routine → Bool) (x : Tick) (r : Routine) : Routine :=
  if r.ended.isNone && p r then closeRoutine 8 [] x r else r

/-- The engine with the routines ended that an abort names. -/
def routinesAborted (p : Routine → Bool) (s : State) : State :=
  { s with ce := { s.ce with
    cur := s.ce.cur.map (abortedRoutine p (now s)), parked := s.ce.parked.map (fun e => (e.1, abortedRoutine p (now s) e.2)) } }

/-- The requests of the routines named are forgotten. -/
def requestsForgotten (rs : List Routine) (s : State) : State :=
  let s := if rs.any (fun r => r.opcode == 0x901) then monForget s else s
  if rs.any (fun r => r.opcode == 0x003) then { s with safePend := none } else s

def holdsReleased (rs : List Routine) (s : State) : State := foldS (fun r s => releaseHold r.opcode r.target s) rs s

theorem abortRoutines_eq : abortRoutines p s = holdsReleased (openRoutines p s) (requestsForgotten (openRoutines p s) (routinesAborted p s)) :=
  rfl

theorem touches_routinesAborted : Touches [.ce] s (routinesAborted p s) := .ce

theorem touches_requestsForgotten : Touches [.mon, .safePend] s (requestsForgotten rs s) :=
  ((Touches.ite Touches.safePend (.refl _)).after (.ite touches_monForget (.refl _))).mono

theorem touches_holdsReleased : Touches released s (holdsReleased rs s) := .foldS fun _ _ => touches_releaseHold'

theorem ce_abortRoutines : (abortRoutines p s).ce = (routinesAborted p s).ce := by
  rw [abortRoutines_eq, touches_holdsReleased.kept (·.ce) .ce, touches_requestsForgotten.kept (·.ce) .ce]

theorem touches_abortRoutines' : Touches (.ce :: .mon :: .safePend :: released) s (abortRoutines p s) := by
  rw [abortRoutines_eq]
  exact ((touches_holdsReleased.after touches_requestsForgotten).after touches_routinesAborted).mono

theorem msixOnly_abortRoutines : MsixOnly s (abortRoutines p s) := by
  rw [abortRoutines_eq]
  refine (MsixOnly.of_host ?_).trans (foldS_rel MsixOnly.refl .trans (fun _ _ => msixOnly_releaseHold) _ _)
  rw [touches_requestsForgotten.kept (·.host) .host]
  rfl

theorem abortedRoutine_open {r : Routine} {x : Tick} (h : r.ended = none) (hp : p r = true) :
    ∃ res, abortedRoutine p x r = { r with ended := some (8, res, x) } := by
  rw [abortedRoutine, if_pos (by simp [h, hp]), closeRoutine]
  exact ⟨_, rfl⟩

theorem abortedRoutine_kept {r : Routine} {x : Tick} (h : (abortedRoutine p x r).ended = none) : abortedRoutine p x r = r ∧ p r = false := by
  rw [abortedRoutine] at h ⊢
  split at h
  next => exact absurd h (by simp [closeRoutine])
  next hc =>
    rw [if_neg hc]
    refine ⟨rfl, ?_⟩
    simpa [h] using hc

/-! ### What a function's reset discards -/

/-- Nothing of function `m` is staged, latched or enabled. -/
def Gone (m : Nat) (t : State) : Prop :=
  staged m t = none ∧ tget? m t.host.rlatch = none ∧ m ∉ t.host.msixOn ∧ m ∉ t.host.fmask ∧ m ∉ t.host.busMaster

theorem gone_fnDiscard : Gone m (fnDiscard m s) := by
  refine ⟨tget?_tdel_self .., tget?_tdel_self .., ?_, ?_, ?_⟩ <;>
  · show m ∉ List.filter _ _
    simp

theorem tget?_tdel_none {α : Type} {l : Tab α} (h : tget? m l = none) : tget? m (tdel k l) = none := by
  by_cases hk : m = k
  · rw [hk]
    exact tget?_tdel_self ..
  · rw [tget?_tdel_ne hk, h]

theorem Gone.fnDiscard (h : Gone m s) : Gone m (fnDiscard k s) := by
  obtain ⟨hstage, hlatch, hmsix, hmask, hmaster⟩ := h
  exact ⟨tget?_tdel_none hstage, tget?_tdel_none hlatch, fun hm => hmsix (List.mem_filter.1 hm).1,
    fun hm => hmask (List.mem_filter.1 hm).1, fun hm => hmaster (List.mem_filter.1 hm).1⟩

theorem gone_foldS_fnDiscard : ∀ {l : List Nat} {s : State}, m ∈ l ∨ Gone m s → Gone m (foldS fnDiscard l s)
  | [], _, h => h.resolve_left List.not_mem_nil
  | j :: l, s, h => by
    refine gone_foldS_fnDiscard (l := l) ?_
    rcases h with h | h
    · rcases List.mem_cons.1 h with rfl | h
      · exact .inr gone_fnDiscard
      · exact .inl h
    · exact .inr h.fnDiscard

theorem Gone.of_msixOnly (h : Gone m s) (hm : MsixOnly s t) : Gone m t := by
  rw [MsixOnly] at hm
  rw [Gone, staged, hm]
  exact h

/-- PERST_N after the functions' discards. -/
def perstEnds (s : State) : State :=
  { s with host := { s.host with ptmOn := false, vfEnable := false, payload := 0, readRequest := 2 }, time := { s.time with ptmOut := none } }

/-- The functions that PERST_N resets. -/
def perstFunctions (s : State) : List Nat := if s.host.vfEnable then upTo 16 else [0]

theorem Gone.perstEnds (h : Gone m s) : Gone m (perstEnds s) := h

theorem perstRow_resets (h : s.life ≠ .off) : perstRow s = perstEnds (foldS fnDiscard (perstFunctions s) s) := if_pos (powered_iff.2 h)

theorem touches_perst : Touches [.host, .time] s (perstEnds (foldS fnDiscard (perstFunctions s) s)) := by
  have hends : ∀ u : State, Touches [.host, .time] u (perstEnds u) := fun u => .set _ rfl
  exact ((hends _).after (.foldS fun _ _ => touches_fnDiscard)).mono

/-! ### The trap of a Function Level Reset -/

/-- The trap of the function of domain `m` waits. -/
def flrWaiting (m : Nat) (s : State) : State := raiseTrap 6 { s with ce := { s.ce with flrWait := s.ce.flrWait ++ [m] } }

theorem touches_flrWaiting : Touches [.ce] s (flrWaiting m s) := (touches_raiseTrap.after Touches.ce).mono

theorem touches_flrKick' : Touches ([.ce, .regs, .free, .mon, .safePend] ++ released) s (flrKick s) := by
  unfold flrKick
  split
  · exact .mono (.ite (((touches_abortRoutines'.after (.ite (.refl _) touches_raiseTrap)).after Touches.ce).after touches_takeTrap) (.refl _))
  · exact .mono (.refl _)

/-- The handler of the function of domain `j` begins; the trap stays for those that wait behind it. -/
def flrHandler (j : Nat) (rest : List Nat) (s : State) : State :=
  let s := takeTrap 6 s
  let s := { s with ce := { s.ce with flrWait := rest, flrRun := [j] } }
  if rest.isEmpty then s else raiseTrap 6 s

theorem touches_flrHandler {rest : List Nat} : Touches [.ce, .regs, .free] s (flrHandler k rest s) :=
  (((Touches.ite (.refl _) touches_raiseTrap).after Touches.ce).after touches_takeTrap).mono

/-- The parked routines that the handler ends. -/
def flrEnds (j : Nat) (cur : Option Routine) (r : Routine) : Bool := r.dom == j && cur != some r

theorem flrKick_takes {rest : List Nat} (h : s.ce.flrWait = k :: rest) : flrKick s = if (trapPends 6 s && trapFree 6 s) = true
    then abortRoutines (flrEnds k (flrHandler k rest s).ce.cur) (flrHandler k rest s) else s := by
  rw [flrKick, h]
  rfl

theorem msixOnly_flrKick : MsixOnly s (flrKick s) := by
  cases h : s.ce.flrWait with
  | nil =>
    rw [flrKick, h]
    exact .refl _
  | cons j rest =>
    rw [flrKick_takes h]
    exact .ite ((MsixOnly.of_host (touches_flrHandler.kept (·.host) .host)).trans msixOnly_abortRoutines) (.refl _)

theorem flrRow_resets (hlife : s.life ≠ .off) (hm : 0 < m) (hvf : s.host.vfEnable = true) :
    flrRow m s = flrKick (flrWaiting m (fnDiscard m s)) := by
  rw [flrRow, if_neg (by simp [powered_iff.2 hlife, fnExists, hvf]), if_neg (by omega)]
  rfl

theorem gone_flr : Gone m (flrKick (flrWaiting m (fnDiscard m s))) :=
  (gone_fnDiscard.of_msixOnly (.of_host (touches_flrWaiting.kept (·.host) .host))).of_msixOnly msixOnly_flrKick

/-- The trap of priority 6 no longer pends and is counted. -/
def trapCounted (s : State) : State := bump oCeTrap 39 20 { s with ce := { s.ce with traps := s.ce.traps.filter (fun q => q != 6) } }

theorem touches_trapCounted : Touches [.ce, .regs] s (trapCounted s) := (touches_bump.after Touches.ce).mono

theorem ce_trapCounted : (trapCounted s).ce = { s.ce with traps := s.ce.traps.filter (fun q => q != 6) } := touches_bump.kept (·.ce) .ce

/-- A handler of priority 6 begins, which takes `d` ticks. -/
def handlerBegun (d : Nat) (s : State) : State :=
  takeFree { s with ce := { s.ce with
    handlers := (6, plus (now s) d) :: s.ce.handlers.map (fun h => (h.1, plus h.2 d))
    cur := s.ce.cur.map (fun r => if r.ended.isNone then { r with inHandlers := r.inHandlers + d } else r) } }

theorem takeTrap_flr : takeTrap 6 s = handlerBegun (1 + (Config.freeWord (trapCounted s).free).toNat % 5000) (trapCounted s) := by
  rw [takeTrap, if_neg (by decide)]
  rfl

theorem handlers_handlerBegun {d : Nat} :
    (handlerBegun d s).ce.handlers = (6, plus s.time.tick d) :: s.ce.handlers.map (fun h => (h.1, plus h.2 d)) := rfl

theorem traps_handlerBegun {d : Nat} : (handlerBegun d s).ce.traps = s.ce.traps := rfl

theorem ce_flrHandler_eq : (flrHandler m [] s).ce = { (takeTrap 6 s).ce with flrWait := [], flrRun := [m] } := rfl

/-- The engine after the handler of a Function Level Reset of `d` ticks has begun at level 0. -/
theorem ce_flrHandler (hh : s.ce.handlers = []) (ht : s.ce.traps = [6]) : ∃ d, 1 ≤ d ∧ d ≤ 5000 ∧
    (flrHandler m [] s).ce.handlers = [(6, plus s.time.tick d)] ∧ (flrHandler m [] s).ce.flrRun = [m] ∧
    (flrHandler m [] s).ce.traps = [] := by
  have htick : (trapCounted s).time.tick = s.time.tick := touches_trapCounted.kept (·.time.tick) .clock
  refine ⟨1 + (Config.freeWord (trapCounted s).free).toNat % 5000, by omega, by omega, ?_⟩
  rw [ce_flrHandler_eq, takeTrap_flr]
  refine ⟨?_, rfl, ?_⟩
  · refine handlers_handlerBegun.trans ?_
    rw [ce_trapCounted, htick, hh]
    rfl
  · show (trapCounted s).ce.traps = []
    rw [ce_trapCounted, ht]
    rfl

theorem ce_flrWaiting : (flrWaiting m (fnDiscard m s)).ce = { s.ce with flrWait := s.ce.flrWait ++ [m], traps := insNat 6 s.ce.traps } := rfl

theorem flr_takes (honly : s.ce.hOnly = false) (hh : s.ce.handlers = []) (ht : s.ce.traps = []) (hw : s.ce.flrWait = []) :
    flrKick (flrWaiting m (fnDiscard m s)) = abortRoutines (flrEnds m (flrHandler m [] (flrWaiting m (fnDiscard m s))).ce.cur)
      (flrHandler m [] (flrWaiting m (fnDiscard m s))) := by
  rw [flrKick_takes (k := m) (rest := []) (by rw [ce_flrWaiting, hw]; rfl), if_pos]
  rw [trapPends, trapFree, ce_flrWaiting, honly, hh, ht]
  rfl

theorem parked_abortRoutines {e : Nat × Routine} (h : e ∈ (abortRoutines p s).ce.parked) :
    ∃ r, e.2 = abortedRoutine p (now s) r := by
  rw [ce_abortRoutines] at h
  obtain ⟨e', -, rfl⟩ := List.mem_map.1 h
  exact ⟨e'.2, rfl⟩

/-- A parked routine of the domain that is not the interrupted one has ended. -/
theorem flrEnds_parked (s : State) {e : Nat × Routine} (h : e ∈ (abortRoutines (flrEnds m s.ce.cur) s).ce.parked) (hdom : e.2.dom = m)
    (hcur : some e.2 ≠ (abortRoutines (flrEnds m s.ce.cur) s).ce.cur) : e.2.ended ≠ none := by
  intro hopen
  obtain ⟨r, hr⟩ := parked_abortRoutines h
  rw [hr] at hopen
  obtain ⟨hsame, hp⟩ := abortedRoutine_kept hopen
  rw [hr, hsame] at hdom hcur
  have hinterrupted : s.ce.cur = some r := by simpa [flrEnds, hdom] using hp
  apply hcur
  rw [ce_abortRoutines]
  exact ((congrArg (Option.map (abortedRoutine (flrEnds m s.ce.cur) (now s))) hinterrupted).trans (congrArg some hsame)).symm

theorem flr_only (honly : s.ce.hOnly = true) : flrKick (flrWaiting m (fnDiscard m s)) = flrWaiting m (fnDiscard m s) := by
  obtain ⟨j, rest, hw⟩ : ∃ j rest, (flrWaiting m (fnDiscard m s)).ce.flrWait = j :: rest :=
    List.exists_cons_of_ne_nil (by rw [ce_flrWaiting]; simp)
  rw [flrKick_takes hw, if_neg]
  rw [trapFree, ce_flrWaiting, honly]
  simp

/-! ### The handler returns -/

/-- The handler of a Function Level Reset has returned. -/
def flrReturned (rest : List (Nat × Tick)) (s : State) : State := { s with ce := { s.ce with handlers := rest, flrRun := [] } }

theorem handlerReturns_flr {x : Tick} {rest : List (Nat × Tick)} (h : s.ce.handlers = (6, x) :: rest) (hdue : due x s = true) :
    handlerReturns s = abortRoutines (fun r => s.ce.flrRun.contains r.dom && s.ce.cur == some r) (flrReturned rest s) := by
  rw [handlerReturns, h]
  exact (if_pos hdue).trans (if_pos rfl)

/-- Settles O33: interrupts alone change the host's side after the discards (`msixOnly_flrKick`), and an abort closes the routines it names. -/
theorem functionResets : Obligations.FunctionResets := by
  unfold Obligations.FunctionResets
  refine fun s hlife => ⟨?_, fun m hm _ hvf => ?_, fun r x rest hh hdue hcur hend hdom => ?_⟩
  · have htouches := touches_perst (s := s)
    refine .of_eq (perstRow_resets hlife) ⟨(gone_foldS_fnDiscard (.inl ?_)).perstEnds, rfl, rfl, htouches.kept (·.life) .life,
      fun hvf m hm => (gone_foldS_fnDiscard (.inl ?_)).perstEnds, ?_⟩
    · rw [perstFunctions]
      split
      · exact mem_upTo (by decide)
      · exact List.mem_singleton.2 rfl
    · rw [perstFunctions, if_pos hvf]
      exact mem_upTo hm
    · have hfold : Touches [.host] s (foldS fnDiscard (perstFunctions s) s) := .foldS fun _ _ => touches_fnDiscard
      have hframe : foldS fnDiscard (perstFunctions s) s = { s with host := (foldS fnDiscard (perstFunctions s) s).host } := hfold.frame
      rw [perstEnds, hframe]
  · have htouches : Touches [.ce, .regs, .free, .mon, .safePend, .slots, .seqs, .fresh, .force, .log, .binder, .agenda, .gran, .halves,
        .mem, .rings, .host, .hostMem, .made, .drv, .prb] s (flrKick (flrWaiting m (fnDiscard m s))) :=
      (touches_flrKick'.after (touches_flrWaiting.after touches_fnDiscard)).mono
    refine .of_touches (flrRow_resets hlife hm hvf) htouches (fun t h r => ⟨h.frame, r⟩) ⟨gone_flr, fun honly hhand htraps hwait => ?_,
      fun honly => ?_⟩
    · obtain ⟨d, hd1, hd2, hhandlers, hrun, hpend⟩ := ce_flrHandler (m := m) (s := flrWaiting m (fnDiscard m s))
        (by rw [ce_flrWaiting, hhand]) (by rw [ce_flrWaiting, htraps]; rfl)
      rw [flr_takes honly hhand htraps hwait]
      refine ⟨⟨d, hd1, hd2, ?_⟩, ?_, ?_, fun e he hdom hne => flrEnds_parked _ he hdom hne⟩
      · rw [ce_abortRoutines]
        exact hhandlers
      · rw [ce_abortRoutines]
        exact hrun
      · rw [ce_abortRoutines]
        exact hpend
    · rw [flr_only honly]
      exact ⟨rfl, mem_insNat.2 (.inl rfl), rfl, rfl⟩
  · rw [handlerReturns_flr hh hdue]
    obtain ⟨res, hres⟩ := abortedRoutine_open (p := fun r => s.ce.flrRun.contains r.dom && s.ce.cur == some r) (x := s.time.tick) hend
      (by simpa [hcur] using hdom)
    dsimp only
    rw [ce_abortRoutines]
    refine ⟨rfl, rfl, { r with ended := some (8, res, s.time.tick) }, res, ?_, rfl, rfl, rfl⟩
    show s.ce.cur.map (abortedRoutine _ s.time.tick) = _
    rw [hcur, Option.map_some]
    exact congrArg some (by rw [hcur] at hres; exact hres)

end Sys2Proof.Machine
end

section
/-! PROOF. Stops of the whole device. -/

set_option Elab.async false

namespace Sys2Proof.Machine

variable {s t u : State} {g : Nat} {l : Life} {p : Nat → Bool} {src code detail : Nat} {w3 : W40}

/-! ### Sequencers that are stopped while no entry to SAFE waits -/

/-- What the end of a sequencer can touch while no entry to SAFE waits. -/
abbrev stopped : List Fld :=
  [.barriers, .seqs, .log, .slots, .regs, .force, .prb, .drv, .flux, .outs, .pair, .ce, .time, .therm, .bias]

theorem safeCheck_none {st : Nat} {res : List W40} (h : s.safePend = none) : safeCheck st res s = s := by
  rw [safeCheck, if_neg (by simp [h])]

theorem touches_quietCheck_none (h : s.safePend = none) : Touches [.time, .therm, .bias] s (quietCheck s) := by
  have hquiet : Touches [.time, .therm, .bias] s (graceCheck (stepQuiet s)) := (touches_graceCheck.after touches_stepQuiet).mono
  rw [quietCheck, safeCheck_none ((hquiet.kept (·.safePend) .safePend).trans h)]
  exact hquiet

theorem touches_leaveShot_none (h : s.safePend = none) {x : Tick} : Touches stopped s (leaveShot x g s) := by
  have hitems : Touches [.seqs, .log, .slots, .regs, .force, .prb, .drv, .flux, .outs, .pair, .ce] s (boundaryItems x (seq g s).shot true g
      (modSeq g (fun q => { q with quietAt := if inGap x q then q.quietAt else x, quietTo := none }) s)) :=
    (touches_boundaryItems.after touches_modSeq).mono
  exact ((touches_quietCheck_none ((hitems.kept (·.safePend) .safePend).trans h)).after hitems).mono

theorem touches_seqEnd_none (h : s.safePend = none) : Touches stopped s (seqEnd g s) := by
  unfold seqEnd
  have hidle : ∀ f : Seq → Seq, Touches [.barriers, .seqs] s (modSeq g f (barWithdraw g s)) := fun f =>
    (touches_modSeq.after touches_barWithdraw).mono
  exact ((Touches.ite (touches_leaveShot_none (((hidle _).kept (·.safePend) .safePend).trans h)) (.refl _)).after (hidle _)).mono

theorem touches_seqEnds_none {α : Type} {gs : List α} {f : α → Nat} {c : α → Bool} (h : s.safePend = none) :
    Touches stopped s (foldS (fun a s => if c a = true then seqEnd (f a) s else s) gs s) := by
  refine (Touches.foldS_of (I := fun s => s.safePend = none) (fun a u hu => ?_) h).1
  have hend : Touches stopped u (if c a = true then seqEnd (f a) u else u) := (Touches.ite (touches_seqEnd_none hu) (.refl _)).mono
  exact ⟨hend, (hend.kept (·.safePend) .safePend).trans hu⟩

theorem touches_forcedStop_none (h : s.safePend = none) : Touches stopped s (forcedStop p s) := touches_seqEnds_none h

/-! ### The whole device stops -/

/-- READY and SAFE are left, and no entry to SAFE waits. -/
def stopBegun (l : Life) (s : State) : State :=
  let fed := federated s
  let s := witStopAll false s
  let s := lifeTo l { s with safePend := none }
  if fed then fedLeave s else s

/-- What a stop of the device does once its sequencers have ended. -/
def stopEnds (s : State) : State :=
  let s := gleanAbandonIf (fun _ _ => true) (coresIdle s)
  fsetAll (allRest true (now s) (relaysBack s))

theorem stopAll_eq : stopAll l s = stopEnds (forcedStop (fun _ => true) (dropStep (stopBegun l s))) := rfl

theorem touches_stopEnds : Touches [.cores, .glean, .regs, .outs, .lbReq, .lbWaited, .lbResume, .armAfter, .log, .bias, .slots] s (stopEnds s) := by
  unfold stopEnds
  exact ((touches_fsetAll.after (touches_allRest.after touches_relaysBack)).after (touches_gleanAbandonIf.after touches_coresIdle)).mono

theorem touches_lifeLeft {c : Prop} [Decidable c] :
    Touches [.safePend, .log, .life, .time, .regs] s (if c then fedLeave (lifeTo l { s with safePend := none }) else
      lifeTo l { s with safePend := none }) :=
  ((Touches.ite touches_fedLeave (.refl _)).after (touches_lifeTo.after Touches.safePend)).mono

theorem stopBegun_stops : (stopBegun l s).life = l ∧ (stopBegun l s).safePend = none := by
  unfold stopBegun
  dsimp only
  split
  · exact ⟨touches_fedLeave.kept (·.life) .life, touches_fedLeave.kept (·.safePend) .safePend⟩
  · exact ⟨rfl, rfl⟩

theorem touches_stopBegun_quiet (h : NoBales s) : Touches [.wits, .safePend, .log, .life, .time, .regs] s (stopBegun l s) :=
  (touches_lifeLeft.after (witStopAll_quiet h).1).mono

/-- What follows the beginning of a stop. -/
abbrev stopRest : List Fld :=
  [.barriers, .seqs, .log, .slots, .regs, .force, .prb, .drv, .flux, .outs, .pair, .ce, .time, .therm, .bias, .cores, .glean,
    .lbReq, .lbWaited, .lbResume, .armAfter]

theorem touches_stopAll_begun : Touches stopRest (stopBegun l s) (stopAll l s) := by
  rw [stopAll_eq]
  have hdrop : Touches [.time, .regs] (stopBegun l s) (dropStep (stopBegun l s)) := touches_dropStep
  have hsafe : (dropStep (stopBegun l s)).safePend = none := (hdrop.kept (·.safePend) .safePend).trans stopBegun_stops.2
  exact ((touches_stopEnds.after (touches_forcedStop_none hsafe)).after hdrop).mono

theorem life_stopAll : (stopAll l s).life = l := (touches_stopAll_begun.kept (·.life) .life).trans stopBegun_stops.1

theorem touches_stopAll_quiet (h : NoBales s) : Touches (.wits :: .safePend :: .life :: stopRest) s (stopAll l s) :=
  (touches_stopAll_begun.after (touches_stopBegun_quiet h)).mono

/-! ### A FATAL condition -/

/-- HALT_CODE takes the code of a FATAL condition, unless a lesser one of the same tick, or one of an earlier tick, stands there. -/
def haltNoted (code : Nat) (s : State) : State :=
  match s.haltAt with
  | none => putF oLifecycle 39 24 code { s with haltAt := some (now s, code) }
  | some (t, c) => if t = now s ∧ code < c then putF oLifecycle 39 24 code { s with haltAt := some (t, code) } else s

theorem touches_haltNoted : Touches [.haltAt, .regs] s (haltNoted code s) := by
  unfold haltNoted
  split
  · exact (touches_putF.after Touches.haltAt).mono
  · exact (Touches.ite (touches_putF.after Touches.haltAt) (.refl _)).mono

/-- A FATAL condition before the device stops. -/
def fatalNoted (src code detail : Nat) (w3 : W40) (s : State) : State := haltNoted code (raiseTrap 1 (record src code detail w3 s))

theorem touches_fatalNoted : Touches [.haltAt, .regs, .ce, .log] s (fatalNoted src code detail w3 s) :=
  (touches_haltNoted.after (touches_raiseTrap.after touches_record)).mono

theorem reports_fatalNoted (hs : src < 2 ^ 16) (hc : code < 2 ^ 16) : Reports src code s (fatalNoted src code detail w3 s) :=
  (reports_record hs hc).before ((touches_haltNoted.after touches_raiseTrap).mono (L := [.haltAt, .regs, .ce]))

theorem fatal_stops (h : s.life ≠ .halted) (hoff : s.life ≠ .off) :
    fatal src code detail w3 s = readoutStops (stopAll .halted (fatalNoted src code detail w3 s)) := by
  have hlife : (fatalNoted src code detail w3 s).life = s.life := touches_fatalNoted.kept (·.life) .life
  have heq : fatal src code detail w3 s = if (fatalNoted src code detail w3 s).life = .halted ∨ (fatalNoted src code detail w3 s).life = .off
      then fatalNoted src code detail w3 s else readoutStops (stopAll .halted (fatalNoted src code detail w3 s)) := rfl
  rw [heq, if_neg (by rw [hlife]; simp [h, hoff])]

theorem life_fatal (h : s.life ≠ .halted) (hoff : s.life ≠ .off) : (fatal src code detail w3 s).life = .halted := by
  rw [fatal_stops h hoff, touches_readoutStops.kept (·.life) .life, life_stopAll]

theorem reports_fatal (h : s.life ≠ .halted) (hoff : s.life ≠ .off) (hs : src < 2 ^ 16) (hc : code < 2 ^ 16) :
    Reports src code s (fatal src code detail w3 s) := by
  rw [fatal_stops h hoff]
  exact (reports_fatalNoted hs hc).before (touches_readoutStops.after touches_stopAll)

theorem touches_fatal_quiet (h : s.life ≠ .halted) (hoff : s.life ≠ .off) (hq : NoBales s) :
    Touches ([.haltAt, .wits, .safePend, .life, .bus, .made] ++ stopRest) s (fatal src code detail w3 s) := by
  rw [fatal_stops h hoff]
  have hnoted : Touches [.haltAt, .regs, .ce, .log] s (fatalNoted src code detail w3 s) := touches_fatalNoted
  exact ((touches_readoutStops.after (touches_stopAll_quiet (hq.of_touches hnoted))).after hnoted).mono

end Sys2Proof.Machine
end

section
/-! PROOF. The steps of STAGING (O34). -/

set_option Elab.async false

namespace Sys2Proof.Machine

variable {s t : State} {u n c : Nat} {x : Tick} {p : PwrStep} {bad : List TrimSet} {v : TrimSet} {fallback : Bool} {img : ImageAt}

/-! ### The power-up schedule -/

theorem fld_testBit (v : W40) {hi lo i : Nat} (h : lo + i ≤ hi) : (fld v hi lo).testBit i = bit v (lo + i) := by
  rw [fld, bit, Nat.testBit_mod_two_pow, Nat.testBit_shiftRight]
  simp [show i < hi + 1 - lo by omega]

theorem tilePowered_eq (hu : u < 8) : tilePowered u s = bR oPowerStatus (20 + u) s := fld_testBit _ (by omega)

def stepTaken_ (p : PwrStep) (s : State) : State := { s with therm := { s.therm with steps := s.therm.steps ++ [p] } }

theorem leaves_biasConnect (g : Nat) : Leaves oPowerStatus s (biasConnect x g s) := by
  have hne : oPowerStatus ≠ oBiasCfg g := by
    unfold oPowerStatus oBiasCfg
    omega
  have hkept : ∀ (v : W40) (b : Bias) (w : State), Leaves oPowerStatus w (setBias g b (setF (oBiasCfg g) v w)) := fun _ _ _ =>
    getR_of_regs (((touches_setBias.after touches_setF).mono (L := [.bias, .force])).kept (·.regs) .regs) _
  exact (leaves_setR hne _ _).trans (hkept _ _ _)

theorem powered_stepAct_bias (hu : u < 8) : tilePowered u (stepAct x (.bias u) s) = true := by
  have hbit : bR oPowerStatus (20 + u) (putB oPowerStatus (20 + u) true s) = true := bR_putB_self _ (by omega)
  have hconnect : ∀ v : State, Leaves oPowerStatus v (tileConnect x u v) := fun v => .foldS (fun g v => leaves_biasConnect g) _ _
  rw [tilePowered_eq hu, stepAct]
  exact (Leaves.ite (hconnect _) (.refl _ _)).bR.trans hbit

theorem powered_stepAct_stack (hn : n < 2) : bR oPowerStatus (28 + n) (stepAct x (.stack n) s) = true := by
  rw [stepAct, bR_putF_ne (by decide)]
  exact bR_putB_self _ (by omega)

theorem powerupStepRow_takes (hx : s.therm.schedAt = some x) (hlife : s.life = .staging) (hp : stepPresent p s = true)
    (hnew : p ∉ s.therm.steps) (hdue : due (plus x (stepTime p)) s = true) :
    powerupStepRow p s = stepAct (plus x (stepTime p)) p (stepTaken_ p s) := by
  rw [powerupStepRow, hx]
  exact if_pos (by simp [hlife, hp, hnew, hdue])

/-! ### The NVM has loaded -/

def nvmLoaded (bad : List TrimSet) (s : State) : State := { s with sec := { s.sec with nvmDone := true, trimBad := bad } }

def tilesConnected (s : State) : State :=
  foldS (fun t s => if s.therm.steps.contains (.bias t) then tileConnect (now s) t s else s) (upTo (nTiles s)) s

theorem touches_tilesConnected : Touches [.regs, .force, .bias] s (tilesConnected s) :=
  .foldS fun _ _ => .mono (.ite touches_tileConnect (.refl _))

theorem trimBad_records : ∃ r ∈ (trimBad v s).log.pool, r.code = 0x900 := ⟨_, List.mem_append_right _ (List.mem_singleton.2 rfl), rfl⟩

theorem foldS_trimBad_records {l : List TrimSet} (h : v ∈ l) : ∃ r ∈ (foldS trimBad l s).log.pool, r.code = 0x900 := by
  induction l generalizing s with
  | nil => exact absurd h List.not_mem_nil
  | cons k l ih =>
    rw [foldS]
    rcases List.mem_cons.1 h with rfl | h
    · obtain ⟨r, hr, hcode⟩ := trimBad_records (v := v) (s := s)
      have hrest : Touches [.regs, .log] (trimBad v s) (foldS trimBad l (trimBad v s)) := .foldS fun _ _ => touches_trimBad
      exact ⟨r, hrest.mem_pool hr, hcode⟩
    · exact ih h

theorem nvmLoadRow_loads (hlife : s.life = .staging) (hdone : s.sec.nvmDone = false) :
    nvmLoadRow bad s = tilesConnected (foldS trimBad bad (nvmRegisters (nvmLoaded bad s))) := by
  have hcond : (s.life == .staging && !s.sec.nvmDone) = true := by simp [hlife, hdone]
  rw [nvmLoadRow, if_pos hcond]
  rfl

theorem touches_nvmLoaded_rest :
    Touches [.regs, .log, .force, .bias] (nvmLoaded bad s) (tilesConnected (foldS trimBad bad (nvmRegisters (nvmLoaded bad s)))) :=
  ((touches_tilesConnected.after (Touches.foldS fun _ _ => touches_trimBad)).after touches_nvmRegisters).mono

/-! ### The boot -/

/-- SEC_STATUS of a booted copy. -/
def bootShown (n : Nat) (fallback : Bool) (img : ImageAt) (s : State) : State :=
  s |> putF oSecStatus 24 19 (imgVersion img) |> putF oSecStatus 18 17 (imgSlot img) |> putF oSecStatus 16 16 n
    |> putB oSecStatus 15 fallback |> putB oSecStatus 32 (!s.sec.trngBad)

/-- The Loft of a booted copy, if it has one. -/
def bootLoft (img : ImageAt) (s : State) : State :=
  if imgNat img 20 4 = 0 then s
  else if loftClash img then record 0x9000 0x906 0 0 (putB oLoftStatus 3 true s)
  else loftApply img s

def bootNoted (img : ImageAt) (s : State) : State :=
  { s with sec := { s.sec with booted := true, slot := imgSlot img, digest := imgDigest img, factoryDigest := Config.sha512 (factoryRegion s) } }

theorem bootCopy_eq : bootCopy n fallback s = bootLoft (nvmCopy n s) (bootShown n fallback (nvmCopy n s) (bootNoted (nvmCopy n s) s)) := rfl

theorem loftMatch_ne (i : Nat) : oSecStatus ≠ oLoftMatch i := by
  unfold oSecStatus oLoftMatch
  omega

theorem leaves_loftApply : Leaves oSecStatus s (loftApply img s) := by
  unfold loftApply
  have hloaded : ∀ (c : Ce) (e : Sec), Leaves oSecStatus s { s with ce := c, sec := e } := fun _ _ => rfl
  exact ((hloaded _ _).trans (.foldS (fun i s => leaves_setR (loftMatch_ne i) _ _) _ _)).trans (leaves_setR (by decide) _ _)

theorem leaves_bootLoft : Leaves oSecStatus s (bootLoft img s) := by
  have hclash : Leaves oSecStatus s (record 0x9000 0x906 0 0 (putB oLoftStatus 3 true s)) :=
    (leaves_putB (by decide) _ _ _).trans (getR_of_regs (touches_record.kept (·.regs) .regs) _)
  exact .ite (.refl _ _) (.ite hclash leaves_loftApply)

theorem sec_loftApply : (loftApply img s).sec = { s.sec with loftDigest := imgDigest img } := by
  have h : ∀ u : State, Touches [.regs] u (setR oLoftStatus (w (imgVersion img * 2 ^ 24 +
      ((upTo 32).filter (fun i => bit (loftEntry img i) 27)).length * 2 ^ 5 + 6)) (foldS (fun i s => setR (oLoftMatch i) (loftEntry img i) s) (upTo 32) u)) :=
    fun u => (touches_setR.after (.foldS fun _ _ => touches_setR)).mono
  exact (congrArg State.sec (h _).frame :)

theorem sec_bootLoft : (bootLoft img s).sec.booted = s.sec.booted ∧ (bootLoft img s).sec.slot = s.sec.slot := by
  unfold bootLoft
  split
  · exact ⟨rfl, rfl⟩
  · split
    · exact ⟨rfl, rfl⟩
    · rw [sec_loftApply]
      exact ⟨rfl, rfl⟩

theorem shown_bootShown (hn : n < 2) : fR oSecStatus 16 16 (bootShown n fallback img s) = n ∧
    bR oSecStatus 32 (bootShown n fallback img s) = !s.sec.trngBad ∧ bR oSecStatus 15 (bootShown n fallback img s) = fallback := by
  unfold bootShown
  refine ⟨?_, bR_putB_self _ (by decide), ?_⟩
  · rw [fR_putB_apart _ (by decide) (by decide), fR_putB_apart _ (by decide) (by decide)]
    exact fR_putF_self (by omega) (by decide) (by decide)
  · rw [bR_putB_apart _ (by decide) (by decide)]
    exact bR_putB_self _ (by decide)

theorem bootCopy_boots (hlife : s.life = .staging) (hn : n < 2) :
    (bootCopy n fallback s).sec.booted = true ∧ (bootCopy n fallback s).life = .staging ∧
    (bootCopy n fallback s).sec.slot = imgSlot (nvmCopy n s) ∧ fR oSecStatus 16 16 (bootCopy n fallback s) = n ∧
    bR oSecStatus 32 (bootCopy n fallback s) = !s.sec.trngBad ∧ bR oSecStatus 15 (bootCopy n fallback s) = fallback := by
  obtain ⟨hcopy, htrng, hback⟩ := shown_bootShown (fallback := fallback) (img := nvmCopy n s) (s := bootNoted (nvmCopy n s) s) hn
  have hsec : (bootShown n fallback (nvmCopy n s) (bootNoted (nvmCopy n s) s)).sec = (bootNoted (nvmCopy n s) s).sec := rfl
  obtain ⟨hbooted, hslot⟩ := sec_bootLoft (img := nvmCopy n s) (s := bootShown n fallback (nvmCopy n s) (bootNoted (nvmCopy n s) s))
  have hlife' : (bootCopy n fallback s).life = s.life := touches_bootCopy.kept (·.life) .life
  rw [hlife', bootCopy_eq, leaves_bootLoft.fR, leaves_bootLoft.bR, leaves_bootLoft.bR, hbooted, hslot, hsec]
  exact ⟨rfl, hlife, rfl, hcopy, htrng, hback⟩

theorem trngBad_journalRestore : (journalRestore s).sec.trngBad = s.sec.trngBad := by
  unfold journalRestore
  split <;> rfl

theorem life_journalRestore : (journalRestore s).life = s.life := touches_journalRestore.kept (·.life) .life

/-- Copy `a` boots if it passes its checks, else the other, else the device halts. -/
def bootFrom (a : Nat) (s : State) : State :=
  match imgCheck 0 (nvmCopy a s) s with
  | none => bootCopy a false s
  | some k =>
    match imgCheck 0 (nvmCopy (1 - a) s) s with
    | none => record 0xD000 0x904 (a * 16 + k) 0 (bootCopy (1 - a) true s)
    | some _ => fatal 0xD000 0x905 0 0 s

section
variable (hlife : s.life = .staging) (hlock : s.time.locked = true) (hboot : s.sec.booted = false)
include hlife hlock hboot

theorem secureBootRow_eq : secureBootRow s = bootFrom (s.sec.selector % 2) (journalRestore s) := by
  have hselector : (journalRestore s).sec.selector = s.sec.selector := by
    unfold journalRestore
    split <;> rfl
  have hrow : secureBootRow s = bootFrom ((journalRestore s).sec.selector % 2) (journalRestore s) := by
    rw [secureBootRow, if_pos (by simp [hlife, hlock, hboot])]
    rfl
  rw [hrow, hselector]

theorem touches_secureBoot_quiet (hq : NoBales s) :
    Touches ([.nvm, .sec, .haltAt, .wits, .safePend, .life, .bus, .made] ++ stopRest) s (secureBootRow s) := by
  have hrestore : Touches [.nvm, .sec, .log] s (journalRestore s) := touches_journalRestore
  have hlife' : (journalRestore s).life = .staging := life_journalRestore.trans hlife
  have hfatal := touches_fatal_quiet (src := 0xD000) (code := 0x905) (detail := 0) (w3 := 0) (s := journalRestore s) (by simp [hlife'])
    (by simp [hlife']) (hq.of_touches hrestore)
  rw [secureBootRow_eq hlife hlock hboot, bootFrom]
  split
  · exact (touches_bootCopy.after hrestore).mono
  · split
    · exact ((touches_record.after touches_bootCopy).after hrestore).mono
    · exact (hfatal.after hrestore).mono

end

theorem secureBoot_completes (hlife : s.life = .staging) (hlock : s.time.locked = true) (hboot : s.sec.booted = false) :
    let s' := journalRestore s
    let a := s.sec.selector % 2
    let boots := fun (n : Nat) (t : State) => t.sec.booted = true ∧ t.life = .staging ∧
      t.sec.slot = imgSlot (nvmCopy n s') ∧ fR oSecStatus 16 16 t = n ∧ bR oSecStatus 32 t = !s.sec.trngBad
    let t := secureBootRow s
    (imgCheck 0 (nvmCopy a s') s' = none → boots a t ∧ bR oSecStatus 15 t = false) ∧
    (∀ k, imgCheck 0 (nvmCopy a s') s' = some k → imgCheck 0 (nvmCopy (1 - a) s') s' = none →
      boots (1 - a) t ∧ bR oSecStatus 15 t = true ∧ Reports 0xD000 0x904 s t) ∧
    (∀ k l, imgCheck 0 (nvmCopy a s') s' = some k → imgCheck 0 (nvmCopy (1 - a) s') s' = some l →
      t.life = .halted ∧ Reports 0xD000 0x905 s t) := by
  dsimp only
  have hlife' : (journalRestore s).life = .staging := life_journalRestore.trans hlife
  have hrestore : Touches [.nvm, .sec, .log] s (journalRestore s) := touches_journalRestore
  rw [secureBootRow_eq hlife hlock hboot, bootFrom]
  refine ⟨fun h => ?_, fun k h h2 => ?_, fun k l h h2 => ?_⟩
  · obtain ⟨hb, hl, hs, hc, ht, hf⟩ := bootCopy_boots (fallback := false) hlife' (n := s.sec.selector % 2) (by omega)
    rw [h]
    exact ⟨⟨hb, hl, hs, hc, ht.trans (by rw [trngBad_journalRestore])⟩, hf⟩
  · obtain ⟨hb, hl, hs, hc, ht, hf⟩ := bootCopy_boots (fallback := true) hlife' (n := 1 - s.sec.selector % 2) (by omega)
    have hregs : ∀ (d : Nat) (u : State), (record 0xD000 0x904 d 0 u).regs = u.regs := fun d u => touches_record.kept (·.regs) .regs
    rw [h, h2]
    dsimp only
    rw [fR_of_regs (hregs _ _), bR_of_regs (hregs _ _), bR_of_regs (hregs _ _)]
    refine ⟨⟨hb, hl, hs, hc, ht.trans (by rw [trngBad_journalRestore])⟩, hf, ?_⟩
    exact ((reports_record (by decide) (by decide)).after touches_bootCopy).after hrestore
  · rw [h, h2]
    exact ⟨life_fatal (by simp [hlife']) (by simp [hlife']),
      (reports_fatal (by simp [hlife']) (by simp [hlife']) (by decide) (by decide)).after hrestore⟩

/-! ### Entry to SAFE -/

theorem foldS_kept {α β : Type} {π : State → β} {f : α → State → State} {l : List α} (h : ∀ a ∈ l, ∀ s, π (f a s) = π s) :
    π (foldS f l s) = π s := by
  induction l generalizing s with
  | nil => rfl
  | cons a l ih =>
    rw [foldS, ih (fun b hb => h b (List.mem_cons_of_mem _ hb)), h a List.mem_cons_self]

theorem biasC_allRest (x : Tick) (hc : c < nSeqs s) : biasC c (allRest true x s) = restBias true x (biasC c s) := by
  have htile : c / 96 < nTiles s := Nat.div_lt_of_lt_mul hc
  have hself : ∀ v : State, biasC c (tileRest true x (c / 96) v) = restBias true x (biasC c v) := fun v => by
    have h := biasC_tileRest true x (c / 96) (Nat.mod_lt c (by decide)) v
    rwa [Nat.div_add_mod] at h
  have hother : ∀ j ∈ upTo (nTiles s), ∀ v : State, j ≠ c / 96 → biasC c (tileRest true x j v) = biasC c v := fun j _ v hj => by
    refine foldS_kept (fun g hg v => biasC_goRest_ne true x ?_ v)
    obtain ⟨i, hi, rfl⟩ := List.mem_map.1 hg
    have hi := List.mem_range.1 hi
    omega
  exact foldS_at (I := fun _ => True) (mem_upTo htile) (upTo_nodup _) (fun _ _ _ _ => trivial) (fun v _ => hself v) hother trivial

/-- The device has entered SAFE. -/
def safeEntered (s : State) : State := lifeTo .safe { s with sec := { s.sec with safeAt := now s } }

theorem stagingCompleteRow_enters (hlife : s.life = .staging) (hsteps : ∀ p ∈ allSteps s, p ∈ s.therm.steps)
    (hcal : ∀ e ∈ s.adcs, e.2.cal = none) (hnvm : s.sec.nvmDone = true) (hzero : bR oGrStatus 2 s = true) (hboot : s.sec.booted = true) :
    stagingCompleteRow s = fsetAll (allRest true (now s) (safeEntered s)) := by
  have hall : (allSteps s).all (fun p => s.therm.steps.contains p) = true := by simpa using hsteps
  have hidle : s.adcs.all (fun e => e.2.cal.isNone) = true := by simpa using hcal
  rw [stagingCompleteRow, if_pos (by rw [hlife, hall, hidle, hnvm, hzero, hboot]; rfl)]
  rfl

theorem logged_safeEntered (hlife : s.life = .staging) : Logged 0 0x100 (2 ^ 16 + 2 * 2 ^ 12) 0 s (safeEntered s) := by
  rw [safeEntered, lifeTo, hlife]
  have h : Logged 0 0x100 (2 ^ 16 + 2 * 2 ^ 12) 0 s (record 0 0x100 (2 ^ 16 + 2 * 2 ^ 12) 0 { s with sec := { s.sec with safeAt := now s } }) :=
    logged_record _ _ _ _ _ (by decide) (by decide) (by decide)
  exact h.before rfl

theorem touches_entered : Touches [.bias, .slots, .regs] (safeEntered s) (fsetAll (allRest true (now s) (safeEntered s))) :=
  (touches_fsetAll.after touches_allRest).mono

theorem touches_safeEntered_rest : Touches [.sec, .nvm, .rollback, .safeAt, .life, .log, .bias, .slots, .regs] s
    (fsetAll (allRest true (now s) (safeEntered s))) :=
  (touches_entered.after (touches_lifeTo.after (Touches.set [.safeAt] rfl))).mono

/-- Settles O34, along the steps of STAGING. -/
theorem stagingSteps : Obligations.StagingSteps := by
  unfold Obligations.StagingSteps
  refine fun s => ⟨fun p x hx hlife hp hnew hdue => ?_, fun bad hlife hdone => ?_, fun hlife hstacks => ?_, fun hlife hlock hboot => ?_,
    fun hlife hsteps hcal hnvm hzero hboot => ?_, fun hlife hcheck => ?_⟩
  · refine .of_touches (R := fun t => t.therm.steps = s.therm.steps ++ [p] ∧ (∀ u, p = .bias u → tilePowered u t = true) ∧
        (∀ n, p = .stack n → bR oPowerStatus (28 + n) t = true)) (powerupStepRow_takes hx hlife hp hnew hdue)
      ((touches_stepAct.after Touches.therm).mono (L := [.regs, .force, .bias, .adcs, .therm])) (fun t h r => ⟨h.frame, r⟩) ⟨?_, ?_, ?_⟩
    · exact congrArg Therm.steps (touches_stepAct.kept (·.therm) .therm)
    · rintro u rfl
      exact powered_stepAct_bias (Nat.lt_of_lt_of_le (of_decide_eq_true hp) (nTiles_le_eight s))
    · rintro n rfl
      exact powered_stepAct_stack (Nat.lt_of_lt_of_le (of_decide_eq_true hp) (nStacks_le_two s))
  · refine .of_eq (nvmLoadRow_loads hlife hdone) ⟨touches_nvmLoaded_rest.frame, fun v hv => ?_⟩
    obtain ⟨r, hr, hcode⟩ := foldS_trimBad_records (s := nvmRegisters (nvmLoaded bad s)) hv
    exact ⟨r, touches_tilesConnected.mem_pool hr, hcode⟩
  · have hall : (upTo (nStacks s)).all (fun n => s.therm.steps.contains (.stack n)) = true :=
      List.all_eq_true.2 fun n hn => List.contains_iff_mem.2 (hstacks n (List.mem_range.1 hn))
    have hrow : zeroDoneRow s = putB oGrStatus 2 true { s with gran := { s.gran with mem := [], rings := [] } } := by
      rw [zeroDoneRow, if_pos (by rw [hall, hlife]; rfl)]
    exact .of_eq hrow ⟨rfl, rfl, rfl, bR_putB_self _ (by decide), rfl⟩
  · have h := touches_secureBootRow (s := s)
    refine .of_eq rfl ⟨h.kept (·.wave) .wave, h.kept (·.adcs) .adcs, h.kept (·.vb) .vb, h.kept (·.gran.mem) .mem,
      h.kept (·.gran.hostMem) .hostMem, h.kept (·.ports) .ports, h.kept (·.fed) .fed, h.kept (·.lins) .lins, h.kept (·.pins) .pins,
      h.kept (·.halves) .halves, h.kept (·.free) .free, fun hq => ?_, secureBoot_completes hlife hlock hboot⟩
    have hquiet := touches_secureBoot_quiet hlife hlock hboot hq
    exact ⟨(congrArg State.gran hquiet.frame :), hquiet.kept (·.host) .host⟩
  · refine .of_eq (stagingCompleteRow_enters hlife hsteps hcal hnvm hzero hboot) ⟨?_, ?_, ?_, fun c hc hconn => ?_⟩
    · have hlife' : (fsetAll (allRest true (now s) (safeEntered s))).life = .safe := touches_entered.kept (·.life) .life
      rw [← hlife']
      exact touches_safeEntered_rest.frame
    · exact (congrArg State.sec touches_entered.frame :)
    · exact (logged_safeEntered hlife).before (touches_entered.kept (·.log) .log)
    · rw [biasC_of_bias (touches_fsetAll.kept (·.bias) .bias), biasC_allRest (s := safeEntered s) _ hc]
      exact restBias_rest hconn
  · have hrow : altImageRow s = putB oSecStatus 13 (imgCheck 0 (nvmCopy (1 - fR oSecStatus 16 16 s) s) s).isNone (putB oSecStatus 14 true s) := by
      have hcond : ((s.life == .safe || s.life == .ready) && !bR oSecStatus 14 s) = true := by
        rw [hcheck]
        rcases hlife with h | h <;> rw [h] <;> rfl
      rw [altImageRow, if_pos hcond]
    refine .of_touches hrow ((touches_putB.after touches_putB).mono (L := [.regs])) (fun t h r => ⟨h.frame, r⟩)
      ⟨?_, bR_putB_self _ (by decide), fun o ho => ?_⟩
    · rw [bR_putB_apart _ (by decide) (by decide)]
      exact bR_putB_self _ (by decide)
    · rw [getR_putB_ne ho, getR_putB_ne ho]

end Sys2Proof.Machine
end

section
/-! PROOF. The routines of the device (O35). -/

set_option Elab.async false

namespace Sys2Proof.Machine

variable {s t u : State} {r : Routine} {k g : Nat} {op st : Nat} {res : List W40} {kind : StepKind}

/-! ### Sequencers inside a shot, after the reasons of the stopped ones change -/

/-- What a set takes out of a table is what a read of its key gives. -/
theorem mem_tput_of_mem {α : Type} {x : α} {e : Nat × α} : ∀ {l : Tab α}, e ∈ l → e ∈ tput k x l ∨ tget? k l = some e.2
  | (j, y) :: l, h => by
    rw [tput]
    split
    · exact .inl (List.mem_cons_of_mem _ h)
    next hlt =>
      split
      next hj =>
        rcases List.mem_cons.1 h with rfl | h
        · exact .inr (by rw [tget?, if_pos hj])
        · exact .inl (List.mem_cons_of_mem _ h)
      next hj =>
        rcases List.mem_cons.1 h with rfl | h
        · exact .inl List.mem_cons_self
        · rcases mem_tput_of_mem h with h | h
          · exact .inl (List.mem_cons_of_mem _ h)
          · exact .inr (by rw [tget?, if_neg hj, h])

theorem anyInShot_iff : anyInShot s = true ↔ ∃ e ∈ s.seqs, insideShot e.2 = true := List.any_eq_true

theorem anyInShot_of_seq (h : insideShot (seq g s) = true) : anyInShot s = true := by
  rw [seq, tget] at h
  split at h
  next q hq => exact anyInShot_iff.2 ⟨_, mem_of_tget? hq, h⟩
  next => exact absurd h (by decide)

/-- A change of a sequencer that keeps its place in the table and whether it stands inside a shot. -/
theorem anyInShot_modSeq {f : Seq → Seq} (hf : ∀ q, insideShot (f q) = insideShot q) (hne : f (seq g s) ≠ {}) :
    anyInShot (modSeq g f s) = anyInShot s := by
  have hseqs : (modSeq g f s).seqs = tput g (f (seq g s)) s.seqs := if_neg hne
  rw [Bool.eq_iff_iff, anyInShot_iff, hseqs]
  constructor
  · rintro ⟨e, he, hin⟩
    rcases mem_tput he with rfl | he
    · exact anyInShot_of_seq ((hf _).symm.trans hin)
    · exact anyInShot_iff.2 ⟨e, he, hin⟩
  · intro h
    obtain ⟨e, he, hin⟩ := anyInShot_iff.1 h
    rcases mem_tput_of_mem (k := g) (x := f (seq g s)) he with h | h
    · exact ⟨e, h, hin⟩
    · refine ⟨(g, f (seq g s)), mem_of_tget? (tget?_tput_self ..), ?_⟩
      have hseq : seq g s = e.2 := by rw [seq, tget, h]
      rw [hf, hseq, hin]

theorem anyInShot_reasonsUpdate : anyInShot (reasonsUpdate s) = anyInShot s := by
  refine foldS_rel (R := fun s t => anyInShot t = anyInShot s) (fun _ => rfl) (fun h k => k.trans h) (fun e s => ?_) _ _
  split
  next hc =>
    refine anyInShot_modSeq (fun _ => rfl) fun h => ?_
    have hreason : holdReason s = 0 := congrArg Seq.stopReason h
    simp [hreason] at hc
  next => rfl

/-! ### ECHO, DEV_INFO, DEV_ENTER_READY -/

theorem finish_ends (hcur : s.ce.cur = some r) (h1 : r.opcode ≠ 0x401) (h2 : r.opcode ≠ 0x402)
    (hp : progressive r.opcode = false ∨ st = 0 ∨ st = 7 ∨ st = 10) : Touches [.ce] s (finish st res s) ∧ Ends st res r s (finish st res s) := by
  rw [finish_ended hcur h1 h2 hp]
  exact ⟨touches_ended, ends_ended⟩

theorem refuse_ends (hcur : s.ce.cur = some r) (h1 : r.opcode ≠ 0x401) (h2 : r.opcode ≠ 0x402) :
    Touches [.ce] s (refuse st s) ∧ Ends st [] r s (refuse st s) := by
  rw [refuse_ended hcur h1 h2]
  exact ⟨touches_ended, ends_ended⟩

theorem doEcho_ends (h : Runs 0x000 r s) : Touches [.ce] s (doEcho s) ∧ Ends 0 r.params r s (doEcho s) := by
  rw [doEcho, opRun_runs h]
  obtain ⟨hcur, hop, -, -⟩ := h
  exact finish_ends hcur (by simp [hop]) (by simp [hop]) (.inr (.inl rfl))

theorem doDevInfo_ends (h : Runs 0x001 r s) :
    Touches [.ce] s (doDevInfo s) ∧ Ends 0 [identWord 0 s, identWord 1 s, identWord 2 s, identWord 3 s] r s (doDevInfo s) := by
  rw [doDevInfo, opRun_runs h]
  obtain ⟨hcur, hop, -, -⟩ := h
  exact finish_ends hcur (by simp [hop]) (by simp [hop]) (.inr (.inl rfl))

theorem enterReady_enters : (enterReady s).life = .ready ∧ Reports 0 0x100 s (enterReady s) := by
  have hrest : Touches [.regs, .time, .fed, .pair, .outs, .lbReq, .lbWaited, .force, .log, .bias, .slots, .lbResume, .armAfter, .wits, .seqs]
      (lifeTo .ready s) (enterReady s) := by
    unfold enterReady
    exact ((((touches_reasonsUpdate.after (touches_fsetAll.after touches_witArmAll)).after (.ite (Touches.armAfter.after
      touches_relaySwitch) (.refl _))).after (.ite touches_cmpHalt (.refl _))).after (.ite touches_fedTake (.refl _))).mono
  exact ⟨hrest.kept (·.life) .life, ((reports_record (by decide) (by decide)).before Touches.life).before hrest⟩

theorem doEnterReady_enters (h : Runs 0x002 r s) (hcal : ∀ e ∈ s.adcs, e.2.cal = none) :
    doEnterReady s = finish 0 [] (enterReady s) := by
  rw [doEnterReady, opRun_runs h]
  exact if_neg (by simpa using hcal)

theorem doEnterReady_refuses (h : Runs 0x002 r s) (hcal : ∃ e ∈ s.adcs, e.2.cal ≠ none) : doEnterReady s = refuse 1 s := by
  rw [doEnterReady, opRun_runs h]
  exact if_pos (by simpa [Option.isSome_iff_ne_none] using hcal)

theorem devEnterReady_enters (h : Runs 0x002 r s) (hcal : ∀ e ∈ s.adcs, e.2.cal = none) :
    Touches [.life, .regs, .force, .time, .clock, .log, .lbReq, .lbWaited, .lbResume, .armAfter, .seqs, .outs, .bias, .slots, .wits, .ce, .fed,
      .pair] s (doEnterReady s) ∧
    Ends 0 [] r s (doEnterReady s) ∧ (doEnterReady s).life = .ready ∧ Reports 0 0x100 s (doEnterReady s) := by
  rw [doEnterReady_enters h hcal]
  obtain ⟨hcur, hop, -, -⟩ := h
  have henter := touches_enterReady (s := s)
  obtain ⟨htouches, hends⟩ := finish_ends (s := enterReady s) (r := r) (st := 0) (res := []) ((congrArg Ce.cur (henter.kept (·.ce) .ce)).trans hcur)
    (by simp [hop]) (by simp [hop]) (.inr (.inl rfl))
  obtain ⟨hlife, hreports⟩ := enterReady_enters (s := s)
  exact ⟨(htouches.after henter).mono, hends.of_tick (henter.kept (·.time.tick) .clock), (htouches.kept (·.life) .life).trans hlife,
    hreports.before htouches⟩

/-! ### DEV_ENTER_SAFE -/

/-- The routine has parked, and the entry to SAFE waits. -/
def safeAsked (s : State) : State := reasonsUpdate (park { s with safePend := some (now s) })

theorem touches_safeAsked : Touches [.safePend, .ce, .seqs] s (safeAsked s) :=
  (touches_reasonsUpdate.after (touches_park.after Touches.safePend)).mono

theorem touches_safeAsked_quiet : Touches [.safePend, .ce, .seqs, .time, .therm, .bias] s (graceCheck (stepQuiet (safeAsked s))) :=
  ((touches_graceCheck.after touches_stepQuiet).after touches_safeAsked).mono

theorem parks_safeAsked (h : Runs 0x003 r s) : Parks r (graceCheck (stepQuiet (safeAsked s))) := by
  obtain ⟨hcur, hop, hend, -⟩ := h
  have hparks : Parks r (park { s with safePend := some (now s) }) := parks_park hcur rfl rfl rfl hend
  refine hparks.of_ce ?_
  exact ((touches_graceCheck.after (touches_stepQuiet.after touches_reasonsUpdate)).mono (L := [.therm, .bias, .time, .seqs])).kept (·.ce) .ce

theorem safePend_safeAsked : (graceCheck (stepQuiet (safeAsked s))).safePend = some s.time.tick := by
  have hafter : Touches [.therm, .bias, .time, .seqs, .ce] { s with safePend := some (now s) } (graceCheck (stepQuiet (safeAsked s))) :=
    (touches_graceCheck.after (touches_stepQuiet.after (touches_reasonsUpdate.after touches_park))).mono
  exact hafter.kept (·.safePend) .safePend

theorem anyInShot_of_seqs (h : t.seqs = s.seqs) : anyInShot t = anyInShot s := by rw [anyInShot, h, anyInShot]

theorem anyInShot_safeAsked : anyInShot (graceCheck (stepQuiet (safeAsked s))) = anyInShot s := by
  have hquiet : Touches [.therm, .bias, .time] (safeAsked s) (graceCheck (stepQuiet (safeAsked s))) := (touches_graceCheck.after touches_stepQuiet).mono
  have hpark : Touches [.safePend, .ce] s (park { s with safePend := some (now s) }) := (touches_park.after Touches.safePend).mono
  rw [anyInShot_of_seqs (hquiet.kept (·.seqs) .seqs), safeAsked, anyInShot_reasonsUpdate, anyInShot_of_seqs (hpark.kept (·.seqs) .seqs)]

/-- How many sequencers stand inside a shot. -/
def shotCount (s : State) : Nat := (s.seqs.filter (fun e => insideShot e.2)).length

theorem shotCount_eq_zero : shotCount s = 0 ↔ anyInShot s = false := by
  rw [shotCount, List.length_eq_zero_iff, List.filter_eq_nil_iff, ← Bool.not_eq_true, anyInShot_iff]
  simp

theorem safeCheck_pends (hpend : s.safePend.isSome = true) (hlife : s.life = .ready) : safeCheck st res s =
    if shotCount s = 0 then endRoutine 0x003 st res (enterSafe s) else progressRoutine 0x003 (w (shotCount s)) s := by
  rw [safeCheck, if_pos (by simp [hpend, hlife])]
  rfl

theorem doEnterSafe_eq (h : Runs 0x003 r s) (hlife : s.life = .ready) : doEnterSafe s =
    if anyInShot s = false then endRoutine 0x003 0 [0] (enterSafe (graceCheck (stepQuiet (safeAsked s))))
    else progressRoutine 0x003 (w (shotCount (graceCheck (stepQuiet (safeAsked s))))) (graceCheck (stepQuiet (safeAsked s))) := by
  have hquiet := touches_safeAsked_quiet (s := s)
  have hcheck := safeCheck_pends (s := graceCheck (stepQuiet (safeAsked s))) (st := 0) (res := [0]) (by rw [safePend_safeAsked]; rfl)
    ((hquiet.kept (·.life) .life).trans hlife)
  rw [doEnterSafe, opRun_runs h]
  refine Eq.trans hcheck ?_
  by_cases hshot : anyInShot s = false
  · rw [if_pos hshot, if_pos (shotCount_eq_zero.2 (anyInShot_safeAsked.trans hshot))]
  · rw [if_neg hshot, if_neg fun h => hshot (anyInShot_safeAsked.symm.trans (shotCount_eq_zero.1 h))]

theorem tget?_mapped {α β : Type} (f : α → β) (k : Nat) (l : Tab α) : tget? k (l.map (fun e => (e.1, f e.2))) = (tget? k l).map f := by
  induction l with
  | nil => rfl
  | cons e l ih =>
    rw [List.map_cons, tget?, tget?]
    split
    · rfl
    · exact ih

/-- What the end of the routine of an opcode makes of a routine. -/
def endedIf (op st : Nat) (res : List W40) (x : Tick) (r : Routine) : Routine := if isOpen op r then closeRoutine st res x r else r

def progressedIf (op : Nat) (p : W40) (r : Routine) : Routine := if isOpen op r then { r with progress := p } else r

theorem parked_endRoutine (i : Nat) :
    tget? i (endRoutine op st res s).ce.parked = (tget? i s.ce.parked).map (endedIf op st res s.time.tick) :=
  tget?_mapped (endedIf op st res s.time.tick) i s.ce.parked

theorem parked_progressRoutine (p : W40) (i : Nat) :
    tget? i (progressRoutine op p s).ce.parked = (tget? i s.ce.parked).map (progressedIf op p) :=
  tget?_mapped (progressedIf op p) i s.ce.parked

/-- A parked routine that ends does so in its place. -/
theorem Parks.endRoutine (h : Parks r s) (hop : r.opcode = op) (hst : progressive op = false ∨ st = 0 ∨ st = 7 ∨ st = 10) :
    (endRoutine op st res s).ce.cur = none ∧ ∃ i x, tget? i (endRoutine op st res s).ce.parked = some x ∧ x.ring = r.ring ∧ x.tag = r.tag ∧
      x.ended = some (st, res, s.time.tick) := by
  obtain ⟨hcur, i, x, hx, hring, htag, hopx, hend⟩ := h
  have hclosed : endedIf op st res s.time.tick x = { x with ended := some (st, res, s.time.tick) } := by
    rw [endedIf, if_pos (by simp [isOpen, hopx, hop, hend]), closeRoutine_plain (by rw [hopx, hop]; exact hst)]
  refine ⟨congrArg (Option.map _) hcur, i, { x with ended := some (st, res, s.time.tick) }, ?_, hring, htag, rfl⟩
  rw [parked_endRoutine, hx, Option.map_some, hclosed]

theorem Parks.progressRoutine {p : W40} (h : Parks r s) : Parks r (progressRoutine op p s) := by
  obtain ⟨hcur, i, x, hx, hring, htag, hopx, hend⟩ := h
  refine ⟨congrArg (Option.map _) hcur, i, progressedIf op p x, ?_, ?_⟩
  · rw [parked_progressRoutine, hx, Option.map_some]
  · rw [progressedIf]
    split
    · exact ⟨hring, htag, hopx, hend⟩
    · exact ⟨hring, htag, hopx, hend⟩

theorem enterSafe_enters : (enterSafe s).life = .safe ∧ (enterSafe s).safePend = none ∧ Reports 0 0x100 s (enterSafe s) := by
  have hstop : Touches [.wits, .regs, .log, .rings, .host, .fabric] s (witStopAll false s) := touches_witStopAll
  have hrest : Touches [.regs, .log, .time, .lbReq, .lbWaited, .lbResume, .armAfter, .bias, .slots]
      (lifeTo .safe { witStopAll false s with safePend := none }) (enterSafe s) := by
    unfold enterSafe
    exact (((touches_fsetAll.after touches_stepQuiet).after (touches_allRest.after touches_relaysBack)).after (.ite
      touches_fedLeave (.refl _))).mono
  have hreport : Reports 0 0x100 { witStopAll false s with safePend := none } (lifeTo .safe { witStopAll false s with safePend := none }) :=
    (reports_record (by decide) (by decide)).before Touches.life
  exact ⟨hrest.kept (·.life) .life, hrest.kept (·.safePend) .safePend, (hreport.before hrest).after ((Touches.safePend.after hstop).mono
    (L := [.wits, .regs, .log, .rings, .host, .fabric, .safePend]))⟩

/-- What DEV_ENTER_SAFE can touch. -/
abbrev safeParts : List Fld :=
  [.life, .regs, .time, .log, .lbReq, .lbWaited, .lbResume, .armAfter, .safePend, .seqs, .bias, .slots, .wits, .rings, .ce, .fabric, .therm, .host]

/-- The parts of the state that hold them, whole. -/
abbrev safeFrame : List Fld := [Fld.clock, Fld.gran, Fld.mem, Fld.hostMem, Fld.made] ++ safeParts

theorem touches_doEnterSafe_ends : Touches safeParts s (endRoutine 0x003 0 [0] (enterSafe (graceCheck (stepQuiet (safeAsked s))))) :=
  ((touches_endRoutine.after touches_enterSafe).after touches_safeAsked_quiet).mono

theorem touches_doEnterSafe_waits {p : W40} : Touches safeParts s (progressRoutine 0x003 p (graceCheck (stepQuiet (safeAsked s)))) :=
  (touches_progressRoutine.after touches_safeAsked_quiet).mono

/-! ### The forced stop -/

/-- The sequencers that the forced stop ends. -/
def shotSeqs (s : State) : List Nat := (s.seqs.filter (fun e => insideShot e.2)).map (fun e => e.1)

/-- The sequencers inside a shot have ended. -/
def shotsEnded (s : State) : State := foldS (fun g s => seqEnd g s) (shotSeqs s) { s with safePend := none }

theorem touches_shotsEnded : Touches (.safePend :: stopped) s (shotsEnded s) := by
  have hends : Touches stopped { s with safePend := none } (shotsEnded s) :=
    touches_seqEnds_none (f := id) (c := fun _ => true) rfl
  exact (hends.after Touches.safePend).mono

theorem enterSafeForced_eq : ∃ res, enterSafeForced s = endRoutine 0x003 7 res (enterSafe (shotsEnded s)) := ⟨_, rfl⟩

theorem enterSafeTimeoutRow_forces {x : Tick} (hpend : s.safePend = some x) (hlife : s.life = .ready) (hdue : due (plus x 100000000) s = true) :
    enterSafeTimeoutRow s = enterSafeForced s := by
  rw [enterSafeTimeoutRow, hpend]
  exact if_pos (by simp [hlife, hdue])

theorem touches_enterSafe_quiet (h : NoBales s) :
    Touches [.wits, .safePend, .log, .life, .time, .regs, .lbReq, .lbWaited, .lbResume, .armAfter, .bias, .slots] s (enterSafe s) := by
  unfold enterSafe
  exact (((touches_fsetAll.after touches_stepQuiet).after (touches_allRest.after touches_relaysBack)).after
    (touches_lifeLeft.after (witStopAll_quiet h).1)).mono

theorem touches_enterSafeForced_quiet (h : NoBales s) : Touches ([.wits, .safePend, .life, .lbReq, .lbWaited, .lbResume, .armAfter] ++ stopped) s
    (enterSafeForced s) := by
  obtain ⟨res, heq⟩ := enterSafeForced_eq (s := s)
  rw [heq]
  exact ((touches_endRoutine.after (touches_enterSafe_quiet (h.of_touches touches_shotsEnded))).after touches_shotsEnded).mono

theorem enterSafeForced_enters : (enterSafeForced s).life = .safe ∧ (enterSafeForced s).safePend = none ∧ Reports 0 0x100 s (enterSafeForced s) := by
  obtain ⟨res, heq⟩ := enterSafeForced_eq (s := s)
  obtain ⟨hlife, hpend, hreports⟩ := enterSafe_enters (s := shotsEnded s)
  rw [heq]
  exact ⟨(touches_endRoutine.kept (·.life) .life).trans hlife, (touches_endRoutine.kept (·.safePend) .safePend).trans hpend,
    (hreports.before touches_endRoutine).after touches_shotsEnded⟩

/-! ### TIME_SET and TIME_REACQUIRE -/

/-- A time step pends. -/
def stepAsked (kind : StepKind) (s : State) : State :=
  putB oTimeStatus 7 true { s with time := { s.time with req := some { kind := kind, phase := 0, at_ := now s, sync := false } } }

theorem requestStep_eq : requestStep kind 0 false s = reasonsUpdate (stepQuiet (stepAsked kind s)) := rfl

/-- The request that pends, whatever its quiet moment. -/
theorem stepQuiet_asked (kind : StepKind) (s : State) :
    ∃ q, (stepQuiet (stepAsked kind s)).time.req = some q ∧ q.kind = kind ∧ q.at_ = s.time.tick := by
  unfold stepQuiet
  have hreq : (stepAsked kind s).time.req = some { kind := kind, phase := 0, at_ := now s, sync := false } := rfl
  rw [hreq]
  dsimp only
  split
  · exact ⟨_, rfl, rfl, rfl⟩
  · exact ⟨_, hreq, rfl, rfl⟩

theorem requestStep_pends (kind : StepKind) (s : State) : bR oTimeStatus 7 (requestStep kind 0 false s) = true ∧
    ∃ q, (requestStep kind 0 false s).time.req = some q ∧ q.kind = kind ∧ q.at_ = s.time.tick := by
  have hreasons : Touches [.seqs] (stepQuiet (stepAsked kind s)) (requestStep kind 0 false s) := touches_reasonsUpdate
  have hquiet : Touches [.seqs, .time] (stepAsked kind s) (requestStep kind 0 false s) := (hreasons.after touches_stepQuiet).mono
  constructor
  · rw [bR_of_regs (hquiet.kept (·.regs) .regs)]
    exact bR_putB_self _ (by decide)
  · have htime : (requestStep kind 0 false s).time = (stepQuiet (stepAsked kind s)).time := (congrArg State.time hreasons.frame :)
    rw [htime]
    exact stepQuiet_asked kind s

theorem doTimeSet_asks (h : Runs 0x004 r s) (hfed : federated s = false) (hreq : s.time.req = none) (hmod : (prm r 0).toNat % 10 = 0) :
    doTimeSet s = finish 0 [] (requestStep (.load (BitVec.ofNat 64 (fld (prm r 1) 23 0 * 2 ^ 40 + (prm r 0).toNat))) 0 false s) := by
  rw [doTimeSet, opRun_runs h]
  dsimp only
  rw [if_neg (by simp [hfed]), if_neg (by simp [hreq]), if_neg (by simp [hmod])]

theorem time_requestStep_finish (h : Runs 0x004 r s) (kind : StepKind) :
    Touches [.time, .regs, .seqs, .ce] s (finish 0 [] (requestStep kind 0 false s)) ∧
    Ends 0 [] r s (finish 0 [] (requestStep kind 0 false s)) ∧ bR oTimeStatus 7 (finish 0 [] (requestStep kind 0 false s)) = true ∧
    ∃ q, (finish 0 [] (requestStep kind 0 false s)).time.req = some q ∧ q.kind = kind ∧ q.at_ = s.time.tick := by
  obtain ⟨hcur, hop, -, -⟩ := h
  have hask : Touches [.time, .regs, .seqs] s (requestStep kind 0 false s) := touches_requestStep
  obtain ⟨htouches, hends⟩ := finish_ends (s := requestStep kind 0 false s) (r := r) (st := 0) (res := [])
    ((congrArg Ce.cur (hask.kept (·.ce) .ce)).trans hcur) (by simp [hop]) (by simp [hop]) (.inr (.inl rfl))
  have htime : (finish 0 [] (requestStep kind 0 false s)).time = (requestStep kind 0 false s).time := (congrArg State.time htouches.frame :)
  obtain ⟨hbit, hreq⟩ := requestStep_pends kind s
  rw [htime, bR_of_regs (htouches.kept (·.regs) .regs)]
  exact ⟨(htouches.after hask).mono, hends.of_tick (hask.kept (·.time.tick) .clock), hbit, hreq⟩

/-- The federation is joined anew, with TIME_ERR and HOLDOVER cleared. -/
def rejoined (s : State) : State := putF oTimeStatus 4 3 0 (rejoinFed s)

theorem touches_rejoined : Touches [.regs] s (rejoined s) := (touches_putF.after touches_rejoinFed).mono

theorem fld_join (v : W40) (h : fld v 6 4 = 0) (h' : fld v 3 3 = 0) : fld v 6 3 = 0 := by
  simp only [fld, Nat.shiftRight_eq_div_pow] at *
  omega

theorem fld_low (v : W40) (h : fld v 4 3 = 0) : fld v 3 3 = 0 := by
  simp only [fld, Nat.shiftRight_eq_div_pow] at *
  omega

theorem rejoinFed_status : Leaves oTimeStatus s (rejoinFed s) :=
  .ite ((leaves_putB (by decide) _ _ _).trans (leaves_putF (by decide) _ _ _ _)) (.refl _ _)

theorem status_rejoined : fR oTimeStatus 2 0 (rejoined s) = fR oTimeStatus 2 0 s ∧ fR oTimeStatus 3 3 (rejoined s) = 0 := by
  constructor
  · rw [rejoined, fR_putF_apart _ (by decide) (by decide) (by decide), rejoinFed_status.fR]
  · exact fld_low _ (fR_putF_self (by decide) (by decide) (by decide))

def acquireBegun (s : State) : State :=
  { s with time := { s.time with acquiring := true, stepAcq := false }, fed := { s.fed with depthBad := false } }

theorem beginAcquire_eq : beginAcquire s = putF oTimeStatus 6 4 0 (acquireBegun s) := rfl

theorem status_beginAcquire (h : fR oTimeStatus 3 3 s = 0) : fR oTimeStatus 6 3 (beginAcquire s) = 0 := by
  have hkept : fR oTimeStatus 3 3 (beginAcquire s) = 0 := by
    rw [beginAcquire_eq, fR_putF_apart _ (by decide) (by decide) (by decide)]
    exact h
  have hclear : fR oTimeStatus 6 4 (beginAcquire s) = 0 := fR_putF_self (by decide) (by decide) (by decide)
  exact fld_join _ hclear hkept

theorem acquiring_beginAcquire : (beginAcquire s).time.acquiring = true ∧ (beginAcquire s).fed = { s.fed with depthBad := false } := ⟨rfl, rfl⟩

theorem doReacquire_acquires (h : Runs 0x005 r s) (hfed : federated s = true) (hmaster : fR oTimeStatus 2 0 s ≠ 1) :
    doReacquire s = finish 0 [] (beginAcquire (rejoined s)) := by
  have hrow : doReacquire s = finish 0 [] (if fR oTimeStatus 2 0 (rejoined s) = 1 then rejoined s else beginAcquire (rejoined s)) := by
    rw [doReacquire, opRun_runs h]
    exact if_neg (by simp [hfed])
  rw [hrow, if_neg (by rw [status_rejoined.1]; exact hmaster)]

theorem touches_acquires : Touches [.regs, .time, .fed] s (beginAcquire (rejoined s)) := (touches_beginAcquire.after touches_rejoined).mono

theorem reacquired (h : Runs 0x005 r s) :
    Touches [.regs, .time, .fed, .ce] s (finish 0 [] (beginAcquire (rejoined s))) ∧
    (finish 0 [] (beginAcquire (rejoined s))).fed = { s.fed with depthBad := false } ∧
    Ends 0 [] r s (finish 0 [] (beginAcquire (rejoined s))) ∧ (finish 0 [] (beginAcquire (rejoined s))).time.acquiring = true ∧
    fR oTimeStatus 6 3 (finish 0 [] (beginAcquire (rejoined s))) = 0 := by
  obtain ⟨hcur, hop, -, -⟩ := h
  have hask := touches_acquires (s := s)
  obtain ⟨htouches, hends⟩ := finish_ends (s := beginAcquire (rejoined s)) (r := r) (st := 0) (res := [])
    ((congrArg Ce.cur (hask.kept (·.ce) .ce)).trans hcur) (by simp [hop]) (by simp [hop]) (.inr (.inl rfl))
  obtain ⟨hacquiring, hfed⟩ := acquiring_beginAcquire (s := rejoined s)
  have hfed' : (rejoined s).fed = s.fed := touches_rejoined.kept (·.fed) .fed
  refine ⟨(htouches.after hask).mono, ?_, hends.of_tick (hask.kept (·.time.tick) .clock), ?_, ?_⟩
  · rw [htouches.kept (·.fed) .fed, hfed, hfed']
  · rw [htouches.kept (·.time.acquiring) .time, hacquiring]
  · rw [fR_of_regs (htouches.kept (·.regs) .regs)]
    exact status_beginAcquire status_rejoined.2

/-- Settles O35, routine by routine; a change of the stopped sequencers' reasons takes none out of its shot (`anyInShot_reasonsUpdate`). -/
theorem deviceRoutines : Obligations.DeviceRoutines := by
  unfold Obligations.DeviceRoutines
  refine fun r s => ⟨fun h => ?_, fun h => ?_, fun h hlife => ⟨fun hcal => ?_, fun hcal => ?_⟩,
    fun h hlife => ⟨fun hshot => ?_, fun hshot => ?_⟩, fun x hpend hlife hdue => ?_, fun h hfed hreq hmod => ?_, fun h hfed hmaster => ?_⟩
  · obtain ⟨htouches, hends⟩ := doEcho_ends h
    exact .of_touches rfl htouches (fun t h r => ⟨h.frame, r⟩) hends
  · obtain ⟨htouches, hends⟩ := doDevInfo_ends h
    exact .of_touches rfl htouches (fun t h r => ⟨h.frame, r⟩) hends
  · obtain ⟨htouches, hrest⟩ := devEnterReady_enters h hcal
    exact .of_touches rfl htouches (fun t h r => ⟨h.frame, r⟩) hrest
  · have hrow := doEnterReady_refuses h hcal
    obtain ⟨hcur, hop, -, -⟩ := h
    obtain ⟨htouches, hends⟩ := refuse_ends (st := 1) hcur (by simp [hop]) (by simp [hop])
    exact .of_touches hrow htouches (fun t h r => ⟨r, h.frame⟩) hends
  · have htouches := touches_doEnterSafe_ends (s := s)
    have hasked := touches_safeAsked_quiet (s := s)
    obtain ⟨hlife', hpend, hreports⟩ := enterSafe_enters (s := graceCheck (stepQuiet (safeAsked s)))
    have hparks : Parks r (enterSafe (graceCheck (stepQuiet (safeAsked s)))) := (parks_safeAsked h).of_ce (touches_enterSafe.kept (·.ce) .ce)
    obtain ⟨hcur, i, x, hx, hring, htag, hend⟩ := hparks.endRoutine (st := 0) (res := [0]) h.2.1 (.inr (.inl rfl))
    have htick : (enterSafe (graceCheck (stepQuiet (safeAsked s)))).time.tick = s.time.tick :=
      (touches_enterSafe.kept (·.time.tick) .clock).trans (hasked.kept (·.time.tick) .clock)
    refine .of_touches ((doEnterSafe_eq h hlife).trans (if_pos hshot)) htouches
      (fun t h r => ⟨(h.mono (L := safeFrame)).frame, h.kept (·.gran.mem) .mem,
        h.kept (·.gran.hostMem) .hostMem, r⟩) ⟨?_, ?_, hcur, ?_, i, x, hx, hring, htag, ?_⟩
    · exact (touches_endRoutine.kept (·.life) .life).trans hlife'
    · exact (touches_endRoutine.kept (·.safePend) .safePend).trans hpend
    · exact (hreports.before touches_endRoutine).after hasked
    · rw [hend, htick]
  · have hne : ¬ anyInShot s = false := by simp [hshot]
    refine .of_touches ((doEnterSafe_eq h hlife).trans (if_neg hne)) touches_doEnterSafe_waits
      (fun t h r => ⟨(h.mono (L := safeFrame)).frame, h.kept (·.gran.mem) .mem,
        h.kept (·.gran.hostMem) .hostMem, r⟩) ⟨(parks_safeAsked h).progressRoutine, ?_, ?_⟩
    · exact (touches_progressRoutine.kept (·.life) .life).trans ((touches_safeAsked_quiet.kept (·.life) .life).trans hlife)
    · exact (touches_progressRoutine.kept (·.safePend) .safePend).trans safePend_safeAsked
  · refine .of_touches (enterSafeTimeoutRow_forces hpend hlife hdue) touches_enterSafeForced
      (fun t h r => ⟨h.kept (·.wave) .wave, h.kept (·.adcs) .adcs, h.kept (·.vb) .vb, h.kept (·.cores) .cores, h.kept (·.gran.mem) .mem,
        h.kept (·.gran.hostMem) .hostMem, h.kept (·.ports) .ports, h.kept (·.fed) .fed, h.kept (·.lins) .lins, (congrArg State.sec h.frame :),
        h.kept (·.pins) .pins, h.kept (·.bus) .bus, h.kept (·.halves) .halves, h.kept (·.free) .free, r⟩) ⟨fun hq => ?_, enterSafeForced_enters⟩
    have hquiet := touches_enterSafeForced_quiet hq
    exact ⟨(congrArg State.gran hquiet.frame :), hquiet.kept (·.host) .host⟩
  · obtain ⟨htouches, hends, hbit, hasked⟩ := time_requestStep_finish h (.load (BitVec.ofNat 64 (fld (prm r 1) 23 0 * 2 ^ 40 + (prm r 0).toNat)))
    obtain ⟨q, hq, hkind, hat⟩ := hasked
    exact .of_eq (doTimeSet_asks h hfed hreq hmod) ⟨(htouches.mono (L := [.time, .clock, .regs, .seqs, .ce])).frame, hends, hbit, q, hq, hkind, hat,
      htouches.kept (·.time.tick) .clock⟩
  · obtain ⟨htouches, hfed', hrest⟩ := reacquired h
    refine .of_eq (doReacquire_acquires h hfed hmaster) ⟨?_, hrest⟩
    rw [← hfed']
    exact (htouches.mono (L := [.regs, .time, .clock, .fed, .ce])).frame

end Sys2Proof.Machine
end

section
/-! PROOF. Accesses to the Granary (O40). -/

set_option Elab.async false

namespace Sys2Proof.Machine

variable {s t : State} {m a n r : Nat} {v : W40} {bs : List Byte}

/-! ### Bytes of the Granary -/

theorem rdByte_writeRange_out {i : Nat} : ∀ {bs : List Byte} {a : Nat} {l : List Host.Cell}, (i < a ∨ a + bs.length ≤ i) →
    rdByte (writeRange s a bs l) i = rdByte l i
  | [], _, _, _ => rfl
  | b :: bs, a, l, h => by
    rw [List.length_cons] at h
    rw [writeRange, rdByte_writeRange_out (by omega)]
    split
    · rfl
    · exact rdByte_wrByte_ne _ _ (by omega)

theorem scrubbing_none (h : s.gran.scrub = none) (a : Nat) : scrubbing a s = false := by rw [scrubbing, h]

theorem writeRange_in (hscrub : s.gran.scrub = none) : ∀ {bs : List Byte} {a : Nat} {l : List Host.Cell} {i : Nat}, i < bs.length →
    a + bs.length ≤ memEnd s → rdByte (writeRange s a bs l) (a + i) = nth 0 bs i
  | b :: bs, a, l, i, hi, ha => by
    rw [List.length_cons] at hi ha
    rw [writeRange, scrubbing_none hscrub, if_neg (by simp; omega)]
    cases i with
    | zero =>
      exact (rdByte_writeRange_out (i := a) (.inl (by omega))).trans (rdByte_wrByte_self ..)
    | succ i =>
      have h := writeRange_in hscrub (bs := bs) (l := wrByte l a b) (a := a + 1) (i := i) (by omega) (by omega)
      rw [show a + (i + 1) = a + 1 + i by omega, h]
      rfl

theorem readRange_ready (hscrub : s.gran.scrub = none) (hready : bR oGrStatus 2 s = true) (hstack : fR oPowerStatus 29 28 s ≠ 0) :
    ∀ {n a : Nat}, 0x04000000 ≤ a → a + n ≤ memEnd s → readRange m s a n = rdBytes s.gran.mem a n
  | 0, _, _, _ => rfl
  | n + 1, a, h1, h2 => by
    have hbyte : readByte m a s = rdByte s.gran.mem a := by
      rw [readByte, if_neg (by omega), if_neg (by omega), scrubbing_none hscrub, if_neg (by simp), if_neg (by simp [hready, hstack])]
    rw [readRange, rdBytes, hbyte, readRange_ready hscrub hready hstack (by omega) (by omega)]

/-! ### Accesses over BAR2 -/

theorem regRows_grRegion_rw : ∀ row ∈ regRows, row.k = .grRegion → row.rw = 0xFFFFFFFFCF := by decide +kernel

theorem bar2Write_stores (hlife : s.life ≠ .off) (hfn : fnExists m s = true) (hbs : bs ≠ []) (ha : 0x04000000 ≤ a)
    (hend : a + bs.length ≤ memEnd s) (href : refusedAt m false a bs.length s = false) :
    bar2Write m a bs s = setMem (writeRange s a bs s.gran.mem) s := by
  rw [bar2Write, if_neg (by simp [powered_iff.2 hlife, hfn, hbs]), if_neg (by simp [href]; omega)]
  exact if_neg (by omega)

theorem bar2Write_refuses (hlife : s.life ≠ .off) (hfn : fnExists m s = true) (hbs : bs ≠ [])
    (h : a < 0x04000000 ∨ refusedAt m false a bs.length s = true) : bar2Write m a bs s = record (0xE000 + m) 3 0 0 s := by
  rw [bar2Write, if_neg (by simp [powered_iff.2 hlife, hfn, hbs])]
  exact if_pos h

/-- What a BAR2 read answers. -/
def bar2Answered (bs : List Byte) (s : State) : State := { s with host := { s.host with readOut := 0, readBytes := bs, poisoned := false } }

theorem bar2Read_eq : bar2Read m a n .clean s =
    if (!powered (bar2Answered [] s) || !fnExists m (bar2Answered [] s)) = true then bar2Answered [] s
    else if refusedAt m true a n (bar2Answered [] s) = true then
      record (0xE000 + m) 3 0 0 (bar2Answered (List.replicate n 0) s)
    else if memEnd s ≤ a then bar2Answered (readRange m (bar2Answered [] s) a n) s
    else readEcc .clean a (bar2Answered (readRange m (bar2Answered [] s) a n) s) := rfl

theorem bar2Read_answers (hlife : s.life ≠ .off) (hfn : fnExists m s = true) (ha : 0x04000000 ≤ a) (hend : a + n ≤ memEnd s)
    (href : refusedAt m true a n s = false) (hscrub : s.gran.scrub = none) (hready : bR oGrStatus 2 s = true)
    (hstack : fR oPowerStatus 29 28 s ≠ 0) : bar2Read m a n .clean s = bar2Answered (rdBytes s.gran.mem a n) s := by
  have hpower : (!powered (bar2Answered [] s) || !fnExists m (bar2Answered [] s)) = false := by
    have hp : powered (bar2Answered [] s) = true := powered_iff.2 hlife
    have hf : fnExists m (bar2Answered [] s) = true := hfn
    rw [hp, hf]
    rfl
  have hrefused : refusedAt m true a n (bar2Answered [] s) = false := href
  have hrange : readRange m (bar2Answered [] s) a n = rdBytes s.gran.mem a n :=
    readRange_ready (s := bar2Answered [] s) hscrub hready hstack ha hend
  have hecc : ∀ u : State, readEcc .clean a u = u := fun u => if_neg (by omega)
  rw [bar2Read_eq, hpower, hrefused, hecc, ite_self, hrange]
  rfl

theorem hostWrite_oGrRegion (h : Reaches .grRegion [r] m (oGrRegion r) v s) :
    hostWrite m (oGrRegion r) v s = regionSet r (v &&& 0xFFFFFFFFCF) s := by
  obtain ⟨row, hrow, hk, hw⟩ := hostWrite_reaches h
  have hrw : row.rw = 0xFFFFFFFFCF := regRows_grRegion_rw row (mem_regRows_of_findReg hrow) hk
  have hmask : w (v.toNat &&& row.rw) = v &&& 0xFFFFFFFFCF := by
    rw [hrw]
    exact BitVec.eq_of_toNat_eq (by rw [w, BitVec.toNat_ofNat, BitVec.toNat_and]; exact Nat.mod_eq_of_lt (Nat.and_lt_two_pow _ (by decide)))
  rw [hw]
  simp only [regEffect, effectA, hk, hmask]
  rfl

/-! ### The scrub -/

theorem tget?_filter_key {α : Type} (p : Nat → Bool) (k : Nat) (l : Tab α) :
    tget? k (l.filter (fun e => p e.1)) = if p k = true then tget? k l else none := by
  induction l with
  | nil => simp [tget?]
  | cons e l ih =>
    obtain ⟨j, x⟩ := e
    by_cases hj : j = k
    · subst hj
      by_cases hp : p j = true <;> simp [hp, tget?, ih]
    · by_cases hp : p j = true <;> simp [hp, tget?, ih, hj]

/-- The bytes that leave SECURE are gone from memory. -/
def scrubbed (s : State) : State :=
  { s with gran := { s.gran with mem := s.gran.mem.filter (fun c => !scrubbing c.1 s), scrub := none } }

theorem rdByte_scrubbed (b : Nat) : rdByte (scrubbed s).gran.mem b = if scrubbing b s then 0 else rdByte s.gran.mem b := by
  have h := tget?_filter_key (fun b => !scrubbing b s) b s.gran.mem
  rw [rdByte, tget, scrubbed, h]
  cases scrubbing b s <;> simp [rdByte, tget]

theorem scrubDoneRow_ends (h : s.gran.scrub = some (r, v)) :
    scrubDoneRow s = setR (oGrRegion r) v (putB oSecStatus 33 false (scrubbed s)) := by
  rw [scrubDoneRow, h]
  rfl

theorem grRegion_ne : oSecStatus ≠ oGrRegion r := by
  unfold oSecStatus oGrRegion
  omega

theorem touches_scrubShown {off : Nat} : Touches [.regs] (scrubbed s) (setR off v (putB oSecStatus 33 false (scrubbed s))) :=
  (touches_setR.after touches_putB).mono

theorem gran_scrubShown {off : Nat} : (setR off v (putB oSecStatus 33 false (scrubbed s))).gran = (scrubbed s).gran :=
  (congrArg State.gran touches_scrubShown.frame :)

theorem Touches.frame_regs {u : State} (h : Touches [.regs] u t) : t = { u with regs := t.regs } := h.frame

theorem scrubbed_with (x : Tab W40) : { scrubbed s with regs := x } = { s with regs := x, gran := (scrubbed s).gran } := rfl

theorem frame_scrubShown {off : Nat} : setR off v (putB oSecStatus 33 false (scrubbed s)) = { s with
    regs := (setR off v (putB oSecStatus 33 false (scrubbed s))).regs, gran := (setR off v (putB oSecStatus 33 false (scrubbed s))).gran } := by
  rw [gran_scrubShown, ← scrubbed_with]
  exact touches_scrubShown.frame_regs

theorem record_appends (src : Nat) : ∃ e, (record src 3 0 0 s).log.pool = s.log.pool ++ [e] ∧ e.source.toNat = src % 2 ^ 16 ∧ e.code = 3 :=
  ⟨_, rfl, BitVec.toNat_ofNat .., rfl⟩

/-- Settles O40. -/
theorem granaryAccesses : Obligations.GranaryAccesses := by
  unfold Obligations.GranaryAccesses
  refine fun s => ⟨fun m a bs hlife hfn hbs => ⟨fun ha hend href hscrub => ?_, fun h => ?_⟩,
    fun m a n hlife hfn ha hend href hscrub hready hstack => ?_, fun m r v _ hreach hleave => ?_, fun r v _ hscrub => ?_⟩
  · exact .of_eq (bar2Write_stores hlife hfn hbs ha hend href) ⟨fun i hi => writeRange_in hscrub hi hend,
      fun c hc => rdByte_writeRange_out hc, rfl⟩
  · exact .of_touches (bar2Write_refuses hlife hfn hbs h) touches_record (fun t h r => ⟨h.frame, r⟩) (record_appends _)
  · exact .of_eq (bar2Read_answers hlife hfn ha hend href hscrub hready hstack) ⟨rfl, rfl, rfl⟩
  · have hset : regionSet r (v &&& 0xFFFFFFFFCF) s = setR (oGrRegion r) (v &&& 0xFFFFFFFFCF) s := if_neg (Bool.eq_false_iff.1 hleave)
    exact .of_eq ((hostWrite_oGrRegion hreach).trans hset) ⟨setR_only _ _ _, getR_setR _ _ _⟩
  · refine .of_eq (scrubDoneRow_ends hscrub) ⟨frame_scrubShown, ?_, getR_setR _ _ _, ?_, fun b => ?_⟩
    · rw [gran_scrubShown]
      rfl
    · rw [bR, getR_setR_ne _ grRegion_ne]
      exact bR_putB_self _ (by decide)
    · rw [gran_scrubShown]
      exact rdByte_scrubbed b

end Sys2Proof.Machine
end

section
/-! PROOF. Ring indices, the drain and the log rings (O41). -/

set_option Elab.async false

namespace Sys2Proof.Machine

variable {s t : State} {m n c d h k : Nat} {v : W40} {x : Ring}

/-! ### Rings after a watermark -/

theorem watermark_same : ∃ b, ring n (watermark n s) = { ring n s with wmArmed := b } := ⟨_, sameRing_watermark⟩

theorem ring_sendMsix (v : Nat) (k : Nat) : ring k (sendMsix m v s) = ring k s := ring_of_rings (touches_sendMsix.kept (·.gran.rings) .rings) k

theorem watermark_ne (hk : k ≠ n) : ring k (watermark n s) = ring k s := by
  unfold watermark
  dsimp only
  split
  · rfl
  · split
    · split
      · rw [ring_sendMsix, ring_setRing_ne s hk]
      · rfl
    · exact ring_setRing_ne s hk _

theorem watermark_indices : (ring n (watermark n s)).head = (ring n s).head ∧ (ring n (watermark n s)).tail = (ring n s).tail := by
  obtain ⟨b, h⟩ := watermark_same (n := n) (s := s)
  rw [h]
  exact ⟨rfl, rfl⟩

/-! ### HEAD moves -/

theorem hostWrite_oRingHeadAdv (h : Reaches .ringHeadAdv [] m oRingHeadAdv v s) : hostWrite m oRingHeadAdv v s = ringHeadAdv m v s := by
  obtain ⟨row, -, hk, hw⟩ := hostWrite_reaches h
  rw [hw]
  simp only [regEffect, effectA, hk]

theorem headAdv_indices : (ring n (headAdv n c s)).head = plus (ring n s).head c ∧ (ring n (headAdv n c s)).tail = (ring n s).tail := by
  rw [headAdv]
  split
  next h =>
    rw [h]
    exact ⟨(BitVec.add_zero _).symm, rfl⟩
  next =>
    obtain ⟨hhead, htail⟩ := watermark_indices (n := n) (s := setRing n { ring n s with head := plus (ring n s).head c } s)
    rw [hhead, htail, ring_setRing]
    exact ⟨rfl, rfl⟩

theorem headAdv_ne (hk : k ≠ n) : ring k (headAdv n c s) = ring k s := by
  rw [headAdv]
  split
  · rfl
  · rw [watermark_ne hk, ring_setRing_ne s hk]

theorem headAdvRefusal_lt {code : Nat} (h : headAdvRefusal m n c s = some code) : code < 2 ^ 16 := by
  unfold headAdvRefusal at h
  dsimp only at h
  split at h
  · cases h; decide
  · split at h
    · cases h
    · split at h
      · cases h; decide
      · cases h

theorem logged_ringRecord {code : Nat} (hc : code < 2 ^ 16) : Logged (0x8000 + n % 4096) code 0 (BitVec.ofNat 40 n) s (ringRecord n code s) :=
  logged_recordOwned _ _ _ _ _ _ (by omega) hc (by decide)

/-! ### Interrupts unmasked -/

theorem msixUnmaskRow_sends (hlife : s.life ≠ .off) (hfn : fnExists m s = true) (hon : m ∈ s.host.msixOn) (hmask : m ∉ s.host.fmask)
    {u : Nat} (hpba : 2048 * m + u ∈ s.host.pba) : msixUnmaskRow m u s = { s with host := { s.host with
      unmasked := insNat (2048 * m + u) s.host.unmasked
      pba := s.host.pba.filter (fun j => j != 2048 * m + u)
      sent := s.host.sent ++ [(m, u)] } } := by
  have hun : 2048 * m + u ∈ insNat (2048 * m + u) s.host.unmasked := mem_insNat.2 (.inl rfl)
  rw [msixUnmaskRow, if_pos (by simp [powered_iff.2 hlife, hfn])]
  exact if_pos (by simp [hpba, hon, hmask, hun])

/-! ### The drain -/

theorem rdBytes_wrBytes_out {l : List Host.Cell} {a b n : Nat} {bs : List Byte} (h : b + n ≤ a ∨ a + bs.length ≤ b) :
    rdBytes (wrBytes l a bs) b n = rdBytes l b n :=
  rdBytes_congr n b fun i hi hn => rdByte_wrBytes_out bs l (by omega)

/-- Host memory after one slot of a HOST ring and its TAIL have been copied. -/
def hostCopied (h : Nat) (s : State) : List Host.Cell :=
  wrBytes (wrBytes s.gran.hostMem (hostAddr (ring h s) + 40 * ((ring h s).tail.toNat % (ring h s).length))
    (rdBytes s.gran.mem (slotAddr (ring (srcRing (ring h s)) s) (ring (srcRing (ring h s)) s).head) 40))
    (hostAddr (ring h s) + 40 * (ring h s).length) (toLe 8 (plus (ring h s).tail 1).toNat)

theorem hostCopied_slot (hlen : (ring h s).length ≠ 0) :
    rdBytes (hostCopied h s) (hostAddr (ring h s) + 40 * ((ring h s).tail.toNat % (ring h s).length)) 40 =
    rdBytes s.gran.mem (slotAddr (ring (srcRing (ring h s)) s) (ring (srcRing (ring h s)) s).head) 40 := by
  have hmod := Nat.mod_lt (ring h s).tail.toNat (Nat.pos_of_ne_zero hlen)
  rw [hostCopied, rdBytes_wrBytes_out (.inl (by omega))]
  have hback := rdBytes_wrBytes (rdBytes s.gran.mem (slotAddr (ring (srcRing (ring h s)) s) (ring (srcRing (ring h s)) s).head) 40) s.gran.hostMem
    (hostAddr (ring h s) + 40 * ((ring h s).tail.toNat % (ring h s).length))
  rwa [length_rdBytes] at hback

theorem hostCopied_tail : rdBytes (hostCopied h s) (hostAddr (ring h s) + 40 * (ring h s).length) 8 = toLe 8 (plus (ring h s).tail 1).toNat := by
  have hback := fun l => rdBytes_wrBytes (toLe 8 (plus (ring h s).tail 1).toNat) l (hostAddr (ring h s) + 40 * (ring h s).length)
  rw [hostCopied]
  simpa using hback _

def hostMemSet (l : List Host.Cell) (s : State) : State := { s with gran := { s.gran with hostMem := l } }

/-- The source's HEAD has moved. -/
def sourceDrained (h : Nat) (s : State) : State :=
  watermark (srcRing (ring h s)) (setRing (srcRing (ring h s)) { ring (srcRing (ring h s)) s with head := plus (ring (srcRing (ring h s)) s).head 1 }
    (hostMemSet (hostCopied h s) s))

/-- The drain's TAIL has moved. -/
def drained (h : Nat) (s : State) : State :=
  watermark h (setRing h { ring h s with tail := plus (ring h s).tail 1, eccStop := false } (sourceDrained h s))

theorem drainCopyRow_copies (hready : drainReady h s = true) (hecc : (ring h s).eccStop = false) (hmaster : mayMaster (ring h s).owner s = true) :
    drainCopyRow h .clean s = drained h s := by
  rw [drainCopyRow, if_pos (by simp [hready, hecc, hmaster])]
  rfl

theorem touches_sourceDrained : Touches [.rings, .host, .regs] (hostMemSet (hostCopied h s) s) (sourceDrained h s) :=
  (touches_watermark.after touches_setRing).mono

theorem touches_drained : Touches [.rings, .host, .regs] (hostMemSet (hostCopied h s) s) (drained h s) :=
  ((touches_watermark.after touches_setRing).after touches_sourceDrained).mono

theorem drained_indices : (ring h (drained h s)).head = (ring h s).head ∧ (ring h (drained h s)).tail = plus (ring h s).tail 1 := by
  obtain ⟨hhead, htail⟩ := watermark_indices (n := h) (s := setRing h { ring h s with tail := plus (ring h s).tail 1, eccStop := false } (sourceDrained h s))
  rw [drained, hhead, htail, ring_setRing]
  exact ⟨rfl, rfl⟩

theorem drained_source (hne : srcRing (ring h s) ≠ h) :
    (ring (srcRing (ring h s)) (drained h s)).head = plus (ring (srcRing (ring h s)) s).head 1 ∧
    (ring (srcRing (ring h s)) (drained h s)).tail = (ring (srcRing (ring h s)) s).tail := by
  obtain ⟨hhead, htail⟩ := watermark_indices (n := srcRing (ring h s)) (s := setRing (srcRing (ring h s))
    { ring (srcRing (ring h s)) s with head := plus (ring (srcRing (ring h s)) s).head 1 } (hostMemSet (hostCopied h s) s))
  rw [drained, watermark_ne hne, ring_setRing_ne _ hne, sourceDrained, hhead, htail, ring_setRing]
  exact ⟨rfl, rfl⟩

theorem length_of_drainReady (hready : drainReady h s = true) : (ring h s).length ≠ 0 := by
  intro hzero
  simp [drainReady, readsSource, hzero] at hready

/-! ### The log rings -/

/-- The early log stays open or ended. -/
def EarlyKept (s t : State) : Prop := t.log.earlyOn = s.log.earlyOn

theorem EarlyKept.trans {u : State} (h : EarlyKept s t) (k : EarlyKept t u) : EarlyKept s u := Eq.trans k h

theorem earlyKept_setLogHalf (x : Option Half) : EarlyKept s (setLogHalf d x s) := by cases x <;> rfl

theorem earlyKept_logSlot (sl : List W40) : EarlyKept s (logSlot d k n sl s) := congrArg Log.earlyOn (touches_logSlot.kept (·.log) .log)

theorem earlyKept_logFlush : EarlyKept s (logFlush d s) := by
  rw [logFlush]
  split
  · exact (earlyKept_setLogHalf _).trans (earlyKept_logSlot _)
  · rfl

theorem earlyKept_logPut (e : Rec) : EarlyKept s (logPut d e s) := by
  unfold logPut
  split
  · exact congrArg Log.earlyOn (touches_logLost.kept (·.log) .log)
  · dsimp only
    split
    · split
      · exact (earlyKept_setLogHalf _).trans (earlyKept_logSlot _)
      · exact earlyKept_logFlush.trans (earlyKept_setLogHalf _)
    · exact earlyKept_setLogHalf _

theorem earlyKept_deliver (e : Rec) : EarlyKept s (deliver e s) :=
  (earlyKept_logPut e).trans (foldS_rel (R := EarlyKept) (fun _ => rfl) .trans (fun _ _ => earlyKept_logPut e) _ _)

theorem earlyOn_earlyEnd : (earlyEnd s).log.earlyOn = false := by
  unfold earlyEnd
  split
  · exact (foldS_rel (R := EarlyKept) (fun _ => rfl) .trans (fun e _ => earlyKept_deliver e) _ _ : EarlyKept _ _)
  next h => exact Bool.eq_false_iff.2 h

theorem regRows_grEvlog_rw : ∀ row ∈ regRows, row.k = .grEvlog → row.rw < 2 ^ 40 ∧ ∀ j ≤ 20, 0 ≤ j → row.rw.testBit j = true := by
  decide +kernel

theorem hostWrite_oGrEvlog (hreach : Reaches .grEvlog [d] m (oGrEvlog d) v s) : ∃ row : RegRow, row.rw < 2 ^ 40 ∧
    (∀ j ≤ 20, 0 ≤ j → row.rw.testBit j = true) ∧ hostWrite m (oGrEvlog d) v s = evlogSet d row (oGrEvlog d) v s := by
  obtain ⟨row, hrow, hk, hw⟩ := hostWrite_reaches hreach
  obtain ⟨hlt, hbits⟩ := regRows_grEvlog_rw row (mem_regRows_of_findReg hrow) hk
  refine ⟨row, hlt, hbits, ?_⟩
  rw [hw]
  simp only [regEffect, effectA, hk]
  rfl

theorem logHalf_setLogHalf_none : logHalf d (setLogHalf d none s) = none := tget?_tdel_self ..

theorem evlogFlushRow_flushes {x : Half} (hhalf : logHalf d s = some x) (hdue : due x.flushAt s = true) (htype : (ring x.ring s).type = 4)
    (howner : (ring x.ring s).owner = d) (hlen : (ring x.ring s).length ≠ 0) (hfree : freeSlots (ring x.ring s) ≠ 0)
    (hecc : (ring x.ring s).eccStop = false) :
    evlogFlushRow d s = ringAppend x.ring [x.words ++ [0, 0, 0, 0]] (setLogHalf d none s) := by
  have hring : ring x.ring (setLogHalf d none s) = ring x.ring s := rfl
  rw [evlogFlushRow, hhalf]
  dsimp only
  rw [if_pos hdue, logFlush, hhalf]
  dsimp only
  rw [logSlot, hring]
  exact if_neg (by simp [htype, howner, hlen, hfree, hecc])

theorem ringAppend_indices (sl : List W40) : (ring n (ringAppend n [sl] s)).tail = plus (ring n s).tail 1 ∧
    (ring n (ringAppend n [sl] s)).head = (ring n s).head := by
  obtain ⟨hhead, htail⟩ := watermark_indices (n := n) (s := setRing n { ring n s with tail := plus (ring n s).tail [sl].length }
    (setMem (wrSlots (ring n s) s.gran.mem (ring n s).tail [sl]) s))
  refine ⟨htail.trans ?_, hhead.trans ?_⟩
  · rw [ring_setRing]
    rfl
  · rw [ring_setRing]

/-- The parts that hold the Granary, the registers, the log and the host's side. -/
abbrev ringFrame : List Fld := [.regs, .log, .gran, .mem, .rings, .hostMem, .made, .host]

/-- Settles O41: HEAD and TAIL move by `headAdv`, `drained` and `ringAppend`, and a watermark moves neither. -/
theorem ringIndicesAndDrain : Obligations.RingIndicesAndDrain := by
  unfold Obligations.RingIndicesAndDrain
  refine fun s => ⟨fun m v hreach => ⟨fun hok => ?_, fun c href => ?_⟩, fun m v hlife hfn hon hmask hpba => ?_,
    fun h hready hecc hmaster hne => ?_, fun m d v hreach hd => ?_, fun d x hhalf hdue htype howner hlen hfree hecc => ?_⟩
  · have hrow : hostWrite m oRingHeadAdv v s = headAdv (fld v 39 20) (fld v 19 0) s := by
      rw [hostWrite_oRingHeadAdv hreach, ringHeadAdv, hok]
    obtain ⟨hhead, htail⟩ := headAdv_indices (n := fld v 39 20) (c := fld v 19 0) (s := s)
    exact .of_eq hrow ⟨(touches_headAdv.mono (L := ringFrame)).frame, hhead, htail, fun k hk => headAdv_ne hk,
      touches_headAdv.kept (·.gran.mem) .mem⟩
  · have hrow : hostWrite m oRingHeadAdv v s = ringRecord (fld v 39 20) c s := by
      rw [hostWrite_oRingHeadAdv hreach, ringHeadAdv, href]
    exact .of_touches hrow touches_ringRecord (fun t h r => ⟨h.frame, r⟩) (logged_ringRecord (headAdvRefusal_lt href))
  · refine .of_eq (msixUnmaskRow_sends hlife hfn hon hmask hpba) ⟨rfl, rfl, ?_, mem_insNat.2 (.inl rfl)⟩
    show 2048 * m + v ∉ List.filter _ _
    simp
  · obtain ⟨hhead, htail⟩ := drained_indices (h := h) (s := s)
    obtain ⟨hshead, hstail⟩ := drained_source hne
    have hset : ∀ l, hostMemSet l s = { s with gran := (hostMemSet l s).gran } := fun _ => rfl
    have hmem : (drained h s).gran.mem = s.gran.mem := touches_drained.kept (·.gran.mem) .mem
    have hhost : (drained h s).gran.hostMem = hostCopied h s := touches_drained.kept (·.gran.hostMem) .hostMem
    refine .of_eq (drainCopyRow_copies hready hecc hmaster) ⟨?_, htail, hhead, hshead, hstail, hmem, ?_, ?_⟩
    · have hframe := (touches_drainCopyRow.mono (L := ringFrame) : Touches ringFrame s (drainCopyRow h .clean s)).frame
      rw [drainCopyRow_copies hready hecc hmaster] at hframe
      exact hframe
    · rw [hhost]
      exact hostCopied_slot (length_of_drainReady hready)
    · rw [hhost]
      exact hostCopied_tail
  · obtain ⟨row, hlt, hbits, hrow⟩ := hostWrite_oGrEvlog hreach
    refine .of_eq hrow ⟨fun hzero hen => ?_, fun hother => ?_⟩
    · rw [evlogSet, if_pos (by simp [hzero, hen])]
      exact earlyOn_earlyEnd
    · have hset : evlogSet d row (oGrEvlog d) v s = storeReg row (oGrEvlog d) v s :=
        if_neg (by rcases hother with h | h <;> simp [h])
      rw [hset]
      exact ⟨storeReg_only .., fR_storeReg hlt (fun j _ hj => hbits j (by omega) (Nat.zero_le j)) _ _ _, bit_storeReg hlt (hbits 20 (by decide) (by decide)) _ _ _⟩
  · obtain ⟨htail, hhead⟩ := ringAppend_indices (n := x.ring) (s := setLogHalf d none s) (x.words ++ [0, 0, 0, 0])
    refine .of_eq (evlogFlushRow_flushes hhalf hdue htype howner hlen hfree hecc) ⟨?_, ?_, htail, hhead⟩
    · exact ((touches_ringAppend.after touches_setLogHalf).mono (L := ringFrame)).frame
    · rw [logHalf, touches_ringAppend.kept (·.log) .log]
      exact logHalf_setLogHalf_none

end Sys2Proof.Machine
end

section
/-! PROOF. The queue of the command engine (O43). -/

set_option Elab.async false

namespace Sys2Proof.Machine

variable {s t : State} {m n c k i : Nat} {v : W40} {r : Routine} {e : Ecc}

/-! ### Doorbells -/

theorem hostWrite_oCmdDoorbell (h : Reaches .cmdDoorbell [] m oCmdDoorbell v s) : hostWrite m oCmdDoorbell v s = doorbell m v s := by
  obtain ⟨row, -, hk, hw⟩ := hostWrite_reaches h
  rw [hw]
  simp only [regEffect, effectA, hk]

/-- TAIL of a COMMAND ring has moved. -/
def tailMoved (n c : Nat) (s : State) : State := watermark n (setRing n { ring n s with tail := plus (ring n s).tail c } s)

theorem touches_tailMoved : Touches [.rings, .host, .regs] s (tailMoved n c s) := (touches_watermark.after touches_setRing).mono

theorem tailMoved_indices : (ring n (tailMoved n c s)).tail = plus (ring n s).tail c ∧ (ring n (tailMoved n c s)).head = (ring n s).head := by
  obtain ⟨hhead, htail⟩ := watermark_indices (n := n) (s := setRing n { ring n s with tail := plus (ring n s).tail c } s)
  rw [tailMoved, hhead, htail, ring_setRing]
  exact ⟨rfl, rfl⟩

theorem tailMoved_ne (hk : k ≠ n) : ring k (tailMoved n c s) = ring k s := by rw [tailMoved, watermark_ne hk, ring_setRing_ne s hk]

/-- Ring `n` joins the back of the list. -/
def listed (n : Nat) (s : State) : State := { s with ce := { s.ce with list := s.ce.list ++ [n] } }

theorem doorbell_moves (hact : mayAct m (ring (fld v 39 20) s).owner (ring (fld v 39 20) s).secure = true) (hc : fld v 19 0 ≠ 0)
    (htype : (ring (fld v 39 20) s).type = 0) (hfree : fld v 19 0 ≤ freeSlots (ring (fld v 39 20) s)) :
    doorbell m v s = if level (ring (fld v 39 20) s) = 0 ∧ fld v 39 20 ∉ s.ce.list
      then listed (fld v 39 20) (tailMoved (fld v 39 20) (fld v 19 0) s) else tailMoved (fld v 39 20) (fld v 19 0) s := by
  have hce : (tailMoved (fld v 39 20) (fld v 19 0) s).ce = s.ce := touches_tailMoved.kept (·.ce) .ce
  have heq : doorbell m v s = if level (ring (fld v 39 20) s) = 0 ∧ (!(tailMoved (fld v 39 20) (fld v 19 0) s).ce.list.contains (fld v 39 20)) = true
      then listed (fld v 39 20) (tailMoved (fld v 39 20) (fld v 19 0) s) else tailMoved (fld v 39 20) (fld v 19 0) s := by
    rw [doorbell]
    dsimp only
    rw [if_neg (by simp [hact]), if_neg hc, if_neg (by simp [htype, hfree])]
    rfl
  rw [heq, hce]
  simp

theorem doorbell_denied (hact : mayAct m (ring (fld v 39 20) s).owner (ring (fld v 39 20) s).secure = false) :
    doorbell m v s = ringRecord (fld v 39 20) 3 s := if_pos (by simp [hact])

theorem doorbell_refused (hact : mayAct m (ring (fld v 39 20) s).owner (ring (fld v 39 20) s).secure = true) (hc : fld v 19 0 ≠ 0)
    (h : (ring (fld v 39 20) s).type ≠ 0 ∨ freeSlots (ring (fld v 39 20) s) < fld v 19 0) :
    doorbell m v s = ringRecord (fld v 39 20) 0x604 s := by
  rw [doorbell]
  dsimp only
  rw [if_neg (by simp [hact]), if_neg hc, if_pos h]

/-! ### The head packet is taken -/

/-- The ring leaves the list. -/
def unlistedAll (n : Nat) (s : State) : State := { s with ce := { s.ce with list := s.ce.list.filter (fun m => m != n) } }

/-- The routine of the head packet of ring `n`. -/
def headRoutine (n : Nat) (s : State) : Routine :=
  { ring := n, dom := (ring n s).owner, secure := (ring n s).secure, slots := packetSlots (ring n s) s
    opcode := fld (packetWord (ring n s) s 0) 39 28, flags := fld (packetWord (ring n s) s 0) 27 24
    tag := fld (packetWord (ring n s) s 0) 15 0, target := fld (packetWord (ring n s) s 1) 39 16
    params := (upTo (fld (packetWord (ring n s) s 0) 23 16)).map (fun i => packetWord (ring n s) s (i + 2)), started := now s }

theorem packetCheck_unlistedAll (echo : Nat) : packetCheck r echo (unlistedAll n s) = packetCheck r echo s := rfl

/-- The engine with the routine, which a failed check ends at once. -/
def routineTaken (x : Routine) (st : Option Nat) (s : State) : State :=
  match st with
  | some c => { s with ce := { s.ce with cur := some { x with ended := some (c, [], now s) } } }
  | none => beginHold x { s with ce := { s.ce with cur := some x } }

theorem takePacket_clean (hreply : replyOk n s = true) (hfit : packetSlots (ring n s) s ≤ (ring n s).length) : takePacket n .clean s =
    routineTaken (headRoutine n s) (packetCheck (headRoutine n s) (fld (packetWord (ring n s) s 1) 15 12) s) (unlistedAll n s) := by
  have hbig : decide ((ring n s).length < packetSlots (ring n s) s) = false := by simpa using hfit
  have hreply' : replyOk n (unlistedAll n s) = true := hreply
  have heq : takePacket n .clean s = if (!replyOk n (unlistedAll n s)) = true then
      consumeSlots n (if decide ((ring n s).length < packetSlots (ring n s) s) = true then level (ring n s) else packetSlots (ring n s) s)
        (noReply n (fld (packetWord (ring n s) s 0) 15 0) (unlistedAll n s))
      else routineTaken { headRoutine n s with
        slots := if decide ((ring n s).length < packetSlots (ring n s) s) = true then 2 ^ 40 else packetSlots (ring n s) s }
        (if decide ((ring n s).length < packetSlots (ring n s) s) = true then some 4 else if eccBad .clean then some 9 else
          packetCheck { headRoutine n s with
            slots := if decide ((ring n s).length < packetSlots (ring n s) s) = true then 2 ^ 40 else packetSlots (ring n s) s }
            (fld (packetWord (ring n s) s 1) 15 12) (unlistedAll n s)) (unlistedAll n s) := rfl
  rw [heq, hreply', hbig]
  rfl

theorem touches_routineTaken {st : Option Nat} : Touches [.ce, .slots, .binder] s (routineTaken r st s) := by
  unfold routineTaken
  split
  · exact Touches.ce.mono
  · exact (touches_beginHold.after Touches.ce).mono

theorem list_routineTaken {st : Option Nat} : (routineTaken r st s).ce.list = s.ce.list := by
  unfold routineTaken
  split
  · rfl
  · rw [touches_beginHold.kept (·.ce) .ce]

theorem cur_routineTaken {st : Option Nat} (hr : r.ended = none) :
    ∃ x, (routineTaken r st s).ce.cur = some x ∧ { x with ended := none } = r ∧ x.ended = st.map (fun c => (c, [], s.time.tick)) := by
  unfold routineTaken
  cases st with
  | some c => exact ⟨_, rfl, by rw [← hr], rfl⟩
  | none =>
    refine ⟨r, ?_, by rw [← hr], hr⟩
    dsimp only
    rw [touches_beginHold.kept (·.ce) .ce]

theorem packetStartRow_takes (hruns : engineRuns s = true) (hcur : s.ce.cur = none) (hhand : s.ce.handlers = [])
    (hfind : s.ce.list.find? (startable s) = some n) : packetStartRow e s = takePacket n e s := by
  rw [packetStartRow, if_neg (by simp [hruns, hcur, hhand]), hfind]

theorem packet_taken (hreply : replyOk n s = true) (hfit : packetSlots (ring n s) s ≤ (ring n s).length) :
    let wd := packetWord (ring n s) s
    let t := takePacket n .clean s
    n ∉ t.ce.list ∧ t.gran = s.gran ∧ ∃ x, t.ce.cur = some x ∧ x.ring = n ∧
      x.dom = (ring n s).owner ∧ x.opcode = fld (wd 0) 39 28 ∧ x.tag = fld (wd 0) 15 0 ∧ x.target = fld (wd 1) 39 16 ∧
      x.params.length = fld (wd 0) 23 16 ∧ x.started = s.time.tick ∧
      (∀ c, x.ended = some c ↔ ∃ k, packetCheck { x with ended := none } (fld (wd 1) 15 12) s = some k ∧ c = (k, [], s.time.tick)) := by
  dsimp only
  rw [takePacket_clean hreply hfit]
  obtain ⟨x, hcur, hx, hend⟩ := cur_routineTaken (r := headRoutine n s) (s := unlistedAll n s)
    (st := packetCheck (headRoutine n s) (fld (packetWord (ring n s) s 1) 15 12) s) rfl
  have hbody : ∀ {α : Type} (f : Routine → α), f { x with ended := none } = f (headRoutine n s) := fun f => congrArg f hx
  refine ⟨?_, (congrArg State.gran touches_routineTaken.frame :), x, hcur, hbody (·.ring), hbody (·.dom), hbody (·.opcode), hbody (·.tag),
    hbody (·.target), (hbody (·.params.length)).trans ?_, hbody (·.started), fun c => ?_⟩
  · rw [list_routineTaken]
    show n ∉ List.filter _ _
    simp
  · simp [headRoutine, upTo]
  · rw [hx, hend, Option.map_eq_some_iff]
    exact ⟨fun ⟨k, hk, hc⟩ => ⟨k, hk, hc.symm⟩, fun ⟨k, hk, hc⟩ => ⟨k, hk, hc.symm⟩⟩

/-! ### Replies -/

section
variable {st : Nat} {res : List W40} {x : Tick}

/-- The slots of the reply of a routine that has ended. -/
def replySlots (r : Routine) (st : Nat) (res : List W40) (x : Tick) : List (List W40) := toSlots (replyWords r st (res.take 255) x)

theorem replyWriteRow_writes (hcur : s.ce.cur = some r) (hend : r.ended = some (st, res, x)) (hhand : s.ce.handlers = [])
    (hreply : replyOk r.ring s = true) (hflag : r.flags.testBit 2 = false ∨ st ≠ 0)
    (hroom : (replySlots r st res x).length ≤ freeSlots (ring (replyRing (ring r.ring s)) s))
    (hecc : (ring (replyRing (ring r.ring s)) s).eccStop = false) (e : Ecc) : replyWriteRow e s =
    if eccBad e = true then
      setRing (replyRing (ring r.ring s)) { ring (replyRing (ring r.ring s)) (eccCount e (64 * replyRing (ring r.ring s)) (some (replyRing (ring r.ring s))) s) with
        eccStop := true } (eccCount e (64 * replyRing (ring r.ring s)) (some (replyRing (ring r.ring s))) s)
    else retire r (ringAppend (replyRing (ring r.ring s)) (replySlots r st res x)
      (overrun r x (eccCount e (64 * replyRing (ring r.ring s)) (some (replyRing (ring r.ring s))) s))) := by
  have hquiet : ¬ (r.flags.testBit 2 && st == 0) = true := by
    rcases hflag with h | h <;> simp [h]
  have hfull : ¬ (freeSlots (ring (replyRing (ring r.ring s)) s) < (replySlots r st res x).length ∨
      (ring (replyRing (ring r.ring s)) s).eccStop = true) := by simpa [hecc] using hroom
  rw [replyWriteRow, hcur]
  dsimp only
  rw [hend]
  dsimp only
  rw [if_neg (by simp [hhand]), if_neg hquiet, if_neg (by simp [hreply])]
  exact if_neg hfull

/-- The ring whose descriptor cannot be corrected stops. -/
def replyStopped (q k : Nat) (s : State) : State :=
  setRing q { ring q (eccCount (.uncorrectable k) (64 * q) (some q) s) with eccStop := true } (eccCount (.uncorrectable k) (64 * q) (some q) s)

theorem touches_replyStopped {q : Nat} : Touches [.regs, .log, .rings] s (replyStopped q k s) := (touches_setRing.after touches_eccCount).mono

/-- The reply stands in its STATUS ring. -/
def replied (q : Nat) (e : Ecc) (sl : List (List W40)) (r : Routine) (x : Tick) (s : State) : State :=
  ringAppend q sl (overrun r x (eccCount e (64 * q) (some q) s))

theorem ringAppend_moves {q : Nat} (sl : List (List W40)) : (ring q (ringAppend q sl s)).tail = plus (ring q s).tail sl.length ∧
    (ring q (ringAppend q sl s)).head = (ring q s).head := by
  obtain ⟨hhead, htail⟩ := watermark_indices (n := q) (s := setRing q { ring q s with tail := plus (ring q s).tail sl.length }
    (setMem (wrSlots (ring q s) s.gran.mem (ring q s).tail sl) s))
  refine ⟨htail.trans ?_, hhead.trans ?_⟩
  · rw [ring_setRing]
  · rw [ring_setRing]

theorem ringAppend_ne {q : Nat} (hk : k ≠ q) (sl : List (List W40)) : ring k (ringAppend q sl s) = ring k s := by
  have h : ring k (ringAppend q sl s) = ring k (setRing q { ring q s with tail := plus (ring q s).tail sl.length }
      (setMem (wrSlots (ring q s) s.gran.mem (ring q s).tail sl) s)) := watermark_ne hk
  rw [h, ring_setRing_ne _ hk]
  rfl

theorem touches_counted {q : Nat} : Touches [.regs, .log] s (overrun r x (eccCount e (64 * q) (some q) s)) :=
  (touches_overrun.after touches_eccCount).mono

theorem replied_rings {q : Nat} {sl : List (List W40)} : (ring q (replied q e sl r x s)).tail = plus (ring q s).tail sl.length ∧
    (ring q (replied q e sl r x s)).head = (ring q s).head ∧ ∀ k, k ≠ q → ring k (replied q e sl r x s) = ring k s := by
  have hring : ∀ k, ring k (overrun r x (eccCount e (64 * q) (some q) s)) = ring k s :=
    fun k => ring_of_rings (touches_counted.kept (·.gran.rings) .rings) k
  obtain ⟨htail, hhead⟩ := ringAppend_moves (q := q) (s := overrun r x (eccCount e (64 * q) (some q) s)) sl
  rw [hring] at htail hhead
  exact ⟨htail, hhead, fun k hk => (ringAppend_ne hk sl).trans (hring k)⟩

/-- The packet's slots are consumed. -/
def slotsConsumed (n k : Nat) (s : State) : State := watermark n (setRing n { ring n s with head := plus (ring n s).head (min k (level (ring n s))) } s)

theorem retire_consumes (h : r.consume = true) :
    retire r s = rejoin r.ring 0 (slotsConsumed r.ring r.slots { s with ce := { s.ce with cur := none } }) := if_pos h

theorem slotsConsumed_head : (ring n (slotsConsumed n k s)).head = plus (ring n s).head (min k (level (ring n s))) := by
  rw [slotsConsumed, watermark_indices.1, ring_setRing]

theorem slotsConsumed_ne {j : Nat} (hj : j ≠ n) : ring j (slotsConsumed n k s) = ring j s := by rw [slotsConsumed, watermark_ne hj, ring_setRing_ne s hj]

theorem retire_rings (h : r.consume = true) : (ring r.ring (retire r s)).head = plus (ring r.ring s).head (min r.slots (level (ring r.ring s))) ∧
    ∀ j, j ≠ r.ring → ring j (retire r s) = ring j s := by
  have hrejoin : ∀ (j : Nat) (u : State), ring j (rejoin r.ring 0 u) = ring j u := fun j u =>
    ring_of_rings (touches_rejoin.kept (·.gran.rings) .rings) j
  rw [retire_consumes h]
  refine ⟨?_, fun j hj => ?_⟩
  · rw [hrejoin, slotsConsumed_head]
    rfl
  · rw [hrejoin, slotsConsumed_ne hj]
    rfl

theorem cur_retire (h : r.consume = true) : (retire r s).ce.cur = none := by
  have hconsumed : Touches [.rings, .host, .regs] { s with ce := { s.ce with cur := none } }
      (slotsConsumed r.ring r.slots { s with ce := { s.ce with cur := none } }) := (touches_watermark.after touches_setRing).mono
  rw [retire_consumes h, cur_rejoin, hconsumed.kept (·.ce) .ce]

theorem log_eccCount {q : Nat} (he : eccBad e = false) : (eccCount e (64 * q) (some q) s).log = s.log := by
  cases e with
  | clean => rfl
  | corrected => exact touches_bump.kept (·.log) .log
  | uncorrectable k => exact Bool.noConfusion he

/-- An overrun is reported, and nothing else of the log changes. -/
theorem log_replied {q : Nat} {sl : List (List W40)} (he : eccBad e = false) :
    if worstCase r < (x - r.started).toNat - r.inHandlers then Reports 0x9000 0x608 s (retire r (replied q e sl r x s))
    else (retire r (replied q e sl r x s)).log = s.log := by
  have hrest : Touches [.ce, .rings, .host, .regs, .mem] (overrun r x (eccCount e (64 * q) (some q) s)) (retire r (replied q e sl r x s)) :=
    (touches_retire.after touches_ringAppend).mono
  have hcount : Touches [.regs, .log] s (eccCount e (64 * q) (some q) s) := touches_eccCount.mono
  split
  next hover =>
    have hrec : overrun r x (eccCount e (64 * q) (some q) s) = record 0x9000 0x608 r.opcode (w ((x - r.started).toNat - r.inHandlers))
        (eccCount e (64 * q) (some q) s) := if_pos (decide_eq_true hover)
    have hreports : Reports 0x9000 0x608 (eccCount e (64 * q) (some q) s) (overrun r x (eccCount e (64 * q) (some q) s)) := by
      rw [hrec]
      exact reports_record (by decide) (by decide)
    exact (hreports.before hrest).after hcount
  next hover =>
    have hsame : overrun r x (eccCount e (64 * q) (some q) s) = eccCount e (64 * q) (some q) s :=
      if_neg (by simpa using hover)
    rw [hrest.kept (·.log) .log, hsame, log_eccCount he]

end

/-! ### Parked routines resume -/

theorem routineResumeRow_resumes (hcur : s.ce.cur = none) (hhand : s.ce.handlers = []) (hr : tget? i s.ce.parked = some r) (hend : r.ended ≠ none) :
    routineResumeRow i s = { s with ce := { s.ce with cur := some r, parked := tdel i s.ce.parked } } := by
  have hdone : parkedDone r s = some (r, s) := if_pos (Option.isSome_iff_ne_none.2 hend)
  rw [routineResumeRow, if_neg (by simp [hcur, hhand]), hr]
  dsimp only
  rw [hdone]

/-- Settles O43, from the stages of `doorbell`, `takePacket`, `replyWriteRow` and `routineResumeRow`. -/
theorem engineQueue : Obligations.EngineQueue := by
  unfold Obligations.EngineQueue
  refine fun s => ⟨fun m v hreach => ⟨fun hact hc htype hfree => ?_, fun hact => ?_, fun hact hc h => ?_⟩,
    fun n hruns hcur hhand hfind hreply hfit => ?_, fun r st res x hcur hend hhand hreply hflag hconsume hroom hecc hne => ⟨fun k => ?_, fun e he => ?_⟩,
    fun i r hcur hhand hr hend => ?_⟩
  · have hdoor := hostWrite_oCmdDoorbell hreach
    obtain ⟨htail, hhead⟩ := tailMoved_indices (n := fld v 39 20) (c := fld v 19 0) (s := s)
    have htouches : Touches [.rings, .host, .regs] s (tailMoved (fld v 39 20) (fld v 19 0) s) := touches_tailMoved
    have hce : (tailMoved (fld v 39 20) (fld v 19 0) s).ce = s.ce := htouches.kept (·.ce) .ce
    have hframe : Touches (.ce :: ringFrame) s (doorbell m v s) := touches_doorbell.mono
    rw [doorbell_moves hact hc htype hfree] at hdoor hframe
    refine .of_eq hdoor ⟨hframe.frame, ?_⟩
    split
    next => exact ⟨htail, hhead, fun k hk => tailMoved_ne hk, congrArg (·.list ++ _) hce⟩
    next => exact ⟨htail, hhead, fun k hk => tailMoved_ne hk, congrArg (·.list) hce⟩
  · exact .of_touches ((hostWrite_oCmdDoorbell hreach).trans (doorbell_denied hact)) touches_ringRecord (fun t h r => ⟨h.frame, r⟩)
      (logged_ringRecord (by decide))
  · exact .of_touches ((hostWrite_oCmdDoorbell hreach).trans (doorbell_refused hact hc h)) touches_ringRecord (fun t h r => ⟨h.frame, r⟩)
      (logged_ringRecord (by decide))
  · refine .of_eq (packetStartRow_takes hruns hcur hhand hfind) ⟨?_, packet_taken hreply hfit⟩
    exact ((touches_takePacket (e := .clean)).mono (L := [.slots, .binder, .ce] ++ ringFrame)).frame
  · have hrow := (replyWriteRow_writes hcur hend hhand hreply hflag hroom hecc (.uncorrectable k)).trans (if_pos rfl)
    refine .of_touches hrow touches_replyStopped (fun t h r => ⟨(h.mono (L := [.regs, .log, .gran, .mem, .rings, .hostMem, .made])).frame, r, h.memKept⟩) ?_
    exact congrArg Ring.eccStop (ring_setRing ..)
  · have hrow := (replyWriteRow_writes hcur hend hhand hreply hflag hroom hecc e).trans (if_neg (by simp [he]))
    obtain ⟨htail, hhead, hothers⟩ := replied_rings (q := replyRing (ring r.ring s)) (e := e) (sl := replySlots r st res x) (r := r) (x := x) (s := s)
    obtain ⟨hused, hkept⟩ := retire_rings (s := replied (replyRing (ring r.ring s)) e (replySlots r st res x) r x s) hconsume
    have htouches : Touches [.ce, .rings, .host, .regs, .mem, .log] s (retire r (replied (replyRing (ring r.ring s)) e (replySlots r st res x) r x s)) :=
      ((touches_retire.after touches_ringAppend).after touches_counted).mono
    refine .of_eq hrow ⟨(htouches.mono (L := .ce :: ringFrame)).frame, cur_retire hconsume, ?_, ?_, ?_, log_replied he⟩
    · exact (congrArg Ring.tail (hkept _ hne)).trans htail
    · exact (congrArg Ring.head (hkept _ hne)).trans hhead
    · rw [hothers _ (Ne.symm hne)] at hused
      exact hused
  · exact .of_eq (routineResumeRow_resumes hcur hhand hr hend) ⟨rfl, rfl, tget?_tdel_self .., fun j hj => tget?_tdel_ne hj _⟩

end Sys2Proof.Machine
end

section
/-! PROOF. Journaled writes, rollback fuses and the random generator (O46). -/

set_option Elab.async false

namespace Sys2Proof.Machine

variable {s t : State} {i p : Nat} {r : Routine} {weak : Bool}

/-! ### A journaled write that has parked -/

theorem rdBytes_nvmCommit (a : Nat) (bs : List Byte) : rdBytes (nvmCommit a bs s).sec.nvm a bs.length = bs := rdBytes_wrBytes bs s.sec.nvm a

theorem nvmCommit_frame (a : Nat) (bs : List Byte) : nvmCommit a bs s = { s with sec := (nvmCommit a bs s).sec } ∧
    (nvmCommit a bs s).sec.journal = [] := ⟨rfl, rfl⟩

/-- The resumed routine has its reply. -/
def resumedDone (i : Nat) (r : Routine) (s : State) : State := { s with ce := { s.ce with cur := some r, parked := tdel i s.ce.parked } }

theorem routineResumeRow_commits (hcur : s.ce.cur = none) (hhand : s.ce.handlers = []) (hr : tget? i s.ce.parked = some r)
    (hop : r.opcode = 0x802) (hend : r.ended = none) : routineResumeRow i s =
    resumedDone i (closeRoutine 0 [] s.time.tick r) (nvmCommit (prm r 1).toNat (keptBytes 3 r) s) := by
  have heffect : nvmEffect r s = (nvmCommit (prm r 1).toNat (keptBytes 3 r) s, []) := by simp only [nvmEffect, hop]
  have hdone : parkedDone r s = some (closeRoutine 0 [] s.time.tick r, nvmCommit (prm r 1).toNat (keptBytes 3 r) s) := by
    rw [parkedDone, if_neg (by simp [hend]), if_pos (by simp [hop]), heffect]
    rfl
  rw [routineResumeRow, if_neg (by simp [hcur, hhand]), hr]
  dsimp only
  rw [hdone]
  rfl

/-! ### The Gleaner's rewrite of a sector -/

/-- The rewrite of page `p` has begun, with its journal. -/
def rewriteBegun (p : Nat) (s : State) : State :=
  { s with glean := { s.glean with rewriting := some p }, sec := { s.sec with journal := [(0x1000 * p, rdByte s.sec.nvm (0x1000 * p))] } }

theorem sectorRewriteRow_begins {x : W40} {ps : Tab W40} (hpages : s.glean.pages = (p, x) :: ps) (hnone : s.glean.rewriting = none)
    (hlife : s.life = .safe ∨ s.life = .ready) (hshot : anyInShot s = false) (hfree : nvmFree s = true) (hctl : bR oGleanCtl 27 s = true)
    (hshut : s.therm.shutAt = none) : sectorRewriteRow s = rewriteBegun p s := by
  have hlife' : (s.life == .safe || s.life == .ready) = true := by
    rcases hlife with h | h <;> rw [h] <;> rfl
  rw [sectorRewriteRow, hpages, hnone]
  exact if_pos (by simp [hlife', quiet, hshot, hfree, hctl, hshut])

/-- Page `p` is rewritten. -/
def rewritten (p : Nat) (s : State) : State :=
  { s with glean := { s.glean with rewriting := none, pages := tdel p s.glean.pages }, sec := { s.sec with journal := [] } }

/-- The records of a rewrite. -/
def rewriteRecorded (weak : Bool) (p : Nat) (s : State) : State :=
  recordIf weak 0xD000 0x902 0 0 (record 0xD000 0x901 0 (tget 0 p s.glean.pages) (rewritten p s))

theorem rewriteDoneRow_ends (hp : s.glean.rewriting = some p) (hshot : anyInShot s = false) :
    rewriteDoneRow weak s = rewriteRecorded weak p s := by
  rw [rewriteDoneRow, hp]
  exact if_pos (by simp [quiet, hshot])

theorem rewriteDoneRow_waits (hp : s.glean.rewriting = some p) (hshot : anyInShot s = true) : rewriteDoneRow weak s = s := by
  rw [rewriteDoneRow, hp]
  exact if_neg (by simp [quiet, hshot])

theorem touches_rewriteRecorded : Touches [.log] (rewritten p s) (rewriteRecorded weak p s) := (touches_recordIf.after touches_record).mono

theorem logged_rewritten (v : W40) : Logged 0xD000 0x901 0 v s (record 0xD000 0x901 0 v (rewritten p s)) := by
  have h : Logged 0xD000 0x901 0 v (rewritten p s) (record 0xD000 0x901 0 v (rewritten p s)) :=
    logged_record _ _ _ _ _ (by decide) (by decide) (by decide)
  exact h

theorem logged_rewriteRecorded : Logged 0xD000 0x901 0 (tget 0 p s.glean.pages) s (rewriteRecorded false p s) := logged_rewritten _

theorem reports_rewriteRecorded : Reports 0xD000 0x901 s (rewriteRecorded true p s) ∧ Reports 0xD000 0x902 s (rewriteRecorded true p s) := by
  have hsecond : Touches [.log] (record 0xD000 0x901 0 (tget 0 p s.glean.pages) (rewritten p s)) (rewriteRecorded true p s) := touches_recordIf
  have hfirst := logged_rewritten (s := s) (p := p) (tget 0 p s.glean.pages)
  refine ⟨hfirst.reports.before hsecond, ?_⟩
  have hweak : Reports 0xD000 0x902 (record 0xD000 0x901 0 (tget 0 p s.glean.pages) (rewritten p s)) (rewriteRecorded true p s) :=
    reports_record (by decide) (by decide)
  have hlog : Touches [.log] (rewritten p s) (record 0xD000 0x901 0 (tget 0 p s.glean.pages) (rewritten p s)) := touches_record
  have hboth : Reports 0xD000 0x902 (rewritten p s) (rewriteRecorded true p s) := hweak.after hlog
  exact hboth

/-! ### Fuses and the random generator -/

def burstEnded (s : State) : State := { s with sec := { s.sec with burst := none } }

theorem burstDoneRow_ends {c : Nat} (h : s.sec.burst = some c) : ∃ b, burstDoneRow s = putB oSecStatus 13 b (burstEnded s) := by
  rw [burstDoneRow, h]
  exact ⟨_, rfl⟩

def trngFailed (s : State) : State := { s with sec := { s.sec with trngBad := true } }

theorem trngFailRow_fails (h : s.life ≠ .off) : trngFailRow s = record 0xD000 0x00B 0 0 (putB oSecStatus 32 false (trngFailed s)) :=
  if_pos (powered_iff.2 h)

theorem touches_trngShown : Touches [.regs, .log] (trngFailed s) (record 0xD000 0x00B 0 0 (putB oSecStatus 32 false (trngFailed s))) :=
  (touches_record.after touches_putB).mono

theorem Touches.frame_regs_log {u : State} (h : Touches [.regs, .log] u t) : t = { u with regs := t.regs, log := t.log } := h.frame

theorem regs_trngShown : (record 0xD000 0x00B 0 0 (putB oSecStatus 32 false (trngFailed s))).regs = (putB oSecStatus 32 false (trngFailed s)).regs :=
  touches_record.kept (·.regs) .regs

theorem logged_trngShown : Logged 0xD000 0x00B 0 0 s (record 0xD000 0x00B 0 0 (putB oSecStatus 32 false (trngFailed s))) := by
  have h : Logged 0xD000 0x00B 0 0 (putB oSecStatus 32 false (trngFailed s)) (record 0xD000 0x00B 0 0 (putB oSecStatus 32 false (trngFailed s))) :=
    logged_record _ _ _ _ _ (by decide) (by decide) (by decide)
  have hfailed : Logged 0xD000 0x00B 0 0 (trngFailed s) (record 0xD000 0x00B 0 0 (putB oSecStatus 32 false (trngFailed s))) := h.after touches_putB
  exact hfailed

/-- Settles O46. -/
theorem nvmAndFuses : Obligations.NvmAndFuses := by
  unfold Obligations.NvmAndFuses
  refine fun s => ⟨fun i r hcur hhand hr hop hend => ?_, fun p x ps hpages hnone hlife hshot hfree hctl hshut => ?_,
    fun p weak hp hshot => ?_, fun p weak hp hshot => ?_, fun c hc => ?_, fun hlife => ?_⟩
  · refine .of_eq (routineResumeRow_commits hcur hhand hr hop hend) ⟨rfl, rfl, tget?_tdel_self .., rdBytes_nvmCommit _ _, _, rfl, ?_⟩
    rw [closeRoutine_plain (.inr (.inl rfl))]
    exact ⟨rfl, rfl⟩
  · exact .of_eq (sectorRewriteRow_begins hpages hnone hlife hshot hfree hctl hshut) ⟨rfl, rfl, List.cons_ne_nil _ _, rfl⟩
  · have hglean : (rewriteRecorded weak p s).glean = (rewritten p s).glean := touches_rewriteRecorded.kept (·.glean) .glean
    refine .of_eq (rewriteDoneRow_ends hp hshot) ⟨?_, ?_, fun q hq => ?_, fun hweak => ?_, fun hweak => ?_⟩
    · rw [hglean]
      exact touches_rewriteRecorded.frame
    · rw [hglean]
      exact tget?_tdel_self ..
    · rw [hglean]
      exact tget?_tdel_ne hq _
    · rw [hweak]
      exact logged_rewriteRecorded
    · rw [hweak]
      exact reports_rewriteRecorded
  · exact .of_eq (rewriteDoneRow_waits hp hshot) rfl
  · obtain ⟨b, hrow⟩ := burstDoneRow_ends hc
    exact .of_eq hrow ⟨rfl, rfl, putB_only _ _ _ _⟩
  · refine .of_eq (trngFailRow_fails hlife) ⟨touches_trngShown.frame_regs_log, ?_, logged_trngShown, fun o ho => ?_⟩
    · rw [bR_of_regs regs_trngShown]
      exact bR_putB_self _ (by decide)
    · rw [getR_of_regs regs_trngShown, getR_putB_ne ho]
      rfl

end Sys2Proof.Machine
end

section
/-! PROOF. The routines of security and of the NVM (O45). -/

set_option Elab.async false

namespace Sys2Proof.Machine

variable {s t u : State} {r q : Routine} {a n op st v : Nat} {img : ImageAt} {bs : List Byte} {res : List W40}

/-- A routine that writes bytes of memory and ends. -/
def wroteBytes (a : Nat) (bs : List Byte) (s : State) : State := setMem (wrBytes s.gran.mem a bs) s

theorem mem_wroteBytes : (wroteBytes a bs s).gran.mem = wrBytes s.gran.mem a bs := rfl

theorem mem_takeFree : (takeFree s).gran.mem = s.gran.mem := rfl

theorem touches_wroteBytes : Touches [.mem] s (wroteBytes a bs s) := touches_setMem fun h => wrBytes_wf bs a h

theorem rdBytes_wroteBytes : rdBytes (wroteBytes a bs s).gran.mem a bs.length = bs := rdBytes_wrBytes bs s.gran.mem a

theorem memKeptBut_wroteBytes : MemKeptBut a bs.length s (wroteBytes a bs s) := fun _ hc => rdByte_wrBytes_out bs s.gran.mem hc

theorem wrBytes_append (l l' : List Byte) : ∀ (m : List Host.Cell) (a : Nat), wrBytes m a (l ++ l') = wrBytes (wrBytes m a l) (a + l.length) l' := by
  induction l with
  | nil => exact fun _ _ => rfl
  | cons b l ih =>
    intro m a
    rw [List.cons_append, wrBytes, wrBytes, ih, List.length_cons, Nat.add_assoc, Nat.add_comm 1]

theorem rdBytes_wrBytes_prefix (l l' : List Byte) (m : List Host.Cell) : rdBytes (wrBytes m a (l ++ l')) a l.length = l := by
  rw [wrBytes_append, rdBytes_wrBytes_out (.inl le_rfl), rdBytes_wrBytes]

theorem rdBytes_of_mem (h : t.gran.mem = s.gran.mem) : rdBytes t.gran.mem a n = rdBytes s.gran.mem a n := by rw [h]

theorem memKeptBut_of_mem (h : t.gran.mem = u.gran.mem) (hu : MemKeptBut a n s u) : MemKeptBut a n s t := fun c hc => by rw [h, hu c hc]

/-- A routine that has written bytes ends: its reply, what it wrote, and that nothing else changes. -/
theorem finish_wroteBytes (hcur : s.ce.cur = some r) (h1 : r.opcode ≠ 0x401) (h2 : r.opcode ≠ 0x402) (hp : progressive r.opcode = false ∨ st = 0) :
    Touches [.mem, .ce] s (finish st res (wroteBytes a bs s)) ∧ Ends st res r s (finish st res (wroteBytes a bs s)) ∧
      rdBytes (finish st res (wroteBytes a bs s)).gran.mem a bs.length = bs ∧ MemKeptBut a bs.length s (finish st res (wroteBytes a bs s)) := by
  have hcur' : (wroteBytes a bs s).ce.cur = some r := hcur
  obtain ⟨htouches, hends⟩ := finish_ends (st := st) (res := res) hcur' h1 h2 (hp.imp_right .inl)
  have hmem : (finish st res (wroteBytes a bs s)).gran.mem = (wroteBytes a bs s).gran.mem := htouches.kept (·.gran.mem) .mem
  exact ⟨(htouches.after touches_wroteBytes).mono, hends, (rdBytes_of_mem hmem).trans rdBytes_wroteBytes, memKeptBut_of_mem hmem memKeptBut_wroteBytes⟩

/-! ### Attestation -/

/-- What an attestation writes behind the head of its report. -/
def attestTail (r : Routine) (s : State) : List Byte :=
  toLe 64 (Config.sha512 (reportHead r s)).toNat ++ ((upTo 64).map (Config.ed25519Byte (Config.sha512 (reportHead r s))) ++
    (upTo 3309).map (Config.mlDsa65Byte (Config.sha512 (reportHead r s)) s.free))

/-- The report of an attestation is written, at the price of one free value. -/
def attested (r : Routine) (s : State) : State := takeFree (wroteBytes (prm r 0).toNat (reportHead r s ++ attestTail r s) s)

theorem doAttest_reports (h : Runs 0x701 r s) (hb : bufferCheck r (prm r 0).toNat 3877 s = none) (htrng : bR oSecStatus 32 s = true) :
    doAttest s = finish 0 [3877] (attested r s) := by
  rw [doAttest, opRun_runs h, hb]
  dsimp only
  rw [if_neg (by simp [htrng]), attested, attestTail, wroteBytes]
  simp only [List.append_assoc]

theorem doAttest_refuses (h : Runs 0x701 r s) (hb : bufferCheck r (prm r 0).toNat 3877 s = none) (htrng : bR oSecStatus 32 s = false) :
    doAttest s = refuse 11 s := by
  rw [doAttest, opRun_runs h, hb]
  exact if_pos (by simp [htrng])

/-- `finish_ends` for a routine of a known opcode that holds no unit. -/
theorem finish_plain (hcur : s.ce.cur = some r) (hop : r.opcode = op) (h1 : op ≠ 0x401 := by decide) (h2 : op ≠ 0x402 := by decide)
    (hp : progressive op = false ∨ st = 0 ∨ st = 7 ∨ st = 10) : Touches [.ce] s (finish st res s) ∧ Ends st res r s (finish st res s) := by
  subst hop
  exact finish_ends hcur h1 h2 hp

theorem mem_attested : (attested r s).gran.mem = wrBytes s.gran.mem (prm r 0).toNat (reportHead r s ++ attestTail r s) := by
  rw [attested, mem_takeFree, mem_wroteBytes]

theorem attest_ends (h : Runs 0x701 r s) : Touches [.free, .mem, .ce] s (finish 0 [3877] (attested r s)) ∧
    Ends 0 [3877] r s (finish 0 [3877] (attested r s)) ∧
    rdBytes (finish 0 [3877] (attested r s)).gran.mem (prm r 0).toNat (reportHead r s).length = reportHead r s := by
  obtain ⟨hcur, hop, -, -⟩ := h
  have hattested : Touches [.mem, .free] s (attested r s) := touches_takeFree.after touches_wroteBytes
  have hcur' : (attested r s).ce.cur = some r := (congrArg Ce.cur (hattested.kept (·.ce) .ce)).trans hcur
  obtain ⟨htouches, hends⟩ := finish_plain (st := 0) (res := [3877]) hcur' hop (hp := .inr (.inl rfl))
  refine ⟨(htouches.after hattested).mono, hends.of_tick (hattested.kept (·.time.tick) .clock), ?_⟩
  rw [rdBytes_of_mem (htouches.kept (·.gran.mem) .mem), mem_attested, rdBytes_wrBytes_prefix]

/-! ### The Loft -/

theorem loft_ended : (ended st res r s).ce.loft = s.ce.loft := rfl

theorem oLoftStatus_ne (i : Nat) : oLoftStatus ≠ oLoftMatch i := by
  unfold oLoftStatus oLoftMatch
  omega

theorem loftMatch_injective {i j : Nat} (h : j ≠ i) : oLoftMatch i ≠ oLoftMatch j := by
  unfold oLoftMatch
  omega

theorem bit_loftStatus (v n : Nat) : bit (w (v * 2 ^ 24 + n * 2 ^ 5 + 6)) 2 = true := by
  rw [bit, w, BitVec.toNat_ofNat, Nat.testBit_eq_decide_div_mod_eq, decide_eq_true_eq]
  omega

theorem loftApply_status : bR oLoftStatus 2 (loftApply img s) = true := by
  unfold loftApply
  rw [bR, getR_setR]
  exact bit_loftStatus _ _

/-- The fold of `loftApply` leaves entry `i` in the match register `i`. -/
theorem loftApply_entry {i : Nat} (hi : i < 32) : getR (oLoftMatch i) (loftApply img s) = loftEntry img i := by
  unfold loftApply
  dsimp only
  rw [getR_setR_ne _ (oLoftStatus_ne i).symm]
  exact foldS_at (I := fun _ => True) (π := getR (oLoftMatch i)) (φ := fun _ => loftEntry img i) (mem_upTo hi) (upTo_nodup 32)
    (fun _ _ _ _ => trivial) (fun _ _ => getR_setR ..) (fun _ _ _ hj => getR_setR_ne _ (loftMatch_injective hj) _) trivial

/-- The words and the digest of a Loft are in force. -/
def loftTaken (ws : Tab (BitVec 128)) (d : BitVec 512) (s : State) : State :=
  { s with ce := { s.ce with loft := ws }, sec := { s.sec with loftDigest := d } }

theorem cur_loftTaken (ws : Tab (BitVec 128)) (d : BitVec 512) : (loftTaken ws d s).ce.cur = s.ce.cur := rfl

/-- The words of a Loft. -/
def loftWords (img : ImageAt) : Tab (BitVec 128) :=
  foldS (fun i t => tset 0 i (BitVec.ofNat 128 (imgNat img (loftOffset img + 16 * i) 16)) t) (upTo 2048) []

/-- The registers of a Loft show it. -/
def loftShown (img : ImageAt) (s : State) : State :=
  setR oLoftStatus (w (imgVersion img * 2 ^ 24 + ((upTo 32).filter (fun i => bit (loftEntry img i) 27)).length * 2 ^ 5 + 6))
    (foldS (fun i s => setR (oLoftMatch i) (loftEntry img i) s) (upTo 32) s)

theorem loftApply_eq : loftApply img s = loftShown img (loftTaken (loftWords img) (imgDigest img) s) := rfl

theorem touches_loftShown : Touches [.regs] s (loftShown img s) := (touches_setR.after (.foldS fun _ _ => touches_setR)).mono

theorem loftApply_cur : (loftApply img s).ce.cur = s.ce.cur := by
  have hshown : (loftShown img (loftTaken (loftWords img) (imgDigest img) s)).ce = (loftTaken (loftWords img) (imgDigest img) s).ce :=
    touches_loftShown.kept (·.ce) .ce
  rw [loftApply_eq, hshown, cur_loftTaken]

section Load
variable (h : Runs 0x702 r s) (hb : bufferCheck r (prm r 0).toNat (prm r 1).toNat s = none) (hlock : bR oLoftStatus 2 s = false)
  (hn : (prm r 1).toNat ≠ 0)
include h hb hlock hn

theorem doLoftLoad_fails {k : Nat} (hk : bufImageCheck 1 ⟨s.gran.mem, (prm r 0).toNat⟩ (prm r 1).toNat s = some k) :
    doLoftLoad .clean s = finish 10 [] (putB oLoftStatus 3 true s) := by
  rw [doLoftLoad, opRun_runs h]
  simp only [hb, hn, hlock, eccCount, eccBad, hk, Option.isNone_none, Option.isSome_none, Bool.true_and, beq_iff_eq, if_false, Bool.false_eq_true]

theorem doLoftLoad_clashes (hk : bufImageCheck 1 ⟨s.gran.mem, (prm r 0).toNat⟩ (prm r 1).toNat s = none)
    (hclash : loftClash ⟨s.gran.mem, (prm r 0).toNat⟩ = true) : doLoftLoad .clean s = refuse 4 s := by
  rw [doLoftLoad, opRun_runs h]
  simp only [hb, hn, hlock, eccCount, eccBad, hk, hclash, Option.isNone_none, Option.isSome_none, Bool.true_and, beq_iff_eq, if_false,
    Bool.false_eq_true, if_true]

theorem doLoftLoad_applies (hk : bufImageCheck 1 ⟨s.gran.mem, (prm r 0).toNat⟩ (prm r 1).toNat s = none)
    (hclash : loftClash ⟨s.gran.mem, (prm r 0).toNat⟩ = false) :
    doLoftLoad .clean s = finish 0 [] (loftApply ⟨s.gran.mem, (prm r 0).toNat⟩ s) := by
  rw [doLoftLoad, opRun_runs h]
  simp only [hb, hn, hlock, eccCount, eccBad, hk, hclash, Option.isNone_none, Option.isSome_none, Bool.true_and, beq_iff_eq, if_false,
    Bool.false_eq_true]

end Load

/-! ### Rollback -/

/-- The rollback count stands at `v`, its burst under way. -/
def rolledBack (v : Nat) (s : State) : State := { s with sec := { s.sec with rollback := v, burst := some (s.sec.burst.getD s.sec.rollback) } }

theorem doRollback_keeps (h : Runs 0x703 r s) (hv : (prm r 0).toNat ≤ s.sec.rollback) (h64 : (prm r 0).toNat ≤ 64) :
    doRollback s = finish 0 [0] s := by
  rw [doRollback, opRun_runs h]
  dsimp only
  rw [if_neg (by omega), if_pos hv]

theorem doRollback_advances (h : Runs 0x703 r s) (hc : s.sec.rollback < (prm r 0).toNat) (h64 : (prm r 0).toNat ≤ 64)
    (hmax : (prm r 0).toNat ≤ fR oSecStatus 24 19 s) (hslot : (prm r 0).toNat ≤ 16 * fR oSecStatus 18 17 s + 15) :
    doRollback s = finish 0 [w ((prm r 0).toNat - s.sec.rollback)] (putF oSecStatus 31 25 (prm r 0).toNat (rolledBack (prm r 0).toNat s)) := by
  rw [doRollback, opRun_runs h]
  dsimp only
  rw [if_neg (by omega), if_neg (by omega), if_neg (by omega), rolledBack]

/-! ### Writes that park with a journal -/

/-- A byte write of the NVM is under way: what comes before its present sector is written, its journal is open. -/
def nvmJournaled (a n : Nat) (bs : List Byte) (s : State) : State :=
  { takeFree (setNvm (wrBytes s.sec.nvm a (bs.take n)) s) with
    sec := { (takeFree (setNvm (wrBytes s.sec.nvm a (bs.take n)) s)).sec with
      journal := [(a + n, rdByte (takeFree (setNvm (wrBytes s.sec.nvm a (bs.take n)) s)).sec.nvm (a + n))] } }

theorem nvmBegin_eq : nvmBegin op a bs s =
    park (progressRoutine op (w (bytesIn a bs.length ((Config.freeWord s.free).toNat % sectors a bs.length)))
      (nvmJournaled a (bytesIn a bs.length ((Config.freeWord s.free).toNat % sectors a bs.length)) bs s)) := rfl

theorem touches_nvmJournaled : Touches [.nvm, .free, .sec] s (nvmJournaled a n bs s) := by
  have hopen : ∀ (u : State) (l : List (Nat × Byte)), Touches [.sec] u { u with sec := { u.sec with journal := l } } := fun _ _ => .sec
  have hwrite : Touches [.nvm, .free] s (takeFree (setNvm (wrBytes s.sec.nvm a (bs.take n)) s)) :=
    touches_takeFree.after (touches_setNvm fun h => wrBytes_wf _ a h)
  exact (hopen _ _).after hwrite

theorem journal_nvmJournaled : (nvmJournaled a n bs s).sec.journal ≠ [] := List.cons_ne_nil _ _

theorem journals_of_ce (h : Touches [.ce, .ce] s t) (hs : s.sec.journal ≠ []) : t.sec.journal ≠ [] := by
  rwa [(congrArg (fun t => t.sec.journal) h.frame : t.sec.journal = s.sec.journal)]

theorem parks_progressRoutine {p : W40} (hcur : s.ce.cur = some q) (hring : q.ring = r.ring) (htag : q.tag = r.tag) (hop : q.opcode = r.opcode)
    (hend : q.ended = none) : Parks r (park (progressRoutine op p s)) := by
  refine parks_park (q := progressedIf op p q) (congrArg (Option.map _) hcur) ?_ ?_ ?_ ?_ <;> rw [progressedIf] <;> split <;> assumption

/-- The write of `bs`, which its routine keeps, parks with its journal. -/
theorem nvmBegin_parks (h : Runs op r s) : Touches [.nvm, .free, .sec, .ce] s (nvmBegin op a bs (keepBytes bs s)) ∧
    Parks r (nvmBegin op a bs (keepBytes bs s)) ∧ (nvmBegin op a bs (keepBytes bs s)).sec.journal ≠ [] := by
  obtain ⟨hcur, -, hend, -⟩ := h
  rw [nvmBegin_eq]
  refine ⟨(touches_park.after (touches_progressRoutine.after (touches_nvmJournaled.after touches_keepBytes))).mono, ?_, ?_⟩
  · refine parks_progressRoutine (q := { r with params := r.params ++ bs.map (fun b => w b.toNat) }) ?_ rfl rfl rfl hend
    rw [show (nvmJournaled _ _ bs (keepBytes bs s)).ce = (keepBytes bs s).ce from touches_nvmJournaled.kept (·.ce) .ce]
    exact congrArg (Option.map _) hcur
  · exact journals_of_ce (touches_park.after touches_progressRoutine) journal_nvmJournaled

/-- The journal of the RESTORE flags and the line selector. -/
def flagsJournaled (s : State) : State := { s with sec := { s.sec with journal := [(0x1100000, rdByte s.sec.nvm 0x1100000)] } }

theorem flagsJournaled_parks (h : Runs op r s) : Touches [.sec, .ce] s (park (flagsJournaled s)) ∧ Parks r (park (flagsJournaled s)) ∧
    (park (flagsJournaled s)).sec.journal ≠ [] := by
  obtain ⟨hcur, -, hend, -⟩ := h
  have hopen : Touches [.sec] s (flagsJournaled s) := .sec
  exact ⟨touches_park.after hopen, parks_park (s := flagsJournaled s) hcur rfl rfl rfl hend,
    journals_of_ce (s := flagsJournaled s) touches_park.mono (List.cons_ne_nil _ _)⟩

theorem doNvmWrite_begins {x n : Nat} (hx : x = (prm r 1).toNat) (hn : n = (prm r 2).toNat) (h : Runs 0x802 r s) (hc : nvmCheck r x n false s = none)
    (h0 : n ≠ 0) : doNvmWrite .clean s = nvmBegin 0x802 x (bufBytes r n s) (keepBytes (bufBytes r n s) s) := by
  subst hx hn
  rw [doNvmWrite, opRun_runs h]
  simp only [hc, if_neg h0, eccCount, eccBad, if_false, Bool.false_eq_true]

section Install
variable (h : Runs 0x803 r s) (hb : bufferCheck r (prm r 0).toNat (prm r 1).toNat s = none) (hmax : (prm r 1).toNat ≤ 0x800000)
  (h0 : (prm r 1).toNat ≠ 0)
include h hb hmax h0

theorem doFwInstall_fails {k : Nat} (hk : bufImageCheck 0 ⟨s.gran.mem, (prm r 0).toNat⟩ (prm r 1).toNat s = some k) :
    doFwInstall .clean s = finish 10 [w k] s := by
  rw [doFwInstall, opRun_runs h]
  simp only [hb, if_neg (Nat.not_lt.2 hmax), if_neg h0, eccCount, eccBad, hk, if_false, Bool.false_eq_true]

theorem doFwInstall_begins (hk : bufImageCheck 0 ⟨s.gran.mem, (prm r 0).toNat⟩ (prm r 1).toNat s = none) :
    doFwInstall .clean s = nvmBegin 0x803 (0x800000 * otherCopy s) (bufBytes r (prm r 1).toNat s) (keepBytes (bufBytes r (prm r 1).toNat s) s) := by
  rw [doFwInstall, opRun_runs h]
  simp only [hb, if_neg (Nat.not_lt.2 hmax), if_neg h0, eccCount, eccBad, hk, if_false, Bool.false_eq_true]

end Install

theorem doRestSet_opens (h : Runs 0x804 r s) : doRestSet s = park (flagsJournaled s) := by
  rw [doRestSet, opRun_runs h]
  rfl

theorem doLinSet_refuses {e : Ecc} (h : Runs 0x805 r s) (hbad : fld (prm r 0) 2 0 = 7 ∨ 39 < fld (prm r 0) 13 8) : doLinSet e s = refuse 4 s := by
  rw [doLinSet, opRun_runs h]
  exact if_pos hbad

theorem doLinSet_opens {e : Ecc} (h : Runs 0x805 r s) (h7 : fld (prm r 0) 2 0 ≠ 7) (h39 : fld (prm r 0) 13 8 ≤ 39) :
    doLinSet e s = park (flagsJournaled s) := by
  rw [doLinSet, opRun_runs h]
  exact if_neg (not_or.2 ⟨h7, Nat.not_lt.2 h39⟩)

/-! ### Reads into the buffer -/

theorem doIdentity_writes (h : Runs 0x704 r s) (hb : bufferCheck r (prm r 0).toNat (identityBundle s).length s = none) :
    doIdentity s = finish 0 [w (identityBundle s).length] (wroteBytes (prm r 0).toNat (identityBundle s) s) := by
  rw [doIdentity, opRun_runs h]
  dsimp only
  rw [hb]
  rfl

theorem doNvmRead_writes (h : Runs 0x801 r s) (hc : nvmCheck r (prm r 1).toNat (prm r 2).toNat true s = none) : doNvmRead s =
    finish 0 [] (wroteBytes (prm r 0).toNat ((upTo (prm r 2).toNat).map (fun i => nvmByte s ((prm r 1).toNat + i))) s) := by
  rw [doNvmRead, opRun_runs h]
  dsimp only
  rw [hc]
  rfl

theorem Touches.frame_attest (h : Touches [.free, .mem, .ce] s t) : t = { s with gran := t.gran, ce := t.ce, free := t.free } :=
  (h.mono (L := [.gran, .mem, .rings, .hostMem, .made, .ce, .free])).frame

theorem Touches.frame_bytes (h : Touches [.mem, .ce] s t) : t = { s with gran := t.gran, ce := t.ce } :=
  (h.mono (L := [.gran, .mem, .rings, .hostMem, .made, .ce])).frame

theorem Touches.frame_journaled (h : Touches [.nvm, .free, .sec, .ce] s t) : t = { s with ce := t.ce, sec := t.sec, free := t.free } :=
  (h.mono (L := [.nvm, .rollback, .sec, .safeAt, .free, .ce])).frame

theorem Touches.frame_rollback (h : Touches [.regs, .ce] (rolledBack v s) t) : t = { s with regs := t.regs, ce := t.ce, sec := t.sec } := by
  have hsec : t.sec = (rolledBack v s).sec := (congrArg State.sec h.frame :)
  rw [hsec]
  exact h.frame

/-- Settles O45, routine by routine: each bullet names what the routine does and reads its effects off that state. -/
theorem securityRoutines : Obligations.SecurityRoutines := by
  unfold Obligations.SecurityRoutines
  refine fun r s => ⟨fun h hb htrng => ?_, fun h hb htrng => ?_, fun n h hn hb hlock h0 => ?_, fun h => ⟨fun hv h64 => ?_, fun hc h64 hmax hslot => ?_⟩,
    fun n h hn hb => ?_, fun x n hx hn h hc => ?_, fun x n hx hn h hc h0 => ?_, fun n hn h hb hmax h0 => ?_, fun h => ?_, fun e h => ⟨fun hbad => ?_, fun h7 h39 => ?_⟩⟩
  · obtain ⟨htouches, hends, hbytes⟩ := attest_ends h
    exact .of_eq (doAttest_reports h hb htrng) ⟨htouches.frame_attest, hends, hbytes, (congrArg State.sec htouches.frame :)⟩
  · obtain ⟨htouches, hends⟩ := refuse_ends (st := 11) h.1 (by simp [h.2.1]) (by simp [h.2.1])
    exact .of_eq (doAttest_refuses h hb htrng) ⟨hends, htouches.frame⟩
  · subst hn
    refine ⟨_, rfl, ?_⟩
    rcases hk : bufImageCheck 1 ⟨s.gran.mem, (prm r 0).toNat⟩ (prm r 1).toNat s with _ | k
    · rcases hclash : loftClash ⟨s.gran.mem, (prm r 0).toNat⟩ with _ | _
      · rw [doLoftLoad_applies h hb hlock h0 hk hclash]
        obtain ⟨htouches, hends⟩ := finish_plain (st := 0) (res := []) (loftApply_cur.trans h.1) h.2.1 (hp := .inr (.inl rfl))
        have hregs := htouches.kept (·.regs) .regs
        refine ⟨((htouches.after touches_loftApply).mono (L := [.regs, .log, .ce, .sec, .nvm, .rollback, .safeAt])).frame, fun k hk' => (nomatch hk'),
          fun _ hbad => (nomatch hbad), fun _ _ => ⟨hends.of_tick (touches_loftApply.kept (·.time.tick) .clock), ?_, fun i hi => ?_⟩⟩
        · exact (bR_of_regs hregs _ _).trans loftApply_status
        · exact (getR_of_regs hregs _).trans (loftApply_entry hi)
      · rw [doLoftLoad_clashes h hb hlock h0 hk hclash]
        obtain ⟨htouches, hends⟩ := refuse_ends (st := 4) h.1 (by simp [h.2.1]) (by simp [h.2.1])
        exact ⟨(htouches.mono (L := [.regs, .log, .ce, .sec, .nvm, .rollback, .safeAt])).frame, fun k hk' => (nomatch hk'),
          fun _ _ => ⟨hends, htouches.frame⟩, fun _ hfine => (nomatch hfine)⟩
    · rw [doLoftLoad_fails h hb hlock h0 hk]
      have hcur : (putB oLoftStatus 3 true s).ce.cur = some r := (congrArg Ce.cur (touches_putB.kept (·.ce) .ce)).trans h.1
      obtain ⟨htouches, hends⟩ := finish_plain (st := 10) (res := []) hcur h.2.1 (hp := .inr (.inr (.inr rfl)))
      refine ⟨((htouches.after touches_putB).mono (L := [.regs, .log, .ce, .sec, .nvm, .rollback, .safeAt])).frame, fun k' _ => ⟨hends.of_tick (touches_putB.kept (·.time.tick) .clock), ?_, ?_⟩,
        fun hk' => (nomatch hk'), fun hk' => (nomatch hk')⟩
      · exact (bR_of_regs (htouches.kept (·.regs) .regs) _ _).trans (bR_putB_self _ (by decide))
      · rw [finish_ended hcur (by simp [h.2.1]) (by simp [h.2.1]) (.inr (.inr (.inr rfl))), loft_ended]
        exact congrArg Ce.loft (touches_putB.kept (·.ce) .ce)
  · obtain ⟨htouches, hends⟩ := finish_plain (st := 0) (res := [0]) h.1 h.2.1 (hp := .inr (.inl rfl))
    exact .of_eq (doRollback_keeps h hv h64) ⟨hends, htouches.frame⟩
  · have hrolled : (putF oSecStatus 31 25 (prm r 0).toNat (rolledBack (prm r 0).toNat s)).ce.cur = some r :=
      (congrArg Ce.cur (touches_putF.kept (·.ce) .ce)).trans h.1
    obtain ⟨htouches, hends⟩ := finish_plain (st := 0) (res := [w ((prm r 0).toNat - s.sec.rollback)]) hrolled h.2.1 (hp := .inr (.inl rfl))
    have hclock : (putF oSecStatus 31 25 (prm r 0).toNat (rolledBack (prm r 0).toNat s)).time.tick = s.time.tick :=
      (touches_putF.kept (·.time.tick) .clock).trans rfl
    have hall : Touches [.regs, .ce] (rolledBack (prm r 0).toNat s) _ := htouches.after touches_putF
    refine .of_eq (doRollback_advances h hc h64 hmax hslot) ⟨hall.frame_rollback, hends.of_tick hclock, ?_, ?_, ?_⟩
    · exact (congrArg (fun t => t.sec.rollback) hall.frame :)
    · exact (congrArg (fun t => t.sec.burst) hall.frame :)
    · rw [fR_of_regs (htouches.kept (·.regs) .regs), fR_putF_self (by omega) (by decide) (by decide)]
  · subst hn
    obtain ⟨htouches, hends, hbytes, hkept⟩ := finish_wroteBytes (st := 0) (res := [BitVec.ofNat 40 (identityBundle s).length]) (a := (prm r 0).toNat)
      (bs := identityBundle s) h.1 (by simp [h.2.1]) (by simp [h.2.1]) (.inr rfl)
    exact .of_eq (doIdentity_writes h hb) ⟨htouches.frame_bytes, hends, (congrArg State.sec htouches.frame :), hbytes, hkept⟩
  · subst hx hn
    obtain ⟨htouches, hends, hbytes, hkept⟩ := finish_wroteBytes (st := 0) (res := []) (a := (prm r 0).toNat)
      (bs := (upTo (prm r 2).toNat).map (fun i => nvmByte s ((prm r 1).toNat + i))) h.1 (by simp [h.2.1]) (by simp [h.2.1]) (.inr rfl)
    rw [List.length_map, show (upTo (prm r 2).toNat).length = _ from List.length_range] at hbytes hkept
    exact .of_eq (doNvmRead_writes h hc) ⟨htouches.frame_bytes, hends, (congrArg State.sec htouches.frame :), hbytes, hkept⟩
  · obtain ⟨htouches, hparks⟩ := nvmBegin_parks (a := x) (bs := bufBytes r n s) h
    exact .of_eq (doNvmWrite_begins hx hn h hc h0) ⟨htouches.frame_journaled, hparks⟩
  · subst hn
    refine ⟨_, rfl, ?_⟩
    rcases hk : bufImageCheck 0 ⟨s.gran.mem, (prm r 0).toNat⟩ (prm r 1).toNat s with _ | k
    · rw [doFwInstall_begins h hb hmax h0 hk]
      obtain ⟨htouches, hparks⟩ := nvmBegin_parks (a := 0x800000 * otherCopy s) (bs := bufBytes r (prm r 1).toNat s) h
      exact ⟨htouches.frame_journaled, fun k hk' => (nomatch hk'), fun _ => hparks⟩
    · rw [doFwInstall_fails h hb hmax h0 hk]
      obtain ⟨htouches, hends⟩ := finish_plain (st := 10) (res := [w k]) h.1 h.2.1 (hp := .inr (.inr (.inr rfl)))
      refine ⟨(htouches.mono (L := [.nvm, .free, .sec, .ce])).frame_journaled, fun k' hk' => ?_, fun hk' => (nomatch hk')⟩
      cases hk'
      exact ⟨hends, (congrArg State.sec htouches.frame :)⟩
  · obtain ⟨htouches, hparks⟩ := flagsJournaled_parks h
    exact .of_eq (doRestSet_opens h) ⟨(htouches.mono (L := [.nvm, .rollback, .sec, .safeAt, .ce])).frame, hparks⟩
  · obtain ⟨htouches, hends⟩ := refuse_ends (st := 4) h.1 (by simp [h.2.1]) (by simp [h.2.1])
    exact .of_eq (doLinSet_refuses h hbad) ⟨hends, htouches.frame⟩
  · obtain ⟨htouches, hparks⟩ := flagsJournaled_parks h
    exact .of_eq (doLinSet_opens h h7 h39) ⟨(htouches.mono (L := [.nvm, .rollback, .sec, .safeAt, .ce])).frame, hparks⟩

end Sys2Proof.Machine
end

section
/-! PROOF. The Gleaner (O55). -/

set_option Elab.async false

namespace Sys2Proof.Machine

variable {s t : State} {o n u task unit : Nat}

/-! ### What a ring write leaves in the registers -/

theorem oHostStatus_ne (h : o < 0x7000) (m : Nat) : o ≠ oHostStatus m := by
  unfold oHostStatus
  omega

theorem leaves_sendMsix (h : o < 0x7000) (m v : Nat) (s : State) : Leaves o s (sendMsix m v s) := by
  unfold sendMsix
  exact .ite (.ite rfl rfl) (leaves_bump (oHostStatus_ne h m) _ _ _)

theorem leaves_watermark (h : o < 0x7000) (n : Nat) (s : State) : Leaves o s (watermark n s) := by
  unfold watermark
  exact .ite rfl (.ite (.ite (leaves_sendMsix h _ _ _) rfl) rfl)

theorem leaves_ringAppend (h : o < 0x7000) (n : Nat) (sl : List (List W40)) (s : State) : Leaves o s (ringAppend n sl s) := by
  have hwritten : Leaves o s (setRing n { ring n s with tail := plus (ring n s).tail sl.length }
      (setMem (wrSlots (ring n s) s.gran.mem (ring n s).tail sl) s)) := rfl
  exact hwritten.trans (leaves_watermark h n _)

theorem leaves_ringPut (h : o < 0x7000) (n : Nat) (sl : List W40) (s : State) : Leaves o s (ringPut n sl s).1 := by
  rw [ringPut]
  split
  · rfl
  · split
    · exact touches_ringDrop.leaves
    · exact leaves_ringAppend h n _ s

/-! ### The count of completed measurements -/

/-- The count of completed measurements reads as before. -/
def SameCount (s t : State) : Prop := fR oGleanStat 11 0 t = fR oGleanStat 11 0 s

theorem SameCount.of_leaves (h : Leaves oGleanStat s t) : SameCount s t := h.fR

theorem SameCount.refl (s : State) : SameCount s s := rfl

theorem SameCount.trans {v : State} (h : SameCount s t) (k : SameCount t v) : SameCount s v := Eq.trans k h

theorem SameCount.ite {c : Prop} [Decidable c] {v : State} (h : SameCount s t) (k : SameCount s v) : SameCount s (if c then t else v) := by
  split
  · exact h
  · exact k

theorem SameCount.of_touches {K : List Fld} (h : Touches K s t) (hK : Fld.regs ∉ K := by decide) : SameCount s t := .of_leaves (h.leaves hK)

theorem dropField_glean : dropField 0x3001 = (oGleanStat, 19, 12, 0) := rfl

/-- The Gleaner counts its dropped reports in 19:12. -/
theorem sameCount_producerDrops (k : Nat) (s : State) : SameCount s (producerDrops k 0x3001 s) := by
  have hbump : ∀ v : State, SameCount v (bumpBy oGleanStat 19 12 k v) := fun v =>
    fR_putF_apart _ (by decide) (by decide) (.inl (by decide))
  have hgran : ∀ g : Gran, SameCount s { s with gran := g } := fun _ => rfl
  rw [producerDrops, dropField_glean]
  dsimp only
  split
  · exact (hgran _).trans (hbump _)
  · exact hbump s

theorem sameCount_producerRefuse (code : Nat) (s : State) : SameCount s (producerRefuse 0x3001 code s) := by
  have hnoted : ∀ v : State, SameCount v { v with gran := { v.gran with refused := insNat (dropOwner 0x3001) v.gran.refused } } := fun _ => rfl
  exact ((sameCount_producerDrops 1 s).trans (hnoted _)).trans (.of_touches touches_recordIf)

theorem sameCount_resWrite (n : Nat) (sl : List W40) (s : State) : SameCount s (resWrite 0x3001 n sl s) := by
  have hput : SameCount s (ringPut n sl s).1 := .of_leaves (leaves_ringPut (by decide) n sl s)
  exact hput.trans (.ite rfl (sameCount_producerDrops _ _))

theorem sameCount_resSlot (n : Nat) (sl : List W40) (s : State) : SameCount s (resSlot 0x3001 n sl s) := by
  have hgran : ∀ g : Gran, SameCount s { s with gran := g } := fun _ => rfl
  unfold resSlot
  extract_lets g waiting fits q
  exact .ite ((hgran _).trans (sameCount_resWrite n sl _))
    (.ite (hgran _) (((hgran _).trans (sameCount_producerDrops _ _)).trans (.of_touches touches_recordIf)))

theorem sameCount_resFlush (s : State) : SameCount s (resFlush 0x3001 s) := by
  unfold resFlush
  split
  · exact SameCount.trans (t := delHalf 0x3001 s) rfl (sameCount_resSlot _ _ _)
  · rfl

theorem sameCount_resPut (n dom flush : Nat) (ws : List W40) (s : State) : SameCount s (resPut 0x3001 n dom flush ws s) := by
  unfold resPut
  refine .ite (sameCount_producerRefuse 4 s) (.ite (sameCount_producerRefuse 3 s) (.ite ((sameCount_resFlush s).trans (sameCount_resSlot _ _ _)) ?_))
  extract_lets hold
  have hhold : ∀ v, SameCount v (hold v) := fun _ => rfl
  split
  · exact .ite (SameCount.trans (t := delHalf 0x3001 s) rfl (sameCount_resSlot _ _ _)) ((sameCount_resFlush s).trans (hhold _))
  · exact hhold _

/-! ### A measurement starts -/

theorem gleanReady_iff : gleanReady u task unit s = true ↔
    gleanMay u task unit s = true ∧ plus (quietStart s (gleanOwners u task unit s)) 20 = s.time.tick ∧
    receiverFree (plus (quietStart s (gleanOwners u task unit s)) 20) u s = true ∧
    (∀ g ∈ gleanOwners u task unit s, ownerQuiet (plus (quietStart s (gleanOwners u task unit s)) 20) g s = true) ∧
    (∀ g ∈ gleanOwners u task unit s, gapHolds (plus (plus (quietStart s (gleanOwners u task unit s)) 20) (gleanTime task)) s g = true) ∧
    periodOver (plus (quietStart s (gleanOwners u task unit s)) 20) (gleanKey u task unit) s = true := by
  simp only [gleanReady, Bool.and_eq_true, List.all_eq_true, beq_iff_eq, and_assoc]
  rfl

/-- The measurement is noted as begun at tick `x`. -/
def gleanNoted (x : Tick) (u task unit : Nat) (s : State) : State :=
  modGlean (fun y => { y with
    run := tput u ⟨task, unit, plus x (gleanTime task)⟩ y.run, started := tput u (plus x (gleanTime task)) y.started
    last := tput (gleanKey u task unit) x y.last, order := tput u (gleanPlace task unit) y.order }) s

theorem gleanBegin_converter {x : Tick} : gleanBegin x u 0 unit s =
    setOut (tileOutput u unit) { outp (tileOutput u unit) (gleanNoted x u 0 unit s) with gleanMute := true } (gleanNoted x u 0 unit s) := rfl

theorem gleanBegin_other {x : Tick} (h : task ≠ 0) : gleanBegin x u task unit s = gleanNoted x u task unit s := if_neg h

theorem outp_setOut_self (k : Nat) (x : Output) : outp k (setOut k x s) = x := tget_tset_self ..

theorem gleanBegin_glean {x : Tick} : (gleanBegin x u task unit s).glean = (gleanNoted x u task unit s).glean := by
  rcases eq_or_ne task 0 with rfl | h
  · rw [gleanBegin_converter]
    rfl
  · rw [gleanBegin_other h]

/-! ### A measurement ends -/

/-- The measurement `k` is off its tile. -/
def gleanOff (u : Nat) (s : State) : State := modGlean (fun y => { y with run := tdel u y.run }) s

/-- The measurement is counted. -/
def gleanCounted (u : Nat) (s : State) : State := putF oGleanStat 11 0 (fR oGleanStat 11 0 (gleanOff u s) + 1) (gleanOff u s)

/-- The converter cell measured sounds again. -/
def gleanUnmuted (u : Nat) (k : Glean) (s : State) : State :=
  if k.task = 0 then setOut (tileOutput u k.unit) { outp (tileOutput u k.unit) s with gleanMute := false } s else s

/-- The word that names the measurement in its report. -/
def gleanWord (u : Nat) (k : Glean) (r : GleanResult) (s : State) : W40 := gleanWord1 u k (gleanApplies u k s && gleanNews k r.word2)

def gleanReported (u : Nat) (k : Glean) (r : GleanResult) (s v : State) : State :=
  resPut 0x3001 (fR oGleanCtl 19 0 v) 0 (1024 * fR oGleanCtl 25 20 v)
    [k.fin, gleanWord u k r s, r.word2, w (r.before.toNat * 2 ^ 20 + r.after.toNat)] v

/-- The measurement has ended, with its report. -/
def gleanMeasured (u : Nat) (k : Glean) (r : GleanResult) (s : State) : State :=
  gleanReported u k r s (gleanFigure u k r.after.toNat (gleanUnmuted u k (gleanCounted u s)))

theorem gleanEnd_eq {k : Glean} {r : GleanResult} : gleanEnd u k r s =
    if gleanApplies u k s then gleanTake u k (gleanWord u k r s) r.word2 (gleanMeasured u k r s) else gleanMeasured u k r s := rfl

theorem touches_gleanMeasured {k : Glean} {r : GleanResult} :
    Touches [.regs, .outs, .prb, .drv, .gran, .log, .halves, .mem, .rings, .host] (gleanOff u s) (gleanMeasured u k r s) :=
  (touches_resPut.after (touches_gleanFigure.after ((Touches.ite touches_setOut (.refl _)).after touches_putF))).mono

theorem oDacQf_ne (i : Nat) : oGleanStat ≠ oDacQf u i := by
  unfold oGleanStat oDacQf
  omega

theorem leaves_gleanFigure {k : Glean} {a : Nat} : Leaves oGleanStat s (gleanFigure u k a s) := by
  unfold gleanFigure
  split
  · exact leaves_putF (oDacQf_ne _) _ _ _ _
  · exact touches_setTone.leaves.trans (leaves_putF (oDacQf_ne _) _ _ _ _)
  · rfl

theorem sameCount_gleanMeasured {k : Glean} {r : GleanResult} : SameCount (gleanCounted u s) (gleanMeasured u k r s) := by
  have hunmuted : SameCount (gleanCounted u s) (gleanUnmuted u k (gleanCounted u s)) := .ite (.of_touches touches_setOut) rfl
  exact (hunmuted.trans (.of_leaves leaves_gleanFigure)).trans (sameCount_resPut _ _ _ _ _)

theorem run_gleanTake {k : Glean} {w1 w2 : W40} : (gleanTake u k w1 w2 s).glean.run = s.glean.run := by
  unfold gleanTake
  split
  · exact congrArg Gleaner.run ((touches_arrive.after touches_setOut).kept (·.glean) .glean)
  · exact congrArg Gleaner.run (touches_leakPend.kept (·.glean) .glean)
  · split <;> rfl

theorem run_gleanEnd {k : Glean} {r : GleanResult} : (gleanEnd u k r s).glean.run = tdel u s.glean.run := by
  have hmeasured : (gleanMeasured u k r s).glean.run = tdel u s.glean.run := congrArg Gleaner.run (touches_gleanMeasured.kept (·.glean) .glean)
  rw [gleanEnd_eq]
  split
  · exact run_gleanTake.trans hmeasured
  · exact hmeasured

theorem count_gleanCounted : fR oGleanStat 11 0 (gleanCounted u s) = (fR oGleanStat 11 0 s + 1) % 4096 := by
  rw [gleanCounted, fR, getR_putF_self, fld_setFld _ _ (by decide) (by decide)]
  rfl

theorem count_gleanEnd {k : Glean} {r : GleanResult} : fR oGleanStat 11 0 (gleanEnd u k r s) = (fR oGleanStat 11 0 s + 1) % 4096 := by
  have hmeasured : fR oGleanStat 11 0 (gleanMeasured u k r s) = (fR oGleanStat 11 0 s + 1) % 4096 := 
    Eq.trans sameCount_gleanMeasured count_gleanCounted
  rw [gleanEnd_eq]
  split
  · exact (fR_of_regs (touches_gleanTake.kept (·.regs) .regs) _ _ _).trans hmeasured
  · exact hmeasured

theorem gleanCompleteRow_ends {k : Glean} {r : GleanResult} (hk : tget? u s.glean.run = some k) (hdue : due k.fin s = true) :
    gleanCompleteRow u r s = gleanEnd u k r s := by
  rw [gleanCompleteRow, hk]
  exact if_pos hdue

/-- Settles O55. The count of completed measurements lives beside the count of dropped reports (`SameCount`). -/
theorem gleanerMeasures : Obligations.GleanerMeasures := by
  unfold Obligations.GleanerMeasures
  refine ⟨fun u task unit s hmay hstart hfree hquiet hgap hperiod hfirst => ?_, fun u r k s hk hdue _ _ => ?_⟩
  · have hready : gleanReady u task unit s = true := gleanReady_iff.2 ⟨hmay, hstart, hstart ▸ hfree, hstart ▸ hquiet, hstart ▸ hgap, hstart ▸ hperiod⟩
    have hrow : gleanStartRow u task unit s = gleanBegin s.time.tick u task unit s := if_pos (by simp [hready, hfirst])
    have htouches : Touches [.glean, .outs] s (gleanBegin s.time.tick u task unit s) := touches_gleanBegin
    refine .of_eq hrow ⟨htouches.frame, ?_, ?_, ?_, fun h => ?_, fun h => ?_⟩
    · rw [gleanBegin_glean]
      exact tget?_tput_self ..
    · rw [gleanBegin_glean]
      exact tget?_tput_self ..
    · rw [gleanBegin_glean]
      exact tget?_tput_self ..
    · rw [gleanBegin_other h]
      rfl
    · subst h
      rw [gleanBegin_converter, outp_setOut_self]
  · refine .of_eq (gleanCompleteRow_ends hk hdue) ⟨?_, ?_, count_gleanEnd⟩
    · exact ((touches_gleanEnd (a0 := u) (m := k) (r := r) (s := s)).mono
        (L := [.regs, .log, .drv, .prb, .outs, .halves, .gran, .mem, .rings, .hostMem, .made, .glean, .host, .fresh])).frame
    · rw [run_gleanEnd]
      exact tget?_tdel_self ..

end Sys2Proof.Machine
end

section
/-! PROOF. Reachability in a federation (O52). -/

set_option Elab.async false

namespace Sys2Proof.Machine

/-- In READY under FEDERATED device 0 of the federation 0, 1, 9 has heard device 1 last 3 µs ago. An arrival is noted at a barrier 512, which the
device does not have, and whose BARRIER_STAT and BARRIER_CFG stand where FED_REACH and FED_STATUS do. -/
def strayBarrier : State := { setR oFedReach (w 0x203) (setR oFedStatus (w (0x203 * 2 ^ 16)) (putB oMode 4 true State.reset)) with
  life := .ready
  time := { State.reset.time with tick := 3000 }
  fed := { seen := [(1, 0)] }
  barriers := [(512, { localAt := some 0 })] }

/-- The frozen reach of the device after the loss of device 1. -/
theorem strayBarrier_frozen : fR oFedReach 31 16 (reachTimeoutRow 1 strayBarrier) ≠ fR oFedReach 15 0 (reachTimeoutRow 1 strayBarrier) := by
  decide +kernel

theorem exec_strayBarrier {t : State} (h : exec (.reachTimeout 1) strayBarrier = .next t) : t = reachTimeoutRow 1 strayBarrier := by
  have hclocked : clocked (reachTimeoutRow 1) strayBarrier = reachTimeoutRow 1 strayBarrier := if_neg (by decide +kernel)
  injection h with h
  exact (hclocked.symm.trans h).symm

/-- R94, R336: as the device is isolated it fails its barriers with a device outside FROZEN, and a barrier that fails shows that in bit 26 of its
BARRIER_STAT; a state may hold a barrier for which that register is FED_REACH.
Refutes O52: in `strayBarrier` the loss of device 1 isolates the device, and FROZEN then differs from REACH. -/
theorem not_federationReach : ¬ Obligations.FederationReach := by
  intro h
  obtain ⟨-, -, -, hlost⟩ := h strayBarrier
  obtain ⟨t, hexec, -, -, -, hisolates, -⟩ := hlost 1 0 (by decide) (by decide +kernel) rfl (by decide +kernel) (by decide +kernel) (by decide +kernel)
  obtain ⟨-, hfrozen, -⟩ := hisolates (by decide +kernel) (by decide +kernel) (by decide +kernel)
  rw [exec_strayBarrier hexec] at hfrozen
  exact strayBarrier_frozen hfrozen

end Sys2Proof.Machine
end

section
/-! PROOF. The witness engines (O39). -/

set_option Elab.async false

namespace Sys2Proof.Machine

/-- WIT_STOP of tile 0. -/
def tileStop : Routine := { emptyTableLoad with opcode := 0x501, params := [] }

/-- A RESULT ring whose owner is no domain: HOST_STATUS of that owner would stand at WIT_STATUS of engine 0. -/
def strayBaleRing : Ring := { emptyRing with owner := (oWitStatus 0 - 0x7000) / 8, watermark := 1, wmArmed := true }

/-- A Bale without a sample, for ring 0. -/
def bareBale : Bale := ⟨0, 0, 0, 0, 0, 0, 8, false, 0, 0, 0, false, false, 0, none⟩

/-- In READY engines 0 and 1 are enabled, and a Bale of engine 1 is open for the stray ring. -/
def strayBale : State := { setR (oWitStatus 1) 1 (setR (oWitStatus 0) 1 State.reset) with
  life := .ready
  wits := [(1, { bale := some bareBale })]
  gran := { State.reset.gran with rings := [(0, strayBaleRing)] }
  ce := { State.reset.ce with cur := some tileStop } }

theorem strayBale_counts : bR (oWitStatus 0) 0 (doWitStop strayBale) = true := by decide +kernel

theorem exec_strayBale {t : State} (h : exec .witStop strayBale = .next t) : t = doWitStop strayBale := by
  injection h with h
  exact h.symm

/-- R259, R279: WIT_STOP closes the open Bales of the engines that it names, the watermark of a Bale's ring sends an interrupt, and one lost to a
function that does not exist counts in HOST_STATUS of the ring's owner; a state may hold an owner for which that register is WIT_STATUS of an
engine that is off by then.
Refutes O39: in `strayBale` engine 0 shows EN again after engine 1 has closed its Bale. -/
theorem not_witnessCommands : ¬ Obligations.WitnessCommands := by
  intro h
  obtain ⟨-, -, -, -, -, -, -, hstop⟩ := h 0 strayBale (by decide)
  obtain ⟨t, hexec, -, -, -, hoff, -⟩ := hstop tileStop ⟨rfl, rfl, rfl, rfl⟩ (by decide +kernel) (.inr rfl) (by decide +kernel)
  rw [exec_strayBale hexec, strayBale_counts] at hoff
  exact absurd hoff (by decide)

end Sys2Proof.Machine
end

section
/-! PROOF. Ports: their status, loss, training and eyes. -/

set_option Elab.async false

namespace Sys2Proof.Machine

variable {s t u : State} {o p n cause : Nat} {r : Routine}

/-! ### A port and its status -/

theorem oPairStatus_ne_portStatus (p : Nat) : oPortStatus p ≠ oPairStatus := by
  unfold oPortStatus oPairStatus
  omega

theorem oTimeStatus_ne_portStatus (p : Nat) : oPortStatus p ≠ oTimeStatus := by
  unfold oPortStatus oTimeStatus
  omega

theorem port_of_ports (h : t.ports = s.ports) (k : Nat) : port k t = port k s := by rw [port, port, h]

theorem Touches.port {K : List Fld} (h : Touches K s t) (k : Nat) (hf : Fld.ports ∉ K := by decide) : port k t = port k s :=
  port_of_ports (h.kept (·.ports) .ports (hf := hf)) k

/-- The port alone enters phase `n`. -/
theorem port_setPhase : port p (setPhase p n s) = { port p s with phase := n, phaseAt := s.time.tick } := by
  have h : Touches [.regs, .ce] (setPort p { port p s with phase := n, phaseAt := now s } s) (setPhase p n s) :=
    touches_progressRoutineAt.after touches_putF
  rw [h.port p, port_setPort]
  rfl

theorem port_setPhase_ne {k : Nat} (hk : k ≠ p) : port k (setPhase p n s) = port k s := by
  have h : Touches [.regs, .ce] (setPort p { port p s with phase := n, phaseAt := now s } s) (setPhase p n s) :=
    touches_progressRoutineAt.after touches_putF
  rw [h.port k, port_setPort_ne s hk]

theorem regs_setPhase : (setPhase p n s).regs = (putF (oPortStatus p) 39 36 n s).regs := rfl

theorem bR_setPhase {i : Nat} (h : i < 36) : bR (oPortStatus p) i (setPhase p n s) = bR (oPortStatus p) i s := by
  rw [bR_of_regs regs_setPhase, bR_putF_apart _ (by decide) (by decide) (.inl h)]

theorem fR_setPhase {hi lo : Nat} (h : hi < 36) : fR (oPortStatus p) hi lo (setPhase p n s) = fR (oPortStatus p) hi lo s := by
  rw [fR_of_regs regs_setPhase, fR_putF_apart _ (by decide) (by decide) (.inl h)]

theorem leaves_setPhase (h : o ≠ oPortStatus p) (s : State) : Leaves o s (setPhase p n s) := by
  have hput : Leaves o s (putF (oPortStatus p) 39 36 n (setPort p { port p s with phase := n, phaseAt := now s } s)) :=
    touches_setPort.leaves.trans (leaves_putF h _ _ _ _)
  exact hput.trans touches_progressRoutineAt.leaves

/-! ### A port goes down -/

theorem leaves_acquireStop (h : o ≠ oTimeStatus) (s : State) : Leaves o s (acquireStop s) := by
  unfold acquireStop
  have hend : ∀ v : State, Leaves o v (acquireEnd v) := fun _ => rfl
  exact .ite (Leaves.trans (t := { s with time := { s.time with req := none } }) rfl ((leaves_putB h _ _ _).trans (hend _))) (hend _)

theorem leaves_holdover (h : o ≠ oTimeStatus) (s : State) : Leaves o s (holdover s) := by
  unfold holdover
  have hphase : Leaves o s { s with time := { s.time with phase := phaseNow s, slew := none } } := rfl
  exact .ite rfl ((((hphase.trans (leaves_acquireStop h _)).trans (leaves_putB h _ _ _)).trans (leaves_putB h _ _ _)).trans
    (touches_reasonsUpdate.after touches_record).leaves)

theorem leaves_handoverFail (h : o ≠ oPairStatus) (s : State) : Leaves o s (handoverFail s) := by
  unfold handoverFail
  refine .ite ?_ rfl
  refine Leaves.trans ?_ touches_endRoutine.leaves
  refine Leaves.trans ?_ (leaves_putB h _ _ _)
  exact ((Touches.foldS fun _ _ => touches_setOut).after Touches.pair).leaves

theorem leaves_pairLinkLost (h : o ≠ oPairStatus) (h' : o ≠ oTimeStatus) (s : State) : Leaves o s (pairLinkLost p s) := by
  unfold pairLinkLost
  have hhalt : Leaves o s (cmpHalt { record (0x7000 + p) 0x70F 0 0 s with pair := { (record (0x7000 + p) 0x70F 0 0 s).pair with sendQ := [] } }) :=
    (touches_cmpHalt.after (Touches.pair.after touches_record)).leaves
  have hfail := hhalt.trans (leaves_handoverFail h _)
  exact hfail.trans (.ite (leaves_holdover h' _) rfl)

/-- What a port loses as it goes down, before the record. -/
def portCleared (p cause : Nat) (s : State) : State :=
  portEmpty p (putB (oPortStatus p) 0 false (putF (oPortStatus p) 35 32 cause (if training p s then endRoutineAt 0x605 p 13 [] s else s)))

/-- Port `p` stands at phase 0, and the next heartbeat is watched for. -/
def portStill (p cause : Nat) (s : State) : State :=
  setPhase p 0 (setPort p { port p (portCleared p cause s) with missAt := some (now (portCleared p cause s)) } (portCleared p cause s))

theorem portDown_eq : portDown p cause s =
    if portUp p s && bR oPairStatus 35 (record (0x7000 + p) 0x706 cause 0 (portStill p cause s))
      && pairPort (record (0x7000 + p) 0x706 cause 0 (portStill p cause s)) == p
    then pairLinkLost p (record (0x7000 + p) 0x706 cause 0 (portStill p cause s)) else record (0x7000 + p) 0x706 cause 0 (portStill p cause s) := rfl

/-- From `s` to `t` port `p` has gone down with its cause and record. -/
def WentDown (p cause : Nat) (s t : State) : Prop :=
  portUp p t = false ∧ (port p t).phase = 0 ∧ fR (oPortStatus p) 35 32 t = cause ∧ Reports (0x7000 + p) 0x706 s t

theorem WentDown.before {K : List Fld} (h : WentDown p cause s t) (hu : Touches K t u) (hregs : Leaves (oPortStatus p) t u)
    (hp : Fld.ports ∉ K := by decide) (hpool : Fld.pool ∉ K := by decide) : WentDown p cause s u := by
  obtain ⟨hup, hphase, hcause, hreports⟩ := h
  exact ⟨hregs.bR.trans hup, by rw [hu.port p hp, hphase], hregs.fR.trans hcause, hreports.before hu hpool⟩

theorem WentDown.after {K : List Fld} (h : WentDown p cause t u) (hs : Touches K s t) (hpool : Fld.pool ∉ K := by decide) : WentDown p cause s u := by
  obtain ⟨hup, hphase, hcause, hreports⟩ := h
  exact ⟨hup, hphase, hcause, hreports.after hs hpool⟩

/-- The status register of a port that goes down, and what it leaves there. -/
theorem portCleared_status (hc : cause < 16) : portUp p (portCleared p cause s) = false ∧ fR (oPortStatus p) 35 32 (portCleared p cause s) = cause ∧
    bR (oPortStatus p) 26 (portCleared p cause s) = bR (oPortStatus p) 26 s := by
  have hended : ∀ v : State, Leaves (oPortStatus p) v (if training p v then endRoutineAt 0x605 p 13 [] v else v) := fun v =>
    .ite touches_endRoutineAt.leaves rfl
  have hempty : ∀ v : State, (portEmpty p v).regs = (putB (oPortStatus p) 25 false v).regs := fun _ => rfl
  refine ⟨?_, ?_, ?_⟩
  · rw [portUp, portCleared, bR_of_regs (hempty _), bR_putB_apart _ (by decide) (by decide), bR_putB_self _ (by decide)]
  · rw [portCleared, fR_of_regs (hempty _), fR_putB_apart _ (by decide) (.inr (by decide)), fR_putB_apart _ (by decide) (.inr (by decide)),
      fR_putF_self (by omega) (by decide) (by decide)]
  · rw [portCleared, bR_of_regs (hempty _), bR_putB_apart _ (by decide) (by decide), bR_putB_apart _ (by decide) (by decide),
      bR_putF_apart _ (by decide) (by decide) (.inl (by decide)), (hended s).bR]

theorem touches_portStill : Touches [.ce, .regs, .ports] s (portStill p cause s) :=
  (touches_setPhase.after (touches_setPort.after (touches_portEmpty.after (touches_putB.after (touches_putF.after
    (Touches.ite touches_endRoutineAt (.refl _))))))).mono

theorem portStill_down (hp : p < 6) (hc : cause < 16) : WentDown p cause s (record (0x7000 + p) 0x706 cause 0 (portStill p cause s)) := by
  obtain ⟨hup, hcause, -⟩ := portCleared_status (s := s) (p := p) hc
  have hwatch : Leaves (oPortStatus p) (portCleared p cause s)
      (setPort p { port p (portCleared p cause s) with missAt := some (now (portCleared p cause s)) } (portCleared p cause s)) := touches_setPort.leaves
  have hreports : Reports (0x7000 + p) 0x706 (portStill p cause s) (record (0x7000 + p) 0x706 cause 0 (portStill p cause s)) :=
    reports_record (by omega) (by decide)
  have hdown : WentDown p cause s (record (0x7000 + p) 0x706 cause 0 (portStill p cause s)) := by
    refine ⟨?_, ?_, ?_, hreports.after touches_portStill⟩
    · exact (touches_record.leaves.bR.trans (bR_setPhase (by decide))).trans (hwatch.bR.trans hup)
    · rw [touches_record.port p, portStill, port_setPhase]
    · exact (touches_record.leaves.fR.trans (fR_setPhase (by decide))).trans (hwatch.fR.trans hcause)
  exact hdown

theorem portDown_down (hp : p < 6) (hc : cause < 16) : WentDown p cause s (portDown p cause s) := by
  rw [portDown_eq]
  split
  · exact (portStill_down hp hc).before touches_pairLinkLost (leaves_pairLinkLost (oPairStatus_ne_portStatus p) (oTimeStatus_ne_portStatus p) _)
  · exact portStill_down hp hc

/-- The clock lane stays as it was. -/
theorem bR_portDown (hc : cause < 16) : bR (oPortStatus p) 26 (portDown p cause s) = bR (oPortStatus p) 26 s := by
  obtain ⟨-, -, hclock⟩ := portCleared_status (s := s) (p := p) hc
  have hwatch : Leaves (oPortStatus p) (portCleared p cause s)
      (setPort p { port p (portCleared p cause s) with missAt := some (now (portCleared p cause s)) } (portCleared p cause s)) := touches_setPort.leaves
  have hstill : bR (oPortStatus p) 26 (record (0x7000 + p) 0x706 cause 0 (portStill p cause s)) = bR (oPortStatus p) 26 s :=
    (touches_record.leaves.bR.trans (bR_setPhase (by decide))).trans (hwatch.bR.trans hclock)
  rw [portDown_eq]
  split
  · exact (leaves_pairLinkLost (oPairStatus_ne_portStatus p) (oTimeStatus_ne_portStatus p) _).bR.trans hstill
  · exact hstill

/-- What the loss of a port can touch. -/
abbrev portFrame : List Fld := [.regs, .time, .clock, .log, .seqs, .outs, .ce, .ports, .pair]

theorem Touches.frame_port (h : Touches portFrame s t) : t = { s with
    regs := t.regs, time := t.time, log := t.log, seqs := t.seqs, outs := t.outs, ce := t.ce, ports := t.ports, pair := t.pair } := h.frame

theorem clocked_eq {f : State → State} (h : gated s = false) : clocked f s = f s := if_neg (by simp [h])

/-! ### Heartbeats and the clock lane -/

/-- A missed heartbeat of port `p` is noted, whose interval began at `x`. -/
def missNoted (p : Nat) (x : Tick) (s : State) : State :=
  bump (oPortCounts p) 9 0 (setPort p { port p s with missRun := (port p s).missRun + 1, missAt := some (plus x 1000) } s)

theorem heartbeatRow_misses (hup : portUp p s = true) (hdue : due (plus ((port p s).missAt.getD (port p s).phaseAt) 1000) s = true)
    (hrun : (port p s).missRun < 2) : heartbeatRow p s = missNoted p ((port p s).missAt.getD (port p s).phaseAt) s := by
  unfold heartbeatRow
  dsimp only
  rw [if_neg (by simp [hup, hdue]), if_neg (by omega), missNoted]

theorem heartbeatRow_drops (hup : portUp p s = true) (hdue : due (plus ((port p s).missAt.getD (port p s).phaseAt) 1000) s = true)
    (hrun : 2 ≤ (port p s).missRun) : heartbeatRow p s =
      if isUpstream p (portDown p 3 (missNoted p ((port p s).missAt.getD (port p s).phaseAt) s))
      then holdover (portDown p 3 (missNoted p ((port p s).missAt.getD (port p s).phaseAt) s))
      else portDown p 3 (missNoted p ((port p s).missAt.getD (port p s).phaseAt) s) := by
  unfold heartbeatRow
  dsimp only
  rw [if_neg (by simp [hup, hdue]), if_pos (by omega), if_pos hup, missNoted]

theorem touches_missNoted {x : Tick} : Touches [.ports, .regs] s (missNoted p x s) := (touches_bump.after touches_setPort).mono

theorem port_missNoted {x : Tick} : port p (missNoted p x s) = { port p s with missRun := (port p s).missRun + 1, missAt := some (plus x 1000) } := by
  rw [missNoted, touches_bump.port p, port_setPort]

theorem port_missNoted_ne {k : Nat} {x : Tick} (hk : k ≠ p) : port k (missNoted p x s) = port k s := by
  rw [missNoted, touches_bump.port k, port_setPort_ne s hk]

/-- A port has gone down, and holdover may begin: the loss still shows. -/
theorem down_or_holdover {K : List Fld} {c : Bool} {v : State} (hv : Touches K s v) (hp : p < 6) (hc : cause < 16) (hpool : Fld.pool ∉ K := by decide) :
    WentDown p cause s (if c then holdover (portDown p cause v) else portDown p cause v) := by
  have hdown : WentDown p cause s (portDown p cause v) := (portDown_down hp hc).after hv hpool
  split
  · exact hdown.before touches_holdover (leaves_holdover (oTimeStatus_ne_portStatus p) _)
  · exact hdown

theorem touches_down_or_holdover {c : Bool} {v : State} :
    Touches portFrame v (if c then holdover (portDown p cause v) else portDown p cause v) := by
  split
  · exact (touches_holdover.after touches_portDown).mono
  · exact touches_portDown.mono

theorem clockLossRow_drops (h : portUp p s = true ∨ (training p s = true ∧ bR (oPortStatus p) 26 s = true)) :
    ∃ c : Bool, clockLossRow p s = if c then holdover (portDown p 1 (putB (oPortStatus p) 26 false s)) else portDown p 1 (putB (oPortStatus p) 26 false s) := by
  have htraining : training p (putB (oPortStatus p) 26 false s) = training p s := by
    rw [training, training, touches_putB.port p]
  have hcond : (portUp p s || (bR (oPortStatus p) 26 s && training p (putB (oPortStatus p) 26 false s))) = true := by
    rcases h with h | ⟨h, hc⟩
    · simp [h]
    · simp [htraining, h, hc]
  unfold clockLossRow
  dsimp only
  rw [if_pos hcond]
  exact ⟨_, rfl⟩

theorem clock_down_or_holdover {c : Bool} {v : State} (hc : cause < 16) :
    bR (oPortStatus p) 26 (if c then holdover (portDown p cause v) else portDown p cause v) = bR (oPortStatus p) 26 v := by
  split
  · exact (leaves_holdover (oTimeStatus_ne_portStatus p) _).bR.trans (bR_portDown hc)
  · exact bR_portDown hc

/-! ### Training -/

/-- A port about to train has lost what it held. -/
def portFresh (p : Nat) (s : State) : State :=
  lanesShow p (setPort p { port p s with lost := [], rxBad := [], clean := 0 } (portEmpty p s))

theorem trainStart_eq : trainStart p s = setPhase p 1 (portFresh p s) := rfl

theorem trainStart_phase : (port p (trainStart p s)).phase = 1 ∧ (port p (trainStart p s)).phaseAt = s.time.tick := by
  have htick : (portFresh p s).time.tick = s.time.tick :=
    (touches_lanesShow.after (touches_setPort.after touches_portEmpty)).kept (·.time.tick) .clock
  rw [trainStart_eq, port_setPhase, htick]
  exact ⟨rfl, rfl⟩

theorem phaseCompleteRow_clock {eyes : List Nat} (htrain : training p s = true) (hover : phaseOver p s = false) (hq : (port p s).phase = 1) :
    phaseCompleteRow p [] eyes s = setPhase p 2 (putB (oPortStatus p) 26 true s) := by
  unfold phaseCompleteRow phaseDone
  rw [if_pos (by simp [htrain, hover])]
  simp only [hq]

theorem phaseCompleteRow_seed {eyes : List Nat} (htrain : training p s = true) (hover : phaseOver p s = false) (hq : (port p s).phase = 2) :
    phaseCompleteRow p [] eyes s = setPhase p 3 (seedLanes p (upTo 5) s) := by
  unfold phaseCompleteRow phaseDone
  rw [if_pos (by simp [htrain, hover])]
  simp only [hq]

theorem phaseCompleteRow_eyes {eyes : List Nat} (htrain : training p s = true) (hover : phaseOver p s = false) (hq : (port p s).phase = 3) :
    phaseCompleteRow p [] eyes s = setPhase p 4 (eyesPut p eyes s) := by
  unfold phaseCompleteRow phaseDone
  rw [if_pos (by simp [htrain, hover])]
  simp only [hq]

theorem phaseCompleteRow_aligned {eyes : List Nat} (htrain : training p s = true) (hover : phaseOver p s = false) (hq : (port p s).phase = 4) :
    phaseCompleteRow p [] eyes s = setPhase p 5 (lanesShow p s) := by
  unfold phaseCompleteRow phaseDone
  rw [if_pos (by simp [htrain, hover])]
  simp only [hq, List.dedup_nil]

theorem phaseCompleteRow_up {eyes : List Nat} (htrain : training p s = true) (hover : phaseOver p s = false) (hq : (port p s).phase = 5)
    (hgood : 1024 ≤ (port p s).goodRun) : phaseCompleteRow p [] eyes s = portComesUp p (eyesPut p eyes s) := by
  unfold phaseCompleteRow phaseDone
  rw [if_pos (by simp [htrain, hover])]
  simp only [hq, if_pos hgood]

/-- A port on the way up, with its heartbeats watched for. -/
def portWatched (p : Nat) (s : State) : State :=
  setPort p { port p (portEmpty p s) with
    missRun := if 3 ≤ (port p (portEmpty p s)).missRun then 0 else (port p (portEmpty p s)).missRun,
    missAt := some (plus (now (portEmpty p s)) 1000) } (portEmpty p s)

/-- A port that is up, its routine ended. -/
def portRaised (p : Nat) (s : State) : State :=
  endRoutineAt 0x605 p 0 [w (leastEye p (setPhase p 6 (putF (oPortStatus p) 35 32 0 (putB (oPortStatus p) 0 true (portWatched p s)))))]
    (setPhase p 6 (putF (oPortStatus p) 35 32 0 (putB (oPortStatus p) 0 true (portWatched p s))))

theorem portComesUp_eq : portComesUp p s = record (0x7000 + p) 0x707 0 0 (portRaised p s) := by
  unfold portComesUp portRaised portWatched
  dsimp only

theorem touches_portRaised : Touches [.ports, .regs, .ce] s (portRaised p s) :=
  (touches_endRoutineAt.after (touches_setPhase.after (touches_putF.after (touches_putB.after (touches_setPort.after touches_portEmpty))))).mono

theorem portComesUp_up (hp : p < 6) : (port p (portComesUp p s)).phase = 6 ∧ portUp p (portComesUp p s) = true ∧
    Reports (0x7000 + p) 0x707 s (portComesUp p s) := by
  have hphase : (port p (portRaised p s)).phase = 6 := by rw [portRaised, touches_endRoutineAt.port p, port_setPhase]
  have hup : portUp p (portRaised p s) = true := by
    rw [portUp, portRaised, touches_endRoutineAt.leaves.bR, bR_setPhase (by decide), bR_putF_apart _ (by decide) (by decide) (.inl (by decide)),
      bR_putB_self _ (by decide)]
  have hreports : Reports (0x7000 + p) 0x707 (portRaised p s) (record (0x7000 + p) 0x707 0 0 (portRaised p s)) :=
    reports_record (by omega) (by decide)
  rw [portComesUp_eq]
  exact ⟨by rw [touches_record.port p, hphase], touches_record.leaves.bR.trans hup, hreports.after touches_portRaised⟩

/-! ### Eyes -/

/-- Five bytes in a word, the least significant first. -/
def fiveBytes (d : Nat → Nat) : Nat := (upTo 5).foldl (fun a i => a + d i * 2 ^ (8 * i)) 0

theorem fiveBytes_eq (d : Nat → Nat) : fiveBytes d = d 0 + d 1 * 256 + d 2 * 65536 + d 3 * 16777216 + d 4 * 4294967296 := by
  have hlist : upTo 5 = [0, 1, 2, 3, 4] := rfl
  rw [fiveBytes, hlist, List.foldl_cons, List.foldl_cons, List.foldl_cons, List.foldl_cons, List.foldl_cons, List.foldl_nil]
  norm_num

theorem fld_fiveBytes {d : Nat → Nat} (hd : ∀ k, d k < 256) {i : Nat} (hi : i < 5) : fld (w (fiveBytes d)) (8 * i + 7) (8 * i) = d i := by
  have h0 := hd 0
  have h1 := hd 1
  have h2 := hd 2
  have h3 := hd 3
  have h4 := hd 4
  rw [fld, w, BitVec.toNat_ofNat, fiveBytes_eq, Nat.shiftRight_eq_div_pow]
  interval_cases i <;> simp only [Nat.reduceMul, Nat.reducePow, Nat.reduceAdd, Nat.reduceSub] <;> omega

/-- The five eye widths of a port as its register shows them. -/
def eyeWord (eyes : List Nat) : Nat := fiveBytes (fun i => min 255 (nth 0 eyes i))

theorem eyesPut_eq {eyes : List Nat} (hlen : eyes.length = 5) : eyesPut p eyes s =
    if eyes.foldl min 255 < 16 && !(port p (setR (oPortEye p) (w (eyeWord eyes)) s)).eyeLow then
      record (0x7000 + p) 0x708 0 0
        (setPort p { port p (setR (oPortEye p) (w (eyeWord eyes)) s) with eyeLow := true } (setR (oPortEye p) (w (eyeWord eyes)) s))
    else if 20 ≤ eyes.foldl min 255 then
      setPort p { port p (setR (oPortEye p) (w (eyeWord eyes)) s) with eyeLow := false } (setR (oPortEye p) (w (eyeWord eyes)) s)
    else setR (oPortEye p) (w (eyeWord eyes)) s := if_neg (not_not_intro hlen)

theorem eyeRow_narrow {eyes : List Nat} (hup : portUp p s = true) (hlen : eyes.length = 5) (hleast : eyes.foldl min 255 < 16)
    (hlow : (port p s).eyeLow = false) : eyeRow p eyes s = record (0x7000 + p) 0x708 0 0
      (setPort p { port p (setR (oPortEye p) (w (eyeWord eyes)) s) with eyeLow := true } (setR (oPortEye p) (w (eyeWord eyes)) s)) := by
  have hlow' : (port p (setR (oPortEye p) (w (eyeWord eyes)) s)).eyeLow = false := by rw [port_setR, hlow]
  have hcond : (decide (eyes.foldl min 255 < 16) && !(port p (setR (oPortEye p) (w (eyeWord eyes)) s)).eyeLow) = true := by
    rw [decide_eq_true hleast, hlow', Bool.not_false, Bool.and_true]
  exact (if_pos hup).trans ((eyesPut_eq hlen).trans (if_pos hcond))

theorem eye_shown {eyes : List Nat} {x : Port} {i : Nat} (hi : i < 5) : fR (oPortEye p) (8 * i + 7) (8 * i)
    (record (0x7000 + p) 0x708 0 0 (setPort p x (setR (oPortEye p) (w (eyeWord eyes)) s))) = min 255 (nth 0 eyes i) := by
  rw [(touches_record.after touches_setPort).leaves.fR, fR, getR_setR]
  exact fld_fiveBytes (fun k => by omega) hi

theorem phase_eyesPut {eyes : List Nat} : (port p (eyesPut p eyes s)).phase = (port p s).phase := by
  rcases eq_or_ne eyes.length 5 with hlen | hlen
  · rw [eyesPut_eq hlen]
    split
    · rw [touches_record.port p, port_setPort, port_setR]
    · split
      · rw [port_setPort, port_setR]
      · exact congrArg Port.phase (port_setR ..)
  · exact congrArg (fun v => (port p v).phase) (if_pos hlen)

/-! ### Retraining -/

/-- The routine of `r` runs, open. -/
def OpenRuns (r : Routine) (s : State) : Prop :=
  ∃ q, s.ce.cur = some q ∧ q.ring = r.ring ∧ q.tag = r.tag ∧ q.opcode = r.opcode ∧ q.ended = none

theorem OpenRuns.of_runs {op : Nat} (h : Runs op r s) : OpenRuns r s := ⟨r, h.1, rfl, rfl, rfl, h.2.2.1⟩

theorem OpenRuns.of_ce (h : OpenRuns r s) (hce : t.ce = s.ce) : OpenRuns r t := by rwa [OpenRuns, hce]

/-- A change that leaves an open routine's ring, tag and opcode, and leaves it open. -/
theorem OpenRuns.map (h : OpenRuns r s) {f : Routine → Routine} (hcur : t.ce.cur = s.ce.cur.map f)
    (hf : ∀ q, q.opcode = r.opcode → q.ended = none → (f q).ring = q.ring ∧ (f q).tag = q.tag ∧ (f q).opcode = q.opcode ∧ (f q).ended = none) :
    OpenRuns r t := by
  obtain ⟨q, hq, hring, htag, hop, hend⟩ := h
  obtain ⟨fring, ftag, fop, fend⟩ := hf q hop hend
  exact ⟨f q, by rw [hcur, hq, Option.map_some], fring.trans hring, ftag.trans htag, fop.trans hop, fend⟩

/-- What a progress report at a port makes of a routine. -/
def progressedAt (op tg : Nat) (x : W40) (q : Routine) : Routine := if isOpen op q && q.target == tg then { q with progress := x } else q

theorem progressedAt_keeps (op tg : Nat) (x : W40) (q : Routine) : (progressedAt op tg x q).ring = q.ring ∧ (progressedAt op tg x q).tag = q.tag ∧
    (progressedAt op tg x q).opcode = q.opcode ∧ (progressedAt op tg x q).ended = q.ended := by
  rw [progressedAt]
  split <;> exact ⟨rfl, rfl, rfl, rfl⟩

theorem cur_progressRoutineAt {op tg : Nat} {x : W40} : (progressRoutineAt op tg x s).ce.cur = s.ce.cur.map (progressedAt op tg x) := rfl

theorem parked_progressRoutineAt {op tg : Nat} {x : W40} :
    (progressRoutineAt op tg x s).ce.parked = s.ce.parked.map (fun e => (e.1, progressedAt op tg x e.2)) := rfl

/-- The port has entered phase `n`; the routine that trains it does not show that yet. -/
def phaseEntered (p n : Nat) (s : State) : State := putF (oPortStatus p) 39 36 n (setPort p { port p s with phase := n, phaseAt := now s } s)

theorem setPhase_eq : setPhase p n s = progressRoutineAt 0x605 p (w n) (phaseEntered p n s) := rfl

theorem ce_phaseEntered : (phaseEntered p n s).ce = s.ce := (touches_putF.after touches_setPort).kept (·.ce) .ce

theorem OpenRuns.setPhase (h : OpenRuns r s) : OpenRuns r (setPhase p n s) := by
  rw [setPhase_eq]
  exact (h.of_ce ce_phaseEntered).map cur_progressRoutineAt fun q _ hend =>
    ⟨(progressedAt_keeps ..).1, (progressedAt_keeps ..).2.1, (progressedAt_keeps ..).2.2.1, (progressedAt_keeps ..).2.2.2.trans hend⟩

theorem OpenRuns.endRoutine {op st : Nat} {res : List W40} (h : OpenRuns r s) (hop : r.opcode ≠ op) : OpenRuns r (endRoutine op st res s) := by
  refine h.map (f := endedIf op st res s.time.tick) rfl fun q hq hend => ?_
  rw [endedIf, if_neg (by simp [isOpen, hq, hop])]
  exact ⟨rfl, rfl, rfl, hend⟩

theorem OpenRuns.handoverFail (h : OpenRuns r s) (hop : r.opcode ≠ 0x604) : OpenRuns r (handoverFail s) := by
  unfold Machine.handoverFail
  split
  · refine OpenRuns.endRoutine (h.of_ce ?_) hop
    exact (touches_putB.after ((Touches.foldS fun _ _ => touches_setOut).after Touches.pair)).kept (·.ce) .ce
  · exact h

theorem OpenRuns.pairLinkLost (h : OpenRuns r s) (hop : r.opcode ≠ 0x604) : OpenRuns r (pairLinkLost p s) := by
  unfold Machine.pairLinkLost
  have hhalt : OpenRuns r (cmpHalt { record (0x7000 + p) 0x70F 0 0 s with pair := { (record (0x7000 + p) 0x70F 0 0 s).pair with sendQ := [] } }) :=
    h.of_ce ((touches_cmpHalt.after (Touches.pair.after touches_record)).kept (·.ce) .ce)
  have hfail := hhalt.handoverFail hop
  dsimp only
  split
  · exact hfail.of_ce (touches_holdover.kept (·.ce) .ce)
  · exact hfail

theorem OpenRuns.portDown (h : OpenRuns r s) (hop : r.opcode ≠ 0x604) (htrain : training p s = false) : OpenRuns r (portDown p cause s) := by
  have hcleared : (setPort p { port p (portCleared p cause s) with missAt := some (now (portCleared p cause s)) } (portCleared p cause s)).ce = s.ce := by
    rw [portCleared, if_neg (by simp [htrain])]
    exact (touches_setPort.after (touches_portEmpty.after (touches_putB.after touches_putF))).kept (·.ce) .ce
  have hrecorded : OpenRuns r (record (0x7000 + p) 0x706 cause 0 (portStill p cause s)) :=
    (OpenRuns.setPhase (h.of_ce hcleared)).of_ce (touches_record.kept (·.ce) .ce)
  rw [portDown_eq]
  split
  · exact hrecorded.pairLinkLost hop
  · exact hrecorded

theorem OpenRuns.parks (h : OpenRuns r s) : Parks r (park s) := by
  obtain ⟨q, hq, hring, htag, hop, hend⟩ := h
  exact parks_park hq hring htag hop hend

theorem Parks.trainStart (h : Parks r s) : Parks r (trainStart p s) := by
  obtain ⟨hcur, i, x, hx, hring, htag, hop, hend⟩ := h
  have hfresh : (portFresh p s).ce = s.ce := (touches_lanesShow.after (touches_setPort.after touches_portEmpty)).kept (·.ce) .ce
  have hentered : (phaseEntered p 1 (portFresh p s)).ce = s.ce := ce_phaseEntered.trans hfresh
  obtain ⟨kring, ktag, kop, kend⟩ := progressedAt_keeps 0x605 p (w 1) x
  rw [trainStart_eq, setPhase_eq]
  refine ⟨by rw [cur_progressRoutineAt, hentered, hcur, Option.map_none], i, progressedAt 0x605 p (w 1) x, ?_, kring.trans hring, ktag.trans htag,
    kop.trans hop, kend.trans hend⟩
  rw [parked_progressRoutineAt, hentered, tget?_mapped, hx, Option.map_some]

theorem doRetrain_starts (h : Runs 0x605 r s) (hp : r.target = p) (hen : bR (oPortCtl p) 0 s = true) :
    doRetrain s = trainStart p (park (if portUp p s then portDown p 5 s else s)) := by
  subst hp
  rw [doRetrain, opRun_runs h]
  exact if_neg (by simp [hen])

end Sys2Proof.Machine
end

section
/-! PROOF. Time messages and the states of a port (O51). -/

set_option Elab.async false

namespace Sys2Proof.Machine

variable {s t u : State} {o p n cause : Nat} {r : Routine}

/-! ### Time messages -/

/-- What a port keeps of a peer's time message. -/
def sameHeard (x y : Port) : Prop :=
  x.lastMsg = y.lastMsg ∧ x.missAt = y.missAt ∧ x.missRun = y.missRun ∧ x.peerTx = y.peerTx ∧ x.peerRx = y.peerRx ∧ x.peerMseq = y.peerMseq

/-- From `s` to `t` port `p` keeps what it heard of its peer, and the peer's number. -/
def HeardKept (p : Nat) (s t : State) : Prop :=
  fR (oPortStatus p) 23 20 t = fR (oPortStatus p) 23 20 s ∧ sameHeard (port p t) (port p s)

theorem HeardKept.refl (p : Nat) (s : State) : HeardKept p s s := ⟨rfl, rfl, rfl, rfl, rfl, rfl, rfl⟩

theorem HeardKept.trans (h : HeardKept p s t) (k : HeardKept p t u) : HeardKept p s u := by
  obtain ⟨hdev, h1, h2, h3, h4, h5, h6⟩ := h
  obtain ⟨kdev, k1, k2, k3, k4, k5, k6⟩ := k
  exact ⟨kdev.trans hdev, k1.trans h1, k2.trans h2, k3.trans h3, k4.trans h4, k5.trans h5, k6.trans h6⟩

theorem HeardKept.ite {c : Prop} [Decidable c] (h : HeardKept p s t) (k : HeardKept p s u) : HeardKept p s (if c then t else u) := by
  split
  · exact h
  · exact k

theorem HeardKept.foldS {α : Type} {f : α → State → State} (hf : ∀ a s, HeardKept p s (f a s)) (l : List α) (s : State) :
    HeardKept p s (foldS f l s) := by
  induction l generalizing s with
  | nil => exact .refl p s
  | cons a l ih => exact (hf a s).trans (ih _)

theorem HeardKept.of_leaves {K : List Fld} (h : Touches K s t) (hregs : Leaves (oPortStatus p) s t) (hp : Fld.ports ∉ K := by decide) :
    HeardKept p s t := by
  refine ⟨hregs.fR, ?_⟩
  rw [h.port p hp]
  exact ⟨rfl, rfl, rfl, rfl, rfl, rfl⟩

theorem HeardKept.of_touches {K : List Fld} (h : Touches K s t) (hr : Fld.regs ∉ K := by decide) (hp : Fld.ports ∉ K := by decide) : HeardKept p s t :=
  .of_leaves h (h.leaves hr) hp

theorem heardKept_setPort {k : Nat} {x : Port} (h : sameHeard x (port k s)) : HeardKept p s (setPort k x s) := by
  refine ⟨touches_setPort.leaves.fR, ?_⟩
  rcases eq_or_ne p k with rfl | hk
  · rwa [port_setPort]
  · rw [port_setPort_ne s hk]
    exact ⟨rfl, rfl, rfl, rfl, rfl, rfl⟩

theorem oVbStat_ne_portStatus (p : Nat) : oPortStatus p ≠ oVbStat := by
  unfold oPortStatus oVbStat
  omega

theorem leaves_exportDrop (h : o ≠ oVbStat) (k : Nat) (fwd : Bool) (idx : Nat) (x : Tick) (s : State) : Leaves o s (exportDrop k fwd idx x s) := by
  unfold exportDrop
  cases fwd
  · exact (leaves_bump h _ _ _).trans touches_recordIf.leaves
  · exact (leaves_bump h _ _ _).trans touches_recordIf.leaves

theorem heardKept_toPort (k : Nat) (fwd : Bool) (idx : Nat) (it : Item) (s : State) : HeardKept p s (toPort k fwd idx it s) :=
  .ite (.of_leaves touches_exportDrop (leaves_exportDrop (oVbStat_ne_portStatus p) _ _ _ _ _)) (heardKept_setPort ⟨rfl, rfl, rfl, rfl, rfl, rfl⟩)

theorem heardKept_barSend (b : Nat) (ad : Tick) (s : State) : HeardKept p s (barSend b ad s) :=
  .ite (.foldS (fun k v => .ite (heardKept_toPort k _ _ _ v) (.refl p v)) _ _) (.refl p s)

theorem heardKept_barHeld (b : Nat) (s : State) : HeardKept p s (barHeld b s) := by
  unfold barHeld
  extract_lets q ad own
  have hset : HeardKept p s (setBarrier b { q with localAt := some ad, notices := own, sent := true } s) := .of_touches touches_setBarrier
  exact .ite ((hset.trans (heardKept_barSend b ad _)).trans (.of_touches touches_barCheck)) (.refl p s)

theorem heardKept_barsHeld (l : List (Nat × Barrier)) (s : State) : HeardKept p s (foldS (fun e v => barHeld e.1 v) l s) := by
  refine HeardKept.foldS (fun e v => ?_) l s
  exact heardKept_barHeld e.1 v

/-- The own time is acquired. -/
def acquiredShown (s : State) : State :=
  putB oTimeStatus 5 (!bR oTimeStatus 3 { s with time := { s.time with acquiring := false } })
    (putB oTimeStatus 6 true { s with time := { s.time with acquiring := false } })

theorem acquired_eq (s : State) : acquired s = foldS (fun e v => barHeld e.1 v) (acquiredShown s).barriers (acquiredShown s) := by
  unfold acquired acquiredShown
  dsimp only

theorem heardKept_acquired (s : State) : HeardKept p s (acquired s) := by
  have hput : ∀ (i : Nat) (b : Bool) (v : State), HeardKept p v (putB oTimeStatus i b v) := fun i b v =>
    .of_leaves touches_putB (leaves_putB (oTimeStatus_ne_portStatus p) i b v)
  have htime : HeardKept p s { s with time := { s.time with acquiring := false } } := .of_touches Touches.time
  have hshown : HeardKept p s (acquiredShown s) := (htime.trans (hput 6 true _)).trans (hput 5 _ _)
  rw [acquired_eq]
  exact hshown.trans (heardKept_barsHeld _ _)

theorem heardKept_acquire (off : Int) (s : State) : HeardKept p s (acquire off s) := by
  have hput : ∀ (i : Nat) (b : Bool) (v : State), HeardKept p v (putB oTimeStatus i b v) := fun i b v =>
    .of_leaves touches_putB (leaves_putB (oTimeStatus_ne_portStatus p) i b v)
  have hstep : ∀ (k : StepKind) (x : Int) (c : Bool) (v : State), HeardKept p v (requestStep k x c v) := fun k x c v => by
    unfold requestStep
    exact (HeardKept.trans (t := { v with time := { v.time with req := some { kind := k, phase := x, at_ := now v, sync := c } } }) (.refl p v)
      (hput _ _ _)).trans (.of_touches (touches_reasonsUpdate.after touches_stepQuiet))
  exact .ite (heardKept_acquired s) ((hput _ _ s).trans (hstep _ _ _ _))

theorem heardKept_acquireAt (off : Int) (hops : Nat) (s : State) : HeardKept p s (acquireAt off hops s) :=
  .ite (.refl p s) (.ite (.ite (.refl p s) (.of_touches (touches_record.after Touches.fed))) (heardKept_acquire off s))

theorem heardKept_track (off : Int) (s : State) : HeardKept p s (track off s) := by
  have hput : ∀ (i : Nat) (b : Bool) (v : State), HeardKept p v (putB oTimeStatus i b v) := fun i b v =>
    .of_leaves touches_putB (leaves_putB (oTimeStatus_ne_portStatus p) i b v)
  exact .ite (((hput _ _ s).trans (hput _ _ _)).trans (.of_touches touches_record)) (.of_touches touches_slewBegin)

theorem heardKept_offsetPut (off : Int) (hops : Nat) (s : State) : HeardKept p s (offsetPut off hops s) := by
  unfold offsetPut
  have hput : HeardKept p s (putF oTimeStatus 39 20 (unsx 20 (satI 20 off)) s) :=
    .of_leaves touches_putF (leaves_putF (oTimeStatus_ne_portStatus p) _ _ _ s)
  exact hput.trans (.ite (heardKept_acquireAt off hops _) (.ite (heardKept_track off _) (.refl p _)))

theorem oPortFlight_ne_portStatus (p : Nat) : oPortStatus p ≠ oPortFlight p := by
  unfold oPortStatus oPortFlight
  omega

theorem heardKept_flightPut (delay : Int) (s : State) : HeardKept p s (flightPut p delay s) := by
  have hflight : ∀ (hi lo x : Nat) (v : State), HeardKept p v (putF (oPortFlight p) hi lo x v) := fun hi lo x v =>
    .of_leaves touches_putF (leaves_putF (oPortFlight_ne_portStatus p) hi lo x v)
  have hshown : ∀ (b : Bool) (v : State), HeardKept p v (putB (oPortStatus p) 25 b v) := fun b v => by
    refine ⟨fR_putB_apart _ (by decide) (.inl (by decide)), ?_⟩
    rw [touches_putB.port p]
    exact ⟨rfl, rfl, rfl, rfl, rfl, rfl⟩
  unfold flightPut
  exact (hflight _ _ _ s).trans (.ite ((hshown _ _).trans (hflight _ _ _ _)) (.ite ((hflight _ _ _ _).trans (.of_touches touches_record)) (.refl p _)))

/-- The port as a time message leaves it. -/
def portHeard (x : TimeMsg) (k : Tick) (q : Port) : Port :=
  { q with lastMsg := some k, missRun := 0, missAt := some (plus k 1000), peerMseq := x.mseq % 2 ^ 20, peerTx := x.tx, peerRx := x.arrival }

/-- A time message is noted, and its source compared with the peer that is expected. -/
def messageNoted (p : Nat) (x : TimeMsg) (s : State) : State :=
  peerCheck p x.dev (putF (oPortStatus p) 23 20 x.dev (putF (oPortStatus p) 19 16 x.hops (setPort p (portHeard x (now s) (port p s)) s)))

theorem messageNoted_heard {x : TimeMsg} : fR (oPortStatus p) 23 20 (messageNoted p x s) = x.dev % 16 ∧
    sameHeard (port p (messageNoted p x s)) (portHeard x s.time.tick (port p s)) := by
  have hcheck : ∀ v : State, HeardKept p v (peerCheck p x.dev v) := fun v => by
    unfold peerCheck
    extract_lets bad was _ u
    have hu : HeardKept p v u := heardKept_setPort ⟨rfl, rfl, rfl, rfl, rfl, rfl⟩
    exact hu.trans (.of_touches touches_recordIf)
  obtain ⟨hdev, hport⟩ := hcheck (putF (oPortStatus p) 23 20 x.dev (putF (oPortStatus p) 19 16 x.hops (setPort p (portHeard x (now s) (port p s)) s)))
  have hheard : port p (putF (oPortStatus p) 23 20 x.dev (putF (oPortStatus p) 19 16 x.hops (setPort p (portHeard x (now s) (port p s)) s))) =
      portHeard x s.time.tick (port p s) := by
    rw [touches_putF.port p, touches_putF.port p, port_setPort]
    rfl
  refine ⟨hdev.trans ?_, hheard ▸ hport⟩
  rw [fR, getR_putF_self, fld_setFld _ _ (by decide) (by decide)]
  rfl

theorem timeMessageRow_heard {x : TimeMsg} (hup : portUp p s = true) : HeardKept p (messageNoted p x s) (timeMessageRow p x s) := by
  have hhops : ∀ (c : Bool) (k : Nat) (v : State), HeardKept p v (if c then putF oTimeStatus 15 12 k v else v) := fun c k v =>
    .ite (.of_leaves touches_putF (leaves_putF (oTimeStatus_ne_portStatus p) _ _ _ v)) (.refl p v)
  unfold timeMessageRow
  rw [if_neg (by simp [hup])]
  extract_lets q heard checked up hops
  have hnoted : checked = messageNoted p x s := rfl
  rw [← hnoted]
  have hchecked : HeardKept p checked hops := hhops up (x.hops + 1) checked
  split
  · exact (hchecked.trans (heardKept_flightPut _ _)).trans (.ite (heardKept_offsetPut _ _ _) (.refl p _))
  · exact hchecked

/-! ### The port rows together -/

theorem Touches.frame_train (h : Touches [.regs, .ce, .ports] s t) : t = { s with regs := t.regs, ce := t.ce, ports := t.ports } := h.frame

theorem Touches.frame_eyes (h : Touches [.regs, .log, .ports] s t) : t = { s with regs := t.regs, log := t.log, ports := t.ports } := h.frame

theorem count_missNoted {x : Tick} (h : fR (oPortCounts p) 9 0 s < 2 ^ 10 - 1) : fR (oPortCounts p) 9 0 (missNoted p x s) = fR (oPortCounts p) 9 0 s + 1 := by
  have hset (y : Port) : fR (oPortCounts p) 9 0 (setPort p y s) = fR (oPortCounts p) 9 0 s := touches_setPort.leaves.fR
  rw [missNoted, fR_bump_self (by rw [hset]; exact h) (by decide) (by decide), hset]

theorem portCtlWrite_defers {m : Nat} {v : W40} (h : Reaches .portCtl [p] m (oPortCtl p) v s) :
    hostWrite m (oPortCtl p) v s = { s with agenda := s.agenda ++ [(nextFrame s, .portEn p (bit v 0))] } := by
  obtain ⟨row, -, hk, hw⟩ := hostWrite_reaches h
  rw [hw]
  simp only [regEffect, effectA, hk, nth]
  rfl

theorem training_iff : training p s = true ↔ 1 ≤ (port p s).phase ∧ (port p s).phase ≤ 5 := by
  rw [training, Bool.and_eq_true, decide_eq_true_eq, decide_eq_true_eq]

/-- A phase of training that completes leads to the next, the last one to UP. -/
theorem phaseCompleteRow_completes (hp : p < 6) (eyes : List Nat) (h1 : 1 ≤ (port p s).phase) (h5 : (port p s).phase ≤ 5) (hover : phaseOver p s = false)
    (hgood : (port p s).phase = 5 → 1024 ≤ (port p s).goodRun) : Touches [.regs, .log, .ce, .ports] s (phaseCompleteRow p [] eyes s) ∧
    (port p (phaseCompleteRow p [] eyes s)).phase = (port p s).phase + 1 ∧
    ((port p s).phase = 5 → portUp p (phaseCompleteRow p [] eyes s) = true ∧ Reports (0x7000 + p) 0x707 s (phaseCompleteRow p [] eyes s)) := by
  have htrain : training p s = true := training_iff.2 ⟨h1, h5⟩
  have hcases : (port p s).phase = 1 ∨ (port p s).phase = 2 ∨ (port p s).phase = 3 ∨ (port p s).phase = 4 ∨ (port p s).phase = 5 := by omega
  rcases hcases with hq | hq | hq | hq | hq
  · rw [phaseCompleteRow_clock htrain hover hq, port_setPhase, hq]
    exact ⟨(touches_setPhase.after touches_putB).mono, rfl, fun h => absurd h (by decide)⟩
  · rw [phaseCompleteRow_seed htrain hover hq, port_setPhase, hq]
    exact ⟨(touches_setPhase.after touches_seedLanes).mono, rfl, fun h => absurd h (by decide)⟩
  · rw [phaseCompleteRow_eyes htrain hover hq, port_setPhase, hq]
    exact ⟨(touches_setPhase.after touches_eyesPut).mono, rfl, fun h => absurd h (by decide)⟩
  · rw [phaseCompleteRow_aligned htrain hover hq, port_setPhase, hq]
    exact ⟨(touches_setPhase.after touches_lanesShow).mono, rfl, fun h => absurd h (by decide)⟩
  · obtain ⟨hphase, hup, hreports⟩ := portComesUp_up (s := eyesPut p eyes s) hp
    rw [phaseCompleteRow_up htrain hover hq (hgood hq), hq]
    exact ⟨(touches_portComesUp.after touches_eyesPut).mono, hphase, fun _ => ⟨hup, hreports.after touches_eyesPut⟩⟩

/-- A narrow eye is noted, with its record. -/
theorem eyeNarrow_shown {eyes : List Nat} {x : Port} (hp : p < 6) :
    Touches [.regs, .log, .ports] s (record (0x7000 + p) 0x708 0 0 (setPort p x (setR (oPortEye p) (w (eyeWord eyes)) s))) ∧
    Logged (0x7000 + p) 0x708 0 0 s (record (0x7000 + p) 0x708 0 0 (setPort p x (setR (oPortEye p) (w (eyeWord eyes)) s))) := by
  have hset : Touches [.regs, .ports] s (setPort p x (setR (oPortEye p) (w (eyeWord eyes)) s)) := touches_setPort.after touches_setR
  have hlogged := logged_record (0x7000 + p) 0x708 0 0 (setPort p x (setR (oPortEye p) (w (eyeWord eyes)) s)) (by omega) (by decide) (by decide)
  exact ⟨(touches_record.after hset).mono, hlogged.after hset⟩

theorem doRetrain_retrains (h : Runs 0x605 r s) (htarget : r.target = p) (hp : p < 6) (hen : bR (oPortCtl p) 0 s = true)
    (hphase : portUp p s = true → (port p s).phase = 6) : Touches portFrame s (doRetrain s) ∧ Parks r (doRetrain s) ∧
    (port p (doRetrain s)).phase = 1 ∧ (portUp p s = true → Reports (0x7000 + p) 0x706 s (doRetrain s)) := by
  have hruns : OpenRuns r s := .of_runs h
  rw [doRetrain_starts h htarget hen]
  rcases hup : portUp p s with _ | _
  · rw [if_neg (by simp)]
    exact ⟨(touches_trainStart.after touches_park).mono, hruns.parks.trainStart, trainStart_phase.1, fun hf => (nomatch hf)⟩
  · have htrain : training p s = false := by
      rw [← Bool.not_eq_true, training_iff, hphase hup]
      omega
    obtain ⟨-, -, -, hreports⟩ := portDown_down (s := s) (p := p) (cause := 5) hp (by decide)
    rw [if_pos rfl]
    exact ⟨(touches_trainStart.after (touches_park.after touches_portDown)).mono, (hruns.portDown (by simp [h.2.1]) htrain).parks.trainStart,
      trainStart_phase.1, fun _ => hreports.before (touches_trainStart.after touches_park)⟩

/-- Settles O51: what goes down does so by `portDown_down`, and what a time message brings stays by `HeardKept`. -/
theorem portStates : Obligations.PortStates := by
  unfold Obligations.PortStates
  refine fun p s hp => ⟨fun hopen => ⟨fun x hup => ?_, fun hup hdue => ⟨fun hrun hcount => ?_, fun hrun => ?_⟩, fun hlost => ?_, fun hen hphase => ?_,
    fun eyes h1 h5 hover hgood => ?_, fun h1 h5 hover => ?_, fun eyes hup hlen hleast hlow => ?_⟩, fun m v h => .of_eq (portCtlWrite_defers h) rfl,
    fun r h htarget hen hphase => ?_⟩
  · obtain ⟨hdev, h1, h2, h3, h4, h5, h6⟩ := (timeMessageRow_heard (x := x) hup)
    obtain ⟨kdev, k1, k2, k3, k4, k5, k6⟩ := messageNoted_heard (p := p) (x := x) (s := s)
    refine .of_eq (clocked_eq hopen) ⟨(touches_timeMessageRow.mono (L := [.regs, .time, .clock, .log, .seqs, .barriers, .ports, .fed])).frame,
      h1.trans k1, h2.trans k2, h3.trans k3, h4.trans k4, h5.trans k5, h6.trans k6, hdev.trans kdev⟩
  · refine .of_eq ((clocked_eq hopen).trans (heartbeatRow_misses hup hdue hrun)) ⟨(touches_missNoted.mono (L := [.regs, .ports])).frame,
      fun k hk => port_missNoted_ne hk, port_missNoted, count_missNoted hcount⟩
  · obtain ⟨hup', hphase', hcause, hreports⟩ := down_or_holdover (cause := 3) (c := isUpstream p (portDown p 3 (missNoted p _ s)))
      (touches_missNoted (p := p) (x := (port p s).missAt.getD (port p s).phaseAt)) hp (by decide)
    refine .of_eq ((clocked_eq hopen).trans (heartbeatRow_drops hup hdue hrun)) ⟨hup', hphase', hcause, hreports, ?_⟩
    exact ((touches_down_or_holdover.after touches_missNoted).mono (L := portFrame)).frame_port
  · obtain ⟨c, hrow⟩ := clockLossRow_drops hlost
    have hput : Touches [.regs] s (putB (oPortStatus p) 26 false s) := touches_putB
    obtain ⟨hup', hphase', hcause, hreports⟩ := down_or_holdover (cause := 1) (c := c) hput hp (by decide)
    refine .of_eq ((clocked_eq hopen).trans hrow) ⟨⟨hup', hphase', hcause, hreports, ?_⟩, ?_⟩
    · exact ((touches_down_or_holdover.after hput).mono (L := portFrame)).frame_port
    · rw [clock_down_or_holdover (by decide), bR_putB_self _ (by decide)]
  · have hrow : autostartRow p s = trainStart p s := if_pos (by simp [hen, hphase])
    exact .of_eq ((clocked_eq hopen).trans hrow) ⟨(touches_trainStart.mono (L := [.regs, .ce, .ports])).frame_train, trainStart_phase⟩
  · obtain ⟨htouches, hphase', hup'⟩ := phaseCompleteRow_completes hp eyes h1 h5 hover hgood
    exact .of_eq (clocked_eq hopen) ⟨htouches.frame, hphase', hup'⟩
  · have htrain : training p s = true := training_iff.2 ⟨h1, h5⟩
    have hrow : trainTimeoutRow p s = portDown p 7 (record (0x7000 + p) 0xD 0 0 s) := if_pos (by simp [htrain, hover])
    have hrec : Touches [.log] s (record (0x7000 + p) 0xD 0 0 s) := touches_record
    obtain ⟨hup', hphase', hcause, hreports⟩ := (portDown_down (p := p) (cause := 7) hp (by decide)).after hrec
    have htimeout : Reports (0x7000 + p) 0xD s (record (0x7000 + p) 0xD 0 0 s) := reports_record (by omega) (by decide)
    exact .of_eq ((clocked_eq hopen).trans hrow) ⟨⟨hup', hphase', hcause, hreports, ((touches_portDown.after hrec).mono (L := portFrame)).frame_port⟩,
      htimeout.before touches_portDown⟩
  · obtain ⟨htouches, hlogged⟩ := eyeNarrow_shown (s := s) (eyes := eyes) hp
    exact .of_eq ((clocked_eq hopen).trans (eyeRow_narrow hup hlen hleast hlow)) ⟨htouches.frame_eyes, hlogged, fun i hi => eye_shown hi⟩
  · obtain ⟨htouches, hparks, hphase', hreports⟩ := doRetrain_retrains h htarget hp hen hphase
    exact .of_eq rfl ⟨htouches.frame_port, hparks, hphase', hreports⟩

end Sys2Proof.Machine
end

section
/-! PROOF. Frames and items (O50). -/

set_option Elab.async false

namespace Sys2Proof.Machine

variable {s t u : State} {o p n l k e : Nat} {ws : List W40} {x : RxFrame} {it : Item}

/-! ### Frames sent -/

theorem frameTransmitRow_words {b : Bool} (hctl : bR (oPortCtl p) 0 s = true) (hstart : fullMod 5 s = true) (hcount : s.time.counting = true)
    (hphase : (port p s).phase = 0 ∧ b = false ∨ (port p s).phase = 4 ∧ b = false ∨ (port p s).phase = 5 ∧ b = true) :
    frameTransmitRow p s = setPort p { port p s with tx := frameWords ((fullTime s).toNat / 5) 15 b 0 [] } s := by
  unfold frameTransmitRow
  rw [if_neg (by simp [hctl, hstart, hcount])]
  rcases hphase with ⟨h, rfl⟩ | ⟨h, rfl⟩ | ⟨h, rfl⟩ <;> simp only [h]

theorem frameTransmitRow_symbols (hctl : bR (oPortCtl p) 0 s = true) (hstart : fullMod 5 s = true) (hcount : s.time.counting = true)
    (hphase : (port p s).phase = 1 ∨ (port p s).phase = 2 ∨ (port p s).phase = 3) :
    frameTransmitRow p s = setPort p { port p s with tx := [], txAt := fullTime s } s := by
  unfold frameTransmitRow
  rw [if_neg (by simp [hctl, hstart, hcount])]
  rcases hphase with h | h | h <;> simp only [h]

theorem fullTime_toNat : (fullTime s).toNat = s.time.epoch.toNat * 2 ^ 40 + s.time.tick.toNat := by
  have hepoch := s.time.epoch.isLt
  have htick := s.time.tick.isLt
  rw [fullTime, BitVec.toNat_ofNat, Nat.mod_eq_of_lt (by omega)]

theorem onlyPort_setPort (y : Port) : setPort p y s = { s with ports := (setPort p y s).ports } ∧ (∀ j, j ≠ p → port j (setPort p y s) = port j s) :=
  ⟨rfl, fun _ hj => port_setPort_ne s hj y⟩

theorem usable_setPort (y : Port) (h : y.lastMsg = (port p s).lastMsg) : usable p (setPort p y s) = usable p s := by
  have hport : (port p (setPort p y s)).lastMsg = (port p s).lastMsg := by rw [port_setPort, h]
  have hregs : (setPort p y s).regs = s.regs := rfl
  have hlink : fedLink p (setPort p y s) = fedLink p s := rfl
  have hpeer : fedPeer p (setPort p y s) = fedPeer p s := rfl
  rw [usable, usable, hport, hlink, hpeer, portUp, portUp, bR_of_regs hregs, bR_of_regs hregs, fR_of_regs hregs]

/-- A port that has no data and no segment, but item `it` to send. -/
theorem sendUp_item (husable : usable p s = true) (hus : fullMod 1000 s = false) (hpair : bR oPairStatus 35 s = false) (hfed : federated s = false)
    (hdata : (port p s).data = []) (htseg : (port p s).tseg = []) (hout : (port p s).out = [it]) (hready : notBefore it.posted s.time.tick = false)
    (hfits : notBefore (plus it.posted 5) s.time.tick = true) : sendUp p s =
      setPort p { port p s with tx := frameWords ((fullTime s).toNat / 5) 15 true 0 [itemPlace s.time.tick it], out := [] }
        (setPort p (port p s) s) := by
  have hload : pairLoad p s = s := if_neg (by simp [hpair])
  have hmirror : mirrorLoad p s = setPort p (port p s) s := by
    have hcleared : { port p s with data := (port p s).data.filter (fun d => !d.mirror) } = port p s := by rw [hdata, List.filter_nil, ← hdata]
    exact (if_pos (by simp [hfed])).trans (congrArg (fun y => setPort p y s) hcleared)
  have husable' : usable p (setPort p (port p s) s) = true := (usable_setPort _ rfl).trans husable
  have hnow : now s = s.time.tick := rfl
  have hpair' : bR oPairStatus 35 (setPort p (port p s) s) = false := hpair
  have hfull : fullTime (setPort p (port p s) s) = fullTime s := rfl
  have hsort : ∀ v : State, rankSort v [it] = [it] := fun _ => rfl
  unfold sendUp
  simp only [hload, hus, hmirror, husable', hnow, hpair', hfull, hsort, port_setPort, hout, htseg, hdata, hready, hfits, List.filter_cons, List.filter_nil,
    Bool.not_false, if_true, if_false, Bool.false_eq_true, List.take_nil, List.drop_nil, List.take_succ_cons, List.drop_succ_cons, foldS, List.map_cons,
    List.map_nil, List.append_nil, List.isEmpty_nil, List.headD_nil, Bool.false_and]

/-! ### The parity lane -/

theorem nth_eq_getD {α : Type} (d : α) : ∀ (m : List α) (i : Nat), nth d m i = m.getD i d
  | [], _ => rfl
  | _ :: _, 0 => rfl
  | _ :: m, i + 1 => nth_eq_getD d m i

theorem nth_map_upTo {α : Type} (d : α) (f : Nat → α) {m i : Nat} (h : i < m) : nth d ((upTo m).map f) i = f i := by
  rw [nth_eq_getD, List.getD_eq_getElem _ _ (by simpa [upTo] using h), List.getElem_map]
  simp [upTo]

theorem frameByte_lt (b : Nat) : frameByte ws b < 256 := Nat.mod_lt _ (by decide)

theorem frameSymbol_data (hk : 1 ≤ k) (hl : l < 4) : frameSymbol ws l k = frameByte ws (4 * (k - 1) + l) := by
  unfold frameSymbol
  dsimp only
  rw [if_neg (by omega), if_pos hl]

theorem frameSymbol_parity (hk : 1 ≤ k) :
    frameSymbol ws 4 k = frameSymbol ws 0 k ^^^ frameSymbol ws 1 k ^^^ frameSymbol ws 2 k ^^^ frameSymbol ws 3 k := by
  have hdata (j : Nat) (hj : j < 4) := frameSymbol_data (ws := ws) hk hj
  rw [hdata 0 (by decide), hdata 1 (by decide), hdata 2 (by decide), hdata 3 (by decide)]
  exact if_neg (by omega)

theorem frameSymbol_lt (hk : 1 ≤ k) (hl : l < 5) : frameSymbol ws l k < 256 := by
  have hdata : ∀ j, j < 4 → frameSymbol ws j k < 2 ^ 8 := fun j hj => by
    rw [frameSymbol_data hk hj]
    exact frameByte_lt _
  rcases Nat.lt_or_ge l 4 with h | h
  · exact hdata l h
  · obtain rfl : l = 4 := by omega
    rw [frameSymbol_parity hk]
    exact Nat.xor_lt_two_pow (Nat.xor_lt_two_pow (Nat.xor_lt_two_pow (hdata 0 (by decide)) (hdata 1 (by decide))) (hdata 2 (by decide))) (hdata 3 (by decide))

/-- A frame received with lane `e` erased. -/
def erasedLanes (ws : List W40) (e : Nat) : List (List (Option Nat)) :=
  (upTo 5).map (fun i => (upTo 16).map (fun j => if i = e then none else some (frameSymbol ws i j)))

theorem rxSymbol_erased (hx : x.lanes = erasedLanes ws e) {i : Nat} (hi : i < 5) (hk : k < 16) :
    rxSymbol [] x i k = if i = e then none else some (frameSymbol ws i k) := by
  rw [rxSymbol, if_neg (by simp), hx, erasedLanes, nth_map_upTo _ _ hi, nth_map_upTo _ _ hk]

/-- A byte that was not lost is the symbol. -/
theorem rxByte_received (hx : x.lanes = erasedLanes ws e) (h1 : 1 ≤ k) (hk : k < 16) (hl : l < 4) (hne : l ≠ e) : rxByte [] x l k = frameSymbol ws l k := by
  have hlt : frameSymbol ws l k < 256 := frameSymbol_lt h1 (by omega)
  rw [rxByte, rxSymbol_erased hx (by omega) hk, if_neg hne]
  exact Nat.mod_eq_of_lt hlt

/-- The byte of lane `i` as the rebuild of another lane reads it. -/
theorem rxSymbol_byte (hx : x.lanes = erasedLanes ws e) (h1 : 1 ≤ k) (hk : k < 16) {i : Nat} (hi : i < 5) (hne : i ≠ e) :
    (rxSymbol [] x i k).getD 0 % 256 = frameSymbol ws i k := by
  have hlt : frameSymbol ws i k < 256 := frameSymbol_lt h1 hi
  rw [rxSymbol_erased hx hi hk, if_neg hne, Option.getD_some, Nat.mod_eq_of_lt hlt]

/-- The XOR of the lanes but one, where lane 4 is the XOR of the data lanes, is the lane left out. -/
theorem rebuild_xor {b : Nat → Nat} (hb : b 4 = b 0 ^^^ b 1 ^^^ b 2 ^^^ b 3) (hl : l < 4) :
    [0, 1, 2, 3, 4].foldl (fun a i => if i = l then a else a ^^^ b i) 0 = b l := by
  refine Nat.eq_of_testBit_eq fun j => ?_
  interval_cases l <;> simp [hb, Nat.testBit_xor, Bool.xor_comm, Bool.xor_left_comm]

theorem rxByte_rebuilt (hx : x.lanes = erasedLanes ws l) (h1 : 1 ≤ k) (hk : k < 16) (hl : l < 4) : rxByte [] x l k = frameSymbol ws l k := by
  rw [rxByte, rxSymbol_erased hx (by omega) hk, if_pos rfl]
  dsimp only
  rw [← rebuild_xor (b := fun i => frameSymbol ws i k) (frameSymbol_parity h1) hl]
  refine List.foldl_ext _ _ _ fun a i hi => ?_
  split
  · rfl
  · next hne => rw [rxSymbol_byte hx h1 hk (List.mem_range.1 hi) hne]

/-! ### Frames received -/

theorem leaves_portDown (h : o ≠ oPortStatus p) (hpair : o ≠ oPairStatus) (htime : o ≠ oTimeStatus) (cause : Nat) (s : State) :
    Leaves o s (portDown p cause s) := by
  have hcleared : Leaves o s (portCleared p cause s) := by
    unfold portCleared portEmpty
    have hended : Leaves o s (if training p s then endRoutineAt 0x605 p 13 [] s else s) := .ite touches_endRoutineAt.leaves rfl
    exact (((hended.trans (leaves_putF h _ _ _ _)).trans (leaves_putB h _ _ _)).trans touches_setPort.leaves).trans (leaves_putB h _ _ _)
  have hstill : Leaves o s (record (0x7000 + p) 0x706 cause 0 (portStill p cause s)) := by
    unfold portStill
    exact ((hcleared.trans touches_setPort.leaves).trans (leaves_setPhase h _)).trans touches_record.leaves
  rw [portDown_eq]
  exact .ite (hstill.trans (leaves_pairLinkLost hpair htime _)) hstill

/-- From `s` to `t` the count of discarded frames of port `p` stays. -/
def SameDiscards (p : Nat) (s t : State) : Prop := fR (oPortCounts p) 29 20 t = fR (oPortCounts p) 29 20 s

theorem SameDiscards.trans (h : SameDiscards p s t) (k : SameDiscards p t u) : SameDiscards p s u := Eq.trans k h

theorem SameDiscards.ite {c : Prop} [Decidable c] (h : SameDiscards p s t) (k : SameDiscards p s u) : SameDiscards p s (if c then t else u) := by
  split
  · exact h
  · exact k

theorem SameDiscards.of_leaves (h : Leaves (oPortCounts p) s t) : SameDiscards p s t := h.fR

theorem oPortCounts_ne (p : Nat) : oPortCounts p ≠ oPortStatus p ∧ oPortCounts p ≠ oPairStatus ∧ oPortCounts p ≠ oTimeStatus ∧
    oPortCounts p ≠ oPortCorr p ∧ oPortCounts p ≠ oFedCounts := by
  unfold oPortCounts oPortStatus oPairStatus oTimeStatus oPortCorr oFedCounts
  omega

theorem sameDiscards_lanesShow (s : State) : SameDiscards p s (lanesShow p s) := by
  obtain ⟨hstatus, -⟩ := oPortCounts_ne p
  exact .of_leaves ((leaves_putB hstatus _ _ _).trans (leaves_putF hstatus _ _ _ _))

theorem sameDiscards_lanesGone (ls : List Nat) (s : State) : SameDiscards p s (lanesGone p ls s) := by
  have hset : ∀ y : Port, SameDiscards p s (setPort p y s) := fun _ => .of_leaves touches_setPort.leaves
  have hbump : ∀ v : State, SameDiscards p v (bumpBy (oPortCounts p) 39 30 ls.length v) := fun v =>
    fR_putF_apart _ (by decide) (by decide) (.inl (by decide))
  exact ((hset _).trans (sameDiscards_lanesShow _)).trans (hbump _)

theorem sameDiscards_laneLost (s : State) : SameDiscards p s (laneLost p l s) :=
  ((sameDiscards_lanesGone [l] s).trans (.of_leaves touches_seedLanes.leaves)).trans (.of_leaves touches_record.leaves)

theorem sameDiscards_portDown (cause : Nat) (s : State) : SameDiscards p s (portDown p cause s) := by
  obtain ⟨hstatus, hpair, htime, -⟩ := oPortCounts_ne p
  exact .of_leaves (leaves_portDown hstatus hpair htime cause s)

/-- The lanes that a frame shows may be lost or return, and a second one that is lost takes the port down: no frame is discarded by that. -/
theorem sameDiscards_laneChange (s : State) : SameDiscards p s (laneChange p x s) := by
  unfold laneChange
  extract_lets q faults bad ok q' v
  have hv : SameDiscards p s v := .of_leaves touches_setPort.leaves
  refine hv.trans ?_
  split
  · refine .ite (SameDiscards.trans ?_ (.of_leaves touches_record.leaves)) rfl
    exact SameDiscards.trans (.of_leaves touches_setPort.leaves) (sameDiscards_lanesShow _)
  · rfl
  · exact sameDiscards_laneLost v
  · exact (sameDiscards_lanesGone _ v).trans (sameDiscards_portDown 2 _)

/-- The rebuilt symbols of a frame are counted. -/
def frameCorrected (p : Nat) (x : RxFrame) (s : State) : State := bumpBy (oPortCorr p) 39 0 (rxFrame p x s).rebuilt s

theorem frameReceiveRow_bad (hctl : bR (oPortCtl p) 0 s = true) (hphase : (port p s).phase = 5) (h : (rxFrame p x (laneChange p x s)).twoErasures = true) :
    frameReceiveRow p x s = frameDiscard p (rxFrame p x (laneChange p x s)).words (frameCorrected p x (laneChange p x s)) := by
  have hlane : (if (port p s).phase = 5 ∨ (port p s).phase = 6 then laneChange p x s else s) = laneChange p x s := if_pos (.inl hphase)
  unfold frameReceiveRow
  dsimp only
  rw [if_neg (by simp [hctl, hphase]), hlane, if_pos (by simp [h])]
  rfl

theorem frameReceiveRow_good (hctl : bR (oPortCtl p) 0 s = true) (hphase : (port p s).phase = 5)
    (h : (rxFrame p x (laneChange p x s)).twoErasures = false) (hk : (rxFrame p x (laneChange p x s)).kOk = true)
    (hcrc : frameCrc (rxFrame p x (laneChange p x s)).words = fld (nth 0 (rxFrame p x (laneChange p x s)).words 2) 31 0) :
    frameReceiveRow p x s = frameGood p x.arrival (rxFrame p x (laneChange p x s)).words (frameCorrected p x (laneChange p x s)) := by
  have hlane : (if (port p s).phase = 5 ∨ (port p s).phase = 6 then laneChange p x s else s) = laneChange p x s := if_pos (.inl hphase)
  unfold frameReceiveRow
  dsimp only
  rw [if_neg (by simp [hctl, hphase]), hlane, if_neg (by simp [h, hk, hcrc])]
  rfl

theorem touches_frameCorrected : Touches [.regs] s (frameCorrected p x s) := touches_bumpBy

theorem sameDiscards_frameCorrected (s : State) : SameDiscards p s (frameCorrected p x s) := by
  obtain ⟨-, -, -, hcorr, -⟩ := oPortCounts_ne p
  exact .of_leaves (leaves_putF hcorr _ _ _ _)

/-- A frame that is discarded counts. -/
def frameCounted (p : Nat) (s : State) : State :=
  recordIf (fR (oPortCounts p) 29 20 s = 0) (0x7000 + p) 0x702 0 0 (bump (oPortCounts p) 29 20 s)

theorem frameDiscard_eq : frameDiscard p ws s = bumpBy oFedCounts 19 0 (mirrorsLost p ws s)
    (setPort p { port p (frameCounted p s) with goodRun := 0, rxDown := 0, discarded := true } (frameCounted p s)) := rfl

theorem frameDiscard_counts (h : fR (oPortCounts p) 29 20 s < 2 ^ 10 - 1) :
    fR (oPortCounts p) 29 20 (frameDiscard p ws s) = fR (oPortCounts p) 29 20 s + 1 ∧
    port p (frameDiscard p ws s) = { port p s with goodRun := 0, rxDown := 0, discarded := true } := by
  obtain ⟨-, -, -, -, hfed⟩ := oPortCounts_ne p
  have hcounted : fR (oPortCounts p) 29 20 (frameCounted p s) = fR (oPortCounts p) 29 20 s + 1 := by
    rw [frameCounted, touches_recordIf.leaves.fR, fR_bump_self h (by decide) (by decide)]
  have hport : port p (frameCounted p s) = port p s := (touches_recordIf.after touches_bump).port p
  have hset (y : Port) : Leaves (oPortCounts p) (frameCounted p s) (setPort p y (frameCounted p s)) := touches_setPort.leaves
  rw [frameDiscard_eq]
  refine ⟨?_, ?_⟩
  · exact ((hset _).trans (leaves_putF hfed _ _ _ _)).fR.trans hcounted
  · rw [touches_bumpBy.port p, port_setPort, hport]

/-- A good frame in the last phase of training. -/
theorem frameGood_handshake {k : Tick} (hphase : (port p s).phase = 5) :
    bR (oPortStatus p) 24 (frameGood p k ws s) = bit (nth 0 ws 2) 35 ∧
    port p (frameGood p k ws s) = { port p s with discarded := false, goodRun := if bit (nth 0 ws 2) 35 then (port p s).goodRun + 1 else 0 } := by
  have hport : port p (putB (oPortStatus p) 24 (bit (nth 0 ws 2) 35) (setPort p { port p s with discarded := false } s)) =
      { port p s with discarded := false } := by rw [touches_putB.port p, port_setPort]
  unfold frameGood
  dsimp only
  rw [hport, if_pos hphase]
  exact ⟨touches_setPort.leaves.bR.trans (bR_putB_self _ (by decide)), port_setPort ..⟩

/-! ### Items released -/

/-- The item has left its port. -/
def itemTaken (p : Nat) (it : Item) (s : State) : State := setPort p { port p s with rx := (port p s).rx.erase it } s

theorem itemReleaseRow_own (hfirst : firstItem s (port p s).rx none = some it) (hfed : federated s = true) (husable : usable p s = true)
    (hsrc : it.src = devNum s) : itemReleaseRow p s = bump oVbStat 11 0 (itemTaken p it s) := by
  have husable' : usable p (itemTaken p it s) = true :=
    (usable_setPort { port p s with rx := (port p s).rx.erase it } rfl).trans husable
  have hfed' : federated (itemTaken p it s) = true := hfed
  have hsrc' : it.src = devNum (itemTaken p it s) := hsrc
  rw [itemReleaseRow, hfirst]
  unfold releaseItem
  dsimp only
  rw [show setPort p { port p s with rx := (port p s).rx.erase it } s = itemTaken p it s from rfl,
    if_neg (by simp [hfed', husable']), if_pos hsrc']

/-- Another device's verdict goes to the bus. -/
def itemToBus (p : Nat) (it : Item) (s : State) : State :=
  { forwardItem p it.release it (itemTaken p it s) with
    bus := (forwardItem p it.release it (itemTaken p it s)).bus ++ [{ at_ := it.release, word := it.word, ref := it.ref, remote := true }] }

theorem itemReleaseRow_other (hfirst : firstItem s (port p s).rx none = some it) (hfed : federated s = true) (husable : usable p s = true)
    (hsrc : it.src ≠ devNum s) (hiso : bR oFedStatus 1 s = false) (hkind : it.kind ≠ 2) : itemReleaseRow p s = itemToBus p it s := by
  have husable' : usable p (itemTaken p it s) = true :=
    (usable_setPort { port p s with rx := (port p s).rx.erase it } rfl).trans husable
  have hfed' : federated (itemTaken p it s) = true := hfed
  have hiso' : bR oFedStatus 1 (itemTaken p it s) = false := hiso
  rw [itemReleaseRow, hfirst]
  unfold releaseItem
  dsimp only
  rw [show setPort p { port p s with rx := (port p s).rx.erase it } s = itemTaken p it s from rfl,
    if_neg (by simp [hfed', husable']), if_neg (show it.src ≠ devNum (itemTaken p it s) from hsrc), if_neg (by simp [hiso']), if_neg hkind, itemToBus]

theorem port_forwardItem {z : Tick} : port p (forwardItem p z it s) = port p s := by
  have hport : ∀ (j : Nat) (fwd : Bool) (idx : Nat) (y : Item) (v : State), j ≠ p → port p (toPort j fwd idx y v) = port p v := fun j fwd idx y v hj => by
    unfold toPort
    split
    · exact touches_exportDrop.port p
    · exact port_setPort_ne v (Ne.symm hj) _
  unfold forwardItem
  split
  · rfl
  · refine foldS_kept (π := port p) fun j _ v => ?_
    split
    · next h => exact hport j _ _ _ v (by simp only [Bool.and_eq_true, bne_iff_ne, ne_eq] at h; exact h.1.1)
    · rfl

theorem itemToBus_goes : Touches [.regs, .log, .barriers, .bus, .ports] s (itemToBus p it s) ∧
    (itemToBus p it s).bus = s.bus ++ [{ at_ := it.release, word := it.word, ref := it.ref, remote := true }] ∧
    (port p (itemToBus p it s)).rx = (port p s).rx.erase it := by
  have hforward : Touches [.regs, .log, .ports] (itemTaken p it s) (forwardItem p it.release it (itemTaken p it s)) := touches_forwardItem
  have htaken : Touches [.ports] s (itemTaken p it s) := touches_setPort
  have hbus : Touches [.bus] (forwardItem p it.release it (itemTaken p it s)) (itemToBus p it s) := Touches.bus
  refine ⟨((hbus.after hforward).after htaken).mono, ?_, ?_⟩
  · have hkept : (forwardItem p it.release it (itemTaken p it s)).bus = s.bus := (hforward.kept (·.bus) .bus).trans (htaken.kept (·.bus) .bus)
    rw [itemToBus, hkept]
  · rw [hbus.port p, port_forwardItem, itemTaken, port_setPort]

/-- Settles O50. -/
theorem framesAndItems : Obligations.FramesAndItems := by
  unfold Obligations.FramesAndItems
  refine fun p s hp hopen => ⟨fun hctl hstart hcount => ⟨fun hphase => ?_, fun hphase => ?_, fun hphase => ?_,
    fun it hphase husable hus hpair hfed hdata htseg hout hready hfits => ?_⟩, fun ws k h1 h15 => ⟨rfl, frameSymbol_parity h1, fun l e x hl he hx => ?_⟩,
    fun x hctl hphase => ⟨fun htwo hcount => ?_, fun htwo hk hcrc hphase' => ?_⟩, fun it hfirst hfed husable => ⟨fun hsrc hcount => ?_,
    fun hsrc hiso hkind => ?_⟩⟩
  · have hrow := frameTransmitRow_words (b := false) hctl hstart hcount (hphase.imp (⟨·, rfl⟩) fun h => .inl ⟨h, rfl⟩)
    exact .of_eq ((clocked_eq hopen).trans hrow) ⟨onlyPort_setPort _, by rw [port_setPort, fullTime_toNat]⟩
  · have hrow := frameTransmitRow_words (b := true) hctl hstart hcount (.inr (.inr ⟨hphase, rfl⟩))
    exact .of_eq ((clocked_eq hopen).trans hrow) ⟨onlyPort_setPort _, by rw [port_setPort, fullTime_toNat]⟩
  · exact .of_eq ((clocked_eq hopen).trans (frameTransmitRow_symbols hctl hstart hcount hphase)) ⟨onlyPort_setPort _, port_setPort ..⟩
  · have hrow : frameTransmitRow p s = sendUp p s := by
      unfold frameTransmitRow
      rw [if_neg (by simp [hctl, hstart, hcount])]
      simp only [hphase]
    refine .of_eq ((clocked_eq hopen).trans (hrow.trans (sendUp_item husable hus hpair hfed hdata htseg hout hready hfits))) ⟨⟨rfl, fun j hj => ?_⟩, ?_⟩
    · rw [port_setPort_ne _ hj, port_setPort_ne _ hj]
    · rw [port_setPort, fullTime_toNat]
  · rcases eq_or_ne l e with rfl | hne
    · exact rxByte_rebuilt hx h1 (by omega) hl
    · exact rxByte_received hx h1 (by omega) hl hne
  · have hlane : Touches portFrame s (laneChange p x s) := touches_laneChange.mono
    have hcorr : port p (frameCorrected p x (laneChange p x s)) = port p (laneChange p x s) := touches_frameCorrected.port p
    have hkept : SameDiscards p s (frameCorrected p x (laneChange p x s)) := (sameDiscards_laneChange s).trans (sameDiscards_frameCorrected _)
    obtain ⟨hcounts, hport⟩ := frameDiscard_counts (ws := (rxFrame p x (laneChange p x s)).words) (hkept.symm ▸ hcount)
    refine .of_eq ((clocked_eq hopen).trans (frameReceiveRow_bad hctl hphase htwo)) ⟨?_, hcounts.trans (by rw [hkept]), ?_, ?_⟩
    · exact (((touches_frameDiscard.after touches_frameCorrected).after hlane).mono (L := portFrame)).frame_port
    · rw [hport]
    · rw [hport, hcorr]
  · have hlane : Touches portFrame s (laneChange p x s) := touches_laneChange.mono
    have hcorr : port p (frameCorrected p x (laneChange p x s)) = port p (laneChange p x s) := touches_frameCorrected.port p
    obtain ⟨hbit, hport⟩ := frameGood_handshake (ws := (rxFrame p x (laneChange p x s)).words) (k := x.arrival)
      (show (port p (frameCorrected p x (laneChange p x s))).phase = 5 by rw [hcorr, hphase'])
    refine .of_eq ((clocked_eq hopen).trans (frameReceiveRow_good hctl hphase htwo hk hcrc)) ⟨?_, ?_, hbit, ?_⟩
    · exact (((touches_frameGood.after touches_frameCorrected).after hlane).mono (L := portFrame)).frame_port
    · rw [hport, hcorr]
    · rw [hport, hcorr, hphase']
  · have hset : Leaves oVbStat s (itemTaken p it s) := touches_setPort.leaves
    have htaken : Touches [.regs, .ports] s (bump oVbStat 11 0 (itemTaken p it s)) := (touches_bump.after touches_setPort).mono
    refine .of_eq ((clocked_eq hopen).trans (itemReleaseRow_own hfirst hfed husable hsrc)) ⟨htaken.frame, ?_, ?_⟩
    · rw [fR_bump_self (by rw [hset.fR]; exact hcount) (by decide) (by decide), hset.fR]
    · rw [touches_bump.port p, itemTaken, port_setPort]
  · obtain ⟨htouches, hbus, hrx⟩ := itemToBus_goes (s := s) (p := p) (it := it)
    exact .of_eq ((clocked_eq hopen).trans (itemReleaseRow_other hfirst hfed husable hsrc hiso hkind)) ⟨htouches.frame, hbus, hrx⟩

end Sys2Proof.Machine
end

section
/-! PROOF. Pairs and handover (O53). -/

set_option Elab.async false

namespace Sys2Proof.Machine

variable {s t u : State} {o p n k : Nat} {r : Routine} {h : PairHalf} {role tm : Bool} {x : Tick}

/-! ### Pair start -/

/-- The port that led to a twin before leads to one no longer. -/
def pairLeft (p : Nat) (s : State) : State :=
  if bR oPairStatus 35 s && pairPort s != p then putF (oPortStatus (pairPort s)) 3 2 0 s else s

/-- The pair port as a pair starts. -/
def pairPorted (p : Nat) (tm : Bool) (s : State) : State :=
  putB oPairStatus 30 tm (putB oPairStatus 35 true (putF oPairStatus 39 36 p (putF (oPortStatus p) 3 2 2 (pairLeft p s))))

/-- The role of this half. -/
def pairRoled (role : Bool) (s : State) : State := putB oModeStatus 6 role (putB oMode 6 role s)

/-- The twin of a pair that starts. -/
def twinNoted (h : PairHalf) (s : State) : State := { s with pair := { s.pair with twinSerial := h.serial, twinHalf := none, startAt := none } }

/-- Time under R72 as a pair starts. -/
def pairTimed (p : Nat) (tm : Bool) (s : State) : State :=
  if federated s then s
  else if tm then putF oTimeStatus 2 0 3 (putF oTimeStatus 19 16 15 (putF oTimeStatus 15 12 0 s))
  else beginAcquire (putF oTimeStatus 2 0 4 (putF oTimeStatus 19 16 p s))

theorem pairApply_eq : pairApply p role tm h s = pairTimed p tm (twinNoted h (pairRoled role (pairPorted p tm s))) := rfl

theorem leaves_pairTimed (ho : o ≠ oTimeStatus) (s : State) : Leaves o s (pairTimed p tm s) := by
  have hacquire : ∀ v : State, Leaves o v (beginAcquire v) := fun v => by
    have hbegun : Leaves o v { v with time := { v.time with acquiring := true, stepAcq := false }, fed := { v.fed with depthBad := false } } := rfl
    exact hbegun.trans (leaves_putF ho _ _ _ _)
  exact .ite rfl (.ite (((leaves_putF ho _ _ _ _).trans (leaves_putF ho _ _ _ _)).trans (leaves_putF ho _ _ _ _))
    (((leaves_putF ho _ _ _ _).trans (leaves_putF ho _ _ _ _)).trans (hacquire _)))

theorem leaves_pairRoled (h6 : o ≠ oModeStatus) (h7 : o ≠ oMode) (s : State) : Leaves o s (pairRoled role s) :=
  (leaves_putB h7 _ _ _).trans (leaves_putB h6 _ _ _)

theorem leaves_twinNoted : Leaves o s (twinNoted h s) := rfl

theorem pairPorted_shows (hp : p < 16) : bR oPairStatus 35 (pairPorted p tm s) = true ∧ fR oPairStatus 39 36 (pairPorted p tm s) = p ∧
    bR oPairStatus 30 (pairPorted p tm s) = tm := by
  unfold pairPorted
  refine ⟨?_, ?_, bR_putB_self _ (by decide)⟩
  · rw [bR_putB_apart _ (by decide) (by decide), bR_putB_self _ (by decide)]
  · rw [fR_putB_apart _ (by decide) (.inr (by decide)), fR_putB_apart _ (by decide) (.inr (by decide)), fR_putF_self (by omega) (by decide) (by decide)]

theorem pairApply_shows (hp : p < 16) : mode 6 (pairApply p role tm h s) = role ∧ bR oPairStatus 35 (pairApply p role tm h s) = true ∧
    pairPort (pairApply p role tm h s) = p ∧ bR oPairStatus 30 (pairApply p role tm h s) = tm := by
  obtain ⟨h35, hport, h30⟩ := pairPorted_shows (s := s) (tm := tm) hp
  have hmode : bR oMode 6 (pairRoled role (pairPorted p tm s)) = role := (bR_putB_ne (by decide) ..).trans (bR_putB_self _ (by decide))
  have hstatus : Leaves oPairStatus (pairPorted p tm s) (pairApply p role tm h s) := by
    rw [pairApply_eq]
    exact ((leaves_pairRoled (by decide) (by decide) _).trans leaves_twinNoted).trans (leaves_pairTimed (by decide) _)
  have hrest : Leaves oMode (pairRoled role (pairPorted p tm s)) (pairApply p role tm h s) := by
    rw [pairApply_eq]
    exact leaves_twinNoted.trans (leaves_pairTimed (by decide) _)
  exact ⟨hrest.bR.trans hmode, hstatus.bR.trans h35, hstatus.fR.trans hport, hstatus.bR.trans h30⟩

/-- What a pair start touches. -/
theorem Touches.frame_pair (ht : Touches [.regs, .pair, .time, .fed, .ce] s t) :
    t = { s with regs := t.regs, time := t.time, ce := t.ce, fed := t.fed, pair := t.pair } :=
  (ht.mono (L := [.regs, .time, .clock, .ce, .fed, .pair])).frame

/-- A PAIR_START whose checks all pass. -/
theorem pairStarts (hruns : Runs 0x603 r s) (hp : p < 16) : Touches [.regs, .pair, .time, .fed, .ce] s (finish 0 [] (pairApply p role tm h s)) ∧
    Ends 0 [] r s (finish 0 [] (pairApply p role tm h s)) ∧ mode 6 (finish 0 [] (pairApply p role tm h s)) = role ∧
    bR oPairStatus 35 (finish 0 [] (pairApply p role tm h s)) = true ∧ pairPort (finish 0 [] (pairApply p role tm h s)) = p ∧
    bR oPairStatus 30 (finish 0 [] (pairApply p role tm h s)) = tm := by
  obtain ⟨hmode, h35, hport, h30⟩ := pairApply_shows (s := s) (role := role) (tm := tm) (h := h) hp
  have hcur : (pairApply p role tm h s).ce.cur = some r := (congrArg Ce.cur (touches_pairApply.kept (·.ce) .ce)).trans hruns.1
  obtain ⟨htouches, hends⟩ := finish_plain (st := 0) (res := []) hcur hruns.2.1 (hp := .inr (.inl rfl))
  have hregs := htouches.kept (·.regs) .regs
  exact ⟨htouches.after touches_pairApply, hends.of_tick (touches_pairApply.kept (·.time.tick) .clock), (bR_of_regs hregs _ _).trans hmode,
    (bR_of_regs hregs _ _).trans h35, (fR_of_regs hregs _ _ _).trans hport, (bR_of_regs hregs _ _).trans h30⟩

/-- PAIR_START has sent the own half. -/
def startAsked (p : Nat) (role tm : Bool) (s : State) : State :=
  { s with pair := { s.pair with startAt := some (now s), halfOut := some (ownHalf p role tm s) } }

/-- The 20 µs of a PAIR_START are not over as they begin. -/
theorem pairOver_now : pairOver s.time.tick s = false := by
  have hneg : s.time.tick - plus s.time.tick 20001 = -BitVec.ofNat 40 20001 := sub_add_cancel_left ..
  rw [pairOver, due, now, notBefore, hneg]
  decide

section Ask
variable (hruns : Runs 0x603 r s) (hask : s.pair.startAt.any (fun x => notBefore x r.started) = false) (hport : fld (prm r 0) 3 0 < nPorts s)
  (hup : portUp (fld (prm r 0) 3 0) s = true)
include hruns hask hport hup

theorem doPairStart_tries : doPairStart s = pairTry (startAsked (fld (prm r 0) 3 0) (bit (prm r 0) 4) (bit (prm r 0) 5) s) := by
  rw [doPairStart, opRun_runs hruns]
  dsimp only [pairAsk]
  rw [if_neg (by simp [hask]), if_neg (Nat.not_le.2 hport), if_neg (by simp [hup])]
  rfl

end Ask

theorem pairTry_waits (hruns : Runs 0x603 r s) (htwin : twinFresh s = none) : pairTry s = s := by
  rw [pairTry, opRun_runs hruns]
  dsimp only [pairAsk]
  rw [htwin]
  cases s.pair.startAt <;> rfl

theorem pairTry_starts (hruns : Runs 0x603 r s) (htwin : twinFresh s = some h) (hat : s.pair.startAt = some x) (hover : pairOver x s = false)
    (hcheck : pairFailed (ownHalf (fld (prm r 0) 3 0) (bit (prm r 0) 4) (bit (prm r 0) 5) s) h = none) :
    pairTry s = finish 0 [] (pairApply (fld (prm r 0) 3 0) (bit (prm r 0) 4) (bit (prm r 0) 5) h s) := by
  rw [pairTry, opRun_runs hruns]
  dsimp only [pairAsk]
  rw [htwin, hat]
  exact if_pos (by simp [hover, hcheck])

theorem pairStartTimeoutRow_fails {b : Option PairHalf} (hruns : Runs 0x603 r s) (hat : s.pair.startAt = some x) (hdue : due (plus x 20000) s = true)
    (htwin : s.pair.twinHalf.map (·.1) = b) : pairStartTimeoutRow s =
      finish 14 [w (b.elim 1 fun h => (pairFailed (ownHalf (fld (prm r 0) 3 0) (bit (prm r 0) 4) (bit (prm r 0) 5) s) h).getD 1)]
        { s with pair := { s.pair with startAt := none, twinHalf := none } } := by
  rw [pairStartTimeoutRow, opRun_runs hruns]
  dsimp only [pairAsk]
  rw [hat]
  dsimp only
  rw [if_pos hdue, ← htwin]
  cases s.pair.twinHalf <;> rfl

/-- A pair start that has failed holds nothing of the twin's. -/
def startFailed (s : State) : State := { s with pair := { s.pair with startAt := none, twinHalf := none } }

theorem startFailed_ends (hruns : Runs 0x603 r s) (n : Nat) :
    finish 14 [w n] (startFailed s) = { s with ce := (finish 14 [w n] (startFailed s)).ce, pair := { s.pair with startAt := none, twinHalf := none } } ∧
    Ends 14 [w n] r s (finish 14 [w n] (startFailed s)) := by
  obtain ⟨hcur, hop, -, -⟩ := hruns
  obtain ⟨htouches, hends⟩ := finish_plain (s := startFailed s) (st := 14) (res := [w n]) hcur hop (hp := .inl rfl)
  exact ⟨htouches.frame, hends⟩

/-! ### Handover -/

/-- A handover that fails leaves the mode, and ends with code 15 every open PAIR_HANDOVER that is parked. -/
def HandoverFails (s t : State) : Prop :=
  t = { s with regs := t.regs, outs := t.outs, ce := t.ce, pair := t.pair } ∧
  t.pair.myN = none ∧ t.pair.twinN = none ∧ t.pair.agreed = none ∧ bR oPairStatus 31 t = false ∧ mode 6 t = mode 6 s ∧
  ∀ i r, tget? i s.ce.parked = some r → r.opcode = 0x604 → r.ended = none → ∃ y res, tget? i t.ce.parked = some y ∧
    y.ended = some (15, res, s.time.tick)

/-- The pair without a handover. -/
def handoverOff (s : State) : State := { s with pair := { s.pair with myN := none, twinN := none, agreed := none, switching := false } }

/-- Every output keeps its role. -/
def outsKept (s : State) : State := foldS (fun e s => setOut e.1 { outp e.1 s with switched := false } s) s.outs s

theorem handoverFail_eq (hmy : (s.pair.myN.isSome || s.pair.agreed.isSome) = true) :
    handoverFail s = endRoutine 0x604 15 [] (putB oPairStatus 31 false (outsKept (handoverOff s))) := if_pos hmy

theorem closeRoutine_ended {st : Nat} {res : List W40} (y : Routine) : ∃ res', (closeRoutine st res x y).ended = some (st, res', x) := ⟨_, rfl⟩

theorem handoverFail_fails (hmy : (s.pair.myN.isSome || s.pair.agreed.isSome) = true) : HandoverFails s (handoverFail s) := by
  have houts : Touches [.outs] (handoverOff s) (outsKept (handoverOff s)) := (Touches.foldS fun _ _ => touches_setOut).mono
  have hend : Touches [.outs, .regs, .ce] (handoverOff s) (handoverFail s) := by
    rw [handoverFail_eq hmy]
    exact (touches_endRoutine.after (touches_putB.after houts)).mono
  have hmode : Leaves oMode (handoverOff s) (handoverFail s) := by
    rw [handoverFail_eq hmy]
    exact (houts.leaves.trans (leaves_putB (by decide) _ _ _)).trans touches_endRoutine.leaves
  have hpair : (handoverFail s).pair = (handoverOff s).pair := hend.kept (·.pair) .pair
  refine ⟨?_, congrArg Pair.myN hpair, congrArg Pair.twinN hpair, congrArg Pair.agreed hpair, ?_, hmode.bR, fun i q hq hop hopen => ?_⟩
  · have hall : Touches [.pair, .outs, .regs, .ce] s (handoverFail s) := touches_handoverFail
    exact hall.frame
  · rw [handoverFail_eq hmy, bR_of_regs (touches_endRoutine.kept (·.regs) .regs), bR_putB_self _ (by decide)]
  · have hbefore : (putB oPairStatus 31 false (outsKept (handoverOff s))).ce = s.ce := (touches_putB.after houts).kept (·.ce) .ce
    have htick : (putB oPairStatus 31 false (outsKept (handoverOff s))).time.tick = s.time.tick := (touches_putB.after houts).kept (·.time.tick) .clock
    obtain ⟨res, hres⟩ := closeRoutine_ended (x := s.time.tick) (st := 15) (res := []) q
    refine ⟨closeRoutine 15 [] s.time.tick q, res, ?_, hres⟩
    rw [handoverFail_eq hmy, parked_endRoutine, hbefore, htick, hq, Option.map_some, endedIf, if_pos (by simp [isOpen, hop, hopen])]

theorem HandoverFails.of_pair {y : Pair} (h : HandoverFails { s with pair := y } t) : HandoverFails s t := h

/-- The own half of a handover has gone to the twin. -/
def handoverAsked (v : W40) (s : State) : State :=
  { s with pair := { s.pair with
      sendQ := s.pair.sendQ ++ [(6, v, BitVec.ofNat 16 s.time.tick.toNat), (7, s.time.tick, 0)], myN := some (v, s.time.tick) } }

theorem pairSend_queues {a : Nat} {v : W40} {f : BitVec 16} (h35 : bR oPairStatus 35 s = true) (hup : portUp (pairPort s) s = true) :
    pairSend a v f s = { s with pair := { s.pair with sendQ := s.pair.sendQ ++ [(a, v, f)] } } := if_pos (by simp [h35, hup])

theorem twinStale_none (htwin : s.pair.twinN = none) : twinStale x s = s := by
  rw [twinStale, htwin]

theorem handoverAgree_waits (htwin : s.pair.twinN = none) : handoverAgree s = s := by
  rw [handoverAgree, htwin]
  cases s.pair.myN <;> rfl

/-- Both messages of a handover wait to be sent. -/
def halfSent (v : W40) (s : State) : State :=
  { s with pair := { s.pair with sendQ := s.pair.sendQ ++ [(6, v, BitVec.ofNat 16 s.time.tick.toNat)] ++ [(7, s.time.tick, 0)] } }

theorem pairSend_halves {v : W40} (h35 : bR oPairStatus 35 s = true) (hup : portUp (pairPort s) s = true) :
    pairSend 7 (now s) 0 (pairSend 6 v (BitVec.ofNat 16 (now s).toNat) s) = halfSent v s := by
  rw [pairSend_queues h35 hup]
  exact pairSend_queues (s := { s with pair := { s.pair with sendQ := s.pair.sendQ ++ [(6, v, BitVec.ofNat 16 s.time.tick.toNat)] } }) h35 hup

theorem doHandover_asks (hruns : Runs 0x604 r s) (h35 : bR oPairStatus 35 s = true) (hup : portUp (pairPort s) s = true) (hmy : s.pair.myN = none)
    (hagreed : s.pair.agreed = none) (htwin : s.pair.twinN = none) : doHandover s = handoverAsked (prm r 0) (park s) := by
  have hpark : Touches [.ce] s (park s) := touches_park
  have hregs : (park s).regs = s.regs := hpark.kept (·.regs) .regs
  have htwin' : (park s).pair.twinN = none := (congrArg Pair.twinN (hpark.kept (·.pair) .pair)).trans htwin
  have h35' : bR oPairStatus 35 (park s) = true := (bR_of_regs hregs _ _).trans h35
  have hup' : portUp (pairPort (park s)) (park s) = true := by rw [portUp, pairPort, bR_of_regs hregs, fR_of_regs hregs]; exact hup
  have hnow : now s = now (park s) := (hpark.kept (·.time.tick) .clock).symm
  have hasked : handoverAsked (prm r 0) (park s) =
      { halfSent (prm r 0) (park s) with pair := { (halfSent (prm r 0) (park s)).pair with myN := some (prm r 0, now (halfSent (prm r 0) (park s))) } } := by
    rw [handoverAsked, halfSent, List.append_assoc]
    rfl
  rw [doHandover, opRun_runs hruns]
  dsimp only
  rw [if_neg (by simp [h35, hup]), if_neg (by simp [hmy, hagreed]), twinStale_none htwin', hnow, pairSend_halves h35' hup', hasked]
  exact handoverAgree_waits htwin'

/-- Both halves agree on a tick. -/
def handoverAgreed (n : W40) (x : Tick) (s : State) : State :=
  setR oPairHandoverTick x { s with pair := { s.pair with agreed := some (n, x), myN := none, twinN := none } }

section Message
variable {a m : W40} {v : W40} (h35 : bR oPairStatus 35 s = true) (hup : portUp (pairPort s) s = true) (hmy : s.pair.myN = some (v, x))
include h35 hup hmy

theorem handoverRow_agrees (hover : due (plus x 8001) s = false) : handoverRow v a s = handoverAgreed v (plus (later x a) 2000) s := by
  have hin : handoverOver s = false := by
    rw [handoverOver, hmy]
    exact hover
  unfold handoverRow handoverAgree
  rw [if_pos (by simp [h35, hup]), if_neg (by simp [hin])]
  dsimp only
  rw [hmy]
  dsimp only
  rw [if_neg (by simp)]
  rfl

theorem handoverRow_fails (hbad : m ≠ v ∨ due (plus x 8001) s = true) : ∃ y : Pair, (y.myN.isSome || y.agreed.isSome) = true ∧
    handoverRow m a s = handoverFail { s with pair := y } := by
  unfold handoverRow
  rw [if_pos (by simp [h35, hup])]
  rcases hd : due (plus x 8001) s with _ | _
  · have hin : handoverOver s = false := by
      rw [handoverOver, hmy]
      exact hd
    have hne : m ≠ v := hbad.resolve_right (by simp [hd])
    refine ⟨{ s.pair with twinN := some (m, a) }, by simp [hmy], ?_⟩
    rw [if_neg (by simp [hin]), handoverAgree]
    dsimp only
    rw [hmy]
    dsimp only
    rw [if_pos hne.symm]
  · have hout : handoverOver s = true := by
      rw [handoverOver, hmy]
      exact hd
    exact ⟨s.pair, by simp [hmy], if_pos hout⟩

end Message

theorem leads_lt {e : Nat × Nat} (he : e ∈ allOutputs s) : e.2 < nSeqs s := by
  unfold nSeqs
  rw [allOutputs, List.mem_append, List.mem_append] at he
  simp only [List.mem_map, upTo, List.mem_range] at he
  rcases he with (⟨j, hj, rfl⟩ | ⟨j, hj, rfl⟩) | ⟨j, hj, rfl⟩
  · dsimp only
    omega
  · dsimp only
    omega
  · exact hj

/-- The outputs begin to switch. -/
def switchBegun (s : State) : State := putB oPairStatus 31 true { s with pair := { s.pair with switching := true } }

theorem foldS_skips {α : Type} {f : α → State → State} {l : List α} (h : ∀ a ∈ l, f a s = s) : foldS f l s = s := by
  induction l with
  | nil => rfl
  | cons a l ih => rw [foldS, h a List.mem_cons_self, ih fun b hb => h b (List.mem_cons_of_mem _ hb)]

/-- The pair knows that the outputs switch. -/
def switchNoted (s : State) : State := { s with pair := { s.pair with switching := true } }

theorem switchBegun_eq : switchBegun s = putB oPairStatus 31 true (switchNoted s) := rfl

theorem switchBegun_shows : Touches [.pair, .regs] s (switchBegun s) ∧ (switchBegun s).pair.switching = true ∧
    bR oPairStatus 31 (switchBegun s) = true ∧ (switchBegun s).outs = s.outs ∧ mode 6 (switchBegun s) = mode 6 s := by
  have hnoted : Touches [.pair] s (switchNoted s) := .pair
  have hput : Touches [.regs] (switchNoted s) (putB oPairStatus 31 true (switchNoted s)) := touches_putB
  have hmode : Leaves oMode s (putB oPairStatus 31 true (switchNoted s)) := hnoted.leaves.trans (leaves_putB (by decide) _ _ _)
  rw [switchBegun_eq]
  exact ⟨(hput.after hnoted).mono, congrArg Pair.switching (hput.kept (·.pair) .pair), bR_putB_self _ (by decide),
    (hput.after hnoted).kept (·.outs) .outs, hmode.bR⟩

/-- A switch that has begun: the outputs are those of before. -/
def SwitchBegins (s t : State) : Prop :=
  t = { s with regs := t.regs, log := t.log, outs := t.outs, ce := t.ce, pair := t.pair } ∧
  t.pair.switching = true ∧ bR oPairStatus 31 t = true ∧ t.outs = s.outs ∧ mode 6 t = mode 6 s

theorem SwitchBegins.of_touches (h : Touches [.pair, .regs] s t ∧ t.pair.switching = true ∧ bR oPairStatus 31 t = true ∧ t.outs = s.outs ∧
    mode 6 t = mode 6 s) : SwitchBegins s t := ⟨(h.1.mono (L := [.regs, .log, .outs, .ce, .pair])).frame, h.2⟩

theorem agreedTickRow_begins {v : W40} (hagreed : s.pair.agreed = some (v, x)) (hsw : s.pair.switching = false) (hdue : due x s = true)
    (hshots : ∀ g, g < nSeqs s → inShot g s = true) : agreedTickRow s = switchBegun s := by
  have hbegun : Touches [.pair, .regs] s (switchBegun s) := switchBegun_shows.1
  have hall : foldS (fun e s => if inShot e.2 s then s else switchOut e.2 e.1 s) (allOutputs (switchBegun s)) (switchBegun s) = switchBegun s :=
    foldS_skips fun e he => by
      have hseqs : nSeqs (switchBegun s) = nSeqs s := by rw [nSeqs, nTiles, hbegun.kept (·.fuses) .fuses, nSeqs, nTiles]
      have hin : inShot e.2 (switchBegun s) = inShot e.2 s := congrArg (fun q => insideShot (tget {} e.2 q)) (hbegun.kept (·.seqs) .seqs)
      exact if_pos (hin.trans (hshots e.2 (hseqs ▸ leads_lt he)))
  rw [agreedTickRow, hagreed]
  dsimp only
  rw [if_pos (by simp [hsw, hdue])]
  exact hall

theorem handoverTimeoutRow_fails {v : W40} (hmy : s.pair.myN = some (v, x)) (hagreed : s.pair.agreed = none) (hdue : due (plus x 8000) s = true) :
    handoverTimeoutRow s = handoverFail s := by
  rw [handoverTimeoutRow, hmy]
  exact if_pos (by simp [hagreed, hdue])

/-! ### Comparison -/

theorem cmpAdd_first {it : CmpItem} (h : s.pair.items = []) : cmpAdd it s = { s with pair := { s.pair with items := [it] } } := by
  rw [cmpAdd, h]
  rfl

theorem compareTimeoutRow_misses {i : Nat} {it : CmpItem} (hit : s.pair.items[i]? = some it) (hdue : due (plus it.made (cmpWait s)) s = true)
    (hours : it.ours = true) : compareTimeoutRow i s = bump oPairCounts 19 0 { s with pair := { s.pair with items := s.pair.items.eraseIdx i } } := by
  rw [compareTimeoutRow, hit]
  dsimp only
  rw [if_pos hdue, if_pos hours]

/-! ### Mirror slots -/

theorem mirrorRow_appends {v : W40} {sl : List W40} (husable : usable p s = true) (htype : (ring (fld v 19 0) s).type = 2)
    (hecc : (ring (fld v 19 0) s).eccStop = false) (hlen : (ring (fld v 19 0) s).length ≠ 0) (hfree : freeSlots (ring (fld v 19 0) s) ≠ 0) :
    mirrorRow p v sl s = ringAppend (fld v 19 0) [sl.take 8] s := by
  have hput : ringPut (fld v 19 0) (sl.take 8) s = (ringAppend (fld v 19 0) [sl.take 8] s, true) := by
    rw [ringPut]
    rw [if_neg (by simp [hecc]), if_neg (not_or.2 ⟨hlen, hfree⟩)]
  rw [mirrorRow]
  rw [if_neg (by simp [husable]), if_pos (by simp [htype]), hput]

/-! ### The obligation -/

/-- What PAIR_START of routine `r` leaves as its checks have all passed. -/
def PairStarts (r : Routine) (s t : State) : Prop :=
  t = { s with regs := t.regs, time := t.time, ce := t.ce, fed := t.fed, pair := t.pair } ∧ Ends 0 [] r s t ∧
  mode 6 t = bit (prm r 0) 4 ∧ bR oPairStatus 35 t = true ∧ pairPort t = fld (prm r 0) 3 0 ∧ bR oPairStatus 30 t = bit (prm r 0) 5

theorem pairStarts_of (hruns : Runs 0x603 r s) :
    PairStarts r s (finish 0 [] (pairApply (fld (prm r 0) 3 0) (bit (prm r 0) 4) (bit (prm r 0) 5) h s)) := by
  obtain ⟨htouches, hends, hshows⟩ := pairStarts (h := h) (role := bit (prm r 0) 4) (tm := bit (prm r 0) 5) hruns (fld_lt (prm r 0) 3 0)
  exact ⟨htouches.frame_pair, hends, hshows⟩

theorem PairStarts.of_pair {y : Pair} (h : PairStarts r { s with pair := y } t) : PairStarts r s t := h

/-- The own half and the twin's meet in a PAIR_START that is asked for. -/
theorem pairTry_starts_of_pair {y : Pair} (hruns : Runs 0x603 r s) (htwin : twinFresh { s with pair := y } = some h) (hat : y.startAt = some x)
    (hover : pairOver x s = false) (hcheck : pairFailed (ownHalf (fld (prm r 0) 3 0) (bit (prm r 0) 4) (bit (prm r 0) 5) s) h = none) :
    PairStarts r s (pairTry { s with pair := y }) := by
  rw [pairTry_starts (s := { s with pair := y }) hruns htwin hat hover hcheck]
  exact .of_pair (pairStarts_of (s := { s with pair := y }) hruns)

/-- The twin's half as a message brings it. -/
def twinTold (h : PairHalf) (s : State) : Pair := { s.pair with twinHalf := some (h, now s) }

theorem twinFresh_told : twinFresh { s with pair := twinTold h s } = some h := if_neg (Bool.not_eq_true _ ▸ pairOver_now)

/-- Settles O53: a pair starts as `pairStarts` says, and a handover that fails does so by `handoverFail_fails`. -/
theorem pairsAndHandover : Obligations.PairsAndHandover := by
  unfold Obligations.PairsAndHandover
  refine fun s => ⟨fun r hruns => ⟨fun hask hport hup => ⟨fun htwin => ?_, fun h htwin hcheck => ?_⟩, fun x h hp hopen hat hover hcheck => ?_,
    fun x hopen hat hdue => ⟨fun htwin => ?_, fun h y k htwin hcheck => ?_⟩⟩, fun r hruns h35 hup hmy hagreed htwin => ?_,
    fun n a m recv hopen h35 hup hmy => ⟨fun heq hover => ?_, fun hbad => ?_⟩, fun n a hopen hagreed hsw hdue hshots => ?_,
    fun n x hopen hmy hagreed hdue => ?_, fun v f hopen hcmp hecho hitems => ⟨?_, fun hon => ?_⟩, fun i it hopen hit hdue hours hcount => ?_,
    fun p v sl hopen husable htype hecc hlen hfree => ?_⟩
  · exact .of_eq ((doPairStart_tries hruns hask hport hup).trans (pairTry_waits hruns htwin)) rfl
  · exact .of_eq (doPairStart_tries hruns hask hport hup) (pairTry_starts_of_pair hruns htwin rfl pairOver_now hcheck)
  · exact .of_eq (clocked_eq (f := pairHalfRow h) hopen) (pairTry_starts_of_pair (y := twinTold h s) hruns twinFresh_told hat hover hcheck)
  · exact .of_eq ((clocked_eq hopen).trans (pairStartTimeoutRow_fails hruns hat hdue (b := none) (by rw [htwin]; rfl))) (startFailed_ends hruns 1)
  · refine .of_eq ((clocked_eq hopen).trans (pairStartTimeoutRow_fails hruns hat hdue (b := some h) (by rw [htwin]; rfl))) ?_
    rw [Option.elim_some, hcheck, Option.getD_some]
    exact startFailed_ends hruns k
  · have hpark : Touches [.ce] s (park s) := touches_park
    have hall : Touches [.ce, .pair] s (handoverAsked (prm r 0) (park s)) := (Touches.pair.after hpark).mono
    obtain ⟨hcur, hop, hend, hidle⟩ := hruns
    have hparks : Parks r (park s) := parks_park hcur rfl rfl rfl hend
    have hpair : (park s).pair = s.pair := hpark.kept (·.pair) .pair
    have htick : (park s).time.tick = s.time.tick := hpark.kept (·.time.tick) .clock
    refine .of_eq (doHandover_asks ⟨hcur, hop, hend, hidle⟩ h35 hup hmy hagreed htwin) ⟨(hall.mono (L := [.regs, .outs, .ce, .pair])).frame, hparks, ?_, ?_⟩
    · exact congrArg (fun x => some (prm r 0, x)) htick
    · rw [handoverAsked, hpair, htick]
  · subst heq
    refine .of_eq ((clocked_eq hopen).trans (handoverRow_agrees h35 hup hmy hover)) ⟨?_, getR_setR .., fun o ho => getR_setR_ne _ ho _⟩
    exact (touches_setR (off := oPairHandoverTick)).frame
  · obtain ⟨y, hy, hrow⟩ := handoverRow_fails (a := recv) h35 hup hmy hbad
    exact .of_eq ((clocked_eq hopen).trans hrow) (handoverFail_fails (s := { s with pair := y }) hy).of_pair
  · exact .of_eq ((clocked_eq hopen).trans (agreedTickRow_begins hagreed hsw hdue hshots)) (SwitchBegins.of_touches switchBegun_shows)
  · exact .of_eq ((clocked_eq hopen).trans (handoverTimeoutRow_fails hmy hagreed hdue)) (handoverFail_fails (by simp [hmy]))
  · have hrow : outputCrcRow v f s = cmpAdd ⟨0, crcOutput f, w (fld v 39 32), w (fld v 31 0), now s, false⟩ s := if_pos (by simp [hcmp, hecho])
    exact .of_eq ((clocked_eq hopen).trans (hrow.trans (cmpAdd_first hitems))) ⟨rfl, _, rfl, rfl, rfl, rfl, rfl⟩
  · have hrow : pairVerdictRow v f s = cmpAdd ⟨1, vIndex v, w f.toNat, v, now s, false⟩ s := if_pos (by simp [hcmp, hecho, hon])
    exact .of_eq ((clocked_eq hopen).trans (hrow.trans (cmpAdd_first hitems))) ⟨rfl, _, rfl, rfl, rfl, rfl, rfl⟩
  · have hbump : Touches [.regs] { s with pair := { s.pair with items := s.pair.items.eraseIdx i } } (bump oPairCounts 19 0
        { s with pair := { s.pair with items := s.pair.items.eraseIdx i } }) := touches_bump
    have hall : Touches [.regs, .log, .pair] s _ := (hbump.after .pair).mono
    exact .of_eq ((clocked_eq hopen).trans (compareTimeoutRow_misses hit hdue hours)) ⟨hall.frame, congrArg Pair.items (hbump.kept (·.pair) .pair),
      fR_bump_self hcount (by decide) (by decide)⟩
  · have hall : Touches [.mem, .rings, .host, .regs] s (ringAppend (fld v 19 0) [sl.take 8] s) := touches_ringAppend
    obtain ⟨htail, hhead⟩ := ringAppend_moves (s := s) (q := fld v 19 0) [sl.take 8]
    exact .of_eq ((clocked_eq hopen).trans (mirrorRow_appends husable htype hecc hlen hfree))
      ⟨(hall.mono (L := [.regs, .log, .gran, .mem, .rings, .hostMem, .made, .host])).frame, htail, hhead⟩

end Sys2Proof.Machine
end

section
/-! PROOF. Thermal commands (O54). -/

set_option Elab.async false

namespace Sys2Proof.Machine

/-- A BND_TABLE_LOAD of decoder 0 that the engine runs. -/
def tableLoad : Routine :=
  { ring := 0, dom := 0, secure := false, slots := 1, opcode := 0x402, flags := 0, tag := 0, target := 0, params := [], started := 0 }

/-- In READY the shutdown trap pends, no sequencer is inside a shot, and sequencer 0, which is idle, waits for parity set 0, which has no members.
A BND_TABLE_LOAD of decoder 0 is running and holds its commit back. -/
def idleWaiter : State := { State.reset with
  life := .ready
  ce := { cur := some tableLoad, traps := [2] }
  binder := { State.reset.binder with decs := [(0, { loading := true, held := true })] }
  seqs := [(0, { wait := .br { src := 2, index := 0, bit := 0, final := false, test := 0, cond := 0, conf := 0, neg := false, abs := false,
                               target := 0, next := 0, dl := none } })]
  therm := { State.reset.therm with shutSet := true } }

/-- The aborted load lets its commit go, which wakes the sequencer: the device is quiet no longer. -/
theorem idleWaiter_no_grace : (shutdownRow idleWaiter).therm.graceAt = none := by decide +kernel

/-- R299, R380: the shutdown ends every routine, and the end of a load releases the commit that it has held back, on which each BR that waits is
tried again; a state may hold such a wait in a sequencer that is not inside a shot.
Refutes O54: in `idleWaiter` the device is quiet, and yet its grace does not end with the shutdown, since the wait that completes puts sequencer 0
into RUNNING. -/
theorem not_thermalCommands : ¬ Obligations.ThermalCommands := by
  intro h
  obtain ⟨-, -, hshutdown, -⟩ := h idleWaiter
  obtain ⟨t, hexec, -, -, -, -, -, -, -, -, -, -, hgrace, -⟩ := (hshutdown (.inr rfl)).1 (by decide +kernel) (by decide +kernel) (by decide +kernel)
  have ht : t = shutdownRow idleWaiter := (Host.Outcome.next.inj hexec).symm
  have hnone : t.therm.graceAt = none := ht ▸ idleWaiter_no_grace
  have hsome : t.therm.graceAt = some idleWaiter.time.tick := hgrace (by decide +kernel) rfl
  exact absurd (hnone.symm.trans hsome) nofun

end Sys2Proof.Machine
end
